-- ==== Sys2Proof/Word.lean ====
section
/-! DEFINITION. The word types of the Relith: bytes, 32-bit register words, and the sparse map that every
large store of the model is written with. Fields of commands and registers that the manual numbers as bits
are bit vectors; counts, indexes and times are natural numbers. -/

namespace Sys2Proof

/-- One byte of a memory structure (R7). -/
abbrev Byte := BitVec 8

/-- One 32-bit register access (R400). -/
abbrev Word := BitVec 32

/-- A sparse store keyed by a number: keys strictly rising, no entry equal to the store's default. -/
abbrev NMap (α : Type) := List (Nat × α)

end Sys2Proof
end

