-- ==== Sys2Proof/Syntax.lean ====
section
/-! DEFINITION. The steps of the Relith: one constructor for each row of spec/opcode_table.json, with the
operands the manual gives the step. Register writes carry the port they arrive on (R323). Operands named
ext hold the bytes that other masters have put into memory outside the block before the step reads it. -/

namespace Sys2Proof

/-- The ports of R323 that carry register accesses. -/
inductive Port where
  | control | security | debug
  deriving DecidableEq, Repr

/-- A 64-byte command of R70 as it leaves a core queue: the opcode is the row it stands in.
queue is the die's core-queue number (R278). -/
structure Cmd where
  queue : Fin 64
  ticket : BitVec 16
  flags : BitVec 8
  tag : BitVec 32
  args : BitVec 64
  payload : List Byte
  deriving DecidableEq, Repr

/-- The causes of a failed mover transaction (R195). -/
inductive Cause where
  | errorResponse | uncorrectable | link | check | timeout | region
  deriving DecidableEq, Repr

/-- The sideband changes that can wake the instance (R357), with what the AOC edge samples: lace_done, and the clapper lines
that other drivers of the die hold low (log entry 100). -/
inductive WakeCause where
  | laceDone (sample : BitVec 16)
  | clapper (low : BitVec 64)
  | hostPowerDown
  | coreReset
  deriving DecidableEq, Repr

/-- The sources that can reset the instance beside por_n (R366): those that act in the AOC cycle of another (R367). -/
inductive ResetSource where
  | system
  | core
  | watchdog
  | command (port : Port) (toSystem : Bool)
  deriving DecidableEq, Repr

/-- What comes with a reset: what the self-tests of its boot find (R375 steps 4 and 5, R149, R139, R205, R321), and the other
sources that act in its AOC cycle (R367, log entry 109). -/
structure BootTest where
  decoders : List (Fin 48 × Fin 17)
  lanes : List (Fin 16)
  stitchers : List (Fin 8)
  shelves : List (Fin 112)
  also : List ResetSource
  deriving DecidableEq, Repr

/-- The expansion of a block: the image read where it differs from the one filled, the decoders that decoded it (R137), and
whether the bank drives the oldest queued block with it (R34). -/
structure Expansion where
  seen : Option (List Byte)
  used : BitVec 17
  drive : Bool
  deriving DecidableEq, Repr

/-- The answer to a transaction: its failure (R195), and how many corrected errors a vault read met (R205). -/
structure Response where
  fail : Option Cause
  corrected : Nat
  deriving DecidableEq, Repr

/-- A tier and the base of an extent in it (R209). -/
structure TierBase where
  tier : Fin 5
  base : BitVec 64
  deriving DecidableEq, Repr

/-- The length of a PROP read, and whether it carries the last use hint (R211). -/
structure PropLength where
  bytes : Nat
  lastUse : Bool
  deriving DecidableEq, Repr

/-- A wrapper instruction, and what the selected data register scans in beside it (R394, R395). -/
structure WrapperScan where
  code : BitVec 4
  cells : Option (BitVec 1904)
  deriving DecidableEq, Repr

/-- The sender of a peer operation and its sequence number (R310). -/
structure PeerHead where
  package : Fin 64
  die : Fin 64
  seq : BitVec 32
  tenant : Fin 8
  deriving DecidableEq, Repr

/-- An eyelet signal carried on the last data packet of a peer transfer (R285): earlier names the earlier packets of the
transfer by their sequence numbers (log entry 99). -/
structure Signal where
  eyelet : Fin 4096
  add : BitVec 32
  earlier : List (BitVec 32)
  deriving DecidableEq, Repr

/-- The global-norm partial carried by REDUCE (R238): the record's 64 bytes. -/
abbrev Partial := List Byte

/-- The faults that a loopback run meets on its path (R397): for a bank, or for the one run (bank 0), and a block of it, the
image or the bytes that arrive where they differ from what was sent; and whether a peer acknowledgement was lost or
repeated. -/
structure LoopResult where
  seen : List (Fin 48 × Nat × List Byte)
  ackFault : Bool
  cycles : BitVec 32
  deriving DecidableEq, Repr

/-- The steps of the block, in the order of spec/opcode_table.json. -/
inductive Instr where
  | openSlate (c : Cmd)
  | writeInline (c : Cmd)
  | sealSlate (c : Cmd)
  | call (c : Cmd)
  | release (c : Cmd)
  | frame (c : Cmd)
  | reshootDone (c : Cmd)
  | stepBegin (c : Cmd)
  | stepEnd (c : Cmd)
  | eyeAdd (c : Cmd)
  | eyeWait (c : Cmd)
  | eyeSet (c : Cmd)
  | propCall (c : Cmd)
  | intermission (c : Cmd)
  | resume (c : Cmd)
  | badOpcode (op : BitVec 8) (c : Cmd)
  | clickerDecision
  | tapBeat (tap : Fin 48) (slate : BitVec 16) (gen : BitVec 8) (block : BitVec 22) (data : List Byte)
  | blockCommit (lane : Fin 8) (verify : Option Word)
  | engineReset (engine : Fin 48)
  | operandRequest (engine : Fin 48) (slate : BitVec 16) (gen : BitVec 8) (block : BitVec 22)
  | bookCacheMissService
  | blockExpanded (bank : Fin 48) (x : Expansion)
  | bankSelftestEnd (bank : Fin 48) (failing : List (Fin 17))
  | reshootJobStart
  | descriptorDispatch
  | laneSelftestEnd (failing : List (Fin 16))
  | transactionIssue (write : Bool)
  | transactionResponse (txn : Nat) (r : Response) (ext : List Host.Cell)
  | transactionTimeout (txn : Nat)
  | backoffEnd (chan : Fin 64)
  | channelTakesTransfer
  | shadowPromotion (chan : Fin 64)
  | channelTimerStart (chan : Fin 64)
  | pacingPeriod (chan : Fin 64)
  | hardLimit (tenant : Fin 8) (entry : Nat)
  | slateLate (tenant : Fin 8) (entry : Nat)
  | vaultSpaceRetry
  | tierAllocRetry
  | lastUseAck (x : TierBase)
  | gatherRetry (tenant : Fin 8)
  | retireEvacuate (unit : BitVec 64)
  | retireLost (unit : BitVec 64)
  | retireExclude (unit : BitVec 64)
  | softRepairDone (unit : BitVec 64)
  | moveAllocTimeout (slate : BitVec 16)
  | shelfRetire (shelf : Fin 112)
  | nearChannelLost
  | hostDetach (port : Port)
  | heartbeatExpiry
  | hostLinkDown
  | hostAttach (port : Port)
  | tierHb (port : Port) (v : Word)
  | regionSelect (port : Port) (entry : BitVec 6)
  | regionCommit (port : Port)
  | regionEmpty (port : Port)
  | sheetLoad (port : Port) (tenant : Fin 8)
  | sheetLoadDone (tenant : Fin 8) (ext : List Host.Cell)
  | sheetUnload (port : Port) (tenant : Fin 8)
  | sltSel (port : Port) (index : BitVec 16)
  | cutFcSel (port : Port) (v : Word)
  | bookLoad (port : Port)
  | bookInvalidate (port : Port)
  | bankSelftest (port : Port) (bank : Fin 48)
  | scriptLoad (port : Port) (tenant : Fin 8)
  | scriptLoadDone (ext : List Host.Cell)
  | scriptInvalidate (port : Port) (tenant : Fin 8)
  | laneSelftest (port : Port)
  | splArm (port : Port) (chan : Fin 64)
  | splStop (port : Port) (chan : Fin 64)
  | splAbort (port : Port) (chan : Fin 64)
  | splRestart (port : Port) (chan : Fin 64)
  | spbPoolWrite (port : Port) (v : BitVec 64)
  | mtrSel (port : Port) (v : Word)
  | mtrClear (port : Port)
  | gnStart (port : Port) (cls : BitVec 2)
  | gnLeaderPoll (ext : List Host.Cell)
  | gnMemberPoll (ext : List Host.Cell)
  | gnTimeout
  | exsSel (port : Port) (entry : BitVec 11)
  | exsCommit (port : Port)
  | exsEmptyHistory (port : Port)
  | eyeSel (port : Port) (eyelet : Fin 4096)
  | eyeCountWrite (port : Port) (v : Word)
  | eyeTargetWrite (port : Port) (v : Word)
  | eyeCfgWrite (port : Port) (v : Word)
  | contextSave (port : Port) (tenant : Fin 8)
  | contextSaveDone
  | contextRestore (port : Port) (tenant : Fin 8)
  | contextRestoreDone (ext : List Host.Cell)
  | doorbellWrite (offset : BitVec 15) (size : Nat) (v : Word)
  | eyeWaitTimeout (queue : Fin 64) (ticket : BitVec 16)
  | clapperPulseEnd (line : Fin 64)
  | clapFire (port : Port) (v : BitVec 64)
  | coreQueueReset (queue : Fin 64)
  | laceEnrol (port : Port) (enrol : BitVec 16)
  | laceWireWrite (port : Port) (wire : Fin 16) (arr : Bool) (v : Word)
  | laceRelease (wire : Fin 16)
  | laceGapEnd (wire : Fin 16)
  | dieResetNotice (die : Fin 64) (system : Bool)
  | peerShip (h : PeerHead) (addr : BitVec 64) (data : List Byte) (sig : Option Signal)
  | peerFetch (h : PeerHead) (addr : BitVec 64) (len : Nat)
  | peerReduce (h : PeerHead) (total : Partial)
  | peerProp (h : PeerHead) (addr : BitVec 64) (len : PropLength)
  | peerAck (package : Fin 64) (seq : BitVec 32) (crcOk : Bool) (error : Bool) (data : List Byte)
  | ackResend (seq : BitVec 32)
  | peerLinksDown
  | peerLinksUp
  | peerClearLost (port : Port) (package : Fin 64)
  | peerClearAll (port : Port)
  | peerPartnerWrite (port : Port) (v : Word)
  | lockAcquire (port : Port) (page : Fin 32)
  | lockRelease (port : Port) (page : Fin 32)
  | shadowDiscard (port : Port) (page : Fin 32)
  | lockBroken (page : Fin 32)
  | portReset (port : Port) (detach : Bool)
  | blkModeWrite (port : Port) (v : Word)
  | propose (port : Port)
  | countersign (port : Port) (digest : Word)
  | countersignTimeout
  | keyStageWrite (port : Port) (index : Fin 16) (v : Word)
  | powerStateChoice
  | nextEventTimer
  | unplannedWake (cause : WakeCause)
  | reclaimAck
  | budgetSet (milliwatts : BitVec 16)
  | pwrOff (port : Port)
  | pwrWake (port : Port)
  | pwrHintWrite (port : Port) (v : Word)
  | pdRequest (domain : Fin 4)
  | pdDrainEnd (domain : Fin 4)
  | pdDeferEnd (domain : Fin 4)
  | pdRequestWithdrawn (domain : Fin 4)
  | powerOnReset (bootSrc : BitVec 2) (clkMode : BitVec 2) (test : BootTest)
  | isolationDrainEnd (test : BootTest)
  | systemReset (test : BootTest)
  | coreReset
  | watchdogExpiry (test : BootTest)
  | resetCommand (port : Port) (v : Word) (test : BootTest)
  | bootGo (port : Port) (ext : List Host.Cell)
  | siblingBootTimeout
  | seqHalt (port : Port)
  | seqStep (port : Port)
  | seqResume (port : Port)
  | wirUpdate (x : WrapperScan)
  | wrapperReset
  | wraUpdate (addr : BitVec 20) (write : Bool) (data : Word)
  | loopbackGo (port : Port) (v : Word)
  | loopbackDone (result : LoopResult)
  | recordStore
  | recTailWrite (port : Port) (v : Word)
  | recCursorWrite (port : Port) (v : Word)
  | recEraseEnd
  | timeMessage (ns : BitVec 64)
  | timeLockLost
  | persistence
  | nvWriteAck
  | nvWriteTimeout
  | irqStatWrite (port : Port) (page : Fin 32) (v : Word)
  | irqForce (port : Port) (page : Fin 32) (v : Word)
  | errClr (port : Port) (page : Fin 32)
  | readClear (port : Port) (addr : BitVec 20)
  | registerWrite (port : Port) (addr : BitVec 20) (v : Word)
  | laneOutputBlock (lane : Fin 16)
  | shelfClearDone
  | wakeComplete
  | siblingImageReceived
  | powerRemoved
  | lowWordRead (port : Port) (addr : BitVec 20)
  deriving DecidableEq, Repr

end Sys2Proof
end

