-- ==== Sys2Proof/Decode.lean ====
section
/-! DEFINITION. The table gives bits to none of its rows (opcode_table.json: every row has an empty list of
fields and no fixed bits), so no word spells a command. -/

namespace Sys2Proof

/-- The command that a word spells by the table's bits: none, since no row gives bits. -/
def decodeTableWord (_nbits _w : Nat) : Option Instr := none

end Sys2Proof
end

