-- ==== Sys2Proof/Config.lean ====
section
/-! DEFINITION. The values the manual leaves open, as constants without a body: no proof can see what they
are, so a claim holds whatever they are. Log entry 9 names them. -/

namespace Sys2Proof

/-- Which of the shelves that R203 allows a vault unit is taken from; applied to a draw. Free value, safe. -/
opaque Config.shelfPick : Nat → Nat

/-- DBG_SEQ_PC: the image offset of the sequencer's next operation (R411); applied to the number of commands
decoded. The manual gives the image no contents. Free value, safe. -/
opaque Config.seqPc : Nat → BitVec 32

/-- Sign and fraction bits of a NaN that lane arithmetic returns (R147 gives no NaN bits); applied to the two
operands. Free value, safe. -/
opaque Config.nanBits : BitVec 32 → BitVec 32 → BitVec 32

/-- The element that a NaN becomes in a narrower format (R147 states none); applied to the format of R41 and
the NaN. Free value, safe. -/
opaque Config.nanInto : Nat → BitVec 32 → Nat

/-- Sign of the maximum of two zeros of different sign (R164 states none). Free value, safe. -/
opaque Config.maxZero : BitVec 32 → BitVec 32 → Bool

/-- ln of zero or of a negative number (R147 and R164 state none). Free value, safe. -/
opaque Config.lnOpen : BitVec 32 → BitVec 32

/-- An operand element that the operand stream does not hold, by element index (R153 states none). Free value,
safe. -/
opaque Config.absentElem : Nat → BitVec 32

/-- What a poisoned beat holds (R29 and R34 state none); applied to a draw and the beat's number. Free value, safe. -/
opaque Config.poisonBeat : Nat → Nat → List Byte

/-- The level of a boundary cell whose signal no rule gives a value in the state (R395); applied to a draw and the cell's number.
Free value, safe. -/
opaque Config.cellLevel : Nat → Nat → Bool

/-- The bytes that the CRC-32C of a peer acknowledgement covers (R310 states no layout); applied to its sequence number, status
and data. Free value, safe. -/
opaque Config.ackBytes : Nat → Bool → List Byte → List Byte

/-- Values of outputs that no rule states for a corner (log entry 9 lists them); applied to a draw. Free value,
safe. -/
opaque Config.unstated : Nat → BitVec 64

end Sys2Proof
end

