-- ==== Sys2Proof/Machine/Bits.lean ====
section
/-! DEFINITION. Bit fields, little-endian bytes (R7) and CRC-32C (R122). -/

namespace Sys2Proof.Machine

/-- Field of n bits at bit lo (R6). -/
def fld (w lo n : Nat) : Nat := (w >>> lo) % 2 ^ n

/-- Bit k of a number. -/
def bitAt (w k : Nat) : Bool := fld w k 1 = 1

/-- A flag as a bit. -/
def b2n (b : Bool) : Nat := if b then 1 else 0

/-- Set or clear bit k. -/
def setBit (w k : Nat) (v : Bool) : Nat :=
  if bitAt w k = v then w else if v then w + 2 ^ k else w - 2 ^ k

/-- The number of set bits below bit n. -/
def popBits (w : Nat) : Nat → Nat
  | 0 => 0
  | n + 1 => popBits w n + b2n (bitAt w n)

/-- The indexes below n whose bit is set, ascending. -/
def bitsOf (w n : Nat) : List Nat := (List.range n).filter (fun k => bitAt w k)

/-- ceil(a / b) as R46 computes it. -/
def ceilDiv (a b : Nat) : Nat := (a + b - 1) / b

/-- Saturating add of an n-bit counter. -/
def satAdd (n a b : Nat) : Nat := min (2 ^ n - 1) (a + b)

/-- A number as k bytes, lowest first (R7). -/
def leBytes (v : Nat) : Nat → List Byte
  | 0 => []
  | k + 1 => BitVec.ofNat 8 v :: leBytes (v / 256) k

/-- The number that bytes hold, lowest first (R7). -/
def leNat : List Byte → Nat
  | [] => 0
  | b :: r => b.toNat + 256 * leNat r

/-- The number held by n bytes at offset o of a byte string. -/
def leAt (bs : List Byte) (o n : Nat) : Nat := leNat ((bs.drop o).take n)

/-- A byte string cut or padded with zero bytes to n bytes. -/
def fitTo (n : Nat) (bs : List Byte) : List Byte := bs.take n ++ List.replicate (n - bs.length) 0#8

/-- Overwrite bytes at an offset of a byte string. -/
def patch (bs : List Byte) (o : Nat) (d : List Byte) : List Byte :=
  bs.take o ++ d ++ bs.drop (o + d.length)

/-- One bit of the reflected Castagnoli CRC (R122). -/
def crcBit (c : Nat) : Nat := if c % 2 = 1 then (c >>> 1) ^^^ 0x82F63B78 else c >>> 1

/-- One byte of the CRC. -/
def crcByte (c : Nat) (b : Byte) : Nat :=
  crcBit (crcBit (crcBit (crcBit (crcBit (crcBit (crcBit (crcBit (c ^^^ b.toNat))))))))

/-- CRC-32C (R122). -/
def crc32c (bs : List Byte) : Nat := bs.foldl crcByte 0xFFFFFFFF ^^^ 0xFFFFFFFF

/-- Group a byte string in pieces of n bytes; the fuel bounds the number of pieces. -/
def chunks (n : Nat) : Nat → List Byte → List (List Byte)
  | 0, _ => []
  | f + 1, bs => if bs.isEmpty then [] else bs.take n :: chunks n f (bs.drop n)

/-- Is every byte zero? -/
def allZero (bs : List Byte) : Bool := bs.all (fun b => b = 0#8)

/-- Sum of a list of numbers. -/
def sumNat (l : List Nat) : Nat := l.foldl (· + ·) 0

/-- The bits of a that are clear in b. -/
def mapMinus (a b : Nat) : Nat := a ^^^ (a &&& b)

/-- The number whose bits 0 to n-1 are a Boolean function of the bit. -/
def bitSum (n : Nat) (f : Nat → Bool) : Nat := sumNat ((List.range n).map (fun k => 2 ^ k * b2n (f k)))

/-- The number 2^32 - 1 as a word. -/
def ones32 : Word := 0xFFFFFFFF#32

/-- A number as a register word. -/
def w32 (n : Nat) : Word := BitVec.ofNat 32 n

end Sys2Proof.Machine
end

