-- ==== Sys2Proof/Machine/Codec.lean ====
section
/-! DEFINITION. The coded form of a block (R110 to R128): coding units, prefix codes, sub-streams, the block
header and the block image, in both directions. -/

namespace Sys2Proof.Machine

/-! ### Bit streams (R116) -/

/-- The n low bits of a number, least significant first. -/
def bitsLo (v n : Nat) : List Bool := (List.range n).map (bitAt v)

/-- The n low bits of a number, most significant first. -/
def bitsHi (v n : Nat) : List Bool := (List.range n).map (fun k => bitAt v (n - 1 - k))

/-- The number whose bits, least significant first, are given. -/
def ofBitsLo : List Bool → Nat
  | [] => 0
  | b :: r => b2n b + 2 * ofBitsLo r

/-- Eight stream bits a byte, the last byte filled with zero bits; the fuel bounds the number of bytes. -/
def packBits : Nat → List Bool → List Byte
  | 0, _ => []
  | f + 1, bs => if bs.isEmpty then [] else BitVec.ofNat 8 (ofBitsLo (bs.take 8)) :: packBits f (bs.drop 8)

/-- A section of stream bits as bytes (R116). -/
def section8 (bs : List Bool) : List Byte := packBits (bs.length / 8 + 1) bs

/-- The stream bits of a section. -/
def unpackBits (bs : List Byte) : List Bool := bs.flatMap (fun b => bitsLo b.toNat 8)

/-! ### Code books (R126 to R128) -/

/-- Book 0: every symbol has length 8 (R129). -/
def book0 : List Byte := List.replicate 128 0x88#8

/-- Code length of a symbol (R126). -/
def codeLen (book : List Byte) (sym : Nat) : Nat := fld (book.getD (sym / 2) 0#8).toNat (4 * (sym % 2)) 4

/-- The symbols of a length, ascending. -/
def symsOf (book : List Byte) (l : Nat) : List Nat := (List.range 256).filter (fun x => codeLen book x == l)

/-- The symbols of lengths 1 to 15. -/
def bookSyms (book : List Byte) : List (List Nat) := (List.range 15).map (fun l => symsOf book (l + 1))

/-- first[l] for lengths 1 to 15 from the counts (R127). -/
def firstCodes : Nat → Nat → List Nat → List Nat
  | _, _, [] => []
  | code, prev, c :: r => let f := (code + prev) * 2; f :: firstCodes f c r

/-- A decoder's tables: for each length, its first code and its symbols (R127). -/
def bookTable (book : List Byte) : List (Nat × List Nat) :=
  let ss := bookSyms book
  (firstCodes 0 0 (ss.map List.length)).zip ss

/-- The code of a symbol, most significant bit first; none when the symbol has no code (R127). -/
def codeOf (book : List Byte) (tab : List (Nat × List Nat)) (sym : Nat) : Option (List Bool) :=
  let l := codeLen book sym
  if l = 0 then none
  else match tab[l - 1]? with
    | none => none
    | some (f, ss) => some (bitsHi (f + ss.idxOf sym) l)

/-- The Kraft sum of a book (R128). -/
def kraft (book : List Byte) : Nat :=
  sumNat ((List.range 256).map (fun x => let l := codeLen book x; if l = 0 then 0 else 2 ^ (15 - l)))

/-- A valid book (R128). -/
def bookValid (book : List Byte) : Bool := decide (0 < kraft book) && decide (kraft book ≤ 32768)

/-- Read one symbol: bits, value so far, tables from the current length on (R127, R128). -/
def readSym : List Bool → Nat → List (Nat × List Nat) → Option (Nat × List Bool)
  | _, _, [] => none
  | [], _, _ :: _ => none
  | b :: bs, v, (f, ss) :: tab =>
    let v := 2 * v + b2n b
    if f ≤ v ∧ v - f < ss.length then some (ss.getD (v - f) 0, bs) else readSym bs v tab

/-- Read up to n symbols; the list ends at the first unassigned code value (R128). -/
def readSyms (tab : List (Nat × List Nat)) : Nat → List Bool → List Nat
  | 0, _ => []
  | n + 1, bs =>
    match readSym bs 0 tab with
    | none => []
    | some (x, rest) => x :: readSyms tab n rest

/-! ### Units, symbols and residues (R115) -/

/-- Bytes of a coding unit. -/
def unitBytes (fmt : Nat) : Nat := if fmt = 0 then 4 else if fmt ≤ 2 then 2 else 1

/-- Residue bits of a unit. -/
def resBits (fmt : Nat) : Nat :=
  if fmt = 0 then 24 else if fmt ≤ 2 then 8 else if fmt = 3 ∨ fmt = 4 ∨ fmt = 10 then 1 else 0

/-- Bytes of the scale tail of sub-stream j (R115). -/
def tailBytes (fmt j : Nat) : Nat :=
  if j = 7 then (if fmt = 10 then 128 else if fmt = 11 then 256 else 0) else 0

/-- The integer formats (R112). -/
def intFmt (fmt : Nat) : Bool := fmt == 8 || fmt == 9

/-- Symbol of a unit. -/
def unitSym (fmt v : Nat) : Nat :=
  if fmt = 0 then fld v 23 8 else if fmt ≤ 2 then fld v 7 8
  else if fmt = 3 ∨ fmt = 4 ∨ fmt = 10 then fld v 0 7 else v

/-- Residue of a unit, the sign its most significant bit. -/
def unitRes (fmt v : Nat) : Nat :=
  if fmt = 0 then fld v 31 1 * 2 ^ 23 + fld v 0 23
  else if fmt ≤ 2 then fld v 15 1 * 2 ^ 7 + fld v 0 7
  else if fmt = 3 ∨ fmt = 4 ∨ fmt = 10 then fld v 7 1 else 0

/-- The unit with a symbol and a residue. R115 says nothing of a symbol of 128 or more in a format whose symbols have 7 bits,
which a book may give a code to; it is taken modulo 128 (DESIGN CHOICE, log entry 83). -/
def unitOf (fmt sym res : Nat) : Nat :=
  if fmt = 0 then fld res 23 1 * 2 ^ 31 + sym * 2 ^ 23 + fld res 0 23
  else if fmt ≤ 2 then fld res 7 1 * 2 ^ 15 + sym * 2 ^ 7 + fld res 0 7
  else if fmt = 3 ∨ fmt = 4 ∨ fmt = 10 then fld res 0 1 * 2 ^ 7 + sym % 2 ^ 7 else sym

/-- The units of a run of raw bytes. -/
def unitsOf (fmt : Nat) (bs : List Byte) : List Nat := (chunks (unitBytes fmt) 512 bs).map leNat

/-! ### DELTA_INT (R119) -/

/-- Zigzag of a delta modulo 2^w, as R119 computes it. -/
def zigzag (w d : Nat) : Nat := if d < 2 ^ (w - 1) then 2 * d else 2 * (2 ^ w - d) - 1

/-- The delta that a zigzag value stands for, modulo 2^w. -/
def unzigzag (w z : Nat) : Nat := if z % 2 = 0 then z / 2 else (2 ^ w - (z / 2 + 1)) % 2 ^ w

/-- Zigzag deltas of a sequence of elements. -/
def deltas (w : Nat) : Nat → List Nat → List Nat
  | _, [] => []
  | p, x :: r => zigzag w ((x + 2 ^ w - p) % 2 ^ w) :: deltas w x r

/-- The elements that zigzag deltas stand for. -/
def undeltas (w : Nat) : Nat → List Nat → List Nat
  | _, [] => []
  | p, z :: r => let x := (p + unzigzag w z) % 2 ^ w; x :: undeltas w x r

/-- The nibbles of bytes, low nibble first (R111). -/
def nibbles (bs : List Byte) : List Nat := bs.flatMap (fun b => [fld b.toNat 0 4, fld b.toNat 4 4])

/-- Pair values as low + 16 × high. -/
def pairUp : List Nat → List Nat
  | a :: b :: r => (a + 16 * b) :: pairUp r
  | _ => []

/-- The symbols of a DELTA_INT sub-stream. -/
def deltaSyms (fmt : Nat) (bs : List Byte) : List Nat :=
  if fmt = 8 then deltas 8 0 (bs.map BitVec.toNat) else pairUp (deltas 4 0 (nibbles bs))

/-- The raw bytes of decoded DELTA_INT symbols. -/
def deltaBytes (fmt : Nat) (syms : List Nat) : List Byte :=
  if fmt = 8 then (undeltas 8 0 syms).map (BitVec.ofNat 8)
  else (pairUp (undeltas 4 0 (syms.flatMap (fun z => [z % 16, z / 16])))).map (BitVec.ofNat 8)

/-! ### Encoding a sub-stream (R117 to R119) -/

/-- The coded section of symbols; none when a symbol has no code (R113). -/
def codeSyms (book : List Byte) (tab : List (Nat × List Nat)) (syms : List Nat) : Option (List Byte) :=
  (syms.mapM (codeOf book tab)).map (fun cs => section8 cs.flatten)

/-- Residue section of units. -/
def resSection (fmt : Nat) (us : List Nat) : List Byte :=
  section8 (us.flatMap (fun u => bitsLo (unitRes fmt u) (resBits fmt)))

/-- Sub-stream j of a block in a coded mode (3 EXPO, 4 SPARSE_EXPO, 5 DELTA_INT). -/
def encodeSub (mode fmt : Nat) (book : List Byte) (tab : List (Nat × List Nat)) (j : Nat) (raw : List Byte) :
    Option (List Byte) :=
  if mode = 5 then codeSyms book tab (deltaSyms fmt raw)
  else
    let n := 512 - tailBytes fmt j
    let us := unitsOf fmt (raw.take n)
    let nz := if mode = 4 then us.filter (fun u => u != 0) else us
    let map := if mode = 4 then section8 (us.map (fun u => u != 0)) else []
    (codeSyms book tab (nz.map (unitSym fmt))).map (fun cs => map ++ resSection fmt nz ++ cs ++ raw.drop n)

/-- The eight sub-streams of a block. -/
def subRaws (raw : List Byte) : List (List Byte) := (List.range 8).map (fun j => (raw.drop (512 * j)).take 512)

/-- All eight sub-streams coded, when the mode is a candidate that qualifies (R113). -/
def encodeMode (mode fmt : Nat) (book : List Byte) (raw : List Byte) : Option (List (List Byte)) :=
  let tab := bookTable book
  match ((List.range 8).zip (subRaws raw)).mapM (fun p => encodeSub mode fmt book tab p.1 p.2) with
  | none => none
  | some ls => if ls.any (fun l => decide (1023 < l.length)) then none else some ls

/-- Granules of a coded block, header included (R113). -/
def granulesOf (ls : List Nat) : Nat := 1 + sumNat (ls.map (fun l => ceilDiv l 32))

/-- The better of two candidates, the earlier on a tie (R113). -/
def better (best : Option (Nat × List (List Byte))) (m : Nat) (c : Option (List (List Byte))) :
    Option (Nat × List (List Byte)) :=
  match c with
  | none => best
  | some ls =>
    let g := granulesOf (ls.map List.length)
    if g ≤ 126 then
      match best with
      | none => some (m, ls)
      | some (_, bl) => if g < granulesOf (bl.map List.length) then some (m, ls) else best
    else best

/-- The mode that R113 chooses, with the coded sub-streams of a coded mode. cmode is the compression axis of
the mode word: 0 off, 1 auto, 2 forced-raw-check. The last component says that R113 fell back to RAW. -/
def chooseMode (cmode : Nat) (sparse : Bool) (fmt : Nat) (book raw : List Byte) : Nat × List (List Byte) × Bool :=
  if cmode = 0 then (0, [], false)
  else if allZero raw then (1, [], false)
  else if decide (raw.drop 4 = raw.take 4092) then (2, [], false)
  else
    let best :=
      if intFmt fmt then better none 5 (encodeMode 5 fmt book raw)
      else
        let b := better none 3 (encodeMode 3 fmt book raw)
        if sparse then better b 4 (encodeMode 4 fmt book raw) else b
    match best with
    | none => (0, [], true)
    | some (m, ls) => (m, ls, false)

/-! ### Header and image (R120, R121) -/

/-- The length field of the header, bits [175:96]. -/
def lenField : List Nat → Nat
  | [] => 0
  | l :: r => l + 2 ^ 10 * lenField r

/-- What names a block in its header. -/
structure BlockId where
  slate : Nat
  gen : Nat
  block : Nat
  deriving DecidableEq, Repr

/-- The 32-byte header (R121). -/
def headerBytes (mode fmt book : Nat) (id : BlockId) (lens raw pay : Nat) : List Byte :=
  leBytes (mode + 2 ^ 4 * fmt + 2 ^ 8 * book + 2 ^ 32 * id.slate + 2 ^ 48 * id.gen + 2 ^ 64 * id.block
    + 2 ^ 96 * lens + 2 ^ 192 * raw + 2 ^ 224 * pay) 32

/-- Pad a sub-stream to a granule boundary (R120). -/
def padGranule (l : List Byte) : List Byte := l ++ List.replicate (32 * ceilDiv l.length 32 - l.length) 0#8

/-- The image of a block in a mode, given its coded sub-streams. -/
def imageOf (mode fmt book : Nat) (id : BlockId) (raw : List Byte) (ls : List (List Byte)) : List Byte :=
  let payload := if mode = 0 then raw else (ls.map padGranule).flatten
  let lens := if mode = 0 then lenField (List.replicate 8 512) else if mode = 2 then leAt raw 0 4
    else lenField (ls.map List.length)
  let pay := if mode = 1 ∨ mode = 2 then 0 else crc32c payload
  headerBytes mode fmt (if 3 ≤ mode then book else 0) id lens (crc32c raw) pay ++ payload

/-- A block as the stitcher commits it. -/
structure Coded where
  mode : Nat
  fallback : Bool
  image : List Byte
  deriving DecidableEq, Repr

/-- Granules of an image. -/
def Coded.granules (c : Coded) : Nat := c.image.length / 32

/-- Code a block (R113, R120, R121, R123). -/
def encodeBlock (cmode : Nat) (sparse : Bool) (fmt bookId : Nat) (book : List Byte) (id : BlockId)
    (raw : List Byte) : Coded :=
  let (m, ls, fb) := chooseMode cmode sparse fmt book raw
  { mode := m, fallback := fb, image := imageOf m fmt bookId id raw ls }

/-- The block stored as RAW after a verify mismatch (R114). -/
def rawBlock (fmt : Nat) (id : BlockId) (raw : List Byte) : Coded :=
  { mode := 0, fallback := false, image := imageOf 0 fmt 0 id raw [] }

/-! ### Reading an image -/

/-- The fields of a header (R121); reserved says that a reserved bit is set. -/
structure Header where
  mode : Nat
  fmt : Nat
  book : Nat
  slate : Nat
  gen : Nat
  block : Nat
  lenBits : Nat
  raw : Nat
  pay : Nat
  reserved : Bool
  deriving DecidableEq, Repr

/-- Parse the 32-byte header of an image. -/
def parseHeader (img : List Byte) : Header :=
  let h := leNat (img.take 32)
  { mode := fld h 0 4, fmt := fld h 4 4, book := fld h 8 12, slate := fld h 32 16, gen := fld h 48 8,
    block := fld h 64 22, lenBits := fld h 96 80, raw := fld h 192 32, pay := fld h 224 32,
    reserved := fld h 20 12 != 0 || fld h 56 8 != 0 || fld h 86 10 != 0 || fld h 176 16 != 0 }

/-- len0 to len7. -/
def Header.lens (h : Header) : List Nat := (List.range 8).map (fun j => fld h.lenBits (10 * j) 10)

/-- The index length implied by mode and lengths (R124). -/
def Header.granules (h : Header) : Nat :=
  if h.mode = 0 then 129 else if h.mode ≤ 2 then 1 else granulesOf h.lens

/-- An index length of a committed block that R124 admits. -/
def indexLenValid (n : Nat) : Bool := (decide (1 ≤ n) && decide (n ≤ 126)) || n == 129

/-- The HEADER stage of R136. len is the index length. -/
def Header.good (h : Header) (fmt book : Nat) (id : BlockId) (len : Nat) : Bool :=
  decide (h.mode ≤ 5)
  && (if h.mode = 5 then intFmt h.fmt else if 3 ≤ h.mode then !intFmt h.fmt else true)
  && h.fmt == fmt && h.book == (if 3 ≤ h.mode then book else 0)
  && h.slate == id.slate && h.gen == id.gen && h.block == id.block
  && (if h.mode = 0 then h.lens.all (· == 512) else if h.mode = 1 then h.lenBits == 0
      else if h.mode = 2 then fld h.lenBits 32 48 == 0 else decide (2 ≤ h.granules) && decide (h.granules ≤ 126))
  && h.granules == len && !h.reserved

/-- Decode a coded EXPO or SPARSE_EXPO sub-stream (R117, R118, R128). -/
def decodeFloatSub (mode fmt : Nat) (tab : List (Nat × List Nat)) (j : Nat) (sub : List Byte) : List Byte :=
  let tail := tailBytes fmt j
  let n := (512 - tail) / unitBytes fmt
  let body := sub.take (sub.length - tail)
  let mapLen := if mode = 4 then n / 8 else 0
  let present := if mode = 4 then (unpackBits (fitTo mapLen body)).take n else List.replicate n true
  let m := present.countP id
  let resLen := ceilDiv (m * resBits fmt) 8
  let res := unpackBits (fitTo resLen (body.drop mapLen))
  let syms := readSyms tab m (unpackBits (body.drop (mapLen + resLen)))
  let values := (List.range m).map fun k =>
    match syms[k]? with
    | none => 0
    | some x => unitOf fmt x (ofBitsLo ((res.drop (k * resBits fmt)).take (resBits fmt)))
  let rec place : List Bool → List Nat → List Nat
    | [], _ => []
    | true :: r, v :: vs => v :: place r vs
    | true :: r, [] => 0 :: place r []
    | false :: r, vs => 0 :: place r vs
  (place present values).flatMap (fun u => leBytes u (unitBytes fmt)) ++ fitTo tail (sub.drop (sub.length - tail))

/-- Decode a DELTA_INT sub-stream: an unmatched unit and all after it are zero bytes (R128). -/
def decodeDeltaSub (fmt : Nat) (tab : List (Nat × List Nat)) (sub : List Byte) : List Byte :=
  fitTo 512 (deltaBytes fmt (readSyms tab 512 (unpackBits sub)))

/-- Cut a payload into its sub-streams (R120). -/
def subStreams : List Nat → List Byte → List (List Byte)
  | [], _ => []
  | l :: r, p => p.take l :: subStreams r (p.drop (32 * ceilDiv l 32))

/-- The 4,096 raw bytes that an image expands to. -/
def expand (book : List Byte) (img : List Byte) : List Byte :=
  let h := parseHeader img
  let payload := img.drop 32
  if h.mode = 0 then fitTo 4096 payload
  else if h.mode = 1 then List.replicate 4096 0#8
  else if h.mode = 2 then (List.replicate 1024 (leBytes (fld h.lenBits 0 32) 4)).flatten
  else
    let tab := bookTable book
    (((List.range 8).zip (subStreams h.lens payload)).map fun p =>
      fitTo 512 (if h.mode = 5 then decodeDeltaSub h.fmt tab p.2 else decodeFloatSub h.mode h.fmt tab p.1 p.2)).flatten

/-- What a block check finds: the raw bytes, or the failing stage with expected and computed values (R145). -/
inductive Verdict where
  | good (raw : List Byte)
  | bad (stage expected computed : Nat)
  deriving DecidableEq, Repr

/-- The checks of R136 in order. -/
def checkBlock (fmt bookId : Nat) (book : List Byte) (id : BlockId) (len : Nat) (img : List Byte) : Verdict :=
  let h := parseHeader img
  if !h.good fmt bookId id len then .bad 0 (leAt img 0 4) (len % 256)
  else
    let pay := if h.mode = 1 ∨ h.mode = 2 then 0 else crc32c (img.drop 32)
    if pay ≠ h.pay then .bad 1 h.pay pay
    else
      let raw := expand book img
      if crc32c raw ≠ h.raw then .bad 2 h.raw (crc32c raw) else .good raw

/-- The checks of a returned block (R141, R144): header identity and payload check. -/
def checkReturned (id : BlockId) (img : List Byte) : Verdict :=
  let h := parseHeader img
  let pay := if img.length ≤ 32 then 0 else crc32c (img.drop 32)
  if h.slate = id.slate ∧ h.gen = id.gen ∧ h.block = id.block ∧ pay = h.pay then .good img
  else .bad 3 h.pay pay

end Sys2Proof.Machine
end

