-- ==== Sys2Proof/Machine/Fp.lean ====
section
/-! DEFINITION. Lane arithmetic of R147: exact values, rounding to nearest even into each number format of R41,
FP32 operations and the transcendental functions. -/

namespace Sys2Proof.Machine

/-! ### Values -/

/-- An FP32 value: a NaN with its bits, an infinity, or (−1)^neg × m × 2^e. -/
inductive Fp where
  | nan (bits : Word)
  | inf (neg : Bool)
  | fin (neg : Bool) (m : Nat) (e : Int)
  deriving DecidableEq, Repr

/-- A floating format: fraction bits, exponent of the smallest normal, code of the largest finite magnitude,
and the code of infinity where it has one. -/
structure FpFmt where
  man : Nat
  emin : Int
  top : Nat
  inf : Option Nat
  deriving DecidableEq, Repr

def fmtF32 : FpFmt := ⟨23, -126, 0x7F7FFFFF, some 0x7F800000⟩

/-- The float formats of R41 and the element formats of the MX formats. The parameters of the short formats
are those of their public definitions: PRESUMED, log entry 11. -/
def fpFmt (f : Nat) : FpFmt :=
  if f = 0 then fmtF32
  else if f = 1 then ⟨7, -126, 0x7F7F, some 0x7F80⟩
  else if f = 2 then ⟨10, -14, 0x7BFF, some 0x7C00⟩
  else if f = 3 ∨ f = 10 then ⟨3, -6, 0x7E, none⟩
  else if f = 4 then ⟨2, -14, 0x7B, some 0x7C⟩
  else if f = 5 then ⟨2, -2, 0x1F, none⟩
  else if f = 6 then ⟨3, 0, 0x1F, none⟩
  else ⟨1, 0, 0x7, none⟩

/-- Element bits (R41). -/
def fmtBits (f : Nat) : Nat :=
  if f = 0 then 32 else if f ≤ 2 then 16 else if f = 3 ∨ f = 4 ∨ f = 8 ∨ f = 10 then 8
  else if f = 5 ∨ f = 6 then 6 else 4

/-- m × 2^e as numerator and denominator. -/
def ratio (m : Nat) (e : Int) : Nat × Nat :=
  match e with
  | .ofNat k => (m * 2 ^ k, 1)
  | .negSucc k => (m, 2 ^ (k + 1))

/-- n / d rounded to a whole number, ties to even. -/
def rne (n d : Nat) : Nat :=
  let q := n / d
  let r := 2 * (n % d)
  if r < d then q else if d < r then q + 1 else q + q % 2

/-- The exponent of the leading bit of n / d, for n > 0. -/
def log2Ratio (n d : Nat) : Int :=
  let k : Int := (Nat.log2 n : Int) - (Nat.log2 d : Int)
  let (a, b) := ratio d k
  if a ≤ n * b then k else k - 1

/-- The magnitude code of n / d in a format, rounded to nearest even; it may lie beyond the largest finite
code. -/
def roundCode (f : FpFmt) (n d : Nat) : Nat :=
  if n = 0 then 0
  else
    let e := max f.emin (log2Ratio n d)
    let (a, b) := ratio 1 (e - f.man)
    (e - f.emin).toNat * 2 ^ f.man + rne (n * b) (d * a)

/-- The magnitude code with overflow: infinity, or the largest finite code in formats without one (R147). -/
def roundMag (f : FpFmt) (n d : Nat) : Nat :=
  let c := roundCode f n d
  if c ≤ f.top then c else f.inf.getD f.top

/-- FP32 bits of a sign and a rounded magnitude. -/
def packF32 (neg : Bool) (code : Nat) : Word := w32 (b2n neg * 2 ^ 31 + code)

/-- (−1)^neg × n / d rounded to FP32. -/
def roundF32 (neg : Bool) (n d : Nat) : Word := packF32 neg (roundMag fmtF32 n d)

/-- The value of FP32 bits. -/
def ofF32 (w : Word) : Fp :=
  let v := w.toNat
  let ex := fld v 23 8
  let fr := fld v 0 23
  let neg := bitAt v 31
  if ex = 255 then (if fr = 0 then .inf neg else .nan w)
  else if ex = 0 then .fin neg fr (-149) else .fin neg (2 ^ 23 + fr) ((ex : Int) - 150)

/-- The NaN that an operation on two operands returns: a free value among the NaNs. -/
def nanOf (a b : Word) : Word :=
  let v := (Config.nanBits a b).toNat
  packF32 (bitAt v 31) (0x7F800000 + max 1 (fld v 0 23))

/-! ### FP32 operations (R147) -/

/-- Signed sum of two magnitudes over a common exponent. -/
def addFin (na : Bool) (ma : Nat) (ea : Int) (nb : Bool) (mb : Nat) (eb : Int) : Word :=
  let e := min ea eb
  let a := ma * 2 ^ (ea - e).toNat
  let b := mb * 2 ^ (eb - e).toNat
  if na = nb then let (n, d) := ratio (a + b) e; roundF32 na n d
  else if a = b then roundF32 false 0 1
  else if b < a then let (n, d) := ratio (a - b) e; roundF32 na n d
  else let (n, d) := ratio (b - a) e; roundF32 nb n d

def fpAdd (x y : Word) : Word :=
  match ofF32 x, ofF32 y with
  | .fin na ma ea, .fin nb mb eb => addFin na ma ea nb mb eb
  | .inf na, .fin _ _ _ => packF32 na 0x7F800000
  | .fin _ _ _, .inf nb => packF32 nb 0x7F800000
  | .inf na, .inf nb => if na = nb then packF32 na 0x7F800000 else nanOf x y
  | _, _ => nanOf x y

def fpNeg (x : Word) : Word := x ^^^ 0x80000000#32

def fpSub (x y : Word) : Word := fpAdd x (fpNeg y)

def fpMul (x y : Word) : Word :=
  match ofF32 x, ofF32 y with
  | .fin na ma ea, .fin nb mb eb => let (n, d) := ratio (ma * mb) (ea + eb); roundF32 (na != nb) n d
  | .inf na, .fin nb mb _ => if mb = 0 then nanOf x y else packF32 (na != nb) 0x7F800000
  | .fin na ma _, .inf nb => if ma = 0 then nanOf x y else packF32 (na != nb) 0x7F800000
  | .inf na, .inf nb => packF32 (na != nb) 0x7F800000
  | _, _ => nanOf x y

/-- Is x greater than y? A NaN is not. -/
def fpGt (x y : Word) : Bool :=
  match ofF32 x, ofF32 y with
  | .fin na ma ea, .fin nb mb eb =>
    let e := min ea eb
    let a : Int := (if na then -1 else 1) * (ma * 2 ^ (ea - e).toNat : Nat)
    let b : Int := (if nb then -1 else 1) * (mb * 2 ^ (eb - e).toNat : Nat)
    decide (b < a)
  | .inf na, .fin _ _ _ => !na
  | .fin _ _ _, .inf nb => nb
  | .inf na, .inf nb => !na && nb
  | _, _ => false

def fpIsNan (x : Word) : Bool := match ofF32 x with | .nan _ => true | _ => false

/-- The larger of two values; the choices the manual leaves open are free values. -/
def fpMax (x y : Word) : Word :=
  if fpIsNan x || fpIsNan y then nanOf x y
  else if fpGt x y then x else if fpGt y x then y
  else if x = y then x else if Config.maxZero x y then x else y

/-! ### Transcendental functions: fixed point with 400 fraction bits, rounded once (R147) -/

/-- Fraction bits of the fixed-point values. -/
def fxP : Nat := 400

/-- One, in fixed point. -/
def fxOne : Nat := 2 ^ fxP

/-- Sum of z^(2i+1) / (2i+1) from term i on; t is z^(2i+1). -/
def atanhTerms (z2 : Nat) : Nat → Nat → Nat → Nat
  | 0, _, _ => 0
  | f + 1, i, t => t / (2 * i + 1) + atanhTerms z2 f (i + 1) (t * z2 / fxOne)

/-- 2 atanh(n / d), for n / d at most 1/3. -/
def fxLogRatio (n d : Nat) : Nat :=
  let z := n * fxOne / d
  2 * atanhTerms (z * z / fxOne) 140 0 z

/-- ln 2. -/
def fxLn2 : Nat := fxLogRatio 1 3

/-- Terms of the exponential series from term i on. -/
def expTerms (r : Nat) : Nat → Nat → Nat → Nat
  | 0, _, _ => 0
  | f + 1, i, t => t + expTerms r f (i + 1) (t * r / fxOne / (i + 1))

/-- exp of a fixed-point number as m × 2^e. -/
def fxExp (x : Int) : Nat × Int :=
  let k := x / (fxLn2 : Int)
  let r := (x - k * fxLn2).toNat
  (expTerms r 100 0 fxOne, k - fxP)

/-- A finite value in fixed point; exact, since no FP32 value has a bit below 2^−149. -/
def toFx (neg : Bool) (m : Nat) (e : Int) : Int :=
  let v : Int := (m * 2 ^ (e + fxP).toNat : Nat)
  if neg then -v else v

def fpExp (x : Word) : Word :=
  match ofF32 x with
  | .nan _ => nanOf x x
  | .inf neg => if neg then 0#32 else x
  | .fin neg m e =>
    let v := toFx neg m e
    if v < -(110 * fxOne : Int) then 0#32
    else if (100 * fxOne : Int) < v then packF32 false 0x7F800000
    else let (q, k) := fxExp v; let (n, d) := ratio q k; roundF32 false n d

def fpLn (x : Word) : Word :=
  match ofF32 x with
  | .nan _ => nanOf x x
  | .inf neg => if neg then Config.lnOpen x else x
  | .fin neg m e =>
    if neg ∨ m = 0 then Config.lnOpen x
    else
      let k := Nat.log2 m
      let frac : Int := fxLogRatio (m - 2 ^ k) (m + 2 ^ k)
      let v := frac + (e + k) * fxLn2
      if v = 0 then 0#32 else roundF32 (decide (v < 0)) v.natAbs fxOne

def fpTanh (x : Word) : Word :=
  match ofF32 x with
  | .nan _ => nanOf x x
  | .inf neg => packF32 neg 0x3F800000
  | .fin neg m e =>
    if m = 0 then x
    else
      let v := toFx false m e
      if (40 * fxOne : Int) < v then packF32 neg 0x3F800000
      else
        let (q, k) := fxExp (2 * v)
        let (n, d) := ratio q k
        roundF32 neg (n - d) (n + d)

def fpSigmoid (x : Word) : Word :=
  match ofF32 x with
  | .nan _ => nanOf x x
  | .inf neg => if neg then 0#32 else 0x3F800000#32
  | .fin neg m e =>
    let v := toFx false m e
    if (200 * fxOne : Int) < v then (if neg then 0#32 else 0x3F800000#32)
    else
      let (q, k) := fxExp v
      let (n, d) := ratio q k
      if neg then roundF32 false d (n + d) else roundF32 false n (n + d)

/-! ### Conversions (R147) -/

/-- FP32 bits of a code of a floating format; NaN fractions move up with the fraction. -/
def widen (f : Nat) (code : Nat) : Word :=
  if f = 0 then w32 code
  else
    let p := fpFmt f
    let w := fmtBits f
    let neg := bitAt code (w - 1)
    let mag := code % 2 ^ (w - 1)
    let fr := mag % 2 ^ p.man
    if mag ≤ p.top then
      let ex := mag / 2 ^ p.man
      let (n, d) := if ex = 0 then ratio fr (p.emin - p.man) else ratio (2 ^ p.man + fr) (p.emin + (ex : Int) - 1 - p.man)
      roundF32 neg n d
    else if p.inf = some mag then packF32 neg 0x7F800000
    else packF32 neg (0x7F800000 + fr * 2 ^ (23 - p.man))

/-- The code of a NaN in a format: kept where its fraction fits, else a free value among the format's NaNs, or
among all codes in a format without NaN. -/
def nanCode (f : Nat) (x : Word) : Nat :=
  let p := fpFmt f
  let w := fmtBits f
  let v := Config.nanInto f x
  let sign := b2n (bitAt v (w - 1)) * 2 ^ (w - 1)
  let fr := fld x.toNat 0 23
  let up := fr / 2 ^ (23 - p.man)
  match p.inf with
  | some c =>
    if fr % 2 ^ (23 - p.man) = 0 then fld x.toNat 31 1 * 2 ^ (w - 1) + c + up
    else sign + c + max 1 (v % 2 ^ p.man)
  | none =>
    if f = 3 ∨ f = 10 then (if fr = 7 * 2 ^ 20 then fld x.toNat 31 1 * 2 ^ 7 + 0x7F else sign + 0x7F)
    else v % 2 ^ w

/-- An FP32 value in an integer format of w bits: round half to even, saturate (R147). -/
def narrowInt (f w : Nat) (x : Word) : Nat :=
  match ofF32 x with
  | .nan _ => Config.nanInto f x % 2 ^ w
  | .inf neg => if neg then 2 ^ (w - 1) else 2 ^ (w - 1) - 1
  | .fin neg m e =>
    let (n, d) := ratio m e
    let q := rne n d
    if neg then (2 ^ w - min q (2 ^ (w - 1))) % 2 ^ w else min q (2 ^ (w - 1) - 1)

/-- The code of an FP32 value in a format of R41 (an MX format stands for its elements). -/
def narrow (f : Nat) (x : Word) : Nat :=
  if f = 0 then x.toNat
  else if f = 8 then narrowInt f 8 x
  else if f = 9 then narrowInt f 4 x
  else
    let p := fpFmt f
    let s (neg : Bool) : Nat := b2n neg * 2 ^ (fmtBits f - 1)
    match ofF32 x with
    | .nan _ => nanCode f x
    | .inf neg => s neg + p.inf.getD p.top
    | .fin neg m e => let (n, d) := ratio m e; s neg + roundMag p n d

/-- FP32 of an element code: integers convert exactly (R147). -/
def elemF32 (f code : Nat) : Word :=
  if f = 8 ∨ f = 9 then
    let w := fmtBits f
    if bitAt code (w - 1) then roundF32 true (2 ^ w - code) 1 else roundF32 false code 1
  else widen f code

/-- FP32 of an MX element under its E8M0 scale; scale 0xFF is NaN (log entry 11). -/
def mxF32 (f code scale : Nat) : Word :=
  if scale = 255 then nanOf (w32 code) (w32 scale)
  else
    let x := widen f code
    match ofF32 x with
    | .fin neg m e => let (n, d) := ratio m (e + (scale : Int) - 127); roundF32 neg n d
    | _ => x

/-- The scale and the element codes of a group of 32 values in an MX format, by the public MX conversion
(PRESUMED, log entry 11): shared exponent floor(log2 max) − emax, elements rounded and saturated. -/
def mxGroup (f : Nat) (xs : List Word) : Nat × List Nat :=
  let emax : Int := if f = 10 then 8 else 2
  if xs.any (fun x => match ofF32 x with | .fin _ _ _ => false | _ => true) then
    (255, xs.map (fun x => narrow f x))
  else
    let top : Option Int := xs.foldl (fun (acc : Option Int) x =>
      match ofF32 x with
      | .fin _ m e => if m = 0 then acc else
          let l : Int := (Nat.log2 m : Int) + e
          some (match acc with | none => l | some a => max a l)
      | _ => acc) none
    let sh : Int := match top with | none => -127 | some l => max (-127) (min 127 (l - emax))
    ((sh + 127).toNat, xs.map fun x =>
      match ofF32 x with
      | .fin neg m e => let (n, d) := ratio m (e - sh); b2n neg * 2 ^ (fmtBits f - 1) + roundMag (fpFmt f) n d
      | _ => 0)

/-! ### Elements of a raw stream (R111) -/

/-- Elements of an MX block; 0 for the plain formats. -/
def mxPerBlock (f : Nat) : Nat := if f = 10 then 3968 else if f = 11 then 7680 else 0

/-- The elements of which block i holds a bit: from, up to but not including. -/
def blockElems (f i : Nat) : Nat × Nat :=
  if mxPerBlock f = 0 then (32768 * i / fmtBits f, ceilDiv (32768 * (i + 1)) (fmtBits f))
  else (mxPerBlock f * i, mxPerBlock f * (i + 1))

/-- The blocks that hold element e: first and last. -/
def elemBlocks (f e : Nat) : Nat × Nat :=
  if mxPerBlock f = 0 then (fmtBits f * e / 32768, (fmtBits f * e + fmtBits f - 1) / 32768)
  else (e / mxPerBlock f, e / mxPerBlock f)

/-- Bits lo to lo + w − 1 of a stream given by its raw blocks. -/
def streamBits (blocks : NMap (List Byte)) (lo w : Nat) : Option Nat :=
  let b0 := lo / 8
  let b1 := (lo + w - 1) / 8
  let bytes := (List.range (b1 + 1 - b0)).mapM (fun k =>
    match blocks.find? (fun p => p.1 == (b0 + k) / 4096) with
    | none => none
    | some p => p.2[(b0 + k) % 4096]?)
  bytes.map (fun bs => fld (leNat bs) (lo % 8) w)

/-- FP32 of element e of a stream; an element that the stream does not hold is a free value. -/
def elemAt (f : Nat) (blocks : NMap (List Byte)) (e : Nat) : Word :=
  let w := fmtBits f
  if mxPerBlock f = 0 then
    match streamBits blocks (w * e) w with
    | none => Config.absentElem e
    | some c => elemF32 f c
  else
    let base := 32768 * (e / mxPerBlock f)
    let k := e % mxPerBlock f
    let tail := if f = 10 then 3968 else 3840
    match streamBits blocks (base + w * k) w, streamBits blocks (base + 8 * (tail + k / 32)) 8 with
    | some c, some sc => mxF32 f c sc
    | _, _ => Config.absentElem e

/-- The 4,096 raw bytes of block i from the values of its elements in order. -/
def packBlock (f i : Nat) (xs : List Word) : List Byte :=
  let w := fmtBits f
  if mxPerBlock f = 0 then
    let skip := 32768 * i - w * (32768 * i / w)
    fitTo 4096 (section8 (((xs.flatMap (fun x => bitsLo (narrow f x) w)).drop skip).take 32768))
  else
    let gs := (List.range (mxPerBlock f / 32)).map (fun g => mxGroup f ((xs.drop (32 * g)).take 32))
    fitTo 4096 (section8 (gs.flatMap (fun g => g.2.flatMap (fun c => bitsLo c w)))
      ++ gs.map (fun g => BitVec.ofNat 8 g.1))

/-! ### Dropout (R165) -/

/-- One round of the generator on counter and key. -/
def philoxRound (k0 k1 : Nat) (c : Nat × Nat × Nat × Nat) : Nat × Nat × Nat × Nat :=
  let (c0, c1, c2, c3) := c
  let p0 := 0xD2511F53 * c0
  let p1 := 0xCD9E8D57 * c2
  ((p1 / 2 ^ 32) ^^^ c1 ^^^ k0, p1 % 2 ^ 32, (p0 / 2 ^ 32) ^^^ c3 ^^^ k1, p0 % 2 ^ 32)

def philoxRounds : Nat → Nat → Nat → Nat × Nat × Nat × Nat → Nat × Nat × Nat × Nat
  | 0, _, _, c => c
  | n + 1, k0, k1, c =>
    philoxRounds n ((k0 + 0x9E3779B9) % 2 ^ 32) ((k1 + 0xBB67AE85) % 2 ^ 32) (philoxRound k0 k1 c)

/-- The four output words for a key and a counter. -/
def philox (k0 k1 c0 c1 : Nat) : List Nat :=
  let (y0, y1, y2, y3) := philoxRounds 10 k0 k1 (c0, c1, 0, 0)
  [y0, y1, y2, y3]

/-- What names a dropout mask: seed, layer, site, micro-batch, threshold and scale (R150, R165). -/
structure DropKey where
  seed : Nat
  layer : Nat
  site : Nat
  mb : Nat
  thr : Nat
  scale : Word
  deriving DecidableEq, Repr

/-- kept(e) of R165. -/
def DropKey.kept (d : DropKey) (e : Nat) : Bool :=
  let y := philox d.seed (d.layer + 2 ^ 12 * d.site) (e / 8 % 2 ^ 32) d.mb
  decide (fld (y.getD (e % 8 / 2) 0) (16 * (e % 2)) 16 < d.thr)

/-- One element through the mask (R153, R166). -/
def DropKey.apply (d : DropKey) (e : Nat) (x : Word) : Word := if d.kept e then fpMul x d.scale else 0#32

/-! ### Lane functions (R148, R153, R164) -/

/-- EWISE of one element. -/
def ewise (fn : Nat) (a b k : Word) : Word :=
  match fn with
  | 0 => a
  | 1 => fpAdd a b
  | 2 => fpMul a b
  | 3 => fpMul a k
  | 4 => if fpGt a 0#32 then a else 0#32
  | 5 =>
    let c2a3 := fpMul (fpMul (fpMul 0x3D372713#32 a) a) a
    let t := fpTanh (fpMul 0x3F4C422A#32 (fpAdd a c2a3))
    fpMul (fpMul 0x3F000000#32 a) (fpAdd 0x3F800000#32 t)
  | 6 => fpMul a (fpSigmoid a)
  | _ => fpMul (fpMul a (fpSigmoid a)) b

/-- The merge of one row of partial statistics: pairs (m_b, L_b) to (m, L). -/
def mergeStats (ps : List (Word × Word)) : Word × Word :=
  match ps with
  | [] => (Config.absentElem 0, Config.absentElem 1)
  | p :: r =>
    let m := r.foldl (fun acc q => fpMax acc q.1) p.1
    let sum := ps.foldl (fun acc q => fpAdd acc (fpExp (fpSub q.2 m))) 0#32
    (m, fpAdd m (fpLn sum))

end Sys2Proof.Machine
end

