-- ==== Sys2Proof/Machine/Cipher.lean ====
section
/-! DEFINITION. XTS-AES-256 (R142, R143). The manual names IEEE 1619 and AES and does not repeat them; the
cipher below is theirs (PRESUMED, log entry 10). -/

namespace Sys2Proof.Machine

/-! ### The field of AES -/

/-- Multiply by x modulo x^8 + x^4 + x^3 + x + 1. -/
def xtime (a : Byte) : Byte := if a.msb then (a <<< 1) ^^^ 0x1B#8 else a <<< 1

/-- Product in the field, over the bits of the second factor from bit n − 1 down. -/
def gmul (a b : Byte) : Nat → Byte
  | 0 => 0#8
  | n + 1 => xtime (gmul a (b >>> 1) n) ^^^ (if b.getLsbD 0 then a else 0#8)

/-- Product in the field. -/
def gf (a b : Byte) : Byte := gmul a b 8

/-- The inverse, a^254; zero maps to zero. -/
def gfInv (a : Byte) : Byte :=
  let a2 := gf a a; let a4 := gf a2 a2; let a8 := gf a4 a4; let a16 := gf a8 a8; let a32 := gf a16 a16
  let a64 := gf a32 a32; let a128 := gf a64 a64
  gf a2 (gf a4 (gf a8 (gf a16 (gf a32 (gf a64 a128)))))

/-- The substitution of one byte. -/
def sbox (a : Byte) : Byte :=
  let i := gfInv a
  i ^^^ i.rotateLeft 1 ^^^ i.rotateLeft 2 ^^^ i.rotateLeft 3 ^^^ i.rotateLeft 4 ^^^ 0x63#8

/-- The inverse substitution of one byte. -/
def sboxInv (a : Byte) : Byte := gfInv (a.rotateLeft 1 ^^^ a.rotateLeft 3 ^^^ a.rotateLeft 6 ^^^ 0x05#8)

/-! ### Key schedule -/

/-- Bytewise exclusive or. -/
def xorBytes (a b : List Byte) : List Byte := a.zipWith (· ^^^ ·) b

/-- The words of the schedule still to be made: count, index, round constant, and the last eight words,
oldest first. -/
def keyWords : Nat → Nat → Byte → List (List Byte) → List (List Byte)
  | 0, _, _, _ => []
  | f + 1, i, rc, ws =>
    let last := ws.getD 7 []
    let g :=
      if i % 8 = 0 then xorBytes ((last.drop 1 ++ last.take 1).map sbox) [rc, 0#8, 0#8, 0#8]
      else if i % 8 = 4 then last.map sbox else last
    let w := xorBytes (ws.getD 0 []) g
    w :: keyWords f (i + 1) (if i % 8 = 0 then xtime rc else rc) (ws.drop 1 ++ [w])

/-- The 15 round keys of a 32-byte key. -/
def roundKeys (key : List Byte) : List (List Byte) :=
  let ws := chunks 4 8 key
  chunks 16 15 ((ws ++ keyWords 52 8 1#8 ws).flatten)

/-! ### One block -/

/-- Rotate row r of the state by r columns, left for enciphering. The state is 16 bytes, column by column. -/
def shiftRows (left : Bool) (b : List Byte) : List Byte :=
  (List.range 16).map fun k =>
    let r := k % 4
    let c := k / 4
    b.getD (4 * ((if left then c + r else c + 4 - r) % 4) + r) 0#8

/-- Multiply each column by the circulant matrix with the given first row. -/
def mixColumns (m : List Byte) (b : List Byte) : List Byte :=
  (List.range 16).map fun k =>
    (List.range 4).foldl (fun acc i => acc ^^^ gf (m.getD ((i + 4 - k % 4) % 4) 0#8) (b.getD (4 * (k / 4) + i) 0#8)) 0#8

/-- The rounds of enciphering over the remaining round keys. -/
def encRounds : List (List Byte) → List Byte → List Byte
  | [], b => b
  | [k], b => xorBytes (shiftRows true (b.map sbox)) k
  | k :: r, b => encRounds r (xorBytes (mixColumns [2#8, 3#8, 1#8, 1#8] (shiftRows true (b.map sbox))) k)

/-- The rounds of deciphering over the remaining round keys, last key first. -/
def decRounds : List (List Byte) → List Byte → List Byte
  | [], b => b
  | [k], b => xorBytes ((shiftRows false b).map sboxInv) k
  | k :: r, b => decRounds r (mixColumns [14#8, 11#8, 13#8, 9#8] (xorBytes ((shiftRows false b).map sboxInv) k))

def aesEncrypt (key : List Byte) (b : List Byte) : List Byte :=
  match roundKeys key with
  | [] => b
  | k :: r => encRounds r (xorBytes b k)

def aesDecrypt (key : List Byte) (b : List Byte) : List Byte :=
  match (roundKeys key).reverse with
  | [] => b
  | k :: r => decRounds r (xorBytes b k)

/-! ### XTS -/

/-- Multiply the running tweak by alpha: a 128-bit little-endian number, doubled modulo the polynomial 0x87. -/
def tweakNext (t : Nat) : Nat := if 2 ^ 127 ≤ t then (2 * t - 2 ^ 128) ^^^ 0x87 else 2 * t

/-- The blocks of a data unit, each masked by its tweak. -/
def xtsBlocks (cipher : List Byte → List Byte) (t : Nat) : List (List Byte) → List Byte
  | [] => []
  | b :: r => let m := leBytes t 16; xorBytes (cipher (xorBytes b m)) m ++ xtsBlocks cipher (tweakNext t) r

/-- Encipher or decipher one data unit under a 64-byte key pair, Key1 then Key2, and a tweak value (R142). -/
def xts (enc : Bool) (key : List Byte) (tweak : Nat) (d : List Byte) : List Byte :=
  let k1 := fitTo 32 (key.take 32)
  let t := leNat (aesEncrypt (fitTo 32 (key.drop 32)) (leBytes tweak 16))
  xtsBlocks (if enc then aesEncrypt k1 else aesDecrypt k1) t (chunks 16 (d.length / 16 + 1) d)

/-- Tweak of a block image (R142). -/
def blockTweak (slate gen block : Nat) : Nat := slate * 2 ^ 40 + gen * 2 ^ 32 + block

/-- Tweak of index granule u (R143). -/
def indexTweak (slate gen u : Nat) : Nat := slate * 2 ^ 40 + gen * 2 ^ 32 + 0x80000000 + u

end Sys2Proof.Machine
end

