-- ==== Sys2Proof/Machine/Regs.lean ====
section
/-! DEFINITION. The register tables of the manual: address, access type, reset value, the bits that a write
sets, and over what a register is repeated (R9, R400, R402 to R414 and the page tables of the chapters). -/

namespace Sys2Proof.Machine

/-- Access types of R9. -/
inductive Acc where
  | ro | rw | w1c | wo | rc
  deriving DecidableEq, Repr

/-- What selects among the copies of a register: nothing, the page's tenant field, its tenant and tier
fields, or its tier field. -/
inductive Scope where
  | inst | tenant | tenantTier | tier
  deriving DecidableEq, Repr

/-- A row of a register table. A register array has count elements at the stride; a page family repeats over
pages; a wide register has its high word four bytes on (R406). -/
structure RegDesc where
  addr : Nat
  pages : Nat
  count : Nat
  stride : Nat
  acc : Acc
  reset : Nat
  mask : Nat
  scope : Scope
  wide : Bool
  deriving DecidableEq, Repr

/-! Control-space addresses (R400), named as in the manual. -/

namespace R

abbrev PAGE_ID : Nat := 0x00000
abbrev PAGE_CAP : Nat := 0x00004
abbrev PAGE_CTRL : Nat := 0x00008
abbrev PAGE_STAT : Nat := 0x0000C
abbrev IRQ_RAW : Nat := 0x00010
abbrev IRQ_EN : Nat := 0x00014
abbrev IRQ_STAT : Nat := 0x00018
abbrev IRQ_FORCE : Nat := 0x0001C
abbrev ERR_SYND : Nat := 0x00020
abbrev ERR_ADDR : Nat := 0x00024
abbrev ERR_CLR : Nat := 0x0002C
abbrev LOCK : Nat := 0x00030
abbrev SHADOW_CTRL : Nat := 0x00034
abbrev BLK_ID : Nat := 0x00040
abbrev BLK_REV : Nat := 0x00044
abbrev BLK_MODE : Nat := 0x00048
abbrev BLK_WHERE : Nat := 0x0004C
abbrev BLK_CAP0 : Nat := 0x00050
abbrev BLK_CAP1 : Nat := 0x00054
abbrev BLK_CAP2 : Nat := 0x00058
abbrev BLK_SCRATCH : Nat := 0x0005C
abbrev BLK_AOC_TIME : Nat := 0x00060
abbrev BLK_IRQ_SUM : Nat := 0x00068
abbrev BLK_IRQ_LINE : Nat := 0x0006C
abbrev RST_CAUSE : Nat := 0x01040
abbrev RST_CMD : Nat := 0x01044
abbrev RST_WDOG : Nat := 0x01048
abbrev RST_STRAP : Nat := 0x0104C
abbrev RST_STAT : Nat := 0x01050
abbrev RST_READY_US : Nat := 0x01054
abbrev RST_BOOT_ADDR : Nat := 0x01058
abbrev RST_BOOT_BYTES : Nat := 0x01060
abbrev RST_BOOT_CTRL : Nat := 0x01064
abbrev RST_CORE_RESETS : Nat := 0x01068
abbrev PWR_CTRL : Nat := 0x02040
abbrev PWR_STAT : Nat := 0x02044
abbrev PWR_GUARD : Nat := 0x02048
abbrev PWR_GAP : Nat := 0x0204C
abbrev PWR_EFF : Nat := 0x02050
abbrev PWR_NEXT_SRC : Nat := 0x02054
abbrev PWR_BUDGET : Nat := 0x02058
abbrev PWR_HINT : Nat := 0x0205C
abbrev PWR_DRAIN : Nat := 0x02060
abbrev PWR_PD_STAT : Nat := 0x02064
abbrev PWR_RES : Nat := 0x02068
abbrev PWR_UNPLANNED : Nat := 0x0207C
abbrev SEC_PROPOSE : Nat := 0x03040
abbrev SEC_NONCE : Nat := 0x03044
abbrev SEC_CS_NONCE : Nat := 0x03048
abbrev SEC_CS_DIGEST : Nat := 0x0304C
abbrev SEC_CS_STAT : Nat := 0x03050
abbrev SEC_PROP_DIGEST : Nat := 0x03054
abbrev SEC_KEY_STAT : Nat := 0x03058
abbrev SEC_PROP : Nat := 0x03080
abbrev SEC_KEY_STAGE : Nat := 0x03100
abbrev SEC_KEY_ID : Nat := 0x03140
abbrev SEC_QUOTA : Nat := 0x03180
abbrev SEC_TCFG : Nat := 0x031A0
abbrev PORT_PRIV_CTL : Nat := 0x04040
abbrev PORT_PRIV_SEC : Nat := 0x04048
abbrev PORT_PRIV_DBG : Nat := 0x04050
abbrev PORT_DBG_PRIV : Nat := 0x04058
abbrev PORT_VIEW : Nat := 0x0405C
abbrev PORT_LOCK_IDLE_LIMIT : Nat := 0x04060
abbrev PORT_ATTACH : Nat := 0x04064
abbrev PORT_LOCKS : Nat := 0x04068
abbrev PORT_REJECTS : Nat := 0x0406C
abbrev SLT_SEL : Nat := 0x05040
abbrev SLT_REC : Nat := 0x05080
abbrev SLT_CNT : Nat := 0x050C0
abbrev SHT_BASE : Nat := 0x06040
abbrev SHT_BYTES : Nat := 0x06048
abbrev SHT_CTRL : Nat := 0x0604C
abbrev SHT_STAT : Nat := 0x06050
abbrev SHT_REFUSE_ENTRY : Nat := 0x06054
abbrev SHT_REFUSE_FRAME : Nat := 0x06058
abbrev SHT_REFUSE_EXCESS : Nat := 0x0605C
abbrev SHT_FTB_BASE : Nat := 0x06060
abbrev SHT_FRAME : Nat := 0x06068
abbrev SHT_STEP_ID : Nat := 0x0606C
abbrev SHT_LIVE : Nat := 0x06070
abbrev SHT_PEAK : Nat := 0x06074
abbrev SHT_DUP_COUNT : Nat := 0x06078
abbrev SHT_NO_SLOT : Nat := 0x0607C
abbrev SHT_PROP_BASE : Nat := 0x06100
abbrev SHT_PROP_COUNT : Nat := 0x06108
abbrev SHT_PROP_STAT : Nat := 0x0610C
abbrev SHT_PROP_GATHERS : Nat := 0x06110
abbrev SHT_PROP_TEARS : Nat := 0x06114
abbrev SHT_INT_SAVE : Nat := 0x06118
abbrev SHT_INT_STAT : Nat := 0x06120
abbrev CUT_CTRL : Nat := 0x07040
abbrev CUT_ALPHA : Nat := 0x07044
abbrev CUT_BETA : Nat := 0x07048
abbrev CUT_GAMMA : Nat := 0x0704C
abbrev CUT_GUARD : Nat := 0x07050
abbrev CUT_MARGIN : Nat := 0x07054
abbrev CUT_RESERVE : Nat := 0x07058
abbrev CUT_PIN_CLASS : Nat := 0x0705C
abbrev CUT_STAT : Nat := 0x07060
abbrev CUT_DECISIONS : Nat := 0x07064
abbrev CUT_RECUTS : Nat := 0x07068
abbrev CUT_FALLBACKS : Nat := 0x0706C
abbrev CUT_LAST : Nat := 0x07070
abbrev CUT_LAST_FRAME : Nat := 0x07074
abbrev CUT_LAST_COST : Nat := 0x07078
abbrev CUT_LAST_SCORE : Nat := 0x07080
abbrev CUT_FC_SEL : Nat := 0x07084
abbrev CUT_FC_VAL : Nat := 0x07088
abbrev CUT_FC_CAP : Nat := 0x07090
abbrev CUT_SHIFT : Nat := 0x07098
abbrev TIER_CTRL : Nat := 0x08040
abbrev TIER_PLAN : Nat := 0x08044
abbrev TIER_PLAN_CXL : Nat := 0x08048
abbrev TIER_CAP : Nat := 0x0804C
abbrev TIER_CXL_BYTES : Nat := 0x08054
abbrev TIER_STAT : Nat := 0x0805C
abbrev TIER_HOST : Nat := 0x08060
abbrev TIER_HB_LIMIT : Nat := 0x08064
abbrev TIER_HB : Nat := 0x08068
abbrev TIER_FREE : Nat := 0x0806C
abbrev TIER_WAITS : Nat := 0x08070
abbrev TIER_BATCH : Nat := 0x08074
abbrev TIER_RETIRE : Nat := 0x08078
abbrev TIER_EXCLUDED : Nat := 0x0807C
abbrev TIER_RGN_SEL : Nat := 0x08100
abbrev TIER_RGN_BASE : Nat := 0x08104
abbrev TIER_RGN_BYTES : Nat := 0x0810C
abbrev TIER_RGN_CFG : Nat := 0x08114
abbrev TIER_RGN_CTRL : Nat := 0x08118
abbrev TIER_RGN_STAT : Nat := 0x0811C
abbrev VLT_CTRL : Nat := 0x09040
abbrev VLT_SHELVES : Nat := 0x09044
abbrev VLT_OWN : Nat := 0x09050
abbrev VLT_RETIRED : Nat := 0x09060
abbrev VLT_FREE : Nat := 0x09070
abbrev VLT_HWM : Nat := 0x09074
abbrev VLT_ECC_CORR : Nat := 0x09078
abbrev VLT_STALL : Nat := 0x0907C
abbrev STI_CTRL : Nat := 0x0A040
abbrev STI_STAT : Nat := 0x0A044
abbrev STI_RAW_IN : Nat := 0x0A048
abbrev STI_CODED_OUT : Nat := 0x0A050
abbrev STI_MODE : Nat := 0x0A058
abbrev STI_VERIFY_FAIL : Nat := 0x0A070
abbrev STI_FALLBACK : Nat := 0x0A074
abbrev CBK_SEL : Nat := 0x0B040
abbrev CBK_CTRL : Nat := 0x0B044
abbrev CBK_STAT : Nat := 0x0B048
abbrev CBK_KRAFT : Nat := 0x0B04C
abbrev CBK_COUNT : Nat := 0x0B050
abbrev CBK_WIN : Nat := 0x0B080
abbrev OPX_BCTRL : Nat := 0x0C040
abbrev OPX_BSTAT : Nat := 0x0C044
abbrev OPX_BLOCKS : Nat := 0x0C048
abbrev OPX_POISON : Nat := 0x0C04C
abbrev OPX_BOOK_MISS : Nat := 0x0C050
abbrev OPX_STALL : Nat := 0x0C054
abbrev OPX_QUEUE : Nat := 0x0C058
abbrev RTK_CTRL : Nat := 0x10040
abbrev RTK_SEL : Nat := 0x10044
abbrev RTK_SRC : Nat := 0x10048
abbrev RTK_STAT : Nat := 0x10050
abbrev RTK_SHARE : Nat := 0x10054
abbrev RTK_SEED : Nat := 0x10058
abbrev RTK_CHUNK : Nat := 0x1005C
abbrev RTK_LANES : Nat := 0x10060
abbrev RTK_JOBS : Nat := 0x10064
abbrev RTK_DISPATCHED : Nat := 0x10068
abbrev RTK_STEP_FAIL : Nat := 0x1006C
abbrev RTK_DONE : Nat := 0x10070
abbrev CNT_CTRL : Nat := 0x11040
abbrev CNT_SAMPLE_N : Nat := 0x11044
abbrev CNT_LOG_BASE : Nat := 0x11048
abbrev CNT_LOG_BYTES : Nat := 0x11050
abbrev CNT_COVERED : Nat := 0x11054
abbrev CNT_UNCOVERED : Nat := 0x11058
abbrev CNT_STAT : Nat := 0x1105C
abbrev CNT_CHECKED : Nat := 0x11060
abbrev CNT_MISMATCH : Nat := 0x11064
abbrev CNT_SKIP_INEXACT : Nat := 0x11068
abbrev MTR_CTRL : Nat := 0x12040
abbrev MTR_TAP : Nat := 0x12044
abbrev MTR_SEL : Nat := 0x12064
abbrev MTR_SUM : Nat := 0x12068
abbrev MTR_MAX : Nat := 0x12090
abbrev MTR_UNDER : Nat := 0x12094
abbrev MTR_NONFIN : Nat := 0x12098
abbrev MTR_FLAGS : Nat := 0x1209C
abbrev MTR_GN_CTRL : Nat := 0x12100
abbrev MTR_GN_TAGS : Nat := 0x12104
abbrev MTR_GN_CREW : Nat := 0x12108
abbrev MTR_GN_PKG : Nat := 0x12110
abbrev MTR_GN_ROUND : Nat := 0x12114
abbrev MTR_GN_AREA : Nat := 0x12118
abbrev MTR_GN_DST : Nat := 0x12120
abbrev MTR_GN_TIMEOUT : Nat := 0x12128
abbrev MTR_GN_STAT : Nat := 0x1212C
abbrev MTR_GN_RES : Nat := 0x12130
abbrev EXS_SEL : Nat := 0x13040
abbrev EXS_CFG : Nat := 0x13044
abbrev EXS_MARGIN : Nat := 0x13048
abbrev EXS_SCALE : Nat := 0x1304C
abbrev EXS_HMAX : Nat := 0x13050
abbrev EXS_HCOUNT : Nat := 0x13054
abbrev EXS_CTRL : Nat := 0x13058
abbrev EXS_OUT_BASE : Nat := 0x1305C
abbrev EXS_UPDATES : Nat := 0x13064
abbrev SPL_CTRL : Nat := 0x14040
abbrev SPL_CFG : Nat := 0x14044
abbrev SPL_STAT : Nat := 0x14048
abbrev SPL_PACE : Nat := 0x1404C
abbrev SPL_SRC : Nat := 0x14050
abbrev SPL_DST : Nat := 0x14058
abbrev SPL_COUNT : Nat := 0x14060
abbrev SPL_DONE : Nat := 0x14064
abbrev SPL_FLAG_ADDR : Nat := 0x14068
abbrev SPL_FLAG_VAL : Nat := 0x14070
abbrev SPL_START_FRAME : Nat := 0x14074
abbrev SPL_SLATE : Nat := 0x14078
abbrev SPL_SH_CFG : Nat := 0x14084
abbrev SPL_SH_PACE : Nat := 0x1408C
abbrev SPL_SH_SRC : Nat := 0x14090
abbrev SPL_SH_DST : Nat := 0x14098
abbrev SPL_SH_COUNT : Nat := 0x140A0
abbrev SPL_SH_FLAG_ADDR : Nat := 0x140A8
abbrev SPL_SH_FLAG_VAL : Nat := 0x140B0
abbrev SPL_SH_START_FRAME : Nat := 0x140B4
abbrev SPB_POOL : Nat := 0x18040
abbrev SPB_RETRY : Nat := 0x18048
abbrev SPB_LATE : Nat := 0x1804C
abbrev SPB_INFLIGHT : Nat := 0x18050
abbrev SPB_STAGING : Nat := 0x18054
abbrev SPB_QUEUE : Nat := 0x18058
abbrev SPB_RETRIES : Nat := 0x1805C
abbrev SPB_RD_BYTES : Nat := 0x18060
abbrev SPB_WR_BYTES : Nat := 0x18068
abbrev SPB_HALTED : Nat := 0x18070
abbrev SPB_HALTS : Nat := 0x18078
abbrev SPB_CANCELS : Nat := 0x1807C
abbrev EYE_CTRL : Nat := 0x19040
abbrev EYE_SEL : Nat := 0x19044
abbrev EYE_COUNT : Nat := 0x19048
abbrev EYE_TARGET : Nat := 0x1904C
abbrev EYE_CFG : Nat := 0x19050
abbrev EYE_TCFG : Nat := 0x19054
abbrev EYE_PART : Nat := 0x19058
abbrev EYE_STAT : Nat := 0x1905C
abbrev EYE_CTX_BASE : Nat := 0x19060
abbrev EYE_LEND_MIN : Nat := 0x19068
abbrev EYE_UNDERFLOWS : Nat := 0x1906C
abbrev EYE_OVERFLOWS : Nat := 0x19070
abbrev EYE_TIMEOUTS : Nat := 0x19074
abbrev EYE_DB_DROPS : Nat := 0x19078
abbrev EYE_WAKE_MASK : Nat := 0x19080
abbrev EYE_DB_BASE : Nat := 0x19088
abbrev EYE_CLAP : Nat := 0x19100
abbrev LACE_CTRL : Nat := 0x1A040
abbrev LACE_STAT : Nat := 0x1A044
abbrev LACE_DONE : Nat := 0x1A048
abbrev LACE_WIRE : Nat := 0x1A080
abbrev LACE_ARR : Nat := 0x1A0C0
abbrev LACE_ROLL : Nat := 0x1A100
abbrev LACE_RELEASES : Nat := 0x1A180
abbrev LACE_LOST : Nat := 0x1A184
abbrev CLAP_LEVEL : Nat := 0x1A188
abbrev CLAP_FIRE : Nat := 0x1A190
abbrev REC_HEAD : Nat := 0x1B040
abbrev REC_TAIL : Nat := 0x1B044
abbrev REC_CURSOR : Nat := 0x1B048
abbrev REC_CTRL : Nat := 0x1B04C
abbrev REC_STAT : Nat := 0x1B050
abbrev REC_OVERWRITTEN : Nat := 0x1B054
abbrev REC_TIME : Nat := 0x1B058
abbrev REC_OPTIME : Nat := 0x1B060
abbrev REC_PCYCLES : Nat := 0x1B068
abbrev REC_WIN : Nat := 0x1B080
abbrev RPL_CTRL : Nat := 0x1C040
abbrev RPL_BASE : Nat := 0x1C044
abbrev RPL_BYTES : Nat := 0x1C04C
abbrev RPL_PLAY_BASE : Nat := 0x1C050
abbrev RPL_PLAY_BYTES : Nat := 0x1C058
abbrev RPL_WRAP_BASE : Nat := 0x1C05C
abbrev RPL_WRAP_BYTES : Nat := 0x1C064
abbrev RPL_STAT : Nat := 0x1C068
abbrev RPL_RECORDS : Nat := 0x1C06C
abbrev RPL_DIV_ENTRY : Nat := 0x1C070
abbrev RPL_DIV_BLOCK : Nat := 0x1C074
abbrev RPL_DIV_FOUND : Nat := 0x1C078
abbrev RPL_DROPPED : Nat := 0x1C07C
abbrev FLT_LAST_CODE : Nat := 0x1D040
abbrev FLT_LAST_SEQ : Nat := 0x1D044
abbrev FLT_HALTED : Nat := 0x1D048
abbrev FLT_LOST : Nat := 0x1D04C
abbrev FLT_CNT : Nat := 0x1D050
abbrev DBG_CTRL : Nat := 0x1E040
abbrev DBG_STAT : Nat := 0x1E044
abbrev DBG_SEQ_PC : Nat := 0x1E048
abbrev DBG_DECODED : Nat := 0x1E04C
abbrev DBG_SCRATCH : Nat := 0x1E050
abbrev DBG_LB_CTRL : Nat := 0x1E080
abbrev DBG_LB_SEED : Nat := 0x1E084
abbrev DBG_LB_BANKS : Nat := 0x1E088
abbrev DBG_LB_STAT : Nat := 0x1E090
abbrev DBG_LB_EXP : Nat := 0x1E094
abbrev DBG_LB_FOUND : Nat := 0x1E098
abbrev DBG_LB_FAIL : Nat := 0x1E0A0
abbrev DBG_LB_CYCLES : Nat := 0x1E0A8
abbrev PEER_CTRL : Nat := 0x1F040
abbrev PEER_PARTNER : Nat := 0x1F044
abbrev PEER_STAT : Nat := 0x1F048
abbrev PEER_LOST_MAP : Nat := 0x1F050
abbrev PEER_SEQ : Nat := 0x1F058
abbrev PEER_OUTSTANDING : Nat := 0x1F05C
abbrev PEER_RESENDS : Nat := 0x1F060
abbrev PEER_DUPS : Nat := 0x1F064
abbrev PEER_STALE : Nat := 0x1F068
abbrev PEER_TENANT_REJ : Nat := 0x1F06C
abbrev PEER_TX_BYTES : Nat := 0x1F070
abbrev PEER_RX_BYTES : Nat := 0x1F078
abbrev PEER_LENT_OPS : Nat := 0x1F080

end R

/-- Part 1 of the register table. -/
def regTable1 : List RegDesc := [
  ⟨R.BLK_ID, 1, 1, 0x4, .ro, 0xE5D4C17, 0x0, .inst, false⟩,
  ⟨R.BLK_REV, 1, 1, 0x4, .ro, 0x10100, 0x0, .inst, false⟩,
  ⟨R.BLK_MODE, 1, 1, 0x4, .rw, 0x1, 0x1FFF, .inst, false⟩,
  ⟨R.BLK_WHERE, 1, 1, 0x4, .ro, 0x0, 0x0, .inst, false⟩,
  ⟨R.BLK_CAP0, 1, 1, 0x4, .ro, 0xE10000, 0x0, .inst, false⟩,
  ⟨R.BLK_CAP1, 1, 1, 0x4, .ro, 0x10301000, 0x0, .inst, false⟩,
  ⟨R.BLK_CAP2, 1, 1, 0x4, .ro, 0xC080840, 0x0, .inst, false⟩,
  ⟨R.BLK_SCRATCH, 1, 1, 0x4, .rw, 0x0, 0xFFFFFFFF, .inst, false⟩,
  ⟨R.BLK_AOC_TIME, 1, 1, 0x8, .ro, 0x0, 0x0, .inst, true⟩,
  ⟨R.BLK_IRQ_SUM, 1, 1, 0x4, .ro, 0x0, 0x0, .inst, false⟩,
  ⟨R.BLK_IRQ_LINE, 1, 1, 0x4, .ro, 0x0, 0x0, .inst, false⟩,
  ⟨R.RST_CAUSE, 1, 1, 0x4, .w1c, 0x1, 0x0, .inst, false⟩,
  ⟨R.RST_CMD, 1, 1, 0x4, .wo, 0x0, 0x0, .inst, false⟩,
  ⟨R.RST_WDOG, 1, 1, 0x4, .rw, 0x27100064, 0xFFFFFFFF, .inst, false⟩,
  ⟨R.RST_STRAP, 1, 1, 0x4, .ro, 0x0, 0x0, .inst, false⟩,
  ⟨R.RST_STAT, 1, 1, 0x4, .ro, 0x0, 0x0, .inst, false⟩,
  ⟨R.RST_READY_US, 1, 1, 0x4, .ro, 0x0, 0x0, .inst, false⟩,
  ⟨R.RST_BOOT_ADDR, 1, 1, 0x8, .rw, 0x0, 0xFFFFFFFFFFFFFFC0, .inst, true⟩,
  ⟨R.RST_BOOT_BYTES, 1, 1, 0x4, .rw, 0x0, 0xFFFFFF, .inst, false⟩,
  ⟨R.RST_BOOT_CTRL, 1, 1, 0x4, .wo, 0x0, 0x0, .inst, false⟩,
  ⟨R.RST_CORE_RESETS, 1, 1, 0x4, .rc, 0x0, 0x0, .inst, false⟩,
  ⟨R.PWR_CTRL, 1, 1, 0x4, .wo, 0x0, 0x0, .inst, false⟩,
  ⟨R.PWR_STAT, 1, 1, 0x4, .ro, 0x0, 0x0, .inst, false⟩,
  ⟨R.PWR_GUARD, 1, 1, 0x4, .rw, 0xA, 0x3F, .inst, false⟩,
  ⟨R.PWR_GAP, 1, 1, 0x4, .ro, 0x0, 0x0, .inst, false⟩,
  ⟨R.PWR_EFF, 1, 1, 0x4, .ro, 0x0, 0x0, .inst, false⟩,
  ⟨R.PWR_NEXT_SRC, 1, 1, 0x4, .ro, 0x0, 0x0, .inst, false⟩,
  ⟨R.PWR_BUDGET, 1, 1, 0x4, .ro, 0x104650, 0x0, .inst, false⟩,
  ⟨R.PWR_HINT, 1, 1, 0x4, .rw, 0x0, 0xFFFFFFFF, .inst, false⟩,
  ⟨R.PWR_DRAIN, 1, 1, 0x4, .rw, 0x3E80014, 0xFFFFFFFF, .inst, false⟩,
  ⟨R.PWR_PD_STAT, 1, 1, 0x4, .ro, 0x0, 0x0, .inst, false⟩,
  ⟨R.PWR_RES, 1, 5, 0x4, .rc, 0x0, 0x0, .inst, false⟩,
  ⟨R.PWR_UNPLANNED, 1, 1, 0x4, .rc, 0x0, 0x0, .inst, false⟩,
  ⟨R.SEC_PROPOSE, 1, 1, 0x4, .wo, 0x0, 0x0, .inst, false⟩,
  ⟨R.SEC_NONCE, 1, 1, 0x4, .rw, 0x0, 0xFFFFFFFF, .inst, false⟩,
  ⟨R.SEC_CS_NONCE, 1, 1, 0x4, .wo, 0x0, 0x0, .inst, false⟩,
  ⟨R.SEC_CS_DIGEST, 1, 1, 0x4, .wo, 0x0, 0x0, .inst, false⟩,
  ⟨R.SEC_CS_STAT, 1, 1, 0x4, .ro, 0x0, 0x0, .inst, false⟩,
  ⟨R.SEC_PROP_DIGEST, 1, 1, 0x4, .ro, 0x0, 0x0, .inst, false⟩,
  ⟨R.SEC_KEY_STAT, 1, 1, 0x4, .ro, 0x0, 0x0, .inst, false⟩]

/-- Part 2 of the register table. -/
def regTable2 : List RegDesc := [
  ⟨R.SEC_PROP, 1, 32, 0x4, .rw, 0x0, 0xFFFFFFFF, .inst, false⟩,
  ⟨R.SEC_KEY_STAGE, 1, 16, 0x4, .wo, 0x0, 0x0, .inst, false⟩,
  ⟨R.SEC_KEY_ID, 1, 16, 0x4, .ro, 0x0, 0x0, .inst, false⟩,
  ⟨R.SEC_QUOTA, 1, 8, 0x4, .ro, 0x0, 0x0, .inst, false⟩,
  ⟨R.SEC_TCFG, 1, 8, 0x4, .ro, 0x0, 0x0, .inst, false⟩,
  ⟨R.PORT_PRIV_CTL, 1, 1, 0x8, .ro, 0x9AAAAAAAAAAAAA6A, 0x0, .inst, true⟩,
  ⟨R.PORT_PRIV_SEC, 1, 1, 0x8, .ro, 0x5555555555555599, 0x0, .inst, true⟩,
  ⟨R.PORT_PRIV_DBG, 1, 1, 0x8, .ro, 0x6555555555555515, 0x0, .inst, true⟩,
  ⟨R.PORT_DBG_PRIV, 1, 1, 0x4, .ro, 0x4, 0x0, .inst, false⟩,
  ⟨R.PORT_VIEW, 1, 1, 0x4, .ro, 0x0, 0x0, .inst, false⟩,
  ⟨R.PORT_LOCK_IDLE_LIMIT, 1, 1, 0x4, .rw, 0x1388, 0xFFFFFF, .inst, false⟩,
  ⟨R.PORT_ATTACH, 1, 1, 0x4, .ro, 0x1F, 0x0, .inst, false⟩,
  ⟨R.PORT_LOCKS, 1, 1, 0x4, .ro, 0x0, 0x0, .inst, false⟩,
  ⟨R.PORT_REJECTS, 1, 1, 0x4, .rc, 0x0, 0x0, .inst, false⟩,
  ⟨R.SLT_SEL, 1, 1, 0x4, .rw, 0x0, 0xFFFF, .inst, false⟩,
  ⟨R.SLT_REC, 1, 16, 0x4, .ro, 0x0, 0x0, .inst, false⟩,
  ⟨R.SLT_CNT, 1, 13, 0x4, .ro, 0x0, 0x0, .inst, false⟩,
  ⟨R.SHT_BASE, 1, 1, 0x8, .rw, 0x0, 0xFFFFFFFFFFFFF000, .inst, true⟩,
  ⟨R.SHT_BYTES, 1, 1, 0x4, .rw, 0x0, 0x3FFFFFF, .inst, false⟩,
  ⟨R.SHT_CTRL, 1, 1, 0x4, .rw, 0x0, 0x7, .inst, false⟩,
  ⟨R.SHT_STAT, 1, 1, 0x4, .ro, 0x0, 0x0, .tenant, false⟩,
  ⟨R.SHT_REFUSE_ENTRY, 1, 1, 0x4, .ro, 0xFFFFFFFF, 0x0, .tenant, false⟩,
  ⟨R.SHT_REFUSE_FRAME, 1, 1, 0x4, .ro, 0xFFFFFFFF, 0x0, .tenant, false⟩,
  ⟨R.SHT_REFUSE_EXCESS, 1, 1, 0x4, .ro, 0x0, 0x0, .tenant, false⟩,
  ⟨R.SHT_FTB_BASE, 1, 1, 0x8, .rw, 0x0, 0xFFFFFFFFFFFFF000, .tenant, true⟩,
  ⟨R.SHT_FRAME, 1, 1, 0x4, .ro, 0x0, 0x0, .tenant, false⟩,
  ⟨R.SHT_STEP_ID, 1, 1, 0x4, .ro, 0x0, 0x0, .tenant, false⟩,
  ⟨R.SHT_LIVE, 1, 1, 0x4, .ro, 0x0, 0x0, .tenant, false⟩,
  ⟨R.SHT_PEAK, 1, 1, 0x4, .ro, 0x0, 0x0, .tenant, false⟩,
  ⟨R.SHT_DUP_COUNT, 1, 1, 0x4, .rc, 0x0, 0x0, .inst, false⟩,
  ⟨R.SHT_NO_SLOT, 1, 1, 0x4, .rc, 0x0, 0x0, .inst, false⟩,
  ⟨R.SHT_PROP_BASE, 1, 1, 0x8, .rw, 0x0, 0xFFFFFFFFFFFFFFE0, .tenant, true⟩,
  ⟨R.SHT_PROP_COUNT, 1, 1, 0x4, .rw, 0x0, 0xFFFF, .tenant, false⟩,
  ⟨R.SHT_PROP_STAT, 1, 1, 0x4, .ro, 0x0, 0x0, .inst, false⟩,
  ⟨R.SHT_PROP_GATHERS, 1, 1, 0x4, .rc, 0x0, 0x0, .inst, false⟩,
  ⟨R.SHT_PROP_TEARS, 1, 1, 0x4, .rc, 0x0, 0x0, .inst, false⟩,
  ⟨R.SHT_INT_SAVE, 1, 1, 0x8, .rw, 0x0, 0xFFFFFFFFFFFFF000, .tenant, true⟩,
  ⟨R.SHT_INT_STAT, 1, 1, 0x4, .ro, 0x0, 0x0, .tenant, false⟩,
  ⟨R.CUT_CTRL, 1, 1, 0x4, .rw, 0x100, 0x107, .inst, false⟩,
  ⟨R.CUT_ALPHA, 1, 1, 0x4, .rw, 0x10000, 0xFFFFFFFF, .tenant, false⟩]

/-- Part 3 of the register table. -/
def regTable3 : List RegDesc := [
  ⟨R.CUT_BETA, 1, 1, 0x4, .rw, 0x10000, 0xFFFFFFFF, .tenant, false⟩,
  ⟨R.CUT_GAMMA, 1, 1, 0x4, .rw, 0x10000, 0xFFFFFFFF, .tenant, false⟩,
  ⟨R.CUT_GUARD, 1, 1, 0x4, .rw, 0x1F4, 0xFFFFFFFF, .tenant, false⟩,
  ⟨R.CUT_MARGIN, 1, 1, 0x4, .rw, 0xC8, 0xFFFFFFFF, .tenant, false⟩,
  ⟨R.CUT_RESERVE, 1, 1, 0x4, .rw, 0x0, 0x3FFFFF, .tenant, false⟩,
  ⟨R.CUT_PIN_CLASS, 1, 1, 0x4, .rw, 0x240A, 0x7E3F, .tenant, false⟩,
  ⟨R.CUT_STAT, 1, 1, 0x4, .ro, 0x0, 0x0, .tenant, false⟩,
  ⟨R.CUT_DECISIONS, 1, 1, 0x4, .rc, 0x0, 0x0, .inst, false⟩,
  ⟨R.CUT_RECUTS, 1, 1, 0x4, .rc, 0x0, 0x0, .inst, false⟩,
  ⟨R.CUT_FALLBACKS, 1, 1, 0x4, .rc, 0x0, 0x0, .inst, false⟩,
  ⟨R.CUT_LAST, 1, 1, 0x4, .ro, 0x0, 0x0, .inst, false⟩,
  ⟨R.CUT_LAST_FRAME, 1, 1, 0x4, .ro, 0x0, 0x0, .inst, false⟩,
  ⟨R.CUT_LAST_COST, 1, 1, 0x8, .ro, 0x0, 0x0, .inst, true⟩,
  ⟨R.CUT_LAST_SCORE, 1, 1, 0x4, .ro, 0x0, 0x0, .inst, false⟩,
  ⟨R.CUT_FC_SEL, 1, 1, 0x4, .rw, 0x0, 0x70703FF, .inst, false⟩,
  ⟨R.CUT_FC_VAL, 1, 1, 0x8, .ro, 0x0, 0x0, .inst, true⟩,
  ⟨R.CUT_FC_CAP, 1, 1, 0x8, .ro, 0x0, 0x0, .inst, true⟩,
  ⟨R.CUT_SHIFT, 1, 1, 0x4, .ro, 0x0, 0x0, .tenant, false⟩,
  ⟨R.TIER_CTRL, 1, 1, 0x4, .rw, 0x100, 0x707, .inst, false⟩,
  ⟨R.TIER_PLAN, 1, 1, 0x4, .rw, 0x0, 0xFFFFFFFF, .tier, false⟩,
  ⟨R.TIER_PLAN_CXL, 1, 1, 0x4, .rw, 0x640000, 0xFFFFFFFF, .inst, false⟩,
  ⟨R.TIER_CAP, 1, 1, 0x8, .rw, 0x0, 0x1FFFFFFFFFE0, .tenantTier, true⟩,
  ⟨R.TIER_CXL_BYTES, 1, 1, 0x8, .rw, 0x0, 0x1FFFFFFFF000, .tenant, true⟩,
  ⟨R.TIER_STAT, 1, 1, 0x4, .ro, 0xC0000, 0x0, .inst, false⟩,
  ⟨R.TIER_HOST, 1, 1, 0x4, .wo, 0x0, 0x0, .inst, false⟩,
  ⟨R.TIER_HB_LIMIT, 1, 1, 0x4, .rw, 0x186A0, 0xFFFFFF, .inst, false⟩,
  ⟨R.TIER_HB, 1, 1, 0x4, .wo, 0x0, 0x0, .inst, false⟩,
  ⟨R.TIER_FREE, 1, 1, 0x4, .ro, 0x0, 0x0, .tenantTier, false⟩,
  ⟨R.TIER_WAITS, 1, 1, 0x4, .rc, 0x0, 0x0, .inst, false⟩,
  ⟨R.TIER_BATCH, 1, 1, 0x4, .rw, 0x7D00040, 0xFFF00FF, .inst, false⟩,
  ⟨R.TIER_RETIRE, 1, 1, 0x4, .rc, 0x0, 0x0, .inst, false⟩,
  ⟨R.TIER_EXCLUDED, 1, 1, 0x4, .ro, 0x0, 0x0, .inst, false⟩,
  ⟨R.TIER_RGN_SEL, 1, 1, 0x4, .rw, 0x0, 0x3F, .inst, false⟩,
  ⟨R.TIER_RGN_BASE, 1, 1, 0x8, .rw, 0x0, 0xFFFFFFFFFFFFF000, .inst, true⟩,
  ⟨R.TIER_RGN_BYTES, 1, 1, 0x8, .rw, 0x0, 0xFFFFFFFFFFFFF000, .inst, true⟩,
  ⟨R.TIER_RGN_CFG, 1, 1, 0x4, .rw, 0x0, 0xFF7377, .inst, false⟩,
  ⟨R.TIER_RGN_CTRL, 1, 1, 0x4, .wo, 0x0, 0x0, .inst, false⟩,
  ⟨R.TIER_RGN_STAT, 1, 1, 0x4, .ro, 0x0, 0x0, .inst, false⟩,
  ⟨R.VLT_CTRL, 1, 1, 0x4, .rw, 0x0, 0x7, .inst, false⟩,
  ⟨R.VLT_SHELVES, 1, 1, 0x4, .ro, 0x700070, 0x0, .inst, false⟩]

/-- Part 4 of the register table. -/
def regTable4 : List RegDesc := [
  ⟨R.VLT_OWN, 1, 4, 0x4, .ro, 0x0, 0x0, .tenant, false⟩,
  ⟨R.VLT_RETIRED, 1, 4, 0x4, .ro, 0x0, 0x0, .inst, false⟩,
  ⟨R.VLT_FREE, 1, 1, 0x4, .ro, 0x7000, 0x0, .tenant, false⟩,
  ⟨R.VLT_HWM, 1, 1, 0x4, .rc, 0x0, 0x0, .tenant, false⟩,
  ⟨R.VLT_ECC_CORR, 1, 1, 0x4, .rc, 0x0, 0x0, .inst, false⟩,
  ⟨R.VLT_STALL, 1, 1, 0x4, .rc, 0x0, 0x0, .inst, false⟩,
  ⟨R.STI_CTRL, 1, 1, 0x4, .rw, 0x140, 0x1FF, .inst, false⟩,
  ⟨R.STI_STAT, 1, 1, 0x4, .ro, 0xFF, 0x0, .inst, false⟩,
  ⟨R.STI_RAW_IN, 1, 1, 0x8, .ro, 0x0, 0x0, .inst, true⟩,
  ⟨R.STI_CODED_OUT, 1, 1, 0x8, .ro, 0x0, 0x0, .inst, true⟩,
  ⟨R.STI_MODE, 1, 6, 0x4, .rc, 0x0, 0x0, .inst, false⟩,
  ⟨R.STI_VERIFY_FAIL, 1, 1, 0x4, .rc, 0x0, 0x0, .inst, false⟩,
  ⟨R.STI_FALLBACK, 1, 1, 0x4, .rc, 0x0, 0x0, .inst, false⟩,
  ⟨R.CBK_SEL, 1, 1, 0x4, .rw, 0x0, 0xFFF, .inst, false⟩,
  ⟨R.CBK_CTRL, 1, 1, 0x4, .wo, 0x0, 0x0, .inst, false⟩,
  ⟨R.CBK_STAT, 1, 1, 0x4, .ro, 0x3, 0x0, .inst, false⟩,
  ⟨R.CBK_KRAFT, 1, 1, 0x4, .ro, 0x8000, 0x0, .inst, false⟩,
  ⟨R.CBK_COUNT, 1, 1, 0x4, .ro, 0x1, 0x0, .inst, false⟩,
  ⟨R.CBK_WIN, 1, 32, 0x4, .rw, 0x0, 0xFFFFFFFF, .inst, false⟩,
  ⟨R.OPX_BCTRL, 4, 12, 0x20, .rw, 0x0, 0x1, .inst, false⟩,
  ⟨R.OPX_BSTAT, 4, 12, 0x20, .ro, 0x200000, 0x0, .inst, false⟩,
  ⟨R.OPX_BLOCKS, 4, 12, 0x20, .rc, 0x0, 0x0, .inst, false⟩,
  ⟨R.OPX_POISON, 4, 12, 0x20, .rc, 0x0, 0x0, .inst, false⟩,
  ⟨R.OPX_BOOK_MISS, 4, 12, 0x20, .rc, 0x0, 0x0, .inst, false⟩,
  ⟨R.OPX_STALL, 4, 12, 0x20, .rc, 0x0, 0x0, .inst, false⟩,
  ⟨R.OPX_QUEUE, 4, 12, 0x20, .ro, 0x0, 0x0, .inst, false⟩,
  ⟨R.RTK_CTRL, 1, 1, 0x4, .rw, 0x0, 0x7, .inst, false⟩,
  ⟨R.RTK_SEL, 1, 1, 0x4, .rw, 0x0, 0xFFF, .inst, false⟩,
  ⟨R.RTK_SRC, 1, 1, 0x8, .rw, 0x0, 0xFFFFFFFFFFFFFFE0, .inst, true⟩,
  ⟨R.RTK_STAT, 1, 1, 0x4, .ro, 0x0, 0x0, .inst, false⟩,
  ⟨R.RTK_SHARE, 1, 1, 0x4, .rw, 0x1010, 0x3F1F, .tenant, false⟩,
  ⟨R.RTK_SEED, 1, 1, 0x4, .rw, 0x0, 0xFFFFFFFF, .tenant, false⟩,
  ⟨R.RTK_CHUNK, 1, 1, 0x4, .rw, 0x100, 0x3FF, .inst, false⟩,
  ⟨R.RTK_LANES, 1, 1, 0x4, .ro, 0x10FFFF, 0x0, .inst, false⟩,
  ⟨R.RTK_JOBS, 1, 1, 0x4, .ro, 0x0, 0x0, .inst, false⟩,
  ⟨R.RTK_DISPATCHED, 1, 1, 0x4, .rc, 0x0, 0x0, .inst, false⟩,
  ⟨R.RTK_STEP_FAIL, 1, 1, 0x4, .rc, 0x0, 0x0, .inst, false⟩,
  ⟨R.RTK_DONE, 1, 1, 0x4, .rc, 0x0, 0x0, .inst, false⟩,
  ⟨R.CNT_CTRL, 1, 1, 0x4, .rw, 0x0, 0x307, .inst, false⟩,
  ⟨R.CNT_SAMPLE_N, 1, 1, 0x4, .rw, 0x40, 0xFFFF, .tenant, false⟩]

/-- Part 5 of the register table. -/
def regTable5 : List RegDesc := [
  ⟨R.CNT_LOG_BASE, 1, 1, 0x8, .rw, 0x0, 0xFFFFFFFFFFFFF000, .tenant, true⟩,
  ⟨R.CNT_LOG_BYTES, 1, 1, 0x4, .rw, 0x0, 0xFFFFFFFF, .tenant, false⟩,
  ⟨R.CNT_COVERED, 1, 1, 0x4, .ro, 0x0, 0x0, .tenant, false⟩,
  ⟨R.CNT_UNCOVERED, 1, 1, 0x4, .ro, 0x0, 0x0, .tenant, false⟩,
  ⟨R.CNT_STAT, 1, 1, 0x4, .ro, 0x0, 0x0, .tenant, false⟩,
  ⟨R.CNT_CHECKED, 1, 1, 0x4, .rc, 0x0, 0x0, .inst, false⟩,
  ⟨R.CNT_MISMATCH, 1, 1, 0x4, .rc, 0x0, 0x0, .inst, false⟩,
  ⟨R.CNT_SKIP_INEXACT, 1, 1, 0x4, .rc, 0x0, 0x0, .inst, false⟩,
  ⟨R.MTR_CTRL, 1, 1, 0x4, .rw, 0x200, 0x207, .inst, false⟩,
  ⟨R.MTR_TAP, 1, 8, 0x4, .rw, 0x0, 0x1FFFFFF, .inst, false⟩,
  ⟨R.MTR_SEL, 1, 1, 0x4, .rw, 0x0, 0x30FFF, .inst, false⟩,
  ⟨R.MTR_SUM, 1, 10, 0x4, .ro, 0x0, 0x0, .inst, false⟩,
  ⟨R.MTR_MAX, 1, 1, 0x4, .ro, 0x0, 0x0, .inst, false⟩,
  ⟨R.MTR_UNDER, 1, 1, 0x4, .ro, 0x0, 0x0, .inst, false⟩,
  ⟨R.MTR_NONFIN, 1, 1, 0x4, .ro, 0x0, 0x0, .inst, false⟩,
  ⟨R.MTR_FLAGS, 1, 1, 0x4, .ro, 0x0, 0x0, .inst, false⟩,
  ⟨R.MTR_GN_CTRL, 1, 1, 0x4, .rw, 0x2, 0x6, .inst, false⟩,
  ⟨R.MTR_GN_TAGS, 1, 1, 0x4, .rw, 0xFFF0000, 0xFFF0FFF, .inst, false⟩,
  ⟨R.MTR_GN_CREW, 1, 1, 0x8, .rw, 0xFFFFFFFFFFFFFFFF, 0xFFFFFFFFFFFFFFFF, .inst, true⟩,
  ⟨R.MTR_GN_PKG, 1, 1, 0x4, .rw, 0x1, 0xFFFF, .inst, false⟩,
  ⟨R.MTR_GN_ROUND, 1, 1, 0x4, .rw, 0x0, 0xFFFFFFFF, .inst, false⟩,
  ⟨R.MTR_GN_AREA, 1, 1, 0x8, .rw, 0x0, 0xFFFFFFFFFFFFE000, .inst, true⟩,
  ⟨R.MTR_GN_DST, 1, 1, 0x8, .rw, 0x0, 0xFFFFFFFFFFFFFF80, .inst, true⟩,
  ⟨R.MTR_GN_TIMEOUT, 1, 1, 0x4, .rw, 0x3E8, 0xFFFF, .inst, false⟩,
  ⟨R.MTR_GN_STAT, 1, 1, 0x4, .ro, 0x0, 0x0, .inst, false⟩,
  ⟨R.MTR_GN_RES, 1, 32, 0x4, .ro, 0x0, 0x0, .inst, false⟩,
  ⟨R.EXS_SEL, 1, 1, 0x4, .rw, 0x0, 0x7FF, .inst, false⟩,
  ⟨R.EXS_CFG, 1, 1, 0x4, .rw, 0x40000, 0x1FFFFFFF, .inst, false⟩,
  ⟨R.EXS_MARGIN, 1, 1, 0x4, .rw, 0x40000000, 0xFFFFFFFF, .inst, false⟩,
  ⟨R.EXS_SCALE, 1, 1, 0x4, .rw, 0x7F, 0xFF, .inst, false⟩,
  ⟨R.EXS_HMAX, 1, 1, 0x4, .ro, 0x0, 0x0, .inst, false⟩,
  ⟨R.EXS_HCOUNT, 1, 1, 0x4, .ro, 0x0, 0x0, .inst, false⟩,
  ⟨R.EXS_CTRL, 1, 1, 0x4, .wo, 0x0, 0x0, .inst, false⟩,
  ⟨R.EXS_OUT_BASE, 1, 1, 0x8, .rw, 0x0, 0xFFFFFFFFFFFFF000, .inst, true⟩,
  ⟨R.EXS_UPDATES, 1, 1, 0x4, .rc, 0x0, 0x0, .inst, false⟩,
  ⟨R.SPL_CTRL, 4, 16, 0x80, .wo, 0x0, 0x0, .inst, false⟩,
  ⟨R.SPL_CFG, 4, 16, 0x80, .rw, 0x0, 0x1FFF1FFF, .inst, false⟩,
  ⟨R.SPL_STAT, 4, 16, 0x80, .w1c, 0x0, 0x0, .inst, false⟩,
  ⟨R.SPL_PACE, 4, 16, 0x80, .rw, 0x0, 0xFFFFFFFF, .inst, false⟩,
  ⟨R.SPL_SRC, 4, 16, 0x80, .rw, 0x0, 0xFFFFFFFFFFFFFFE0, .inst, true⟩]

/-- Part 6 of the register table. -/
def regTable6 : List RegDesc := [
  ⟨R.SPL_DST, 4, 16, 0x80, .rw, 0x0, 0xFFFFFFFFFFFFFFE0, .inst, true⟩,
  ⟨R.SPL_COUNT, 4, 16, 0x80, .rw, 0x0, 0x3FFFFFF, .inst, false⟩,
  ⟨R.SPL_DONE, 4, 16, 0x80, .ro, 0x0, 0x0, .inst, false⟩,
  ⟨R.SPL_FLAG_ADDR, 4, 16, 0x80, .rw, 0x0, 0xFFFFFFFFFFFFFFFC, .inst, true⟩,
  ⟨R.SPL_FLAG_VAL, 4, 16, 0x80, .rw, 0x0, 0xFFFFFFFF, .inst, false⟩,
  ⟨R.SPL_START_FRAME, 4, 16, 0x80, .rw, 0x0, 0xFFFFFF, .inst, false⟩,
  ⟨R.SPL_SLATE, 4, 16, 0x80, .ro, 0x0, 0x0, .inst, false⟩,
  ⟨R.SPL_SH_CFG, 4, 16, 0x80, .rw, 0x0, 0x1FFF1FFF, .inst, false⟩,
  ⟨R.SPL_SH_PACE, 4, 16, 0x80, .rw, 0x0, 0xFFFFFFFF, .inst, false⟩,
  ⟨R.SPL_SH_SRC, 4, 16, 0x80, .rw, 0x0, 0xFFFFFFFFFFFFFFE0, .inst, true⟩,
  ⟨R.SPL_SH_DST, 4, 16, 0x80, .rw, 0x0, 0xFFFFFFFFFFFFFFE0, .inst, true⟩,
  ⟨R.SPL_SH_COUNT, 4, 16, 0x80, .rw, 0x0, 0x3FFFFFF, .inst, false⟩,
  ⟨R.SPL_SH_FLAG_ADDR, 4, 16, 0x80, .rw, 0x0, 0xFFFFFFFFFFFFFFFC, .inst, true⟩,
  ⟨R.SPL_SH_FLAG_VAL, 4, 16, 0x80, .rw, 0x0, 0xFFFFFFFF, .inst, false⟩,
  ⟨R.SPL_SH_START_FRAME, 4, 16, 0x80, .rw, 0x0, 0xFFFFFF, .inst, false⟩,
  ⟨R.SPB_POOL, 1, 1, 0x8, .rw, 0xFFFFFFFFFFFFFF, 0xFFFFFFFFFFFFFFFF, .inst, true⟩,
  ⟨R.SPB_RETRY, 1, 1, 0x4, .rw, 0x3, 0xF, .inst, false⟩,
  ⟨R.SPB_LATE, 1, 1, 0x4, .rw, 0x4E2001F4, 0xFFFFFFFF, .inst, false⟩,
  ⟨R.SPB_INFLIGHT, 1, 1, 0x4, .ro, 0x0, 0x0, .inst, false⟩,
  ⟨R.SPB_STAGING, 1, 1, 0x4, .ro, 0x0, 0x0, .inst, false⟩,
  ⟨R.SPB_QUEUE, 1, 1, 0x4, .ro, 0x0, 0x0, .inst, false⟩,
  ⟨R.SPB_RETRIES, 1, 1, 0x4, .rc, 0x0, 0x0, .inst, false⟩,
  ⟨R.SPB_RD_BYTES, 1, 1, 0x8, .ro, 0x0, 0x0, .inst, true⟩,
  ⟨R.SPB_WR_BYTES, 1, 1, 0x8, .ro, 0x0, 0x0, .inst, true⟩,
  ⟨R.SPB_HALTED, 1, 1, 0x8, .ro, 0x0, 0x0, .inst, true⟩,
  ⟨R.SPB_HALTS, 1, 1, 0x4, .rc, 0x0, 0x0, .inst, false⟩,
  ⟨R.SPB_CANCELS, 1, 1, 0x4, .rc, 0x0, 0x0, .inst, false⟩,
  ⟨R.EYE_CTRL, 1, 1, 0x4, .rw, 0x0, 0x7, .inst, false⟩,
  ⟨R.EYE_SEL, 1, 1, 0x4, .rw, 0x0, 0xFFF, .inst, false⟩,
  ⟨R.EYE_COUNT, 1, 1, 0x4, .rw, 0x0, 0xFFFFFFFF, .inst, false⟩,
  ⟨R.EYE_TARGET, 1, 1, 0x4, .rw, 0x0, 0xFFFFFFFF, .inst, false⟩,
  ⟨R.EYE_CFG, 1, 1, 0x4, .rw, 0x0, 0x3FFFFFFF, .inst, false⟩,
  ⟨R.EYE_TCFG, 1, 1, 0x4, .rw, 0x0, 0x1, .tenant, false⟩,
  ⟨R.EYE_PART, 1, 1, 0x4, .ro, 0x10000000, 0x0, .tenant, false⟩,
  ⟨R.EYE_STAT, 1, 1, 0x4, .ro, 0x0, 0x0, .inst, false⟩,
  ⟨R.EYE_CTX_BASE, 1, 1, 0x8, .rw, 0x0, 0xFFFFFFFFFFFFF000, .tenant, true⟩,
  ⟨R.EYE_LEND_MIN, 1, 1, 0x4, .rw, 0xC, 0xFFFF, .inst, false⟩,
  ⟨R.EYE_UNDERFLOWS, 1, 1, 0x4, .rc, 0x0, 0x0, .inst, false⟩,
  ⟨R.EYE_OVERFLOWS, 1, 1, 0x4, .rc, 0x0, 0x0, .inst, false⟩,
  ⟨R.EYE_TIMEOUTS, 1, 1, 0x4, .rc, 0x0, 0x0, .inst, false⟩]

/-- Part 7 of the register table. -/
def regTable7 : List RegDesc := [
  ⟨R.EYE_DB_DROPS, 1, 1, 0x4, .rc, 0x0, 0x0, .inst, false⟩,
  ⟨R.EYE_WAKE_MASK, 1, 1, 0x8, .rw, 0x0, 0xFFFFFFFFFFFFFFFF, .inst, true⟩,
  ⟨R.EYE_DB_BASE, 1, 1, 0x8, .ro, 0x0, 0x0, .inst, true⟩,
  ⟨R.EYE_CLAP, 1, 16, 0x4, .rw, 0x83828180, 0xBFBFBFBF, .inst, false⟩,
  ⟨R.LACE_CTRL, 1, 1, 0x4, .rw, 0x0, 0xFFFF, .inst, false⟩,
  ⟨R.LACE_STAT, 1, 1, 0x4, .ro, 0x0, 0x0, .inst, false⟩,
  ⟨R.LACE_DONE, 1, 1, 0x4, .ro, 0x0, 0x0, .inst, false⟩,
  ⟨R.LACE_WIRE, 1, 16, 0x4, .rw, 0x0, 0xFFFFFFF, .inst, false⟩,
  ⟨R.LACE_ARR, 1, 16, 0x4, .rw, 0x1, 0xFFF, .inst, false⟩,
  ⟨R.LACE_ROLL, 1, 16, 0x8, .rw, 0x0, 0xFFFFFFFFFFFFFFFF, .inst, true⟩,
  ⟨R.LACE_RELEASES, 1, 1, 0x4, .rc, 0x0, 0x0, .inst, false⟩,
  ⟨R.LACE_LOST, 1, 1, 0x4, .rc, 0x0, 0x0, .inst, false⟩,
  ⟨R.CLAP_LEVEL, 1, 1, 0x8, .ro, 0xFFFFFFFFFFFFFFFF, 0x0, .inst, true⟩,
  ⟨R.CLAP_FIRE, 1, 1, 0x8, .wo, 0x0, 0x0, .inst, true⟩,
  ⟨R.REC_HEAD, 1, 1, 0x4, .ro, 0x0, 0x0, .inst, false⟩,
  ⟨R.REC_TAIL, 1, 1, 0x4, .rw, 0x0, 0xFFFFFFFF, .inst, false⟩,
  ⟨R.REC_CURSOR, 1, 1, 0x4, .rw, 0x0, 0xFFFFFFFF, .inst, false⟩,
  ⟨R.REC_CTRL, 1, 1, 0x4, .rw, 0x1800, 0x3FFF, .inst, false⟩,
  ⟨R.REC_STAT, 1, 1, 0x4, .ro, 0x0, 0x0, .inst, false⟩,
  ⟨R.REC_OVERWRITTEN, 1, 1, 0x4, .rc, 0x0, 0x0, .inst, false⟩,
  ⟨R.REC_TIME, 1, 1, 0x8, .ro, 0x0, 0x0, .inst, true⟩,
  ⟨R.REC_OPTIME, 1, 1, 0x8, .ro, 0x0, 0x0, .inst, true⟩,
  ⟨R.REC_PCYCLES, 1, 1, 0x4, .ro, 0x0, 0x0, .inst, false⟩,
  ⟨R.REC_WIN, 1, 8, 0x4, .ro, 0x0, 0x0, .inst, false⟩,
  ⟨R.RPL_CTRL, 1, 1, 0x4, .rw, 0x0, 0x307, .inst, false⟩,
  ⟨R.RPL_BASE, 1, 1, 0x8, .rw, 0x0, 0xFFFFFFFFFFFFF000, .tenant, true⟩,
  ⟨R.RPL_BYTES, 1, 1, 0x4, .rw, 0x0, 0xFFFFFFFF, .tenant, false⟩,
  ⟨R.RPL_PLAY_BASE, 1, 1, 0x8, .rw, 0x0, 0xFFFFFFFFFFFFFFFF, .tenant, true⟩,
  ⟨R.RPL_PLAY_BYTES, 1, 1, 0x4, .rw, 0x0, 0xFFFFFFFF, .tenant, false⟩,
  ⟨R.RPL_WRAP_BASE, 1, 1, 0x8, .rw, 0x0, 0xFFFFFFFFFFFFFFFF, .tenant, true⟩,
  ⟨R.RPL_WRAP_BYTES, 1, 1, 0x4, .rw, 0x0, 0xFFFFFFFF, .tenant, false⟩,
  ⟨R.RPL_STAT, 1, 1, 0x4, .ro, 0x0, 0x0, .tenant, false⟩,
  ⟨R.RPL_RECORDS, 1, 1, 0x4, .ro, 0x0, 0x0, .tenant, false⟩,
  ⟨R.RPL_DIV_ENTRY, 1, 1, 0x4, .ro, 0x0, 0x0, .inst, false⟩,
  ⟨R.RPL_DIV_BLOCK, 1, 1, 0x4, .ro, 0x0, 0x0, .inst, false⟩,
  ⟨R.RPL_DIV_FOUND, 1, 1, 0x4, .ro, 0x0, 0x0, .inst, false⟩,
  ⟨R.RPL_DROPPED, 1, 1, 0x4, .rc, 0x0, 0x0, .inst, false⟩,
  ⟨R.FLT_LAST_CODE, 1, 1, 0x4, .ro, 0x0, 0x0, .inst, false⟩,
  ⟨R.FLT_LAST_SEQ, 1, 1, 0x4, .ro, 0x0, 0x0, .inst, false⟩,
  ⟨R.FLT_HALTED, 1, 1, 0x4, .ro, 0x0, 0x0, .inst, false⟩]

/-- Part 8 of the register table. -/
def regTable8 : List RegDesc := [
  ⟨R.FLT_LOST, 1, 1, 0x4, .rc, 0x0, 0x0, .inst, false⟩,
  ⟨R.FLT_CNT, 1, 12, 0x4, .rc, 0x0, 0x0, .inst, false⟩,
  ⟨R.DBG_CTRL, 1, 1, 0x4, .rw, 0x100, 0x101, .inst, false⟩,
  ⟨R.DBG_STAT, 1, 1, 0x4, .ro, 0x0, 0x0, .inst, false⟩,
  ⟨R.DBG_SEQ_PC, 1, 1, 0x4, .ro, 0x0, 0x0, .inst, false⟩,
  ⟨R.DBG_DECODED, 1, 1, 0x4, .ro, 0x0, 0x0, .inst, false⟩,
  ⟨R.DBG_SCRATCH, 1, 1, 0x4, .rw, 0x0, 0xFFFFFFFF, .inst, false⟩,
  ⟨R.DBG_LB_CTRL, 1, 1, 0x4, .rw, 0x100, 0xFFF0F, .inst, false⟩,
  ⟨R.DBG_LB_SEED, 1, 1, 0x4, .rw, 0x0, 0xFFFFFFFF, .inst, false⟩,
  ⟨R.DBG_LB_BANKS, 1, 1, 0x8, .rw, 0xFFFFFFFFFFFF, 0xFFFFFFFFFFFF, .inst, true⟩,
  ⟨R.DBG_LB_STAT, 1, 1, 0x4, .ro, 0x0, 0x0, .inst, false⟩,
  ⟨R.DBG_LB_EXP, 1, 1, 0x4, .ro, 0x0, 0x0, .inst, false⟩,
  ⟨R.DBG_LB_FOUND, 1, 1, 0x4, .ro, 0x0, 0x0, .inst, false⟩,
  ⟨R.DBG_LB_FAIL, 1, 1, 0x8, .ro, 0x0, 0x0, .inst, true⟩,
  ⟨R.DBG_LB_CYCLES, 1, 1, 0x4, .ro, 0x0, 0x0, .inst, false⟩,
  ⟨R.PEER_CTRL, 1, 1, 0x4, .rw, 0x0, 0xFF00, .inst, false⟩,
  ⟨R.PEER_PARTNER, 1, 1, 0x4, .rw, 0x0, 0x1FF, .inst, false⟩,
  ⟨R.PEER_STAT, 1, 1, 0x4, .ro, 0x0, 0x0, .inst, false⟩,
  ⟨R.PEER_LOST_MAP, 1, 1, 0x8, .ro, 0x0, 0x0, .inst, true⟩,
  ⟨R.PEER_SEQ, 1, 1, 0x4, .ro, 0x0, 0x0, .inst, false⟩,
  ⟨R.PEER_OUTSTANDING, 1, 1, 0x4, .ro, 0x0, 0x0, .inst, false⟩,
  ⟨R.PEER_RESENDS, 1, 1, 0x4, .rc, 0x0, 0x0, .inst, false⟩,
  ⟨R.PEER_DUPS, 1, 1, 0x4, .rc, 0x0, 0x0, .inst, false⟩,
  ⟨R.PEER_STALE, 1, 1, 0x4, .rc, 0x0, 0x0, .inst, false⟩,
  ⟨R.PEER_TENANT_REJ, 1, 1, 0x4, .rc, 0x0, 0x0, .inst, false⟩,
  ⟨R.PEER_TX_BYTES, 1, 1, 0x8, .ro, 0x0, 0x0, .inst, true⟩,
  ⟨R.PEER_RX_BYTES, 1, 1, 0x8, .ro, 0x0, 0x0, .inst, true⟩,
  ⟨R.PEER_LENT_OPS, 1, 1, 0x4, .rc, 0x0, 0x0, .inst, false⟩]

/-- Every register of the page bodies (R408). -/
def regTable : List RegDesc :=
  regTable1 ++ regTable2 ++ regTable3 ++ regTable4 ++ regTable5 ++ regTable6 ++ regTable7 ++ regTable8

/-- A register found at an address: its row, its place in the array, and whether it is the high word. -/
structure RegAt where
  desc : RegDesc
  index : Nat
  high : Bool
  deriving DecidableEq, Repr

/-- Does a row of the table cover the address? -/
def RegDesc.at? (d : RegDesc) (addr : Nat) : Option RegAt :=
  if addr < d.addr then none
  else
    let rel := addr - d.addr
    let r := rel % 0x1000
    if rel / 0x1000 < d.pages ∧ r / d.stride < d.count ∧ (r % d.stride = 0 ∨ (d.wide ∧ r % d.stride = 4)) then
      some ⟨d, rel / 0x1000 * d.count + r / d.stride, r % d.stride = 4⟩
    else none

/-- The register at a control-space address, if the manual names one there (R401). -/
def regAt (addr : Nat) : Option RegAt := regTable.findSome? (fun d => d.at? addr)

/-- The reset values of TIER_PLAN by tier (R202). -/
def tierPlanReset : Nat → Nat
  | 1 => 20 * 65536 + 6900
  | 2 => 40 * 65536 + 2304
  | 3 => 100 * 65536 + 1280
  | 4 => 200 * 65536
  | _ => 0

/-- The reset value of the register word with a key: address plus 2^20 times the copy. -/
def regReset (key : Nat) : Word :=
  let addr := key % 2 ^ 20
  if addr = R.TIER_PLAN then w32 (tierPlanReset (key / 2 ^ 20))
  else match regAt addr with
  | some r =>
    if r.desc.addr = R.EYE_CLAP then w32 (r.desc.reset + 0x04040404 * r.index)
    else if r.high then w32 (r.desc.reset / 2 ^ 32) else w32 r.desc.reset
  | none => 0#32

/-- The bits of the word at an address that a write sets (R9, R11). -/
def RegAt.mask (r : RegAt) : Nat :=
  if r.high then r.desc.mask / 2 ^ 32 else r.desc.mask % 2 ^ 32

/-- PAGE_ID of a page (R408): type and number within the type. -/
def pageId (p : Nat) : Nat :=
  let first := if 0x0C ≤ p ∧ p ≤ 0x0F then 0x0C else if 0x14 ≤ p ∧ p ≤ 0x17 then 0x14 else p
  (0x5000 + first) * 2 ^ 16 + (p - first) * 2 ^ 8 + 1

/-- PAGE_CAP of a page (R408). -/
def pageCap (p : Nat) : Nat :=
  match p with
  | 0x00 => 1 | 0x01 => 6 | 0x02 => 6 | 0x03 => 16 | 0x04 => 5 | 0x05 => 65536 | 0x06 => 8 | 0x07 => 8
  | 0x08 => 64 | 0x09 => 112 | 0x0A => 8 | 0x0B => 4096 | 0x0C => 12 | 0x0D => 12 | 0x0E => 12 | 0x0F => 12
  | 0x10 => 16 | 0x11 => 64 | 0x12 => 4096 | 0x13 => 2048 | 0x14 => 16 | 0x15 => 16 | 0x16 => 16 | 0x17 => 16
  | 0x18 => 64 | 0x19 => 4096 | 0x1A => 16 | 0x1B => 8192 | 0x1C => 8 | 0x1D => 12 | 0x1E => 3 | 0x1F => 64
  | _ => 0

end Sys2Proof.Machine
end

