-- ==== Sys2Proof/Machine/State.lean ====
section
/-! DEFINITION. The state of one Relith instance as plain data: every unit of R14, every register page of
R408, the parts of its surroundings that the manual lets it see (die memory, address map, queue contexts),
the outputs that have left its boundary, and the queue of commands that wait. Sparse stores list only what
differs from their default, so the state after reset is small. -/

namespace Sys2Proof.Machine

/-- No rule of the manual stops the instance: every command has an effect, so there is no fault to name. -/
inductive Fault where
  deriving DecidableEq, Repr

/-- Why a command gets no answer. -/
inductive Refusal where
  /-- Raised only by exec's arm of a row that has no meaning yet; safe: nothing is proved of such a row. -/
  | notModelled (mnemonic : String)
  deriving DecidableEq, Repr

/-! ### Slates, sheets and tenants -/

/-- The states of R63. -/
inductive SlateState where
  | free | opened | sealed | kept | movingOut | parked | returning | dropped | reshooting | ready
  | inUse | torn | lost
  deriving DecidableEq, Repr

/-- The clicker's outcomes (R60, R82). -/
inductive Placed where
  | none | keep | shelve | ship | store | reshoot
  deriving DecidableEq, Repr

/-- The fields of a call-sheet entry (R40). reserved says that a reserved bit of the entry is set (R50). -/
structure Entry where
  tag : Nat
  layerId : Nat
  mbId : Nat
  expertId : Nat
  fwdFrame : Nat
  format : Nat
  callFrame : Nat
  predRatio : Nat
  sizeBlocks : Nat
  scriptId : Nat
  mustKeep : Bool
  pinTier : Bool
  continuity : Bool
  encryptOuter : Bool
  pinValue : Nat
  streamClass : Nat
  bookId : Nat
  releaseFrame : Nat
  propDesc : Nat
  reserved : Bool
  deriving DecidableEq, Repr

/-- One piece of a prop descriptor (R243). -/
structure Piece where
  addr : Nat
  blocks : Nat
  tier : Nat
  lastUse : Bool
  partner : Nat
  reserved : Bool
  deriving DecidableEq, Repr

/-- A prop descriptor with its pieces (R243), as read at the sheet load. -/
structure PropDesc where
  auto : Bool
  pieces : List Piece
  reserved : Bool
  deriving DecidableEq, Repr

/-- A loaded call sheet with what the load took (R48, R52, R55, R167, R221). -/
structure Sheet where
  entries : List Entry
  frameCount : Nat
  defaultFrame : Nat
  entriesCrc : Nat
  shelves : Nat
  peak : Nat
  ftbBase : Nat
  logBase : Nat
  cover : List (Option Nat)
  props : List PropDesc
  inUse : List Nat
  deriving DecidableEq, Repr

/-- A sheet load that is CHECKING, with the values it took at its start (R48, R49, R415). -/
structure SheetCheck where
  base : Nat
  bytes : Nat
  ftbBase : Nat
  stepOpen : Bool
  shelves : Nat
  quota : Nat
  caps : List Nat
  ens : List Bool
  books : List Nat
  deriving DecidableEq, Repr

/-- The values frozen at STEP_BEGIN (R84, R85, R135, R165, R172, R174, R201, R344, R256, R267); est and meas are those of the active copy (R56, R57). -/
structure Frozen where
  est : List Nat
  meas : List Nat
  st : List Nat
  stEnd : Nat
  en : List Bool
  bw : List Nat
  lat : List Nat
  cap : List Nat
  alpha : Nat
  beta : Nat
  gamma : Nat
  guard : Nat
  margin : Nat
  pinClass : Nat
  mode : Word
  shift : Nat
  laneShare : Nat
  engShare : Nat
  sparse : Bool
  seed : Nat
  policy : Bool
  onReturn : Bool
  sampleN : Nat
  softLate : Nat
  hardLate : Nat
  retryMax : Nat
  outerEnc : Bool
  keySlot : Nat
  rplBase : Nat
  rplBytes : Nat
  playBase : Nat
  playBytes : Nat
  wrapBase : Nat
  wrapBytes : Nat
  deriving DecidableEq, Repr

/-- What a step remembers of one entry for its wrap record (R259, R260). -/
structure Trace where
  readyAt : Option Nat
  soft : Bool
  hard : Bool
  lost : Bool
  recut : Bool
  fallback : Bool
  torn : Bool
  outcome : Placed
  tier : Nat
  coded : Nat
  deriving DecidableEq, Repr

/-- The reel of one tenant's step (R254 to R258). -/
structure Reel where
  records : Nat
  full : Bool
  diverged : Bool
  truncated : Bool
  playEnd : Bool
  playPos : Nat
  deriving DecidableEq, Repr

/-- A gather of a PROP entry that waits for a ledger record (R248). -/
structure GatherWait where
  entry : Nat
  again : Bool
  deriving DecidableEq, Repr

/-- The state kept for one tenant besides its partition (R54 to R58, R75, R84, R87, R227, R245 to R249). -/
structure Tenant where
  sheet : Option Sheet
  check : Option SheetCheck
  refused : Bool
  reason : Nat
  refuseEntry : Word
  refuseFrame : Word
  refuseExcess : Word
  stepOpen : Bool
  stepId : Word
  frame : Nat
  frameOpenAt : Nat
  beganAt : Nat
  copy : Bool
  measured : NMap Nat
  frameTimes : NMap Nat
  framesClosed : Nat
  opened : List Nat
  trace : NMap Trace
  frozen : Option Frozen
  fc : NMap Nat
  overflow : Option Nat
  replayMiss : Bool
  recuts : Nat
  fallbacks : Nat
  halted : Bool
  poisonFull : Bool
  held : Option Cmd
  enHost : Bool
  enPeer : Bool
  enOff : List Nat
  capLoss : Nat
  reel : Reel
  gathered : List Nat
  tornOnce : List Nat
  dead : List Nat
  unreserved : List Nat
  gathersWaiting : List GatherWait
  deriving DecidableEq, Repr

/-- The tenant partition, changed only by countersign (R336, R337). -/
structure Partition where
  shelves : Nat
  eyeBase : Nat
  eyeCount : Nat
  quota : Nat
  keySlot : Nat
  outerEnc : Bool
  borrower : Nat
  loanEn : Bool
  maxLoan : Nat
  deriving DecidableEq, Repr

/-- A loan of shelves in force (R252); the shelves are named as a bitmap. -/
structure Loan where
  lender : Nat
  borrower : Nat
  shelves : Nat
  deriving DecidableEq, Repr

/-- A slate record of the ledger (R60), with what the units remember of the slate. The fields of the
record copied from the entry are those of entry; callAt is the time of the first CALL that waits, in ticks since STEP_BEGIN
(R100). -/
structure Slate where
  state : SlateState
  gen : Nat
  tenant : Nat
  entryIndex : Nat
  entry : Option Entry
  tier : Nat
  outcome : Placed
  blocksWritten : Nat
  releasePending : Bool
  callPending : Bool
  extentBase : Nat
  coded : Nat
  q1 : Nat
  q2 : Nat
  q3 : Nat
  digest : Nat
  writerMask : Nat
  inline : Bool
  inlineHanded : Bool
  calls : List Cmd
  callAt : Nat
  engines : Nat
  dorMask : Nat
  rawFallback : Nat
  decN : Nat
  decP : Nat
  decOe : Nat
  decScore : Nat
  decided : Bool
  pastHard : Bool
  softLogged : Bool
  deriving DecidableEq, Repr

/-! ### Vault, stitcher, code books, banks -/

/-- A slate's vault copy (R124, R125, R159): index table, granules in each quarter's run, block images,
and the shelf of each vault unit it occupies, in the order of the units (R203; log entry 96). work holds the working blocks of
R157, unwritten the blocks that a PROP transfer has placed and not written to the end. -/
structure Extent where
  index : NMap (Nat × Nat)
  runs : List Nat
  images : NMap (List Byte)
  units : List Nat
  work : NMap (List Byte)
  unwritten : List Nat
  deriving DecidableEq, Repr

/-- The vault (R203 to R205): extents by slate index and the retired shelves as a bitmap. -/
structure Vault where
  extents : NMap Extent
  retired : Nat
  deriving DecidableEq, Repr

/-- The block buffer of one result tap (R132). -/
structure TapBuf where
  slate : Nat
  gen : Nat
  block : Nat
  beats : Nat
  data : List Byte
  deriving DecidableEq, Repr

/-- A block handed to a stitcher lane and not yet committed (R132), with the time from which it waits for a
vault unit (R204) and what its verify decoder then had found (R114). -/
structure LaneJob where
  slate : Nat
  gen : Nat
  block : Nat
  data : List Byte
  tap : Nat
  waitsSince : Option Nat
  found : Option Word
  deriving DecidableEq, Repr

/-- A beat that an engine holds on offer while its tap is back-pressured (R19), with the identity that it carries when it
is the first of its block. -/
structure TapOffer where
  slate : Nat
  gen : Nat
  block : Nat
  data : List Byte
  deriving DecidableEq, Repr

/-- The stitcher (R19, R132, R133, R321): lanes in service, the taps' buffers, the beats that back-pressured taps have on
offer, the tap that each lane served last, the lanes' blocks, the inline buffers (R74) and the verify mismatches of each
lane and tenant. -/
structure Stitcher where
  lanes : Nat
  taps : NMap TapBuf
  offered : NMap (List TapOffer)
  lastTap : NMap Nat
  jobs : NMap (List LaneJob)
  inlineBuf : NMap (List Byte)
  mismatch : NMap Nat
  verifyWanted : Nat
  deriving DecidableEq, Repr

/-- The code-book store (R126 to R131) and the book-cache misses it has pending (R138): bank, book, and the
services that have passed while it waited. -/
structure Books where
  store : NMap (List Byte)
  result : Nat
  misses : List (Nat × Nat × Nat)
  lastServed : Nat
  deriving DecidableEq, Repr

/-- A request at a bank's operand port (R30 to R34, R417). missed is the book that its block missed in the book cache. -/
structure OpReq where
  slate : Nat
  gen : Nat
  block : Nat
  poison : Bool
  latency : Nat
  stalledSince : Option Nat
  missed : Option Nat
  deriving DecidableEq, Repr

/-- The answer to a request (R29, R34): eight poison marks and eight beats of 512 bytes. -/
structure Beats where
  engine : Nat
  slate : Nat
  gen : Nat
  block : Nat
  poison : List Bool
  beats : List (List Byte)
  latency : Nat
  deriving DecidableEq, Repr

/-- An unlacer bank with its engine's compressed local buffer (R34, R136 to R140). elastic holds the decoded blocks that are
not driven yet, offered the requests (slate, generation, block) that the bank has not accepted yet, oldest first. -/
structure Bank where
  failed : Nat
  selftest : Option Nat
  cache : List Nat
  reqs : List OpReq
  elastic : List Beats
  offered : List (Nat × Nat × Nat)
  hwm : Nat
  lbuf : NMap (Nat × List Byte)
  deriving DecidableEq, Repr

/-! ### Recompute -/

/-- One step record of a reshoot script (R151). -/
structure ScriptStep where
  op : Nat
  fn : Nat
  outFmt : Nat
  kindA : Nat
  kindB : Nat
  kindC : Nat
  kindK : Nat
  srcA : Nat
  srcB : Nat
  srcC : Nat
  imm : Nat
  cyc : Nat
  exact : Bool
  engParam : Nat
  rowLen : Nat
  deriving DecidableEq, Repr

/-- A stored reshoot script (R150, R154) and the region entry that held its image (R221). -/
structure Script where
  tenant : Nat
  dropValid : Bool
  site : Nat
  keepThr : Nat
  dropScale : Nat
  fixedTicks : Nat
  steps : List ScriptStep
  region : Option Nat
  deriving DecidableEq, Repr

/-- A descriptor sent to a core queue (R160, R161). -/
structure Desc where
  queue : Nat
  first : Nat
  count : Nat
  resent : Bool
  answered : Bool
  deriving DecidableEq, Repr

/-- A DROPPED slate that wants its job, with the deadline of R100. -/
structure JobWait where
  slate : Nat
  deadline : Nat
  deriving DecidableEq, Repr

/-- A reshoot job in its slot (R155 to R163): tag is its target's, step the lowest step not complete, nextOut the next output
block of each step to hand to a lane, done the output blocks committed (keys of workKey), descs the descriptors of the step
as first sent, unanswered those that the queues have and have not answered, toResend those to send again. A stopped job
starts nothing more and keeps its slot until its descriptors are answered and no lane holds a block of it. -/
structure Job where
  slate : Nat
  gen : Nat
  tag : Nat
  tenant : Nat
  script : Nat
  step : Nat
  deadline : Nat
  descs : List Desc
  unanswered : List Desc
  nextDesc : Nat
  nextOut : List Nat
  done : NMap Bool
  failedOnce : Bool
  stopped : Bool
  operands : List (Nat × Nat)
  toResend : List Desc
  deriving DecidableEq, Repr

/-- The output block a retake lane is working on (R146), with what the lane has computed of it where it waits for a vault
unit (R103). -/
structure LaneWork where
  slot : Nat
  step : Nat
  block : Nat
  data : Option (List Byte)
  deriving DecidableEq, Repr

/-- Retake lanes, dispatcher and script store (R146 to R163, R173). -/
structure Retake where
  lanes : Nat
  testing : Option Nat
  lanesTesting : Nat
  work : NMap LaneWork
  scripts : NMap Script
  loading : Option (Nat × Nat × Nat)
  result : Nat
  jobs : NMap Job
  waiting : List JobWait
  lastQueue : Nat
  deriving DecidableEq, Repr

/-- The poison table (R171): slate, generation, block. -/
structure Continuity where
  poison : List (Nat × Nat × Nat)
  deriving DecidableEq, Repr

/-! ### Movers -/

/-- The kinds of transfers: those of R179, and a director channel's. -/
inductive Kind where
  | out | ret | fill | prop | move | director
  deriving DecidableEq, Repr

/-- The die-cache hints of R210. -/
inductive Hint where
  | stream | keep | lastUse
  deriving DecidableEq, Repr

/-- A transfer (R175, R179, R182). Granules are counted in transfer order from 0. The deadline is in
ticks since the STEP_BEGIN of its tenant (R100).
staged holds what has been read, by first granule of each staging slot, stagedAt when; fills are the engines and blocks of
a FILL; runTo and readTo are the ends of the write run and of the read run that have begun (R212); acked the acknowledged writes beyond
the first done granules; table the blocks of a returned extent (block, first granule, length). -/
structure Transfer where
  kind : Kind
  slate : Nat
  gen : Nat
  tenant : Nat
  tier : Nat
  fills : List (Nat × Nat)
  blocks : List Nat
  src : Nat
  dst : Nat
  partner : Nat
  total : Nat
  deadline : Nat
  rdNext : Nat
  staged : NMap (List Byte)
  stagedAt : NMap Nat
  runTo : Nat
  readTo : Nat
  verified : Bool
  table : List (Nat × Nat × Nat)
  wrNext : Nat
  done : Nat
  acked : NMap Nat
  allocated : Bool
  allocAt : Nat
  operandOf : Option Nat
  powerWait : Option Nat
  lastUse : Bool
  piece : Nat
  deriving DecidableEq, Repr

/-- A transaction in flight (R175, R195), with its address outside the block, the data that a write carries, its power-down
domain (R363) and its die-cache hint (R210), all as issued. -/
structure Txn where
  transfer : Nat
  chan : Nat
  write : Bool
  flag : Bool
  first : Nat
  count : Nat
  attempt : Nat
  issuedAt : Nat
  seq : Option Nat
  aborted : Bool
  addr : Option Nat
  data : List Byte
  domain : Option Nat
  hint : Option Hint
  deriving DecidableEq, Repr

/-- A failed access that waits for its reissue (R196), with the staging slots that it keeps (R176). -/
structure Retry where
  write : Bool
  flag : Bool
  first : Nat
  count : Nat
  attempt : Nat
  cause : Cause
  dueAt : Nat
  slots : Nat
  deriving DecidableEq, Repr

/-- The register set of a channel (R184, R200). -/
structure ChanRegs where
  cfg : Word
  pace : Word
  src : BitVec 64
  dst : BitVec 64
  count : Word
  flagAddr : BitVec 64
  flagVal : Word
  startFrame : Word
  deriving DecidableEq, Repr

/-- The channel states of SPL_STAT.state (R200). -/
inductive ChanState where
  | idle | wait | busy | halted
  deriving DecidableEq, Repr

/-- A spool channel (R183 to R200). -/
structure Chan where
  active : ChanRegs
  shadow : ChanRegs
  state : ChanState
  shadowValid : Bool
  inPool : Bool
  half : Bool
  full : Bool
  badCfg : Bool
  attempts : Nat
  cause : Nat
  transfers : Nat
  done : Nat
  transfer : Option Nat
  halfSeen : Bool
  started : Bool
  startAt : Nat
  chainFull : Bool
  periodAt : Nat
  used : Nat
  retries : List Retry
  deriving DecidableEq, Repr

/-- The spool movers (R175 to R201). -/
structure Movers where
  chans : NMap Chan
  transfers : NMap Transfer
  nextTransfer : Nat
  txns : NMap Txn
  nextTxn : Nat
  lastHi : Nat × Nat
  lastLo : Nat × Nat
  inflightHwm : Nat
  deriving DecidableEq, Repr

/-! ### Tiers -/

/-- A region entry (R220). -/
structure Region where
  base : Nat
  len : Nat
  tenant : Nat
  kind : Nat
  loc : Nat
  poolTier : Nat
  partner : Nat
  deriving DecidableEq, Repr

/-- An allocated tier extent of a slate (R208): read says that a LAST_USE read of it has been issued, lastUse that it is
released and waits for the die cache's last discard (R209). -/
structure TierExtent where
  tenant : Nat
  tier : Nat
  base : Nat
  units : Nat
  slate : Nat
  gen : Nat
  read : Bool
  lastUse : Bool
  deriving DecidableEq, Repr

/-- The host states of TIER_STAT (R227). -/
inductive HostState where
  | attached | detached | heldSteps
  deriving DecidableEq, Repr

/-- Regions, pools, retired rows and host coupling (R206 to R229). repairing and excluded name the 4 KiB units out
of allocation, lost those whose data is lost, notices those whose notice is not acknowledged yet (R215). -/
structure Tiers where
  regions : NMap Region
  extents : List TierExtent
  repairing : List Nat
  excluded : List Nat
  lost : List Nat
  notices : List Nat
  host : HostState
  hbAt : Nat
  detachedAt : Nat
  nearChans : Nat
  rgnResult : Nat
  deriving DecidableEq, Repr

/-! ### Training services -/

/-- A light-meter entry (R232); the sum is the exact integer. -/
structure Meter where
  sum : Nat
  max : Word
  under : Nat
  nonfin : Nat
  ovf : Bool
  deriving DecidableEq, Repr

/-- The phases of a global-norm round (R237, R265). -/
inductive GnPhase where
  | idle | crew | packages | done
  deriving DecidableEq, Repr

/-- A global-norm round on this instance (R236 to R239). leads says that it led the crew when the round started, written
that the leader has written the result record and waits for its own poll; totals holds the received package totals with the
package that each came from. -/
structure Gn where
  phase : GnPhase
  startedAt : Nat
  leads : Bool
  written : Bool
  own : List Byte
  totals : List (Nat × List Byte)
  incomplete : Bool
  overflow : Bool
  nonfinite : Bool
  rejected : Bool
  packages : Nat
  instances : Nat
  deriving DecidableEq, Repr

/-- An exposure entry (R240, R241); the history is oldest first. -/
structure Exposure where
  cfg : Word
  margin : Word
  scale : Nat
  history : List Word
  nonfinite : Bool
  deriving DecidableEq, Repr

/-- The training services of chapter 08. -/
structure Services where
  meters : NMap Meter
  gn : Gn
  exposures : NMap Exposure
  deriving DecidableEq, Repr

/-! ### Synchronisation -/

/-- An eyelet (R269). -/
structure Eyelet where
  count : Word
  target : Word
  cfg : Word
  deriving DecidableEq, Repr

/-- A registered native wait or an Abter hold (R278, R280). eye is the absolute eyelet. -/
structure Wait where
  cmd : Cmd
  tenant : Nat
  eye : Nat
  n : Nat
  consume : Bool
  due : Option Nat
  abter : Bool
  lent : Bool
  deriving DecidableEq, Repr

/-- What a held signal does once the range is free again (R293 step 2). -/
structure HeldSignal where
  target : Bool
  eye : Nat
  add : Word
  deriving DecidableEq, Repr

/-- A context save or restore that runs (R293, R294). -/
structure CtxOp where
  tenant : Nat
  save : Bool
  base : Nat
  loan : Bool
  ended : Nat
  deriving DecidableEq, Repr

/-- The eyelets, waits and context operations (R269 to R297). -/
structure Eyes where
  eyes : NMap Eyelet
  waits : List Wait
  ctx : Option CtxOp
  ctxResult : Nat
  heldSignals : List HeldSignal
  deriving DecidableEq, Repr

/-- The states of an enrolled wire (R288). -/
inductive WireState where
  | off | hold | arrived | gap
  deriving DecidableEq, Repr

/-- A lace wire (R287 to R292), with the AOC time at which it last entered ARRIVED. -/
structure Wire where
  state : WireState
  badBind : Bool
  gapEnds : Nat
  arrivedAt : Nat
  deriving DecidableEq, Repr

/-- Lace wires and clapper lines (R279, R287 to R292, R300): the last sample of lace_done, the clapper lines that other
drivers were sampled to hold low, and for each line that the Relith pulses the AOC times at which it falls and is released. -/
structure Lace where
  wires : NMap Wire
  done : Nat
  others : Nat
  pulses : NMap (Nat × Nat)
  deriving DecidableEq, Repr

/-! ### Ports, locks, protection -/

/-- The page state behind a page header (R331 to R335, R402, R403, R405). -/
structure Page where
  ctrl : Word
  raw : Word
  en : Word
  synd : Word
  addr : BitVec 64
  errValid : Bool
  owner : Option Port
  staged : List (Nat × Word)
  overflow : Bool
  lastResult : Nat
  accessAt : Nat
  lockedAt : Nat
  deriving DecidableEq, Repr

/-- The two latches of a register port (R406): address and word. -/
structure Latch where
  rd : Option (Nat × Word)
  wr : Option (Nat × Word)
  deriving DecidableEq, Repr

/-- A key slot (R343). -/
structure Key where
  bytes : List Byte
  id : Word
  deriving DecidableEq, Repr

/-- A pending proposal (R339). -/
structure Proposal where
  proposer : Port
  bytes : List Byte
  nonce : Word
  digest : Word
  endsAt : Nat
  deriving DecidableEq, Repr

/-- Protection set-up, countersign and key staging (R323 to R343). -/
structure Security where
  parts : List Partition
  privCtl : BitVec 64
  privSec : BitVec 64
  privDbg : BitVec 64
  dbgPriv : BitVec 3
  viewCtl : Nat
  viewSec : Nat
  viewDbg : Nat
  attached : Nat
  keys : NMap Key
  stage : NMap Word
  csNonce : Word
  proposal : Option Proposal
  applying : Option Proposal
  lastNonce : Option Word
  lastProposer : Nat
  digest : Word
  result : Nat
  refused : Nat
  loans : List Loan
  clearing : Option Loan
  clearCmd : Option Cmd
  clearReturn : Bool
  deriving DecidableEq, Repr

/-! ### Engine command port and outputs -/

/-- The 16-byte completion of R71 and the core queue it is addressed to. -/
structure Completion where
  queue : Nat
  ticket : BitVec 16
  opcode : BitVec 8
  status : BitVec 8
  tag : Word
  slate : BitVec 16
  gen : BitVec 8
  result : BitVec 8
  value : Word
  deriving DecidableEq, Repr

/-- A ticket of the window (R78): a decoded command, and its completion once sent. serial is the number of the execution that
it stands for: its own, or that of the original whose copy it is. -/
structure Ticket where
  ticket : BitVec 16
  opcode : BitVec 8
  tenant : Nat
  tag : Word
  queue : Nat
  completion : Option Completion
  serial : Nat
  deriving DecidableEq, Repr

/-- A command that executes (R78): it stays until its completion, also when its ticket has left the window, with the copies
that wait for it. -/
structure Executing where
  serial : Nat
  opcode : BitVec 8
  cmd : Cmd
  copies : List Ticket
  deriving DecidableEq, Repr

/-- The engine command port: ticket window, newest first, the commands that execute, oldest first, those accepted but not
yet decoded, and those that core queues hold while the port signals not-ready, both oldest first (R78, R81). serial is the
number of the next execution, the model's own. -/
structure CmdPort where
  window : List Ticket
  executing : List Executing
  serial : Nat
  queue : List (BitVec 8 × Cmd)
  stalled : List (BitVec 8 × Cmd)
  decoded : Nat
  lastOpcode : BitVec 8
  deriving DecidableEq, Repr

/-- A slate that waits for the clicker (R83, R106): its frame counter at the SEAL, and the SEAL command. -/
structure Undecided where
  slate : Nat
  gen : Nat
  n : Option Nat
  cmd : Option Cmd
  deriving DecidableEq, Repr

/-- The clicker's own registers and its queue of decisions (R83, R108). -/
structure Clicker where
  queue : List Undecided
  last : Word
  lastFrame : Nat
  lastCost : Nat
  lastScore : Nat
  deriving DecidableEq, Repr

/-- An outgoing peer operation (R310). -/
inductive PeerKind where
  | ship | fetch | reduce | prop
  deriving DecidableEq, Repr

/-- An operation that is not acknowledged yet (R310, R311): the package that it goes to, and the package and die of its
sender. hint is what it asks of the partner's die cache (R202, R211). -/
structure PeerOp where
  kind : PeerKind
  package : Nat
  sender : Option Nat
  die : Nat
  seq : Nat
  tenant : Nat
  addr : Nat
  len : Nat
  data : List Byte
  slateWord : Word
  hint : Option Hint
  txn : Option Nat
  resends : Nat
  lastSend : Nat
  badCrc : Bool
  deriving DecidableEq, Repr

/-- An acknowledgement or data response sent to a peer with its CRC-32C (R310, R312). -/
structure PeerAnswer where
  package : Nat
  die : Nat
  seq : Nat
  error : Bool
  data : List Byte
  crc : Word
  deriving DecidableEq, Repr

/-- The receive window of one sender (R312): highest number applied and the numbers applied with the
status that each was answered with. -/
structure RxWindow where
  package : Nat
  die : Nat
  high : Nat
  applied : List (Nat × Bool)
  deriving DecidableEq, Repr

/-- A received eyelet signal that waits for earlier packets of its transfer, named by their sequence numbers (R285). -/
structure LateSignal where
  package : Nat
  die : Nat
  earlier : List Nat
  eye : Nat
  add : Word
  deriving DecidableEq, Repr

/-- The peer protocol (R285, R310 to R314, R413). -/
structure Peer where
  nextSeq : Nat
  ops : List PeerOp
  waitingOps : List PeerOp
  hwm : Nat
  rx : List RxWindow
  signals : List LateSignal
  lost : Nat
  portUp : Bool
  partnerReject : Bool
  deriving DecidableEq, Repr

/-- An access of the movers, or of this instance as a partner, to memory outside the block (R210, R211); one to memory without
a die cache has no hint (R202). -/
structure MemAccess where
  write : Bool
  addr : Nat
  bytes : Nat
  hint : Option Hint
  deriving DecidableEq, Repr

/-- What has left the boundary (R18, R22), oldest first. -/
structure Outputs where
  completions : List Completion
  beats : List Beats
  descriptors : List (Nat × List Byte)
  accesses : List MemAccess
  peerOps : List PeerOp
  peerAnswers : List PeerAnswer
  power : List (BitVec 64)
  irqMessages : List Nat
  reads : List (Port × Nat × Word)
  retireAcks : List Nat
  errors : Nat
  deriving DecidableEq, Repr

/-! ### Power, reset, recorder, test -/

/-- The power states of R302. -/
inductive Power where
  | active | idle | doze | nap | deep | off
  deriving DecidableEq, Repr

/-- What the die, a peer or a timer tells the instance, and what it acts on once FCLK runs (R26; log entry 101). -/
inductive Notice where
  | retire (unit : Nat) (exclude : Bool)
  | lost (unit : Nat)
  | repaired (unit : Nat)
  | discarded (tier base : Nat)
  | nearLost
  | linkDown
  | dieReset (die : Nat) (system : Bool)
  | queueReset (queue : Nat)
  | engineReset (engine : Nat)
  | laceRelease (wire : Nat)
  | waitTimeout (queue : Nat) (ticket : BitVec 16)
  | peerAck (package seq : Nat) (crcOk error : Bool) (data : List Byte)
  | response (txn : Nat) (fail : Option Cause) (corrected : Nat)
  deriving DecidableEq, Repr

/-- What waits at the boundary until FCLK runs (R21, R353). -/
inductive HeldReq where
  | notice (n : Notice)
  | cmd (op : BitVec 8) (c : Cmd)
  | write (port : Port) (addr : Nat) (v : Word)
  | read (port : Port) (addr : Nat)
  | doorbell (offset : Nat) (size : Nat) (v : Word)
  | tap (tap : Nat) (slate gen block : Nat) (data : List Byte)
  | operand (engine slate gen block : Nat)
  | ship (h : PeerHead) (addr : Nat) (data : List Byte) (sig : Option Signal)
  | fetch (h : PeerHead) (addr len : Nat)
  | reduce (h : PeerHead) (total : List Byte)
  | prop (h : PeerHead) (addr len : Nat) (lastUse : Bool)
  deriving DecidableEq, Repr

/-- The power-down handling of one domain (R363 to R365). -/
inductive PdPhase where
  | none | drain | defer | granted
  deriving DecidableEq, Repr

structure Pd where
  req : Bool
  phase : PdPhase
  since : Nat
  deriving DecidableEq, Repr

/-- Power states, lending and power-down (R349 to R365, R378). waking is the time at which a wake ends, trigger its
trigger by R303, lent the milliwatts of the last STATE_LEND; heldWrites the writes of units to a domain whose power-down is
handled (R363); resid holds the ticks spent in each state. -/
structure PowerUnit where
  state : Power
  chosen : Power
  since : Nat
  waking : Option Nat
  trigger : Nat
  needAck : Bool
  lending : Bool
  lent : Nat
  offRefused : Bool
  gap : Nat
  eff : Nat
  src : Nat
  wakeAt : Option Nat
  budget : Nat
  hintAt : Option Nat
  pds : NMap Pd
  offPending : Bool
  offPosted : Bool
  busUntil : Nat
  heldReqs : List HeldReq
  heldWrites : List (Nat × List Byte)
  resid : List Nat
  deriving DecidableEq, Repr

/-- The phases of RST_STAT (R375, R377). -/
inductive Phase where
  | aoc | straps | lock | clear | verify | boot | ports | ready
  deriving DecidableEq, Repr

/-- An outbound write that an isolation waits for (R316): transaction, sequence number of a peer operation, address
and bytes. -/
structure OutWrite where
  txn : Nat
  seq : Option Nat
  addr : Nat
  data : List Byte
  deriving DecidableEq, Repr

/-- Resets, straps and boot (R366 to R377). causeNow holds the causes of the reset in progress; isolating says
that the instance waits for the responses of writes, begun at releasedAt (R316); restart is the time that FCLK
takes to start again (R376); iso counts what ISO_FLUSH reports; opcode is that of WDOG_RESET. -/
structure ResetUnit where
  phase : Phase
  bootSrc : BitVec 2
  clkMode : BitVec 2
  cause : Word
  causeNow : List Nat
  bootResult : Nat
  readyUs : Nat
  releasedAt : Nat
  restart : Nat
  isolating : Bool
  writes : List OutWrite
  iso : Nat × Nat × Nat
  opcode : Nat
  wdogCoreAt : Option Nat
  powered : Bool
  deriving DecidableEq, Repr

/-- Debug logic: sequencer halt (R411, R412), wrapper (R394) and loopbacks (R397, R399). -/
structure Debug where
  halted : Bool
  stepPending : Bool
  wir : BitVec 4
  wby : Bool
  wbr : BitVec 1904
  test : Bool
  wraAddr : BitVec 20
  wraWrite : Bool
  wraDone : Bool
  wraResult : Nat
  wraData : Word
  lbBusy : Bool
  lbDone : Bool
  lbPass : Bool
  lbNotAllowed : Bool
  lbExp : Word
  lbFound : Word
  lbFail : Nat
  lbCycles : Word
  deriving DecidableEq, Repr

/-- A recorder record (R379). -/
structure Rec where
  seq : Nat
  code : Nat
  source : Nat
  flags : Nat
  time : Nat
  params : List Word
  deriving DecidableEq, Repr

/-- An event that has taken effect and that the recorder has not taken yet (R381). -/
structure Event where
  code : Nat
  source : Nat
  params : List Word
  deriving DecidableEq, Repr

/-- What a valid slot of the NV store holds (R386). -/
structure NvSlot where
  optime : Nat
  count : Nat
  gen : Nat
  deriving DecidableEq, Repr

/-- An event of the cycle that runs, before the recorder takes it: when it was raised, and its record but for the
sequence number (R28, R381). -/
structure Raised where
  time : Nat
  record : Rec
  deriving DecidableEq, Repr

/-- The event recorder and the time base (R379 to R393). raised is empty between commands. -/
structure Recorder where
  ring : NMap Rec
  queue : List Rec
  raised : List Raised
  waiting : List Event
  head : Nat
  tail : Nat
  wrapped : Bool
  eraseBelow : Option Nat
  tailReject : Bool
  nvBlank : Bool
  nvFail : Bool
  nvSlot : Nat
  nvPending : Option (Nat × Nat × List Byte)
  nv : List (List Byte)
  optimeBase : Nat
  pcycles : Nat
  calNs : Nat
  calAt : Nat
  calRef : Nat
  calMsgAt : Option Nat
  timeLocked : Bool
  deriving DecidableEq, Repr

/-! ### The die around the instance -/

/-- One range of the die address map: base, size and tier 1 to 3, and the power-down domain of its
stacked memory (R220, R363). -/
structure DieRange where
  base : Nat
  size : Nat
  tier : Nat
  domain : Nat
  deriving DecidableEq, Repr

/-- The context of a core queue (R25). -/
structure QueueCtx where
  tenant : Nat
  enabled : Bool
  deriving DecidableEq, Repr

/-- What the die gives the instance: address map, doorbell window, position, core-queue contexts. -/
structure Die where
  map : List DieRange
  dbBase : Nat
  die : Nat
  package : Option Nat
  queues : NMap QueueCtx
  deriving DecidableEq, Repr

/-! ### The whole state -/

/-- One Relith instance, its boundary outputs, the memory around it and the commands that wait. -/
structure State where
  now : Nat
  tenants : NMap Tenant
  ledger : NMap Slate
  vault : Vault
  stitcher : Stitcher
  books : Books
  banks : NMap Bank
  retake : Retake
  continuity : Continuity
  movers : Movers
  tiers : Tiers
  services : Services
  eyes : Eyes
  lace : Lace
  pages : NMap Page
  latches : NMap Latch
  regs : NMap Word
  security : Security
  port : CmdPort
  clicker : Clicker
  peer : Peer
  power : PowerUnit
  rst : ResetUnit
  dbg : Debug
  recorder : Recorder
  die : Die
  mem : NMap Byte
  out : Outputs
  draws : Nat
  pending : List Instr
  deriving DecidableEq, Repr

/-! ### The state after reset -/

/-- The register sets of a channel at reset (R200). -/
def ChanRegs.zero : ChanRegs :=
  { cfg := 0, pace := 0, src := 0, dst := 0, count := 0, flagAddr := 0, flagVal := 0, startFrame := 0 }

/-- A tenant that owns nothing (R337). -/
def Partition.nothing : Partition :=
  { shelves := 0, eyeBase := 0, eyeCount := 0, quota := 0, keySlot := 0, outerEnc := false, borrower := 0,
    loanEn := false, maxLoan := 0 }

/-- The reset partition: tenant 0 owns all shelves, eyelets and slates (R337). -/
def Partition.resetList : List Partition :=
  { Partition.nothing with shelves := 2 ^ 112 - 1, eyeCount := 4096, quota := 65536 }
    :: List.replicate 7 Partition.nothing

/-- The protection set-up at a power-on or system reset (R337, R348). -/
def Security.init : Security :=
  { parts := Partition.resetList, privCtl := 0x9AAAAAAAAAAAAA6A#64, privSec := 0x5555555555555599#64,
    privDbg := 0x6555555555555515#64, dbgPriv := 4#3, viewCtl := 0, viewSec := 0, viewDbg := 0,
    attached := 0x1F, keys := [], stage := [], csNonce := 0#32, proposal := none, applying := none,
    lastNonce := none, lastProposer := 0, digest := 0#32, result := 0, refused := 0, loans := [],
    clearing := none, clearCmd := none, clearReturn := false }

/-- A global-norm unit that has run no round (R265). -/
def Gn.init : Gn :=
  { phase := .idle, startedAt := 0, leads := false, written := false, own := [], totals := [], incomplete := false, overflow := false,
    nonfinite := false, rejected := false, packages := 0, instances := 0 }

/-- The power unit at reset: ACTIVE, budget 18,000 mW (R351, R378). -/
def PowerUnit.init : PowerUnit :=
  { state := .active, chosen := .active, since := 0, waking := none, trigger := 0, needAck := false, lending := false, lent := 0,
    offRefused := false, gap := 0, eff := 0, src := 0, wakeAt := none, budget := 18000, hintAt := none, pds := [],
    offPending := false, offPosted := false, busUntil := 0, heldReqs := [], heldWrites := [], resid := [0, 0, 0, 0, 0] }

/-- The reset unit during power-on reset: phase AOC, cause bit 0 (R366, R377). -/
def ResetUnit.init : ResetUnit :=
  { phase := .aoc, bootSrc := 0#2, clkMode := 0#2, cause := 1#32, causeNow := [0], bootResult := 0, readyUs := 0,
    releasedAt := 0, restart := 0, isolating := false, writes := [], iso := (0, 0, 0), opcode := 0xFF, wdogCoreAt := none,
    powered := true }

/-- The debug logic at a power-on reset (R369, R394, R399, R411). -/
def Debug.init : Debug :=
  { halted := false, stepPending := false, wir := 0#4, wby := false, wbr := 0#1904, test := false, wraAddr := 0#20, wraWrite := false,
    wraDone := false, wraResult := 0, wraData := 0#32,
    lbBusy := false, lbDone := false, lbPass := false, lbNotAllowed := false, lbExp := 0#32, lbFound := 0#32,
    lbFail := 0, lbCycles := 0#32 }

/-- An empty recorder with blank NV slots (R383, R387). -/
def Recorder.init : Recorder :=
  { ring := [], queue := [], raised := [], waiting := [], head := 0, tail := 0, wrapped := false, eraseBelow := none,
    tailReject := false, nvBlank := false, nvFail := false, nvSlot := 0, nvPending := none,
    nv := [List.replicate 16 0#8, List.replicate 16 0#8],
    optimeBase := 0, pcycles := 0, calNs := 0, calAt := 0, calRef := 0, calMsgAt := none, timeLocked := false }

/-- The movers at reset: no transfer, no transaction; the last channel served is 63 (R183). -/
def Movers.init : Movers :=
  { chans := [], transfers := [], nextTransfer := 0, txns := [], nextTxn := 0, lastHi := (63, 63),
    lastLo := (63, 63), inflightHwm := 0 }

/-- The tiers at reset: no region, host ATTACHED, 12 near channels (R230). -/
def Tiers.init : Tiers :=
  { regions := [], extents := [], repairing := [], excluded := [], lost := [], notices := [], host := .attached, hbAt := 0, detachedAt := 0,
    nearChans := 12, rgnResult := 0 }

/-- Lanes and dispatcher at reset (R173). -/
def Retake.init : Retake :=
  { lanes := 0xFFFF, testing := none, lanesTesting := 0, work := [], scripts := [], loading := none, result := 0,
    jobs := [], waiting := [], lastQueue := 63 }

/-- The stitcher at reset (R135). -/
def Stitcher.init : Stitcher :=
  { lanes := 0xFF, taps := [], offered := [], lastTap := [], jobs := [], inlineBuf := [], mismatch := [], verifyWanted := 0 }

/-- The book store at reset: book 0 only, which is built in (R129, R131). -/
def Books.init : Books := { store := [], result := 0, misses := [], lastServed := 47 }

/-- The command port at reset. -/
def CmdPort.init : CmdPort :=
  { window := [], executing := [], serial := 0, queue := [], stalled := [], decoded := 0, lastOpcode := 0#8 }

/-- The clicker's registers at reset (R108). -/
def Clicker.init : Clicker :=
  { queue := [], last := 0#32, lastFrame := 0, lastCost := 0, lastScore := 0 }

/-- The peer protocol at reset (R413). -/
def Peer.init : Peer :=
  { nextSeq := 0, ops := [], waitingOps := [], hwm := 0, rx := [], signals := [], lost := 0, portUp := false,
    partnerReject := false }

/-- Nothing has left the boundary. -/
def Outputs.init : Outputs :=
  { completions := [], beats := [], descriptors := [], accesses := [], peerOps := [], peerAnswers := [], power := [],
    irqMessages := [], reads := [], retireAcks := [], errors := 0 }

/-- The die around the instance. The manual leaves the map, the position and the contexts to the die:
DESIGN CHOICE, log entry 4; unsafe for a claim that rests on these values. -/
def Die.init : Die :=
  { map := [{ base := 0, size := 2 ^ 36, tier := 1, domain := 2 },
            { base := 2 ^ 36, size := 2 ^ 36, tier := 2, domain := 1 },
            { base := 2 ^ 37, size := 2 ^ 38, tier := 3, domain := 0 }],
    dbBase := 2 ^ 40, die := 0, package := none, queues := [] }

/-- The instance in power-on reset (R366, R369, R402 to R413): every register at its reset value, nothing
loaded, not READY. -/
def State.reset : State :=
  { now := 0, tenants := [], ledger := [], vault := { extents := [], retired := 0 }, stitcher := Stitcher.init,
    books := Books.init, banks := [], retake := Retake.init, continuity := { poison := [] },
    movers := Movers.init, tiers := Tiers.init,
    services := { meters := [], gn := Gn.init, exposures := [] },
    eyes := { eyes := [], waits := [], ctx := none, ctxResult := 0, heldSignals := [] },
    lace := { wires := [], done := 0, others := 0, pulses := [] }, pages := [], latches := [], regs := [],
    security := Security.init, port := CmdPort.init, clicker := Clicker.init, peer := Peer.init,
    power := PowerUnit.init, rst := ResetUnit.init, dbg := Debug.init, recorder := Recorder.init,
    die := Die.init, mem := [], out := Outputs.init, draws := 0, pending := [] }

end Sys2Proof.Machine
end

