-- ==== Sys2Proof/Machine/Ops.lean ====
section
/-! DEFINITION. The named operations over the state: sparse stores, memory outside the block, the register
file, the units that are kept by number, time, and what leaves the boundary. -/

namespace Sys2Proof.Machine

/-! ### Sparse stores -/

/-- The entry of a key. -/
def look {α : Type} : NMap α → Nat → Option α
  | [], _ => none
  | (k, v) :: r, j => if j = k then some v else look r j

/-- Write the entry of a key; keys stay rising. -/
def put {α : Type} : NMap α → Nat → α → NMap α
  | [], j, x => [(j, x)]
  | (k, v) :: r, j, x =>
    if j < k then (j, x) :: (k, v) :: r else if j = k then (j, x) :: r else (k, v) :: put r j x

/-- Remove the entry of a key. -/
def del {α : Type} : NMap α → Nat → NMap α
  | [], _ => []
  | (k, v) :: r, j => if j = k then del r j else (k, v) :: del r j

/-- Write a key of a store whose unlisted entries read d: an entry equal to d is not listed. -/
def putD {α : Type} [DecidableEq α] (d : α) (m : NMap α) (j : Nat) (x : α) : NMap α :=
  if x = d then del m j else put m j x

/-! ### Memory outside the block -/

namespace Memory

/-- What a byte that nothing has written reads as: DESIGN CHOICE, log entry 3, unsafe. -/
def blank : Byte := 0#8

/-- Read one byte. -/
def get (m : NMap Byte) (a : Nat) : Byte := (look m a).getD blank

/-- Write one byte; the canonical form is kept. -/
def set (m : NMap Byte) (a : Nat) (b : Byte) : NMap Byte := putD blank m a b

/-- The canonical form: addresses rising, no entry equal to what an unlisted address reads as. -/
def wf : NMap Byte → Bool
  | [] => true
  | [(_, b)] => b != blank
  | (a, b) :: (a', b') :: r => (b != blank) && decide (a < a') && wf ((a', b') :: r)

/-- Read n bytes from an address. -/
def read (m : NMap Byte) (a : Nat) : Nat → List Byte
  | 0 => []
  | n + 1 => get m a :: read m (a + 1) n

/-- Write bytes from an address on, lowest first. -/
def write (m : NMap Byte) (a : Nat) : List Byte → NMap Byte
  | [] => m
  | b :: r => write (set m a b) (a + 1) r

/-- Apply the bytes that other masters have written. -/
def apply (m : NMap Byte) : List Host.Cell → NMap Byte
  | [] => m
  | (a, b) :: r => apply (set m a b) r

end Memory

/-- Memory as the units of this instance read it: with the writes that they hold back (R363, log entry 97). -/
def State.unitMem (s : State) : NMap Byte := s.power.heldWrites.foldl (fun m w => Memory.write m w.1 w.2) s.mem

/-- Read n bytes of memory outside the block for a unit. -/
def State.unitRead (s : State) (a n : Nat) : List Byte := Memory.read s.unitMem a n

/-- The same as a number (R7). -/
def State.memNat (s : State) (a n : Nat) : Nat := leNat (s.unitRead a n)

/-- Write bytes to memory outside the block. -/
def State.memWrite (s : State) (a : Nat) (bs : List Byte) : State := { s with mem := Memory.write s.mem a bs }

/-- Take in what other masters have written (log entry 5). -/
def State.external (s : State) (ext : List Host.Cell) : State := { s with mem := Memory.apply s.mem ext }

/-! ### The register file -/

/-- The word of the register file with a key. -/
def State.regKey (s : State) (k : Nat) : Word := (look s.regs k).getD (regReset k)

/-- Write the word with a key. -/
def State.setKey (s : State) (k : Nat) (v : Word) : State := { s with regs := put s.regs k v }

/-- Key of copy t of the register at an address. -/
def keyOf (addr t : Nat) : Nat := addr + 2 ^ 20 * t

/-- A register without copies. -/
def State.reg (s : State) (addr : Nat) : Word := s.regKey addr

def State.setReg (s : State) (addr : Nat) (v : Word) : State := s.setKey addr v

/-- Copy t of a register (a tenant, a tier, or tenant × 8 + tier). -/
def State.regT (s : State) (addr t : Nat) : Word := s.regKey (keyOf addr t)

def State.setRegT (s : State) (addr t : Nat) (v : Word) : State := s.setKey (keyOf addr t) v

/-- The value of a 64-bit register, copy t. -/
def State.reg64 (s : State) (addr t : Nat) : Nat :=
  (s.regT addr t).toNat + 2 ^ 32 * (s.regT (addr + 4) t).toNat

def State.setReg64 (s : State) (addr t : Nat) (v : Nat) : State :=
  (s.setRegT addr t (w32 v)).setRegT (addr + 4) t (w32 (v / 2 ^ 32))

/-- Advance a wrapping counter (R407). -/
def State.bump (s : State) (addr n : Nat) : State := s.setReg addr (s.reg addr + w32 n)

/-- Advance a saturating counter (R407). -/
def State.bumpSat (s : State) (addr n : Nat) : State :=
  s.setReg addr (w32 (satAdd 32 (s.reg addr).toNat n))

/-- Advance a 64-bit count. -/
def State.bump64 (s : State) (addr n : Nat) : State := s.setReg64 addr 0 ((s.reg64 addr 0 + n) % 2 ^ 64)

/-- Address of a bank's register (R140). -/
def opxAddr (base b : Nat) : Nat := base + b / 12 * 0x1000 + b % 12 * 0x20

/-! ### Units kept by number -/

/-- No reel is being written (R254). -/
def Reel.init : Reel :=
  { records := 0, full := false, diverged := false, truncated := false, playEnd := false, playPos := 0 }

/-- A tenant with no sheet and no step (R369). -/
def Tenant.init : Tenant :=
  { sheet := none, check := none, refused := false, reason := 0, refuseEntry := ones32, refuseFrame := ones32,
    refuseExcess := 0#32, stepOpen := false, stepId := 0#32, frame := 0, frameOpenAt := 0, beganAt := 0,
    copy := false, measured := [], frameTimes := [], framesClosed := 0, opened := [], trace := [], frozen := none, fc := [],
    overflow := none, replayMiss := false, recuts := 0, fallbacks := 0, halted := false, poisonFull := false,
    held := none, enHost := true, enPeer := true, enOff := [], capLoss := 0, reel := Reel.init, gathered := [],
    tornOnce := [], dead := [], unreserved := [], gathersWaiting := [] }

/-- A FREE record: every field zero but the generation (R61). -/
def Slate.freed (gen : Nat) : Slate :=
  { state := .free, gen := gen, tenant := 0, entryIndex := 0, entry := none, tier := 0, outcome := .none,
    blocksWritten := 0, releasePending := false, callPending := false, extentBase := 0, coded := 0, q1 := 0,
    q2 := 0, q3 := 0, digest := 0, writerMask := 0, inline := false, inlineHanded := false, calls := [], callAt := 0,
    engines := 0, dorMask := 0, rawFallback := 0, decN := 0, decP := 0, decOe := 0, decScore := 0,
    decided := false, pastHard := false, softLogged := false }

/-- An extent with nothing committed. -/
def Extent.init : Extent := { index := [], runs := [0, 0, 0, 0], images := [], units := [], work := [], unwritten := [] }

/-- A bank at reset (R140). -/
def Bank.init : Bank :=
  { failed := 0, selftest := none, cache := [], reqs := [], elastic := [], offered := [], hwm := 0, lbuf := [] }

/-- Channel n at reset: channels 0 to 55 are pool channels (R183). -/
def Chan.init (n : Nat) : Chan :=
  { active := ChanRegs.zero, shadow := ChanRegs.zero, state := .idle, shadowValid := false,
    inPool := decide (n < 56), half := false, full := false, badCfg := false, attempts := 0, cause := 0,
    transfers := 0, done := 0, transfer := none, halfSeen := false, started := false, startAt := 0,
    chainFull := false, periodAt := 0, used := 0, retries := [] }

/-- The page state at reset (R402; IRQ_EN of FLT by R322). -/
def Page.init (p : Nat) : Page :=
  { ctrl := if p = 3 then 1#32 else 0#32, raw := 0#32, en := if p = 0x1D then 0x15C8#32 else 0#32,
    synd := 0#32, addr := 0#64, errValid := false, owner := none, staged := [], overflow := false,
    lastResult := 0, accessAt := 0, lockedAt := 0 }

def State.tenant (s : State) (t : Nat) : Tenant := (look s.tenants t).getD Tenant.init
def State.setTenant (s : State) (t : Nat) (x : Tenant) : State := { s with tenants := put s.tenants t x }
def State.modTenant (s : State) (t : Nat) (f : Tenant → Tenant) : State := s.setTenant t (f (s.tenant t))

def State.slate (s : State) (i : Nat) : Slate := (look s.ledger i).getD (Slate.freed 0)
def State.setSlate (s : State) (i : Nat) (x : Slate) : State := { s with ledger := put s.ledger i x }
def State.modSlate (s : State) (i : Nat) (f : Slate → Slate) : State := s.setSlate i (f (s.slate i))

def State.extent (s : State) (i : Nat) : Extent := (look s.vault.extents i).getD Extent.init
def State.setExtent (s : State) (i : Nat) (x : Extent) : State :=
  { s with vault := { s.vault with extents := put s.vault.extents i x } }
def State.modExtent (s : State) (i : Nat) (f : Extent → Extent) : State := s.setExtent i (f (s.extent i))
def State.dropExtent (s : State) (i : Nat) : State :=
  { s with vault := { s.vault with extents := del s.vault.extents i } }

def State.bank (s : State) (b : Nat) : Bank := (look s.banks b).getD Bank.init
def State.setBank (s : State) (b : Nat) (x : Bank) : State := { s with banks := put s.banks b x }
def State.modBank (s : State) (b : Nat) (f : Bank → Bank) : State := s.setBank b (f (s.bank b))

def State.chan (s : State) (c : Nat) : Chan := (look s.movers.chans c).getD (Chan.init c)
def State.setChan (s : State) (c : Nat) (x : Chan) : State :=
  { s with movers := { s.movers with chans := put s.movers.chans c x } }
def State.modChan (s : State) (c : Nat) (f : Chan → Chan) : State := s.setChan c (f (s.chan c))

def State.page (s : State) (p : Nat) : Page := (look s.pages p).getD (Page.init p)
def State.setPage (s : State) (p : Nat) (x : Page) : State := { s with pages := put s.pages p x }
def State.modPage (s : State) (p : Nat) (f : Page → Page) : State := s.setPage p (f (s.page p))

def State.eyelet (s : State) (e : Nat) : Eyelet := (look s.eyes.eyes e).getD ⟨0#32, 0#32, 0#32⟩
def State.setEyelet (s : State) (e : Nat) (x : Eyelet) : State :=
  { s with eyes := { s.eyes with eyes := put s.eyes.eyes e x } }

def State.wire (s : State) (n : Nat) : Wire := (look s.lace.wires n).getD ⟨.off, false, 0, 0⟩
def State.setWire (s : State) (n : Nat) (x : Wire) : State :=
  { s with lace := { s.lace with wires := put s.lace.wires n x } }

def State.meter (s : State) (k : Nat) : Meter := (look s.services.meters k).getD ⟨0, 0#32, 0, 0, false⟩
def State.setMeter (s : State) (k : Nat) (x : Meter) : State :=
  { s with services := { s.services with meters := put s.services.meters k x } }

/-- An exposure entry; reset EXS_CFG, margin 2.0 and scale 2^0 (R240, R266). -/
def State.exposure (s : State) (k : Nat) : Exposure :=
  (look s.services.exposures k).getD ⟨0x40000#32, 0x40000000#32, 0x7F, [], false⟩
def State.setExposure (s : State) (k : Nat) (x : Exposure) : State :=
  { s with services := { s.services with exposures := put s.services.exposures k x } }
def State.setGn (s : State) (g : Gn) : State := { s with services := { s.services with gn := g } }

def State.pd (s : State) (d : Nat) : Pd := (look s.power.pds d).getD ⟨false, .none, 0⟩
def State.setPd (s : State) (d : Nat) (x : Pd) : State := { s with power := { s.power with pds := put s.power.pds d x } }

def State.part (s : State) (t : Nat) : Partition := s.security.parts.getD t Partition.nothing
def State.setPart (s : State) (t : Nat) (x : Partition) : State :=
  { s with security := { s.security with parts := s.security.parts.set t x } }

/-- The context of a core queue (R25): tenant 0, enabled, unless listed (log entry 4). -/
def State.queueCtx (s : State) (q : Nat) : QueueCtx := (look s.die.queues q).getD ⟨0, true⟩

/-- The tenant of a command: that of its issuing queue's context (R25). -/
def State.tenantOf (s : State) (c : Cmd) : Nat := (s.queueCtx c.queue.val).tenant

def State.transfer (s : State) (i : Nat) : Option Transfer := look s.movers.transfers i
def State.setTransfer (s : State) (i : Nat) (x : Transfer) : State :=
  { s with movers := { s.movers with transfers := put s.movers.transfers i x } }
def State.dropTransfer (s : State) (i : Nat) : State :=
  { s with movers := { s.movers with transfers := del s.movers.transfers i } }

/-! ### Domains (R363) -/

/-- The domain that an address belongs to. -/
def State.addrDomain (s : State) (a : Nat) : Option Nat :=
  (s.die.map.find? (fun r => decide (r.base ≤ a) && decide (a < r.base + r.size))).map
    (fun r => if r.tier = 3 then 0 else r.domain)

/-- May a unit or a partner's request reach an address: is no power-down of its domain handled? -/
def State.memOpen (s : State) (a : Nat) : Bool :=
  match s.addrDomain a with
  | none => true
  | some d => (s.pd d).phase == .none

/-- A write of a unit that is no mover: it waits while a power-down of its domain is handled (R363, log entry 97). -/
def State.unitWrite (s : State) (a : Nat) (bs : List Byte) : State :=
  if s.memOpen a then s.memWrite a bs
  else { s with power := { s.power with heldWrites := s.power.heldWrites ++ [(a, bs)] } }

/-- The writes held back whose domain is open again reach memory, oldest first (R365). -/
def State.flushWrites (s : State) : State :=
  let go := s.power.heldWrites.filter (fun w => s.memOpen w.1)
  let stay := s.power.heldWrites.filter (fun w => !s.memOpen w.1)
  go.foldl (fun (s : State) w => s.memWrite w.1 w.2) { s with power := { s.power with heldWrites := stay } }

/-! ### The doorbell window (R284) -/

/-- Is an address in the doorbell window? -/
def State.inDoorbells (s : State) (a : Nat) : Bool := decide (s.die.dbBase ≤ a) && decide (a < s.die.dbBase + 0x8000)

/-- What a read of n bytes brings: the doorbell window reads 0. -/
def State.busRead (s : State) (a n : Nat) : List Byte :=
  if s.inDoorbells a then List.replicate n 0#8 else Memory.read s.mem a n

/-! ### Time -/

/-- Microseconds of the AOC timebase in ticks of 10 ns (R26). -/
def us (n : Nat) : Nat := 100 * n

/-- Move the AOC time to an instant that a timed step names; it never goes back (log entry 1). -/
def State.advanceTo (s : State) (t : Nat) : State := { s with now := max s.now t }

/-- AOC ticks since the tenant's STEP_BEGIN (R100). -/
def State.stepTime (s : State) (t : Nat) : Nat := s.now - (s.tenant t).beganAt

/-! ### Free values -/

/-- A fresh argument for the free values of Config. -/
def State.draw (s : State) : State := { s with draws := s.draws + 1 }

/-- A word that no rule states, fresh at each use. -/
def State.unstatedWord (s : State) : Word := (Config.unstated s.draws).setWidth 32

/-! ### What leaves the boundary -/

def State.outCompletion (s : State) (c : Completion) : State :=
  { s with out := { s.out with completions := s.out.completions ++ [c] } }
def State.outBeats (s : State) (b : Beats) : State := { s with out := { s.out with beats := s.out.beats ++ [b] } }
/-- A message on the die power message bus: outbound messages leave in order, one per AOC cycle (R360). -/
def State.outPower (s : State) (m : Nat) : State :=
  { s with out := { s.out with power := s.out.power ++ [BitVec.ofNat 64 m] }
           power := { s.power with busUntil := max s.now s.power.busUntil + 1 } }
def State.outRead (s : State) (p : Port) (a : Nat) (v : Word) : State :=
  { s with out := { s.out with reads := s.out.reads ++ [(p, a, v)] } }
def State.outAnswer (s : State) (a : PeerAnswer) : State :=
  { s with out := { s.out with peerAnswers := s.out.peerAnswers ++ [a] } }
def State.outDescriptor (s : State) (q : Nat) (bs : List Byte) : State :=
  { s with out := { s.out with descriptors := s.out.descriptors ++ [(q, bs)] } }
def State.outAccess (s : State) (a : MemAccess) : State :=
  { s with out := { s.out with accesses := s.out.accesses ++ [a] } }
def State.outPeerOp (s : State) (o : PeerOp) : State := { s with out := { s.out with peerOps := s.out.peerOps ++ [o] } }
def State.outErrors (s : State) (n : Nat) : State := { s with out := { s.out with errors := s.out.errors + n } }
def State.outError (s : State) : State := s.outErrors 1
def State.outRetireAck (s : State) (a : Nat) : State :=
  { s with out := { s.out with retireAcks := s.out.retireAcks ++ [a] } }

/-! ### Numbers of the ports, states and outcomes -/

def Port.num : Port → Nat
  | .control => 1 | .security => 2 | .debug => 4

def SlateState.num : SlateState → Nat
  | .free => 0 | .opened => 1 | .sealed => 2 | .kept => 3 | .movingOut => 4 | .parked => 5 | .returning => 6
  | .dropped => 7 | .reshooting => 8 | .ready => 9 | .inUse => 10 | .torn => 11 | .lost => 12

def Placed.num : Placed → Nat
  | .none => 0 | .keep => 1 | .shelve => 2 | .ship => 3 | .store => 4 | .reshoot => 5

/-- The outcome with a number of R60, as the reel records it. -/
def Placed.ofNum : Nat → Placed
  | 1 => .keep | 2 => .shelve | 3 => .ship | 4 => .store | 5 => .reshoot | _ => .none

/-- The outcome that moves a slate to a tier (R82). -/
def outcomeOf : Nat → Placed
  | 0 => .keep | 1 => .shelve | 2 => .ship | 4 => .ship | 3 => .store | _ => .reshoot

def Power.num : Power → Nat
  | .active => 0 | .idle => 1 | .doze => 2 | .nap => 3 | .deep => 4 | .off => 5

def Cause.num : Cause → Nat
  | .errorResponse => 0 | .uncorrectable => 1 | .link => 2 | .check => 3 | .timeout => 4 | .region => 5

def HostState.num : HostState → Nat
  | .attached => 0 | .detached => 1 | .heldSteps => 2

def Phase.num : Phase → Nat
  | .aoc => 0 | .straps => 1 | .lock => 2 | .clear => 3 | .verify => 4 | .boot => 5 | .ports => 6 | .ready => 7

/-- The slate word of R303. -/
def slateWord (idx gen tenant : Nat) : Word := w32 (idx + 2 ^ 16 * gen + 2 ^ 24 * tenant)

/-- The slate word of a record. -/
def State.slateWordOf (s : State) (i : Nat) : Word := slateWord i (s.slate i).gen (s.slate i).tenant

/-! ### Ready, isolated, asleep -/

/-- relith_ready_n is low (R22, R36, R346 rule K). -/
def State.isReady (s : State) : Bool := s.rst.phase == .ready && !s.dbg.test && s.rst.powered && !s.power.offPosted

/-- A wrapper instruction that holds the functional boundary (R394). -/
def holding (wir : BitVec 4) : Bool := [2, 3, 4, 5, 9].contains wir.toNat

/-- A holding instruction under which the outputs show the boundary register's cells, and not the safe values (R394). -/
def padCells (wir : BitVec 4) : Bool := [2, 3, 5].contains wir.toNat

/-- The boundary outputs follow the units: READY is reached, power is there and the state is not OFF (R8, R22, R373), and no
wrapper instruction holds the boundary (R394). -/
def State.outputsLive (s : State) : Bool :=
  s.rst.powered && s.rst.phase == .ready && !s.rst.isolating && s.power.state != .off && !holding s.dbg.wir

/-- FCLK runs (R351, R352): the state is ACTIVE or IDLE. -/
def State.clockRuns (s : State) : Bool := s.power.state == .active || s.power.state == .idle

/-- Every slate index with a record that is not FREE, ascending. -/
def State.liveSlates (s : State) : List Nat :=
  (s.ledger.filter (fun p => p.2.state != .free)).map (·.1)

/-- Non-FREE slates of a tenant, ascending. -/
def State.tenantSlates (s : State) (t : Nat) : List Nat :=
  s.liveSlates.filter (fun i => (s.slate i).tenant == t)

/-- The slate of an entry in a tenant's step: one that is not FREE and not released (R65). -/
def State.slateOfEntry (s : State) (t e : Nat) : Option Nat :=
  (s.tenantSlates t).find? (fun i => (s.slate i).entryIndex == e && !(s.slate i).releasePending)

/-- The first slate index whose record is FREE (R59). -/
def lowestFree (used : List Nat) : Nat → Nat → Option Nat
  | _, 0 => none
  | i, f + 1 => if used.contains i then lowestFree used (i + 1) f else some i

def State.freeRecord (s : State) : Option Nat := lowestFree s.liveSlates 0 65536

/-- Does a tenant hold fewer non-FREE slates than its quota, and the ledger a FREE record (R77)? -/
def State.hasSlot (s : State) (t : Nat) : Bool :=
  decide ((s.tenantSlates t).length < (s.part t).quota) && s.freeRecord.isSome

/-- The entry copied into a slate's record. -/
def Entry.none : Entry :=
  { tag := 0, layerId := 0, mbId := 0, expertId := 0, fwdFrame := 0, format := 0, callFrame := 0, predRatio := 0,
    sizeBlocks := 0, scriptId := 0, mustKeep := false, pinTier := false, continuity := false,
    encryptOuter := false, pinValue := 0, streamClass := 0, bookId := 0, releaseFrame := 0, propDesc := 0,
    reserved := false }

def Slate.e (x : Slate) : Entry := x.entry.getD Entry.none

end Sys2Proof.Machine
end

