-- ==== Sys2Proof/Machine/Flags.lean ====
section
/-! DEFINITION. Interrupt and error flags of the pages (R403 to R405, R409), and the recording of events
(R301, R379 to R384). -/

namespace Sys2Proof.Machine

/-- IRQ_STAT of a page: IRQ_RAW AND IRQ_EN (R403). -/
def Page.irqStat (p : Page) : Word := p.raw &&& p.en

/-- A page drives line k when its irq_route is k and its IRQ_STAT is not zero (R404). -/
def State.pageDrives (s : State) (k p : Nat) : Bool :=
  let g := s.page p
  g.irqStat != 0#32 && fld g.ctrl.toNat 0 1 == k

/-- rel_irq_n[k] is asserted (R404); it is high while the outputs are not live (R373). -/
def State.irqLine (s : State) (k : Nat) : Bool := s.outputsLive && (List.range 32).any (s.pageDrives k)

/-- Send an interrupt message for each line whose condition has risen since the given values (R404). -/
def State.noteIrq (s : State) (was0 was1 : Bool) : State :=
  { s with out := { s.out with irqMessages := s.out.irqMessages
      ++ (if s.irqLine 0 && !was0 then [0] else []) ++ (if s.irqLine 1 && !was1 then [1] else []) } }

/-- Change a page and send the interrupt messages that the change causes. -/
def State.irqPage (s : State) (p : Nat) (f : Page → Page) : State :=
  (s.modPage p f).noteIrq (s.irqLine 0) (s.irqLine 1)

/-- Set IRQ_RAW bits of a page (R403). -/
def State.raise (s : State) (p : Nat) (bits : Nat) : State :=
  s.irqPage p (fun g => { g with raw := g.raw ||| w32 bits })

/-- Record an error on a page (R405): the first error is kept while err_first is 1 and err_valid is 1. -/
def State.pageError (s : State) (p : Nat) (synd : Word) (addr : Nat) : State :=
  s.modPage p fun g =>
    if bitAt g.ctrl.toNat 1 ∧ g.errValid then g
    else { g with synd := synd, addr := BitVec.ofNat 64 addr, errValid := true }

/-- IRQ_RAW bits that the manual names, by page (R409). -/
def irqBits (p : Nat) : Nat :=
  if p = 0x01 then 1 else if p = 0x02 then 3 else if p = 0x03 then 3 else if p = 0x04 then 3
  else if p = 0x06 then 3 else if p = 0x07 then 3 else if p = 0x08 then 15 else if p = 0x09 then 1
  else if p = 0x0A then 7 else if p = 0x0B then 1
  else if 0x0C ≤ p ∧ p ≤ 0x0F then 0x0FFF0FFF
  else if p = 0x10 then 3 else if p = 0x11 then 3 else if p = 0x12 then 3 else if p = 0x13 then 1
  else if 0x14 ≤ p ∧ p ≤ 0x17 then 0xFFFFFFFF
  else if p = 0x19 then 15 else if p = 0x1A then 3 else if p = 0x1B then 3 else if p = 0x1C then 3
  else if p = 0x1D then 0x17FE else if p = 0x1E then 3 else if p = 0x1F then 3 else 0

/-! ### Time of a record -/

/-- Operating time in µs (R384): it does not count in OFF. -/
def State.optime (s : State) : Nat :=
  min (2 ^ 48 - 1) (s.recorder.optimeBase + (if s.power.state = .off then s.power.since else s.now) / 100)

/-- The local calendar counter in ns (R385): it runs at 5 ns a tick while it is ahead of the service. -/
def State.calendar (s : State) : Nat :=
  max (s.recorder.calNs + 5 * (s.now - s.recorder.calAt)) (s.recorder.calRef + 10 * (s.now - s.recorder.calAt))

/-- The global mode word as software wrote it (R344). -/
def State.modeWord (s : State) : Nat := (s.reg R.BLK_MODE).toNat

/-- Calendar mode is in force and the time service is locked (R384, R385). -/
def State.calendarForm (s : State) : Bool := bitAt s.modeWord 7 && s.recorder.timeLocked

/-- The time field of a record taken now (R384). -/
def State.recTime (s : State) : Nat :=
  if s.calendarForm then s.calendar % 2 ^ 64 else s.optime + 2 ^ 48 * s.recorder.pcycles

/-- The flags of a record taken now, valid set (R379). -/
def State.recFlags (s : State) : Nat :=
  b2n s.calendarForm + 2 * b2n (bitAt s.modeWord 7 && !s.recorder.timeLocked)
    + 4 * b2n (s.rst.phase != .ready) + 128

/-! ### Taking events into the recorder -/

/-- The next sequence number that an event taken now receives (R381, R383). -/
def Recorder.nextSeq (r : Recorder) : Nat := (r.head + r.queue.length) % 2 ^ 32

/-- The recorder takes one record into its write queue (R381). -/
def State.takeRec (s : State) (x : Rec) : State :=
  let q := s.recorder.nextSeq
  let s := { s with recorder := { s.recorder with queue := s.recorder.queue ++ [{ x with seq := q }] } }
  (s.setReg R.FLT_LAST_CODE (w32 x.code)).setReg R.FLT_LAST_SEQ (w32 q)

/-- The record of an event, but for its sequence number, with the time of this moment. -/
def State.recordOf (s : State) (e : Event) : Rec := ⟨0, e.code, e.source, s.recFlags, s.recTime, e.params⟩

/-- A raised event reaches the recorder: it is taken, or it waits while the write queue of 16 is full (R381). -/
def State.offerRec (s : State) (x : Rec) : State :=
  if s.recorder.queue.length < 16 ∧ s.recorder.waiting = [] then s.takeRec x
  else { s with recorder := { s.recorder with waiting := s.recorder.waiting ++ [⟨x.code, x.source, x.params⟩] } }

/-- A source one of whose events the recorder has not taken holds further work (R381; log entry 107). -/
def State.sourceHeld (s : State) (source : Nat) : Bool := s.recorder.waiting.any (fun e => e.source == source)

/-- Is one raised event taken before another: at an earlier moment, or at the same one from a lower source (R28, R381)? -/
def Raised.before (x y : Raised) : Bool :=
  decide (x.time < y.time) || (x.time == y.time && decide (x.record.source < y.record.source))

/-- Insert a raised event behind those that are not after it. -/
def insertRaised (x : Raised) : List Raised → List Raised
  | [] => [x]
  | y :: r => if x.before y then x :: y :: r else y :: insertRaised x r

/-- The end of a cycle: its events reach the recorder, in the order of their sources (R28, R381). -/
def State.takeRaised (s : State) : State :=
  (s.recorder.raised.foldl (fun l x => insertRaised x l) []).foldl (fun (s : State) x => s.offerRec x.record)
    { s with recorder := { s.recorder with raised := [] } }

/-- How every command ends: a next state, its events taken. -/
def State.ends (s : State) : Host.Outcome State Fault Refusal := .next s.takeRaised

/-- Raise an event in the running cycle. -/
def State.raiseEvent (s : State) (e : Event) : State :=
  { s with recorder := { s.recorder with raised := s.recorder.raised ++ [⟨s.now, s.recordOf e⟩] } }

/-- Log an event of the master table (R301, R304, R322): recorder, class count, page FLT. -/
def State.log (s : State) (code source : Nat) (params : List Word) : State :=
  let cls := code / 256
  let s := s.raiseEvent ⟨code, source, params⟩
  let s := s.bumpSat (R.FLT_CNT + 4 * (cls - 1)) 1
  let s := if bitAt (s.page 0x1D).en.toNat cls then s.pageError 0x1D (w32 code) 0 else s
  s.raise 0x1D (2 ^ cls)

end Sys2Proof.Machine
end

