-- ==== Sys2Proof/Machine/Vault.lean ====
section
/-! DEFINITION. Where slates rest: vault shelves and units (R203 to R205), extents (R124, R125, R159), the region
table and the tier pools (R206, R208, R220), and which copies are enciphered (R44). -/

namespace Sys2Proof.Machine

/-! ### Sizes (R46) -/

def indexGr (size : Nat) : Nat := ceilDiv (size * 4) 32
def predGr (size ratio : Nat) : Nat := ceilDiv (size * 4096) ratio
def boundGr (size : Nat) : Nat := size * 129

/-- pred and bound of R89, in granules. -/
def Entry.pred (e : Entry) : Nat := predGr e.sizeBlocks e.predRatio + indexGr e.sizeBlocks
def Entry.bound (e : Entry) : Nat := boundGr e.sizeBlocks + indexGr e.sizeBlocks

/-! ### Shelves (R203) -/


/-- The shelves a tenant holds: its partition, less what it lends, with what it has borrowed (R252). -/
def State.shelfMap (s : State) (t : Nat) : Nat :=
  let own := s.security.loans.foldl (fun m l => if l.lender = t then mapMinus m l.shelves else m) (s.part t).shelves
  let own := match s.security.clearing with
    | some l => if l.lender = t then mapMinus own l.shelves else own
    | none => own
  s.security.loans.foldl (fun m l => if l.borrower = t then m ||| l.shelves else m) own

/-- The shelves of a tenant in service. -/
def State.shelvesOf (s : State) (t : Nat) : Nat := mapMinus (s.shelfMap t) s.vault.retired

def State.shelfCount (s : State) (t : Nat) : Nat := popBits (s.shelvesOf t) 112

/-- Units of an extent in a shelf. -/
def Extent.onShelf (x : Extent) (sh : Nat) : Nat := x.units.countP (· == sh)

def Extent.unitCount (x : Extent) : Nat := x.units.length

/-- Units in use in a shelf. -/
def State.shelfUse (s : State) (sh : Nat) : Nat := sumNat (s.vault.extents.map (fun p => p.2.onShelf sh))

/-- Units in use by a tenant's slates. -/
def State.unitsUsed (s : State) (t : Nat) : Nat :=
  sumNat ((s.vault.extents.filter (fun p => (s.slate p.1).tenant == t)).map (fun p => p.2.unitCount))

/-- Shelves of the tenant that can take a unit. -/
def State.openShelves (s : State) (t : Nat) : List Nat :=
  (bitsOf (s.shelvesOf t) 112).filter (fun sh => decide (s.shelfUse sh < 256))

def State.freeUnits (s : State) (t : Nat) : Nat :=
  sumNat ((bitsOf (s.shelvesOf t) 112).map (fun sh => 256 - s.shelfUse sh))

/-- Take n units of a tenant's shelves for a slate; the shelf of each is a free choice among those that R203
allows. -/
def State.takeUnits (s : State) (i t : Nat) : Nat → Option State
  | 0 => some s
  | n + 1 =>
    let sh := s.openShelves t
    match sh[Config.shelfPick s.draws % sh.length]? with
    | none => none
    | some k => ((s.modExtent i (fun x => { x with units := x.units ++ [k] })).draw).takeUnits i t n

/-- Granules of a slate's vault extent: index table and runs. -/
def State.extentGr (s : State) (i : Nat) : Nat := indexGr (s.slate i).e.sizeBlocks + sumNat (s.extent i).runs

/-- Vault units that the extent and the working blocks of a slate need (R157, R203). -/
def State.unitsNeeded (s : State) (i : Nat) : Nat :=
  ceilDiv (s.extentGr i) 128 + ceilDiv (sumNat ((s.extent i).work.map (fun p => p.2.length / 32))) 128

/-- Remember the highest units in use (VLT_HWM). -/
def State.noteUnits (s : State) (t : Nat) : State :=
  s.setRegT R.VLT_HWM t (w32 (max (s.regT R.VLT_HWM t).toNat (s.unitsUsed t)))

/-- Make a slate's units fit what it needs, the last taken given back first; none when no unit is free (R103, R204). -/
def State.fitUnits (s : State) (i : Nat) : Option State :=
  let need := s.unitsNeeded i
  let have_ := (s.extent i).unitCount
  let t := (s.slate i).tenant
  if need ≤ have_ then
    some (s.modExtent i (fun x => { x with units := x.units.take need }))
  else (s.takeUnits i t (need - have_)).map (fun s => s.noteUnits t)

/-! ### Extents -/

/-- Place a block image in a slate's extent: appended to its quarter's run, or written over an earlier image of
the same length (R125, R159); none while no vault unit is free. -/
def State.placeBlock (s : State) (i b : Nat) (img : List Byte) : Option State :=
  let x := s.extent i
  let len := img.length / 32
  let q := b / 65536
  match look x.index b with
  | some (off, l) =>
    if l = len then some (s.setExtent i { x with images := put x.images b img, index := put x.index b (off, len) })
    else (s.setExtent i { x with images := put x.images b img, index := put x.index b (x.runs.getD q 0, len),
                                 runs := x.runs.set q (x.runs.getD q 0 + len) }).fitUnits i
  | none =>
    (s.setExtent i { x with images := put x.images b img, index := put x.index b (x.runs.getD q 0, len),
                            runs := x.runs.set q (x.runs.getD q 0 + len) }).fitUnits i

/-- Key of working block i of a step's output. -/
def workKey (step i : Nat) : Nat := step * 2 ^ 22 + i

/-- Place a working block (R157). -/
def State.placeWork (s : State) (i step b : Nat) (img : List Byte) : Option State :=
  (s.modExtent i (fun x => { x with work := put x.work (workKey step b) img })).fitUnits i

/-- Free the working blocks whose keys satisfy a test (R158). -/
def State.freeWork (s : State) (i : Nat) (f : Nat → Bool) : State :=
  let s' := s.modExtent i (fun x => { x with work := x.work.filter (fun p => !f p.1) })
  (s'.fitUnits i).getD s'

/-- Granule offset of a quarter's first block, from the end of the index table, by the run lengths. -/
def runStart (runs : List Nat) (q : Nat) : Nat := sumNat (runs.take q)

/-- The index table as stored (R124). -/
def State.indexBytes (s : State) (i : Nat) : List Byte :=
  let x := s.extent i
  let n := (s.slate i).e.sizeBlocks
  fitTo (32 * indexGr n) ((List.range n).flatMap fun b =>
    match look x.index b with
    | none => leBytes 0 4
    | some (off, len) => leBytes (off + 2 ^ 24 * len) 4)

/-- A block with its place in the extent image: first granule from the start of the extent, and length. -/
structure Place where
  block : Nat
  first : Nat
  len : Nat
  deriving DecidableEq, Repr

/-- Insert by first granule. -/
def insertPlace (p : Place) : List Place → List Place
  | [] => [p]
  | q :: r => if p.first ≤ q.first then p :: q :: r else q :: insertPlace p r

/-- The places of an index, in extent order; base is the length of the index table. -/
def placesOf (base : Nat) (qoff : Nat → Nat) (index : NMap (Nat × Nat)) : List Place :=
  (index.map (fun p => Place.mk p.1 (base + qoff (p.1 / 65536) + p.2.1) p.2.2)).foldr insertPlace []

/-- The blocks of a slate's vault extent in extent order. -/
def State.places (s : State) (i : Nat) : List Place :=
  let x := s.extent i
  placesOf (indexGr (s.slate i).e.sizeBlocks) (runStart x.runs) x.index

/-- The record's quarter offsets, by quarter (R60). -/
def Slate.qoff (r : Slate) (q : Nat) : Nat := [0, r.q1, r.q2, r.q3].getD q 0

/-! ### Regions and pools (R206, R208, R220) -/

def State.regionList (s : State) : List (Nat × Region) := s.tiers.regions

/-- The partner package of tier 4 and whether one is named (R223, R413). -/
def State.partner (s : State) : Nat := fld (s.reg R.PEER_PARTNER).toNat 0 8
def State.partnerValid (s : State) : Bool := bitAt (s.reg R.PEER_PARTNER).toNat 8

/-- PEER_LOST is in effect for a package (R313). -/
def State.lostPackage (s : State) (p : Nat) : Bool := bitAt s.peer.lost p

/-- PEER_LOST is in effect for tier 4. -/
def State.peerLost (s : State) : Bool := s.lostPackage s.partner

/-- The pool of a tenant in a tier, with its entry number. With no partner named no tier-4 pool can be used. -/
def State.pool (s : State) (t tier : Nat) : Option (Nat × Region) :=
  if tier = 4 ∧ !s.partnerValid then none else s.tiers.regions.find? (fun p => p.2.kind == 2 && p.2.tenant == t && p.2.poolTier == tier)

/-- Is a run of bytes wholly inside a region? -/
def Region.holds (r : Region) (a n : Nat) : Bool := decide (r.base ≤ a) && decide (a + n ≤ r.base + r.len)

/-- A CONTROL region of a tenant that holds a run of bytes: its entry number (R220). -/
def State.controlRegion (s : State) (t a n : Nat) : Option Nat :=
  (s.tiers.regions.find? (fun p => p.2.kind == 1 && p.2.tenant == t && p.2.holds a n)).map (·.1)

/-- Runs of a tier's address space that no allocation may take: address and length. Units out of allocation
are local addresses and never touch the partner's offset space. -/
def State.busyRuns (s : State) (tier : Nat) : List (Nat × Nat) :=
  (s.tiers.extents.filter (fun x => x.tier == tier)).map (fun x => (x.base, 4096 * x.units))
    ++ (if tier = 4 then [] else (s.tiers.repairing ++ s.tiers.excluded).map (fun a => (a, 4096)))

/-- Do two runs meet? -/
def runsMeet (a n b m : Nat) : Bool := decide (a < b + m) && decide (b < a + n)

/-- The smaller of two optional numbers. -/
def optMin : Option Nat → Nat → Option Nat
  | none, b => some b
  | some a, b => some (min a b)

/-- The lowest-addressed free run of n units in a pool (R208). -/
def State.findRun (s : State) (r : Region) (n : Nat) : Option Nat :=
  let busy := s.busyRuns r.poolTier
  let starts := (r.base :: busy.map (fun p => p.1 + p.2)).filter fun a =>
    r.holds a (4096 * n) && busy.all (fun p => !runsMeet a (4096 * n) p.1 p.2)
  starts.foldl optMin none

/-- Each number of a list once. -/
def once (l : List Nat) : List Nat := l.foldr (fun i r => if r.contains i then r else i :: r) []

/-- Free units of a pool (TIER_FREE): those in no extent that are not out of allocation. -/
def State.poolFree (s : State) (t tier : Nat) : Nat :=
  match s.pool t tier with
  | none => 0
  | some (_, r) =>
    let held := s.tiers.extents.filter (fun x => x.tier == tier && r.holds x.base (4096 * x.units))
    let bad := if tier = 4 then [] else (once (s.tiers.repairing ++ s.tiers.excluded)).filter (fun u =>
      r.holds u 4096 && held.all (fun x => !runsMeet x.base (4096 * x.units) u 4096))
    r.len / 4096 - sumNat (held.map (·.units)) - bad.length

/-- Allocate a tier extent for a slate: its base (R208). -/
def State.allocTier (s : State) (i tier : Nat) : Option (State × Nat) :=
  let x := s.slate i
  match s.pool x.tenant tier with
  | none => none
  | some (_, r) =>
    let n := ceilDiv x.coded 128
    match s.findRun r n with
    | none => none
    | some a =>
      some ({ s with tiers := { s.tiers with extents := s.tiers.extents ++
        [TierExtent.mk x.tenant tier a n i x.gen false false] } }, a)

/-- Does an allocated extent of tiers 1 to 3 cover a unit? -/
def State.unitCovered (s : State) (u : Nat) : Bool :=
  s.tiers.extents.any (fun x => x.tier != 4 && runsMeet x.base (4096 * x.units) u 4096)

/-- Acknowledge the retirement notices of units that no extent covers (R215). -/
def State.ackNotices (s : State) : State :=
  let go := s.tiers.notices.filter (fun u => !s.unitCovered u)
  go.foldl State.outRetireAck
    { s with tiers := { s.tiers with notices := s.tiers.notices.filter s.unitCovered } }

/-- Keep only the tier extents that satisfy a test. -/
def State.keepExtents (s : State) (f : TierExtent → Bool) : State :=
  ({ s with tiers := { s.tiers with extents := s.tiers.extents.filter f } }).ackNotices

/-- Give a tier extent back to its pool (R209). -/
def State.freeTierExtent (s : State) (tier base : Nat) : State :=
  s.keepExtents (fun x => !(x.tier == tier && x.base == base))

/-- A tier extent that a test names is released: its units return to the pool at once, or, once it has been read with LAST_USE,
after the die cache's last discard (R209). -/
def State.releaseExtents (s : State) (f : TierExtent → Bool) : State :=
  ({ s with tiers := { s.tiers with extents := s.tiers.extents.filterMap (fun x =>
      if !f x then some x else if x.read then some { x with lastUse := true } else none) } }).ackNotices

/-- Release the tier extent at an address. -/
def State.retireTierExtent (s : State) (tier base : Nat) : State :=
  s.releaseExtents (fun x => x.tier == tier && x.base == base)

/-- A LAST_USE read of the extent at an address is issued. -/
def State.readLastUse (s : State) (tier base : Nat) : State :=
  { s with tiers := { s.tiers with extents := s.tiers.extents.map (fun x =>
    if x.tier = tier ∧ x.base = base then { x with read := true } else x) } }

/-! ### Frozen values of a tenant -/

/-- A tenant's frozen values, all zero before its first STEP_BEGIN. -/
def Frozen.none : Frozen :=
  { est := [], meas := [], st := [], stEnd := 0, en := [], bw := [], lat := [], cap := [], alpha := 0, beta := 0, gamma := 0, guard := 0,
    margin := 0, pinClass := 0, mode := 1#32, shift := 0, laneShare := 16, engShare := 16, sparse := true, seed := 0,
    policy := false, onReturn := false, sampleN := 64, softLate := 500, hardLate := 20000, retryMax := 3,
    outerEnc := false, keySlot := 0, rplBase := 0, rplBytes := 0,
    playBase := 0, playBytes := 0, wrapBase := 0, wrapBytes := 0 }

def State.frozen (s : State) (t : Nat) : Frozen := (s.tenant t).frozen.getD Frozen.none

/-- st[f], with R416 beyond the last frame. -/
def Frozen.start (z : Frozen) (f : Nat) : Nat := z.st.getD f z.stEnd

/-- en[t] now: frozen, less what R106 has disabled since. -/
def State.enabled (s : State) (t tier : Nat) : Bool :=
  let x := s.tenant t
  (s.frozen t).en.getD tier false && !(tier == 3 && !x.enHost) && !(tier == 4 && !x.enPeer)
    && !x.enOff.contains tier

/-- The bytes of a key slot; a slot without a key reads as zero. -/
def State.keyBytes (s : State) (slot : Nat) : List Byte :=
  match look s.security.keys slot with
  | none => List.replicate 64 0#8
  | some k => k.bytes

/-- Is a slate's copy in a tier enciphered (R44)? -/
def State.enciphered (s : State) (i tier : Nat) : Bool :=
  let x := s.slate i
  (s.frozen x.tenant).outerEnc && (tier == 3 || tier == 4 || x.e.encryptOuter)

/-- The key of a slate's tenant (R142). -/
def State.keyOfSlate (s : State) (i : Nat) : List Byte := s.keyBytes (s.frozen (s.slate i).tenant).keySlot

/-- The compression axis of a mode word: 0 off, 1 auto, 2 forced-raw-check (R344). -/
def modeCompress (m : Nat) : Nat := fld m 0 2

end Sys2Proof.Machine
end

