-- ==== Sys2Proof/Machine/Transfers.lean ====
section
/-! DEFINITION. Transfers and their transactions (R175 to R182): creation, what the next transaction of a transfer
is, what it carries, and how a transfer is cancelled. -/

namespace Sys2Proof.Machine

/-! ### Creation (R179) -/

/-- A transfer with nothing done. -/
def Transfer.blank (kind : Kind) (tenant : Nat) : Transfer :=
  { kind := kind, slate := 0, gen := 0, tenant := tenant, tier := 0, fills := [], blocks := [], src := 0, dst := 0,
    partner := 0, total := 0, deadline := 0, rdNext := 0, staged := [], stagedAt := [], runTo := 0, readTo := 0, verified := false, table := [], wrNext := 0,
    done := 0, acked := [], allocated := true, allocAt := 0, operandOf := none, powerWait := none, lastUse := false,
    piece := 0 }

/-- Put a transfer into the deadline queue. -/
def State.queueTransfer (s : State) (x : Transfer) : State :=
  { s with movers := { s.movers with transfers := put s.movers.transfers s.movers.nextTransfer x,
                                     nextTransfer := s.movers.nextTransfer + 1 } }

/-- The transfers of a slate, by number. -/
def State.transfersOf (s : State) (i : Nat) : List (Nat × Transfer) :=
  s.movers.transfers.filter (fun p => p.2.kind != .director && p.2.slate == i && p.2.gen == (s.slate i).gen)

def State.transferKind (s : State) (i : Nat) (k : Kind) : Option (Nat × Transfer) :=
  (s.transfersOf i).find? (fun p => p.2.kind == k)

/-- A time of a tenant's step as an AOC time (R100). -/
def State.stepAt (s : State) (t ticks : Nat) : Nat := (s.tenant t).beganAt + ticks

/-- st[f] of a tenant as an AOC time. -/
def State.frameAt (s : State) (t f : Nat) : Nat := s.stepAt t ((s.frozen t).start f)

/-- Deadline of a return or a job, in ticks since STEP_BEGIN (R100). -/
def State.returnDeadline (s : State) (i : Nat) : Nat := (s.frozen (s.slate i).tenant).start (s.slate i).e.callFrame

/-- Deadline of what a CALL that waits starts (R65, R100). -/
def State.callDeadline (s : State) (i : Nat) : Nat := min (s.returnDeadline i) (s.slate i).callAt

/-- Allocate the tier extent of an OUT or MOVE, or let it wait (R208). -/
def State.withExtent (s : State) (x : Transfer) : State × Transfer :=
  match s.allocTier x.slate x.tier with
  | some (s, a) => (s, { x with dst := a, allocated := true })
  | none => (s.bumpSat R.TIER_WAITS 1, { x with allocated := false, allocAt := s.now })

/-- Queue the outbound transfer of a slate to a tier (R64, R208). -/
def State.startOut (s : State) (i tier deadline : Nat) : State :=
  let r := s.slate i
  let x := { Transfer.blank .out r.tenant with slate := i, gen := r.gen, tier := tier, total := r.coded,
                                                deadline := deadline }
  let (s, x) := s.withExtent x
  (s.modSlate i (fun r => { r with state := .movingOut, tier := tier, extentBase := x.dst })).queueTransfer x

/-- Queue the return of a slate (R64, R65, R155); operandOf is the job that wants it as an operand. -/
def State.startReturn (s : State) (i deadline : Nat) (operandOf : Option Nat) : State :=
  let r := s.slate i
  let x := { Transfer.blank .ret r.tenant with slate := i, gen := r.gen, tier := r.tier, src := r.extentBase,
                                                total := r.coded, deadline := deadline, operandOf := operandOf,
                                                lastUse := true }
  ((s.modSlate i (fun r => { r with state := .returning })).setExtent i Extent.init).queueTransfer x

/-- Key of a block in an engine's local buffer. -/
def lbufKey (slate block : Nat) : Nat := slate * 2 ^ 22 + block

/-- The blocks of a slate that an engine's local buffer does not hold, ascending. -/
def State.absentBlocks (s : State) (i e : Nat) : List Nat :=
  let r := s.slate i
  (List.range r.e.sizeBlocks).filter fun b =>
    match look (s.bank e).lbuf (lbufKey i b) with
    | some (g, _) => g != r.gen
    | none => true

/-- The image of one block in a slate's extent; block 0x4_0000 + w is working block w of a step (R157). -/
def State.imageAt (s : State) (i step b : Nat) : List Byte :=
  (if b < 0x40000 then look (s.extent i).images b else look (s.extent i).work (workKey step (b - 0x40000))).getD []

/-- Granules of a block in a slate's vault extent. -/
def State.blockLen (s : State) (i step b : Nat) : Nat := (s.imageAt i step b).length / 32

/-- Queue the fill of blocks of a slate into local buffers, given as engine and block in transfer order (R33, R179); step
names the working stream that working blocks belong to. -/
def State.startFill (s : State) (i : Nat) (fills : List (Nat × Nat)) (deadline : Nat) (step : Nat := 0) : State :=
  if fills.isEmpty then s
  else
    let r := s.slate i
    s.queueTransfer { Transfer.blank .fill r.tenant with
      slate := i, gen := r.gen, fills := fills, total := sumNat (fills.map (fun p => s.blockLen i step p.2)), piece := step,
      deadline := deadline }

/-- What a fill of engines with the blocks that they lack covers: one engine after another, each in ascending block index
(R179). -/
def State.fillsFor (s : State) (i : Nat) (engines : List Nat) : List (Nat × Nat) :=
  engines.flatMap (fun e => (s.absentBlocks i e).map (fun b => (e, b)))

/-- Queue the evacuation of a PARKED slate to a new extent of its tier (R215). -/
def State.startMove (s : State) (i deadline : Nat) : State :=
  let r := s.slate i
  let x := { Transfer.blank .move r.tenant with slate := i, gen := r.gen, tier := r.tier, src := r.extentBase,
                                                 total := r.coded, deadline := deadline, lastUse := true }
  let (s, x) := s.withExtent x
  s.queueTransfer x

/-! ### Ending -/

/-- Mark the transactions of a transfer as aborted: their data and acknowledgements are ignored (R182). -/
def State.abortTxns (s : State) (id : Nat) (f : Txn → Bool) : State :=
  { s with movers := { s.movers with txns := s.movers.txns.map (fun p =>
      (p.1, if p.2.transfer = id ∧ f p.2 then { p.2 with aborted := true } else p.2)) } }

/-- The channel that serves a transfer. -/
def State.channelOf (s : State) (id : Nat) : Option Nat :=
  (s.movers.chans.find? (fun p => p.2.transfer == some id)).map (·.1)

/-- A pool channel is free of its transfer; one that SPB_POOL no longer names leaves the pool (R183). -/
def State.releaseChannel (s : State) (c : Nat) : State :=
  let pool := s.reg64 R.SPB_POOL 0
  s.modChan c fun h =>
    { h with state := if h.state = .halted then .halted else .idle, transfer := none, retries := [], inPool := bitAt pool c }

/-- Take a transfer out of the movers; transactions already issued run on, ignored (R182). -/
def State.removeTransfer (s : State) (id : Nat) : State :=
  let s := (s.abortTxns id (fun _ => true)).dropTransfer id
  match s.channelOf id with
  | none => s
  | some c => s.releaseChannel c

/-- Cancel a slate transfer that has not ended: an OUT or MOVE gives its new extent back (R182). -/
def State.cancelTransfer (s : State) (id : Nat) : State :=
  match s.transfer id with
  | none => s
  | some x =>
    let s := s.removeTransfer id
    if (x.kind == .out || x.kind == .move) && x.allocated then s.freeTierExtent x.tier x.dst else s

/-- Cancel every transfer of a slate. -/
def State.cancelSlate (s : State) (i : Nat) : State :=
  ((s.transfersOf i).map (·.1)).foldl State.cancelTransfer s

/-! ### Addresses -/

/-- Byte address of granule g on one side, wrapped when k is not 0 (R187). -/
def sideAddr (addr k g : Nat) : Nat :=
  if k = 0 then addr + 32 * g else addr / 2 ^ k * 2 ^ k + (addr + 32 * g) % 2 ^ k

def ChanRegs.srcWrap (r : ChanRegs) : Nat := fld r.cfg.toNat 8 5
def ChanRegs.dstWrap (r : ChanRegs) : Nat := fld r.cfg.toNat 16 5
def ChanRegs.tenant (r : ChanRegs) : Nat := fld r.cfg.toNat 25 3
def ChanRegs.granules (r : ChanRegs) : Nat := fld r.count.toNat 0 26

/-- Read address of a granule: memory for RET, MOVE, PROP and director transfers, else the place in the extent. -/
def State.readAddr (s : State) (c : Nat) (x : Transfer) (g : Nat) : Nat :=
  match x.kind with
  | .director => sideAddr x.src (s.chan c).active.srcWrap g
  | .out | .fill => 32 * g
  | _ => x.src + 32 * g

/-- Write address of a granule: memory for OUT, MOVE and director transfers, else the place written. -/
def State.writeAddr (s : State) (c : Nat) (x : Transfer) (g : Nat) : Nat :=
  match x.kind with
  | .director => sideAddr x.dst (s.chan c).active.dstWrap g
  | .out | .move => x.dst + 32 * g
  | _ => 32 * g

/-- Does a kind read memory outside the block, or write it? -/
def Kind.readsMem : Kind → Bool
  | .ret | .move | .prop | .director => true
  | _ => false

def Kind.writesMem : Kind → Bool
  | .out | .move | .director => true
  | _ => false

/-! ### Pieces: index table and blocks, in transfer order -/

/-- A run of granules that is one unit of check and retry, with its block (none for the index table) and, in a FILL, its
engine. -/
structure Span where
  block : Option Nat
  first : Nat
  len : Nat
  engine : Nat := 0
  deriving DecidableEq, Repr

/-- The blocks of a transfer one after another from a granule on. -/
def runUnits (len : Nat → Nat) : Nat → List Nat → List Span
  | _, [] => []
  | g, b :: r => ⟨some b, g, len b, 0⟩ :: runUnits len (g + len b) r

/-- The blocks of a fill one after another from a granule on. -/
def fillUnits (len : Nat → Nat) : Nat → List (Nat × Nat) → List Span
  | _, [] => []
  | g, (e, b) :: r => ⟨some b, g, len b, e⟩ :: fillUnits len (g + len b) r

/-- Encipher or decipher an index table granule by granule (R143). -/
def encIndex (enc : Bool) (key : List Byte) (slate gen : Nat) : Nat → List (List Byte) → List Byte
  | _, [] => []
  | u, g :: r => xts enc key (indexTweak slate gen u) g ++ encIndex enc key slate gen (u + 1) r

/-- Do places follow one another from a granule to the end of the extent? -/
def tiled : Nat → Nat → List Place → Bool
  | g, z, [] => g == z
  | g, z, p :: r => p.first == g && tiled (g + p.len) z r

/-- The blocks of an index table (block, first granule, length); none when an entry does not satisfy R124. -/
def parseIndex (r : Slate) (total : Nat) (bytes : List Byte) : Option (List (Nat × Nat × Nat)) :=
  let n := r.e.sizeBlocks
  let es := (List.range n).map (fun b => (b, leAt bytes (4 * b) 3, leAt bytes (4 * b + 3) 1))
  if !es.all (fun e => indexLenValid e.2.2) then none
  else
    let ps := placesOf (indexGr n) r.qoff es
    if tiled (indexGr n) total ps then some (ps.map (fun p => (p.block, p.first, p.len))) else none

/-- The index table of a slate as a copy in a tier holds it, deciphered. -/
def State.copyIndex (s : State) (x : Transfer) (bytes : List Byte) : List Byte :=
  if s.enciphered x.slate x.tier then
    encIndex false (s.keyOfSlate x.slate) x.slate x.gen 0 (chunks 32 (bytes.length / 32 + 1) bytes)
  else bytes

/-- The units that a table gives behind its own granules; without a table, the rest as one run. -/
def tableUnits (ig total : Nat) (table : List (Nat × Nat × Nat)) : List Span :=
  ⟨none, 0, ig, 0⟩ :: (if table.isEmpty then [⟨none, ig, total - ig, 0⟩] else table.map (fun p => ⟨some p.1, p.2.1, p.2.2, 0⟩))

/-- The units of a transfer in the order of its write granules (R179, R181, R245). A MOVE finds its blocks in the index table
of the copy that it moves. -/
def State.units (s : State) (x : Transfer) : List Span :=
  let ig := indexGr (s.slate x.slate).e.sizeBlocks
  match x.kind with
  | .out => ⟨none, 0, ig, 0⟩ :: (s.places x.slate).map (fun p => ⟨some p.block, p.first, p.len, 0⟩)
  | .ret => ⟨none, 0, ig, 0⟩ :: x.table.map (fun p => ⟨some p.1, p.2.1, p.2.2, 0⟩)
  | .move => tableUnits ig x.total
      ((parseIndex (s.slate x.slate) x.total (s.copyIndex x (Memory.read s.mem x.src (32 * ig)))).getD [])
  | .fill => fillUnits (s.blockLen x.slate x.piece) 0 x.fills
  | .prop => runUnits (fun _ => 129) 0 x.blocks
  | .director => [⟨none, 0, x.total, 0⟩]

/-- Granules that a transfer writes. -/
def Transfer.wrTotal (x : Transfer) : Nat := if x.kind = .prop then 129 * x.blocks.length else x.total

/-- The unit that holds a granule. -/
def unitAt (us : List Span) (g : Nat) : Option Span :=
  us.find? (fun u => decide (u.first ≤ g) && decide (g < u.first + u.len))

/-- Granules from g that one transaction covers: at most 512 bytes, not across a 512-byte address boundary, not
beyond the given end (R175). -/
def chunkLen (addr fin g : Nat) : Nat := min (16 - addr / 32 % 16) (fin - g)

/-! ### Staging (R176) -/

/-- The staged bytes of a run of granules; none while one is missing. -/
def stagedGranule (m : NMap (List Byte)) (g : Nat) : Option (List Byte) :=
  (m.find? (fun p => decide (p.1 ≤ g) && decide (32 * (g - p.1) < p.2.length))).map
    (fun p => (p.2.drop (32 * (g - p.1))).take 32)

def stagedRun (m : NMap (List Byte)) (first count : Nat) : Option (List Byte) :=
  ((List.range count).mapM (fun k => stagedGranule m (first + k))).map List.flatten

/-- Where the staged granules of a transfer's write side are kept: a PROP block is staged raw first, then as its
image. -/
def Transfer.stageBase (x : Transfer) : Nat := if x.kind = .prop then 2 ^ 40 else 0

/-- Is write granule g acknowledged? -/
def Transfer.ackedAt (x : Transfer) (g : Nat) : Bool :=
  decide (g < x.done) || x.acked.any (fun p => decide (p.1 ≤ g) && decide (g < p.1 + p.2))

/-- Does a staged run hold a granule whose write is not acknowledged? -/
def Transfer.slotBusy (x : Transfer) (p : Nat × List Byte) : Bool :=
  decide (p.1 < x.stageBase)
    || (List.range (p.2.length / 32)).any (fun k => !x.ackedAt (p.1 - x.stageBase + k))

/-- Staging slots in use: one for each read in flight, one for each staged run that is not drained, and those of failed reads
that wait for their reissue (R176). -/
def State.stagingUse (s : State) : Nat :=
  (s.movers.txns.filter (fun p => !p.2.write && !p.2.aborted)).length
    + sumNat (s.movers.transfers.map (fun p => (p.2.staged.filter p.2.slotBusy).length))
    + sumNat (s.movers.chans.map (fun p => sumNat (p.2.retries.map (·.slots))))

/-! ### What a read of the vault brings (R181) -/

/-- The bytes of a unit of an OUT or FILL transfer as they enter staging. -/
def State.unitBytes (s : State) (x : Transfer) (u : Span) : List Byte :=
  let i := x.slate
  let enc := x.kind == .out && s.enciphered i x.tier
  match u.block with
  | none =>
    let b := s.indexBytes i
    if enc then encIndex true (s.keyOfSlate i) i x.gen 0 (chunks 32 (b.length / 32 + 1) b) else b
  | some b =>
    let img := s.imageAt i x.piece b
    if enc then xts true (s.keyOfSlate i) (blockTweak i x.gen b) img else img

/-- The part of a unit's bytes that falls into a run of granules. -/
def unitSlice (u : Span) (bytes : List Byte) (first count : Nat) : List Byte :=
  let a := max u.first first
  let z := min (u.first + u.len) (first + count)
  (bytes.drop (32 * (a - u.first))).take (32 * (z - a))

/-- What a read transaction of an OUT or FILL transfer brings. -/
def State.vaultBytes (s : State) (x : Transfer) (first count : Nat) : List Byte :=
  (s.units x).flatMap fun u =>
    if runsMeet u.first u.len first count then unitSlice u (s.unitBytes x u) first count else []

/-- What a read transaction brings. -/
def State.readBytes (s : State) (c : Nat) (x : Transfer) (first count : Nat) : List Byte :=
  if x.kind.readsMem then
    (List.range count).flatMap (fun k => s.busRead (s.readAddr c x (first + k)) 32)
  else s.vaultBytes x first count

/-! ### The deadline queue (R100, R180) -/

/-- Transfers that no channel serves. -/
def State.queued (s : State) : List (Nat × Transfer) :=
  s.movers.transfers.filter (fun p => (s.channelOf p.1).isNone && p.2.kind != .director)

/-- Order of R100: deadline, inbound before outbound, slate index, then number of creation. R100 names a return and an OUT
only: of the other kinds, a MOVE counts as outbound, a FILL and a PROP as inbound (DESIGN CHOICE, log entry 93). -/
def transferBefore (a b : Nat × Transfer) : Bool :=
  let out (x : Transfer) : Nat := b2n (x.kind == .out || x.kind == .move)
  let ka := [a.2.deadline, out a.2, a.2.slate, a.1]
  let kb := [b.2.deadline, out b.2, b.2.slate, b.1]
  decide (ka < kb)

/-- The first of a list in the order of R100. -/
def firstTransfer : List (Nat × Transfer) → Option (Nat × Transfer)
  | [] => none
  | p :: r => match firstTransfer r with
    | none => some p
    | some q => if transferBefore p q then some p else some q

/-- Does a return wait for a MOVE of its slate (R215)? -/
def State.behindMove (s : State) (x : Transfer) : Bool :=
  x.kind == .ret && (s.transferKind x.slate .move).isSome

/-- The head of the queue among the transfers that a channel may take. -/
def State.headTransfer (s : State) : Option (Nat × Transfer) :=
  firstTransfer (s.queued.filter (fun p => p.2.allocated && p.2.powerWait.isNone && !s.behindMove p.2))

end Sys2Proof.Machine
end

