-- ==== Sys2Proof/Machine/Slates.lean ====
section
/-! DEFINITION. Completions and tickets (R71, R78), the forecast's charges (R87, R90), and the transitions of a
slate that several steps share (R64, R65, R305, R306). -/

namespace Sys2Proof.Machine

/-! ### Events with page flags (R301, R409) -/

/-- Log an event and set an IRQ_RAW bit of a page. -/
def State.report (s : State) (code source : Nat) (params : List Word) (page bit : Nat) : State :=
  (s.log code source params).raise page (2 ^ bit)

/-- PORT_REJECT (R303, R326): the count, the event and page PORT's error. -/
def State.portReject (s : State) (p0 p1 : Nat) (v : Word) : State :=
  (((s.bump R.PORT_REJECTS 1).report 0x0A01 7 [w32 p0, w32 p1, v, 0#32] 0x04 0).pageError 0x04 (w32 p0) p1)

/-! ### Completions (R71) and the ticket window (R78) -/

/-- What a command answers besides its own fields. A result or value that no rule gives is none: a free value
(log entry 9). -/
structure Answer where
  status : Nat
  slate : Nat := 0xFFFF
  gen : Nat := 0
  result : Option Nat := none
  value : Option Word := none
  deriving DecidableEq, Repr

/-- The 16-byte completion of a command (R71); free holds the values that no rule gives. -/
def completionOf (c : Cmd) (op : BitVec 8) (a : Answer) (free : BitVec 64) : Completion :=
  { queue := c.queue.val, ticket := c.ticket, opcode := op, status := BitVec.ofNat 8 a.status, tag := c.tag,
    slate := BitVec.ofNat 16 a.slate, gen := BitVec.ofNat 8 a.gen, result := BitVec.ofNat 8 (a.result.getD free.toNat),
    value := a.value.getD (w32 (free.toNat / 2 ^ 32)) }

/-- DUP_TICKET for one copy of a completed command (R79): ticket, opcode, tenant and tag are the copy's (log entry 84). -/
def State.logDup (s : State) (k : Ticket) (d : Completion) : State :=
  (s.bump R.SHT_DUP_COUNT 1).log 0x0305 0
    [w32 (k.ticket.toNat + 2 ^ 16 * k.opcode.toNat + 2 ^ 24 * k.tenant), k.tag, w32 d.status.toNat, 0#32]

/-- Send a completion again for a copy, to the queue that issued the copy (R78, log entry 24). -/
def State.answerCopy (s : State) (k : Ticket) (d : Completion) : State := (s.outCompletion { d with queue := k.queue }).logDup k d

/-- Complete a command: its completion goes out, enters the window at its ticket and those of its copies, and answers the
copies that wait, also when the original's ticket has left the window (R78). -/
def State.complete (s : State) (op : BitVec 8) (c : Cmd) (a : Answer) : State :=
  let d := completionOf c op a (Config.unstated s.draws)
  let s := s.draw.outCompletion d
  match s.port.executing.find? (fun x => x.opcode == op && x.cmd == c) with
  | none => s
  | some x =>
    x.copies.foldl (fun (s : State) k => s.answerCopy k d)
      { s with port := { s.port with
          executing := s.port.executing.erase x
          window := s.port.window.map (fun k => if k.serial = x.serial then { k with completion := some d } else k) } }

/-- Opcode of a CALL, as its pending completions carry it. -/
def opCall : BitVec 8 := 0x04#8

/-! ### The forecast (R87, R90, R416) -/

/-- Buckets of a list of frame ranges, each once, ascending. -/
def Frozen.buckets (z : Frozen) (ranges : List (Nat × Nat)) : List Nat :=
  let top := z.st.length - 1
  let cut (r : Nat × Nat) : Nat × Nat := let a := min r.1 top; let b := min r.2 top; (a, max a b)
  let rs := (ranges.map cut).map (fun r => (r.1 / 2 ^ z.shift, r.2 / 2 ^ z.shift))
  (List.range 1024).filter (fun k => rs.any (fun r => decide (r.1 ≤ k) && decide (k ≤ r.2)))

/-- Key of bucket k of a tier. -/
def fcKey (tier k : Nat) : Nat := tier * 1024 + k

def Tenant.fcAt (x : Tenant) (tier k : Nat) : Nat := (look x.fc (fcKey tier k)).getD 0

/-- Change the charge of the buckets of a tier. -/
def chargeBuckets (f : Nat → Nat) (tier : Nat) (x : Tenant) (ks : List Nat) : Tenant :=
  ks.foldl (fun x k => { x with fc := put x.fc (fcKey tier k) (f (x.fcAt tier k)) }) x

/-- Charge granules to ranges of a tier (R87). -/
def State.charge (s : State) (t tier g : Nat) (ranges : List (Nat × Nat)) : State :=
  s.modTenant t (fun x => chargeBuckets (· + g) tier x ((s.frozen t).buckets ranges))

/-- Remove a charge from the buckets from a bucket on (R87, R102, R106). -/
def State.uncharge (s : State) (t tier g : Nat) (ranges : List (Nat × Nat)) (fromBucket : Nat) : State :=
  s.modTenant t (fun x => chargeBuckets (· - g) tier x
    (((s.frozen t).buckets ranges).filter (fun k => decide (fromBucket ≤ k))))

/-- The vault ranges and the tier range of an outcome (R90). -/
def spansOf (o : Placed) (n p oe c r : Nat) : List (Nat × Nat) × List (Nat × Nat) :=
  match o with
  | .keep => ([(n, r)], [])
  | .shelve | .ship | .store => ([(n, oe), (p, r)], [(n, c)])
  | .reshoot => ([(p, r)], [])
  | .none => ([], [])

/-- Charge a decision's spans. -/
def State.chargeSpans (s : State) (t tier g : Nat) (sp : List (Nat × Nat) × List (Nat × Nat)) : State :=
  (s.charge t 0 g sp.1).charge t tier g sp.2

/-- Remove the charges of a slate's decision from the bucket of frame n on (R106). -/
def State.unchargeSlate (s : State) (i n : Nat) : State :=
  let r := s.slate i
  if r.decided then
    let sp := spansOf r.outcome r.decN r.decP r.decOe r.e.callFrame r.e.releaseFrame
    let from_ := n / 2 ^ (s.frozen r.tenant).shift
    let tier := match r.outcome with | .shelve => 1 | .store => 3 | _ => r.tier
    (s.uncharge r.tenant 0 r.coded sp.1 from_).uncharge r.tenant tier r.coded sp.2 from_
  else s

/-! ### Records of a step -/

/-- Nothing noted of an entry. -/
def Trace.init : Trace :=
  { readyAt := none, soft := false, hard := false, lost := false, recut := false, fallback := false, torn := false,
    outcome := .none, tier := 0, coded := 0 }

/-- Note something of an entry for the wrap record (R260). -/
def State.note (s : State) (t e : Nat) (f : Trace → Trace) : State :=
  s.modTenant t (fun x => { x with trace := put x.trace e (f ((look x.trace e).getD Trace.init)) })

def State.noteSlate (s : State) (i : Nat) (f : Trace → Trace) : State :=
  s.note (s.slate i).tenant (s.slate i).entryIndex f

/-! ### Transitions -/

/-- Every operand request of a slate that waits is to be answered with poisoned beats (R33, R68). -/
def State.poisonReqs (s : State) (i : Nat) : State :=
  { s with banks := s.banks.map (fun p => (p.1, { p.2 with reqs := p.2.reqs.map (fun q =>
      if q.slate = i then { q with poison := true } else q) })) }

/-- Complete every CALL that waits for a slate. -/
def State.answerCalls (s : State) (i status result : Nat) : State :=
  let r := s.slate i
  let s := s.modSlate i (fun r => { r with calls := [], callPending := false })
  r.calls.foldl (fun s c => s.complete opCall c
    { status := status, slate := i, gen := r.gen, result := result }) s

/-- A slate becomes FREE (R61, R64): copies and extents released, transfers cancelled, poison entries gone,
pending CALL and SEAL answered with NO_SLATE (log entry 13). -/
def State.freeSlate (s : State) (i : Nat) : State :=
  let r := s.slate i
  let s := ((s.cancelSlate i).poisonReqs i).answerCalls i 0x0E 0
  let seals := (s.clicker.queue.filter (fun q => q.slate == i)).filterMap (·.cmd)
  let s := { s with clicker := { s.clicker with queue := s.clicker.queue.filter (fun q => q.slate != i) },
                    continuity := { s.continuity with poison := s.continuity.poison.filter (fun q => q.1 != i) },
                    retake := { s.retake with waiting := s.retake.waiting.filter (fun w => w.slate != i) },
                    stitcher := { s.stitcher with inlineBuf := del s.stitcher.inlineBuf i } }
  let s := s.releaseExtents (fun x => x.slate == i && !x.lastUse)
  let s := seals.foldl (fun s c => s.complete 0x03#8 c { status := 0x0E, slate := i, gen := r.gen }) s
  (s.dropExtent i).setSlate i (Slate.freed r.gen)

/-- The step of a tenant is halted (R171, R305). -/
def State.haltStep (s : State) (t : Nat) : State := s.modTenant t (fun x => { x with halted := true })

/-- SLATE_LOST with its parameters (R303), and the fault policy (R306). -/
def State.logLost (s : State) (slate t tag cause before tier : Nat) : State :=
  let s := (s.bump R.FLT_LOST 1).log 0x0303 0 [w32 slate, w32 tag, w32 cause, w32 (before + 2 ^ 4 * tier)]
  if cause = 3 ∨ cause = 7 ∨ cause = 8 ∨ !(s.frozen t).policy then s.haltStep t else s

/-- The job of a slate goes no further: no descriptor is sent and no lane block is started (R163). -/
def State.stopJob (s : State) (i : Nat) : State :=
  { s with retake := { s.retake with
      jobs := s.retake.jobs.map (fun p => (p.1, if p.2.slate = i then { p.2 with stopped := true, toResend := [] } else p.2))
      waiting := s.retake.waiting.filter (fun w => w.slate != i) } }

/-- A stopped job whose descriptors are all answered and of which no lane holds a block (R163). -/
def State.jobEnded (s : State) (slot : Nat) (j : Job) : Bool :=
  j.stopped && j.unanswered.isEmpty && s.retake.work.all (fun w => w.2.slot != slot)

/-- Free the slots of ended jobs; a slate that was released meanwhile becomes FREE (R64, R163). -/
def State.reapJobs (s : State) : State :=
  let gone := s.retake.jobs.filter (fun p => s.jobEnded p.1 p.2)
  let s := { s with retake := { s.retake with jobs := s.retake.jobs.filter (fun p => !s.jobEnded p.1 p.2) } }
  gone.foldl (fun s p =>
    let r := s.slate p.2.slate
    if r.gen = p.2.gen ∧ r.state = .reshooting ∧ r.releasePending then s.freeSlate p.2.slate else s) s

/-- A slate enters LOST (R64): what still runs for it ends, waiting CALLs are answered LOST (R65). -/
def State.enterLost (s : State) (i cause : Nat) : State :=
  let r := s.slate i
  let s := (((s.cancelSlate i).stopJob i).dropExtent i).reapJobs
  let s := s.modSlate i (fun r => { r with state := .lost })
  let s := (s.noteSlate i (fun x => { x with lost := true })).poisonReqs i
  let s := s.logLost (slateWord i r.gen r.tenant).toNat r.tenant r.e.tag cause r.state.num r.tier
  s.answerCalls i 0x0B SlateState.lost.num

/-- May new transfers and jobs of a tenant be created (R305)? -/
def State.mayStart (s : State) (t : Nat) : Bool := !(s.tenant t).halted

/-- A slate wants its reshoot job; it waits for a slot in deadline order (R81, R155). -/
def State.wantJob (s : State) (i deadline : Nat) : State :=
  if !s.mayStart (s.slate i).tenant then s
  else if s.retake.waiting.any (fun w => w.slate == i) then
    { s with retake := { s.retake with waiting := s.retake.waiting.map (fun w =>
        if w.slate = i then { w with deadline := min w.deadline deadline } else w) } }
  else { s with retake := { s.retake with waiting := s.retake.waiting ++ [JobWait.mk i deadline] } }

/-- The address of a slate's tier extent while that extent is not released, else 0 (R60). -/
def State.heldBase (s : State) (i : Nat) : Nat :=
  let r := s.slate i
  if s.tiers.extents.any (fun x => x.slate == i && x.gen == r.gen && x.base == r.extentBase) then r.extentBase else 0

/-- A slate without a usable copy: recompute, or LOST when it has no script (R64). Its vault copy, if any, is no
copy any more. -/
def State.recoverOrLose (s : State) (i cause : Nat) (next : SlateState) : State :=
  if (s.slate i).e.scriptId = 0 then s.enterLost i cause
  else
    let s := (s.cancelSlate i).dropExtent i
    if next = .dropped then
      let s := (s.modSlate i (fun r => { r with state := .dropped, tier := 5 })).releaseExtents (fun x => x.slate == i && !x.lastUse)
      let a := s.heldBase i
      s.modSlate i (fun r => { r with extentBase := a })
    else (s.modSlate i (fun r => { r with state := next })).wantJob i (s.returnDeadline i)

/-- Queue the return of a slate; while PEER_LOST is in effect a return from tier 4 ends at its creation as at the
hard limit (R224). -/
def State.beginReturn (s : State) (i deadline : Nat) (operandOf : Option Nat) : State :=
  if (s.slate i).tier = 4 ∧ s.peerLost then
    ((s.modSlate i (fun r => { r with state := .returning })).setExtent i Extent.init).recoverOrLose i 4 .reshooting
  else s.startReturn i deadline operandOf

/-- The books that banks load for a CALL (R138): a pending load for each bank of the mask whose cache lacks it. -/
def State.wantBook (s : State) (bank book : Nat) : State :=
  if (s.bank bank).cache.contains book || s.books.misses.any (fun m => m.1 == bank && m.2.1 == book) then s
  else { s with books := { s.books with misses := s.books.misses ++ [(bank, book, 0)] } }

/-- The engines named by a 48-bit mask, ascending. -/
def engines (mask : Nat) : List Nat := bitsOf mask 48

/-- Serve the engines of a CALL: book loads, fills of the engines not yet served, DROP_ON_READ marks (R73, R138,
R166). -/
def State.serveEngines (s : State) (i mask : Nat) (dor : Bool) : State :=
  let r := s.slate i
  let coded := decide (modeCompress (s.frozen r.tenant).mode.toNat ≠ 0)
  let s := if coded then (engines mask).foldl (fun s e => s.wantBook e r.e.bookId) s else s
  let s := if s.mayStart r.tenant then
      s.startFill i (s.fillsFor i (engines (mapMinus mask r.engines))) (s.returnDeadline i)
    else s
  s.modSlate i (fun r => { r with engines := r.engines ||| mask,
                                  dorMask := if dor then r.dorMask ||| mask else r.dorMask })

/-- Engine mask and flag of a CALL. -/
def cmdMask (c : Cmd) : Nat := fld c.args.toNat 0 48
def cmdFlag0 (c : Cmd) : Bool := c.flags.getLsbD 0

/-- A READY slate with CALLs pending moves on to IN_USE, and they complete (R65). -/
def State.takePending (s : State) (i : Nat) : State :=
  let r := s.slate i
  if r.state = .ready ∧ r.callPending then
    let s := s.modSlate i (fun r => { r with state := .inUse })
    let s := r.calls.foldl (fun s c => s.serveEngines i (cmdMask c) (cmdFlag0 c)) s
    s.answerCalls i 0 SlateState.inUse.num
  else s

/-- A slate becomes READY (R64), and IN_USE when CALLs are pending. -/
def State.enterReady (s : State) (i : Nat) : State :=
  let a := s.heldBase i
  let s := s.modSlate i (fun r => { r with state := .ready, tier := 0, extentBase := a })
  let s := s.noteSlate i (fun x => { x with readyAt := some (x.readyAt.getD s.now) })
  s.takePending i

/-- A MOVING_OUT slate keeps its vault copy and becomes READY (R64). -/
def State.moveBack (s : State) (i : Nat) : State := (s.cancelSlate i).enterReady i

/-- A MOVING_OUT slate whose outbound transfer has ended without success returns to SEALED, its charges from the
current bucket on are removed, and it is placed again (R64, R106). -/
def State.backToSealed (s : State) (i : Nat) : State :=
  let r := s.slate i
  let n := (s.tenant r.tenant).frame
  let s := (s.cancelSlate i).unchargeSlate i n
  let s := s.modSlate i (fun r => { r with state := .sealed, tier := 0, extentBase := 0, decided := false })
  { s with clicker := { s.clicker with queue := s.clicker.queue ++ [Undecided.mk i r.gen (some n) none] } }

/-- SLATE_TORN, then the record is freed in the same step (R64, R69; log entry 14). -/
def State.tear (s : State) (i cause : Nat) : State :=
  let r := s.slate i
  let s := s.noteSlate i (fun x => { x with torn := true })
  let s := s.log 0x0301 0 [s.slateWordOf i, w32 r.e.tag, w32 r.blocksWritten, w32 cause]
  s.freeSlate i

/-- Allocate the lowest FREE record for an entry and apply OPEN to it (R59, R64). The tenant has a slot. -/
def State.openRecord (s : State) (t e : Nat) (x : Entry) (inline : Bool) (mask : Nat) : State × Nat :=
  let i := s.freeRecord.getD 0
  let g := ((s.slate i).gen + 1) % 256
  ((s.setSlate i { Slate.freed g with state := .opened, tenant := t, entryIndex := e, entry := some x,
                                      inline := inline, writerMask := mask }).setExtent i Extent.init
    |>.modTenant t (fun y => { y with opened := if y.opened.contains e then y.opened else y.opened ++ [e] }), i)

/-- Raw check of a block of a slate's extent. -/
def State.rawCheck (s : State) (i b : Nat) : Nat := (parseHeader (s.imageAt i 0 b)).raw

/-- The digest of a slate (R60). -/
def State.digest (s : State) (i : Nat) : Nat :=
  crc32c ((List.range (s.slate i).e.sizeBlocks).flatMap (fun b => leBytes (s.rawCheck i b) 4))

/-- Fix the record's extent fields when all blocks are committed (R60, R125, R159). -/
def State.closeExtent (s : State) (i : Nat) : State :=
  let x := s.extent i
  let d := s.digest i
  let g := s.extentGr i
  (s.modSlate i (fun r => { r with coded := g, q1 := runStart x.runs 1, q2 := runStart x.runs 2,
                                   q3 := runStart x.runs 3, digest := d })).bump64 R.STI_CODED_OUT
    (indexGr (s.slate i).e.sizeBlocks)

end Sys2Proof.Machine
end

