-- ==== Sys2Proof/Machine/Meter.lean ====
section
/-! DEFINITION. The light meter (R232 to R235): contributions of elements, and the counting points. -/

namespace Sys2Proof.Machine

/-- Key of an entry. -/
def meterKey (tag cls : Nat) : Nat := tag * 4 + cls

/-- The exact magnitude of an element as m × 2^e; none for a NaN or an infinity. scale is the E8M0 scale of an
MX group. -/
def exactElem (f code : Nat) (scale : Option Nat) : Option (Nat × Int) :=
  match scale with
  | some 255 => none
  | _ => match ofF32 (elemF32 f code) with
    | .fin _ m e => some (m, match scale with | some sc => e + (sc : Int) - 127 | none => e)
    | _ => none

/-- n / d rounded up to FP32, at most the largest finite value (R234). -/
def roundUpF32 (n d : Nat) : Word :=
  if n = 0 then 0#32
  else
    let e := max fmtF32.emin (log2Ratio n d)
    let (a, b) := ratio 1 (e - fmtF32.man)
    let q := (n * b + (d * a - 1)) / (d * a)
    w32 (min fmtF32.top ((e - fmtF32.emin).toNat * 2 ^ 23 + q))

/-- The larger of two non-negative FP32 values: their codes order as they do. -/
def maxMag (a b : Word) : Word := if a.toNat < b.toNat then b else a

/-- One element into an entry (R234). -/
def Meter.add (m : Meter) (v : Option (Nat × Int)) : Meter :=
  match v with
  | none => { m with nonfin := satAdd 32 m.nonfin 1 }
  | some (k, e) =>
    let (n, d) := ratio k e
    let m := { m with max := maxMag m.max (roundUpF32 n d) }
    let (qn, qd) := ratio (k * k) (2 * e + 160)
    let q := qn / qd
    if k ≠ 0 ∧ q = 0 then { m with under := satAdd 32 m.under 1 }
    else if 2 ^ 319 - 1 < m.sum + q then { m with sum := 2 ^ 319 - 1, ovf := true }
    else { m with sum := m.sum + q }

/-- The elements of block i whose bits the given blocks hold. -/
def blockValues (f i : Nat) (blocks : NMap (List Byte)) : List (Option (Nat × Int)) :=
  let (e0, e1) := blockElems f i
  let w := fmtBits f
  ((List.range (e1 - e0)).map (e0 + ·)).filterMap fun e =>
    if mxPerBlock f = 0 then (streamBits blocks (w * e) w).map (fun c => exactElem f c none)
    else
      let base := 32768 * i
      let k := e - mxPerBlock f * i
      let tail := if f = 10 then 3968 else 3840
      match streamBits blocks (base + w * k) w, streamBits blocks (base + 8 * (tail + k / 32)) 8 with
      | some c, some sc => some (exactElem f c (some sc))
      | _, _ => none

/-- Only streams of the tenant in MTR_CTRL are metered (R232). -/
def State.metered (s : State) (t : Nat) : Bool := fld (s.reg R.MTR_CTRL).toNat 0 3 == t

def State.meterValues (s : State) (tag cls : Nat) (vs : List (Option (Nat × Int))) : State :=
  let k := meterKey tag cls
  s.setMeter k (vs.foldl Meter.add (s.meter k))

/-- The bytes that a directory of blocks gives for the neighbours of block b: an FP6 element may cross into
them (R111); it is counted when the later of its blocks commits (log entry 15). -/
def State.neighbours (s : State) (i b : Nat) (book : List Byte) : NMap (List Byte) :=
  let x := s.extent i
  (((if b = 0 then [] else [b - 1]) ++ [b + 1]).filter (fun n => !x.unwritten.contains n)).filterMap
    (fun n => (look x.images n).map (fun img => (n, expand book img)))

/-- The contribution of a committed block of a slate (R233). -/
def State.meterBlock (s : State) (i b cls : Nat) (raw : List Byte) (book : List Byte) : State :=
  let r := s.slate i
  if !s.metered r.tenant then s
  else
    let f := r.e.format
    let near := if f = 5 ∨ f = 6 then s.neighbours i b book else []
    s.meterValues r.e.layerId cls (blockValues f b ((b, raw) :: near))

/-- The formats that a meter tap accepts (R233). -/
def tapFormat (f : Nat) : Bool := decide (f ≤ 4) || f == 7 || f == 8 || f == 9

/-- One granule of a director channel at its counting point, for every enabled tap of the channel (R233). -/
def State.meterGranule (s : State) (c t : Nat) (bytes : List Byte) : State :=
  if !s.metered t then s
  else
    (List.range 8).foldl (fun s k =>
      let v := (s.reg (R.MTR_TAP + 4 * k)).toNat
      if bitAt v 24 ∧ fld v 0 6 = c ∧ tapFormat (fld v 18 4) then
        let f := fld v 18 4
        let w := fmtBits f
        let vs := (List.range (256 / w)).filterMap (fun j =>
          (streamBits [(0, bytes)] (w * j) w).map (fun code => exactElem f code none))
        s.meterValues (fld v 6 12) (fld v 22 2) vs
      else s) s

/-- Clear the whole meter (R235). -/
def State.clearMeter (s : State) : State := { s with services := { s.services with meters := [] } }

end Sys2Proof.Machine
end

