-- ==== Sys2Proof/Machine/Exposure.lean ====
section
/-! DEFINITION. Exposure (R240 to R242): histories of maxima and scale bytes. -/

namespace Sys2Proof.Machine

/-- Fields of EXS_CFG (R266). -/
def Exposure.tag (x : Exposure) : Nat := fld x.cfg.toNat 0 12
def Exposure.cls (x : Exposure) : Nat := fld x.cfg.toNat 12 2
def Exposure.format (x : Exposure) : Nat := fld x.cfg.toNat 14 4
def Exposure.depth (x : Exposure) : Nat := fld x.cfg.toNat 18 7
def Exposure.tenant (x : Exposure) : Nat := fld x.cfg.toNat 25 3
def Exposure.enabled (x : Exposure) : Bool := bitAt x.cfg.toNat 28

/-- The largest magnitude of a target format (R240), as a ratio. -/
def formatMax (f : Nat) : Option (Nat × Nat) :=
  match f with
  | 2 => some (65504, 1) | 3 => some (448, 1) | 10 => some (448, 1) | 4 => some (57344, 1) | 5 => some (28, 1)
  | 6 => some (15, 2) | 7 => some (6, 1) | 11 => some (6, 1) | 8 => some (127, 1) | 9 => some (7, 1) | _ => none

/-- The larger of the history's values. -/
def Exposure.hmax (x : Exposure) : Word := x.history.foldl maxMag 0#32

/-- floor(log2(format_max / (M × margin))), clamped to −127 to 127 (R241). -/
def scaleExp (fm : Nat × Nat) (m margin : Word) : Int :=
  match ofF32 m, ofF32 margin with
  | .fin _ a ea, .fin _ b eb =>
    let (n, d) := ratio (a * b) (ea + eb)
    if n = 0 then 127 else min 127 (max (-127) (log2Ratio (fm.1 * d) (fm.2 * n)))
  | _, _ => -127

/-- An enabled entry at STEP_END without abandon: the history, then the scale; a target format without a
format_max gives a scale that no rule states. -/
def Exposure.update (x : Exposure) (src : Meter) (free : Word) : Exposure :=
  let x := if src.nonfin = 0 then
      let h := x.history ++ [src.max]
      { x with history := h.drop (h.length - x.depth) }
    else { x with nonfinite := true }
  if x.hmax = 0#32 then x
  else match formatMax x.format with
    | some fm => { x with scale := (scaleExp fm x.hmax x.margin + 127).toNat }
    | none => { x with scale := fld free.toNat 0 8 }

/-- The exposure updates of a STEP_END (R241). -/
def State.updateExposures (s : State) (t : Nat) : State :=
  s.services.exposures.foldl (fun s p =>
    let x := s.exposure p.1
    if x.enabled && x.tenant == t then
      let y := x.update (s.meter (meterKey x.tag x.cls)) s.unstatedWord
      let s := s.draw.setExposure p.1 y
      if y.scale = x.scale then s else (s.bump R.EXS_UPDATES 1).raise 0x13 1
    else s) s

/-- The scale table of R242, where its area lies in a CONTROL region of the tenant (R220). -/
def State.writeScales (s : State) (t : Nat) (stepId : Word) : State :=
  let base := s.reg64 R.EXS_OUT_BASE 0
  if base = 0 ∨ (s.controlRegion t base 2052).isNone then s
  else s.unitWrite base ((List.range 2048).flatMap (fun k => leBytes (s.exposure k).scale 1) ++ leBytes stepId.toNat 4)

end Sys2Proof.Machine
end

