-- ==== Sys2Proof/Machine/Reel.lean ====
section
/-! DEFINITION. The replay reel (R254 to R258): its records, writing them, and reading a reel in replay. -/

namespace Sys2Proof.Machine

def State.setReel (s : State) (t : Nat) (f : Reel → Reel) : State := s.modTenant t (fun x => { x with reel := f x.reel })

/-- A reel record: type, tenant, bytes 4 to 7, bytes 8 to 31 (R255). -/
def reelRecord (ty t word1 : Nat) (rest : List Byte) : List Byte :=
  leBytes ty 1 ++ leBytes t 1 ++ leBytes 0 2 ++ leBytes word1 4 ++ fitTo 24 rest

/-- RPL_CTRL.rec_en and block_checks of a tenant, as they stand (R254, R267). -/
def State.recEn (s : State) (t : Nat) : Bool := bitAt (s.regT R.RPL_CTRL t).toNat 8
def State.blockChecks (s : State) (t : Nat) : Bool := bitAt (s.regT R.RPL_CTRL t).toNat 9

/-- The last 32 bytes of the region are kept for END; other records find no room there (R257). -/
def State.writeReel (s : State) (t : Nat) (rec : List Byte) (last : Bool) : State :=
  let z := s.frozen t
  let n := (s.tenant t).reel.records
  if !s.recEn t then s
  else if 32 * (n + 1) + (if last then 0 else 32) ≤ z.rplBytes then
    (s.unitWrite (z.rplBase + 32 * n) rec).setReel t (fun r => { r with records := r.records + 1 })
  else
    let was := (s.tenant t).reel.full
    let s := (s.bump R.RPL_DROPPED 1).setReel t (fun r => { r with full := true })
    if was then s else s.raise 0x1C 2

/-- A decision as DECISION records it. -/
structure Decision where
  outcome : Placed
  tier : Nat
  p : Nat
  n : Nat
  score : Nat
  cost : Nat
  fallback : Bool
  forced : Bool
  deriving DecidableEq, Repr

def State.reelDecision (s : State) (t entry coded : Nat) (d : Decision) : State :=
  s.writeReel t (reelRecord 3 t entry
    (leBytes (d.outcome.num + 2 ^ 3 * d.tier + 2 ^ 6 * b2n d.fallback + 2 ^ 7 * b2n d.forced) 1 ++ leBytes d.p 3
      ++ leBytes d.n 4 ++ leBytes coded 4 ++ leBytes d.score 4 ++ leBytes d.cost 8)) false

def State.reelDemotion (s : State) (t entry bucket : Nat) (d : Decision) : State :=
  s.writeReel t (reelRecord 4 t entry
    (leBytes (d.outcome.num + 2 ^ 3 * d.tier) 1 ++ leBytes d.p 3 ++ leBytes d.n 4 ++ leBytes bucket 4)) false

/-- BLOCKS records of five raw checks each. -/
def reelBlocks (t entry : Nat) : Nat → List (List Nat) → List (List Byte)
  | _, [] => []
  | first, g :: r => reelRecord 6 t entry (leBytes first 4 ++ g.flatMap (fun v => leBytes v 4)) :: reelBlocks t entry (first + 5) r

/-- Groups of five. -/
def fives : Nat → List Nat → List (List Nat)
  | 0, _ => []
  | f + 1, l => if l.isEmpty then [] else l.take 5 :: fives f (l.drop 5)

/-- CHECK and BLOCKS records of a SEAL (R254). -/
def State.reelCheck (s : State) (i : Nat) : State :=
  let r := s.slate i
  let s := s.writeReel r.tenant (reelRecord 5 r.tenant r.entryIndex (leBytes r.digest 4 ++ leBytes r.e.sizeBlocks 4)) false
  if s.blockChecks r.tenant && s.recEn r.tenant then
    let cs := (List.range r.e.sizeBlocks).map (s.rawCheck i)
    (reelBlocks r.tenant r.entryIndex 0 (fives (cs.length + 1) cs)).foldl (fun s b => s.writeReel r.tenant b false) s
  else s

/-! ### Reading a reel (R258) -/

/-- Record k of the reel that a tenant replays; none past its end. -/
def State.playRec (s : State) (t k : Nat) : Option (List Byte) :=
  let z := s.frozen t
  if 32 * (k + 1) ≤ z.playBytes then
    let b := s.unitRead (z.playBase + 32 * k) 32
    if leAt b 0 1 = 7 then none else some b
  else none

/-- The records from k on, to the END record or the end of the region. -/
def State.playFrom (s : State) (t k : Nat) : Nat → List (Nat × List Byte)
  | 0 => []
  | f + 1 => match s.playRec t k with
    | none => []
    | some b => (k, b) :: s.playFrom t (k + 1) f

def State.playRecords (s : State) (t : Nat) : List (Nat × List Byte) :=
  let k := (s.tenant t).reel.playPos
  s.playFrom t k ((s.frozen t).playBytes / 32 - k)

/-- The next DECISION record and its place. -/
def State.nextDecision (s : State) (t : Nat) : Option (Nat × List Byte) :=
  (s.playRecords t).find? (fun p => leAt p.2 0 1 == 3)

/-- The DEMOTION records between a decision's place and the next DECISION. -/
def State.demotionsAfter (s : State) (t k : Nat) : List (List Byte) :=
  (((s.playFrom t (k + 1) ((s.frozen t).playBytes / 32)).takeWhile (fun p => leAt p.2 0 1 != 3)).filter
    (fun p => leAt p.2 0 1 == 4)).map (·.2)

/-- Does a tenant's step replay a reel that has not ended? -/
def State.replaying (s : State) (t : Nat) : Bool := fld (s.frozen t).mode.toNat 2 2 == 2

/-- What the reel says to a decision of an entry. -/
inductive Played where
  | off
  | ended
  | miss
  | hit (rec : List Byte) (demotions : List (List Byte))
  deriving DecidableEq, Repr

def State.playFor (s : State) (t entry : Nat) : Played :=
  if !s.replaying t then .off
  else if (s.tenant t).reel.playEnd then .ended
  else match s.nextDecision t with
    | none => .ended
    | some (k, b) => if fld (leAt b 4 4) 0 20 = entry then .hit b (s.demotionsAfter t k) else .miss

/-- Advance past the next DECISION record. -/
def State.advanceReel (s : State) (t : Nat) : State :=
  match s.nextDecision t with
  | none => s
  | some (k, _) => s.setReel t (fun r => { r with playPos := k + 1 })

/-- CUT_STAT.replay_miss is set, with IRQ_RAW bit 1 of page CUT when it rises (R97, R409). -/
def State.replayMiss (s : State) (t : Nat) : State :=
  let s' := s.modTenant t (fun x => { x with replayMiss := true })
  if (s.tenant t).replayMiss then s' else s'.raise 0x07 2

/-- The reel of a tenant has ended before its step (R258). -/
def State.endPlay (s : State) (t : Nat) : State := s.setReel t (fun r => { r with playEnd := true })

/-- Compare a slate's digest with the reel's CHECK record (R258): the first mismatch of the step is recorded. -/
def State.playCheck (s : State) (i : Nat) : State :=
  let r := s.slate i
  let t := r.tenant
  if !s.replaying t || (s.tenant t).reel.diverged then s
  else
    let recs := (s.playFrom t 0 ((s.frozen t).playBytes / 32)).map (·.2)
    let mine := recs.filter (fun b => fld (leAt b 4 4) 0 20 == r.entryIndex)
    match mine.find? (fun b => leAt b 0 1 == 5) with
    | none => s
    | some c =>
      if leAt c 8 4 = r.digest then s
      else
        let blocks := mine.filter (fun b => leAt b 0 1 == 6)
        let differ := blocks.flatMap (fun b => (List.range 5).filterMap (fun k =>
          let n := leAt b 8 4 + k
          if n < r.e.sizeBlocks ∧ leAt b (12 + 4 * k) 4 ≠ s.rawCheck i n then some n else none))
        let lowest := differ.foldl optMin none
        let found := match lowest with | some n => w32 (s.rawCheck i n) | none => s.unstatedWord
        let block := match lowest with | some n => n | none => 0x7FFFF
        let s := if lowest.isNone then s.draw else s
        let s := s.setReel t (fun r => { r with diverged := true })
        let s := ((s.setReg R.RPL_DIV_ENTRY (w32 r.entryIndex)).setReg R.RPL_DIV_BLOCK (w32 block)).setReg R.RPL_DIV_FOUND found
        (s.pageError 0x1C (w32 r.entryIndex) 0).raise 0x1C 1

end Sys2Proof.Machine
end

