-- ==== Sys2Proof/Machine/Clicker.lean ====
section
/-! DEFINITION. The clicker (R82 to R109, R416): times, feasibility, costs, the forced placements, the fallback,
recut, and a decision as a whole. -/

namespace Sys2Proof.Machine

/-! ### Times derived from frames and sizes (R86, R107, R416) -/

def Frozen.ticks (z : Frozen) (a b : Nat) : Nat := if b ≤ a then 0 else min (z.start b - z.start a) (2 ^ 40 - 1)

def Frozen.xfer (z : Frozen) (g t : Nat) : Nat := ceilDiv (g * 32) (z.bw.getD t 0) + z.lat.getD t 0

def Frozen.lead (z : Frozen) (x : Nat) : Nat := (5 * x + 3) / 4 + z.margin

/-- back(c, L): the largest frame p ≤ c with st[c] − st[p] ≥ L; none for −1. -/
def Frozen.back (z : Frozen) (c l : Nat) : Option Nat :=
  if z.start c < l then Option.none
  else some ((z.st.take (c + 1)).countP (fun v => decide (v ≤ z.start c - l)) - 1)

/-- max(back(c, L), n + 1). -/
def Frozen.backMin (z : Frozen) (c l n : Nat) : Nat := match z.back c l with | .none => n + 1 | .some p => max p (n + 1)

def Frozen.outEnd (z : Frozen) (n x : Nat) : Nat :=
  if z.st.length ≤ n + 1 then n
  else n + ((z.st.drop (n + 1)).takeWhile (fun v => decide (v ≤ z.start n + x))).length

/-! ### Capacity (R88) -/

/-- cap[t] now: frozen, and for the vault less what retired shelves took (R106). -/
def State.capOf (s : State) (t tier : Nat) : Nat :=
  (s.frozen t).cap.getD tier 0 - (if tier = 0 then (s.tenant t).capLoss else 0)

def State.room (s : State) (t tier g : Nat) (ranges : List (Nat × Nat)) : Bool :=
  ((s.frozen t).buckets ranges).all (fun k => decide ((s.tenant t).fcAt tier k + g ≤ s.capOf t tier))

/-- Recompute time w (R172). -/
def State.reshootTime (s : State) (t script size : Nat) : Nat :=
  match look s.retake.scripts script with
  | none => 0
  | some sc =>
    let z := s.frozen t
    let stepTime (k : ScriptStep) : Nat := ceilDiv (size * k.cyc) ((if k.op ≤ 1 then z.engShare else z.laneShare) * 20)
    min (2 ^ 32 - 1) (sc.fixedTicks + sumNat (sc.steps.map stepTime))

/-- The recompute axis allows RESHOOT (R344). -/
def Frozen.recompute (z : Frozen) : Bool := !bitAt z.mode.toNat 4

/-! ### Evaluation (R91 to R94, R107) -/

/-- An outcome under evaluation. need is the time that R96 compares with the gap. -/
structure Choice where
  o : Placed
  t : Nat
  p : Nat
  oe : Nat
  cost : Nat
  need : Nat
  deriving DecidableEq, Repr

/-- The cost of KEEP (R93). -/
def State.keepCost (s : State) (t g n c r : Nat) : Nat :=
  let z := s.frozen t
  let pk := ((z.buckets [(n, r)]).map ((s.tenant t).fcAt 0)).foldl max 0
  let cap := s.capOf t 0
  let p := if cap = 0 then 0xFFFF else min 0xFFFF ((pk + g) * 2 ^ 16 / cap)
  let k1 := g * z.ticks n c / 2 ^ 26
  let k2 := k1 * p / 2 ^ 16
  k2 * z.alpha / 2 ^ 16

/-- The tests an evaluation makes: with the time conditions (R91), or without them (R96, R97 rule 4). -/
def State.evalKeep (s : State) (t g n : Nat) (e : Entry) : List Choice :=
  let z := s.frozen t
  if s.room t 0 g [(n, e.releaseFrame)] then
    [⟨.keep, 0, z.backMin e.callFrame z.margin n, 0, s.keepCost t g n e.callFrame e.releaseFrame, 0⟩]
  else []

def State.evalMove (s : State) (timed : Bool) (t g n tier : Nat) (e : Entry) : List Choice :=
  let z := s.frozen t
  let c := e.callFrame
  let r := e.releaseFrame
  if !s.enabled t tier then []
  else
    let xo := z.xfer g tier
    let bp := z.back c (z.lead xo)
    let p := if timed then bp.getD 0 else z.backMin c (z.lead xo) n
    let oe := z.outEnd n xo
    let times := match bp with
      | none => false
      | some p => decide (2 * xo + z.guard ≤ z.ticks n c) && decide (n + 1 ≤ p) && decide (xo ≤ z.ticks n p)
    if (!timed || times) && s.room t tier g [(n, c)] && s.room t 0 g [(n, oe), (p, r)] then
      [⟨outcomeOf tier, tier, p, oe, 2 * xo * z.beta / 2 ^ 16, 2 * xo + z.guard⟩]
    else []

def State.evalReshoot (s : State) (timed : Bool) (t g n : Nat) (e : Entry) : List Choice :=
  let z := s.frozen t
  let c := e.callFrame
  if e.scriptId = 0 ∨ !z.recompute then []
  else
    let w := s.reshootTime t e.scriptId e.sizeBlocks
    let bp := z.back c (z.lead w)
    let p := if timed then bp.getD 0 else z.backMin c (z.lead w) n
    let times := match bp with
      | none => false
      | some p => decide (w + z.guard ≤ z.ticks n c) && decide (n + 1 ≤ p)
    if (!timed || times) && s.room t 0 g [(p, e.releaseFrame)] then
      [⟨.reshoot, 5, p, 0, w * z.gamma / 2 ^ 16, w + z.guard⟩]
    else []

/-- evaluate() of R107, in tie order. -/
def State.evaluate (s : State) (timed withKeep : Bool) (t g n : Nat) (e : Entry) : List Choice :=
  (if withKeep then s.evalKeep t g n e else [])
    ++ [1, 2, 4, 3].flatMap (fun tier => s.evalMove timed t g n tier e) ++ s.evalReshoot timed t g n e

/-- pin_eval() of R107: the default outcome of a class; 3 means SHIP to tier 2. -/
def State.pinEval (s : State) (t g n o : Nat) (e : Entry) : List Choice :=
  if o = 1 then s.evalKeep t g n e
  else if o = 5 then s.evalReshoot false t g n e
  else s.evalMove false t g n (if o = 2 then 1 else if o = 3 then 2 else 3) e

/-- The first of least cost (R94). -/
def cheapest : List Choice → Option Choice
  | [] => none
  | x :: r => match cheapest r with
    | none => some x
    | some y => if y.cost < x.cost then some y else some x

/-- The first of least need − gap (R96). -/
def leastNeed : List Choice → Option Choice
  | [] => none
  | x :: r => match leastNeed r with
    | none => some x
    | some y => if y.need < x.need then some y else some x

/-- The default outcome of a class in pinned mode (R97 rule 4, R109); 0 for none. -/
def Frozen.pinDefault (z : Frozen) (cls : Nat) : Nat :=
  if fld z.mode.toNat 2 2 = 1 then fld z.pinClass (3 * cls) 3 else 0

/-! ### Committing a decision (R90, R107) -/

/-- The state after a decision (R64, R82). -/
def State.enterOutcome (s : State) (i : Nat) (d : Decision) : State :=
  match d.outcome with
  | .keep => s.modSlate i (fun r => { r with state := .kept, tier := 0 })
  | .reshoot => (s.modSlate i (fun r => { r with state := .dropped, tier := 5 })).dropExtent i
  | _ =>
    let t := (s.slate i).tenant
    if s.mayStart t then s.startOut i d.tier ((s.frozen t).start d.p)
    else s.modSlate i (fun r => { r with state := .movingOut, tier := d.tier })

/-- Store a decision in the decision table and note it for the wrap record. -/
def State.noteDecision (s : State) (i oe : Nat) (d : Decision) : State :=
  (s.modSlate i (fun r => { r with outcome := d.outcome, decN := d.n, decP := d.p, decOe := oe, decScore := d.score,
                                   decided := true })).noteSlate i
    (fun x => { x with outcome := d.outcome, tier := d.tier, coded := (s.slate i).coded,
                       fallback := x.fallback || d.fallback })

/-- commit() of R107. -/
def State.commit (s : State) (i oe : Nat) (d : Decision) : State :=
  let r := s.slate i
  let s := s.chargeSpans r.tenant d.tier r.coded (spansOf d.outcome d.n d.p oe r.e.callFrame r.e.releaseFrame)
  let s := (s.noteDecision i oe d).enterOutcome i d
  let s := s.reelDecision r.tenant r.entryIndex r.coded d
  { s with clicker := { s.clicker with
      last := w32 (i + 2 ^ 16 * r.gen + 2 ^ 24 * d.outcome.num + 2 ^ 27 * d.tier + 2 ^ 30 * b2n d.fallback
                    + 2 ^ 31 * b2n d.forced)
      lastFrame := d.p, lastCost := d.cost, lastScore := d.score } }

/-- fallback() of R96. -/
def State.fallback (s : State) (i n : Nat) (forced : Bool) : State :=
  let r := s.slate i
  let t := r.tenant
  let z := s.frozen t
  let s := (s.bump R.CUT_FALLBACKS 1).modTenant t (fun x => { x with fallbacks := x.fallbacks + 1 })
  match leastNeed (s.evaluate false true t r.coded n r.e) with
  | some o => s.commit i o.oe ⟨o.o, o.t, o.p, n, 0xFFFFFFFF, o.cost, true, forced⟩
  | none => s.commit i 0 ⟨.keep, 0, z.backMin r.e.callFrame z.margin n, n, 0xFFFFFFFF, 0, true, forced⟩

/-- The planned end of the outbound transfer of a recorded decision; for a tier whose frozen bandwidth is 0 no
rule states it, and it is a free value (log entry 9). -/
def State.outFrame (s : State) (t g n tier : Nat) : Nat :=
  let z := s.frozen t
  if tier = 0 ∨ tier = 5 then 0
  else if z.bw.getD tier 0 = 0 then n + s.unstatedWord.toNat % (z.st.length - n + 1)
  else z.outEnd n (z.xfer g tier)

/-- forced_p() and the planned end of an outcome without tests (R98): p and oe. -/
def State.forcedFrames (s : State) (i n tier : Nat) : Nat × Nat :=
  let r := s.slate i
  let z := s.frozen r.tenant
  if tier = 0 then (z.backMin r.e.callFrame z.margin n, 0)
  else let xo := z.xfer r.coded tier; (z.backMin r.e.callFrame (z.lead xo) n, z.outEnd n xo)

/-! ### Overflow and recut (R101 to R104) -/

/-- The lowest vault bucket from that of frame n on that exceeds cap[0]; n is the frame counter of the decision or adjustment
(R101, R83). -/
def State.overflowing (s : State) (t n : Nat) : Option Nat :=
  let x := s.tenant t
  let from_ := n / 2 ^ (s.frozen t).shift
  (List.range 1024).find? (fun k => decide (from_ ≤ k) && decide (s.capOf t 0 < x.fcAt 0 k))

/-- Score and index order. -/
def insertScore (s : State) (i : Nat) : List Nat → List Nat
  | [] => [i]
  | j :: r => if (s.slate i).decScore ≤ (s.slate j).decScore then i :: j :: r else j :: insertScore s i r

/-- Candidates of a recut for a bucket, in ascending score, then index (R102). -/
def State.recutCandidates (s : State) (t b : Nat) : List Nat :=
  ((s.tenantSlates t).filter (fun i =>
    let r := s.slate i
    r.state == .kept && decide (r.decScore < 0xFFFFFFFF) && r.decided
      && ((s.frozen t).buckets [(r.decN, r.e.releaseFrame)]).contains b)).foldr (insertScore s) []

/-- Demote a KEPT slate (R102 step 5, R104). -/
def State.demote (s : State) (i b : Nat) (oe : Nat) (d : Decision) : State :=
  let r := s.slate i
  let t := r.tenant
  let excess := (s.tenant t).fcAt 0 b - s.capOf t 0
  let s := s.unchargeSlate i d.n
  let s := s.chargeSpans t d.tier r.coded (spansOf d.outcome d.n d.p oe r.e.callFrame r.e.releaseFrame)
  let s := (s.noteDecision i oe d).enterOutcome i d
  let s := s.noteSlate i (fun x => { x with recut := true })
  let s := (s.bump R.CUT_RECUTS 1).modTenant t (fun x => { x with recuts := x.recuts + 1 })
  let p0 := w32 (i + 2 ^ 16 * r.gen + 2 ^ 24 * d.outcome.num + 2 ^ 28 * t)
  let s := s.log 0x0401 1 [p0, w32 r.e.tag, w32 b, w32 (min excess (2 ^ 32 - 1))]
  (s.pageError 0x07 p0 0).reelDemotion t r.entryIndex b d

/-- The demotion of the first candidate that has a feasible outcome (R102 steps 3 to 6). The room of an outcome is that of
the forecast without the candidate's own KEEP charge, as the manual's worked recut has it: there slate 0x2A10 goes to SHELVE
in bucket 361, which has no room beside that charge. -/
def State.demoteFirst (s : State) (t n b : Nat) : List Nat → Option State
  | [] => none
  | i :: r =>
    match cheapest ((s.unchargeSlate i n).evaluate true false t (s.slate i).coded n (s.slate i).e) with
    | some o => some (s.demote i b o.oe ⟨o.o, o.t, o.p, n, (s.slate i).decScore, o.cost, false, false⟩)
    | none => s.demoteFirst t n b r

/-- Repeat R102; each repetition demotes a slate, so the fuel is the number of slates. -/
def State.recutLoop (s : State) (t n : Nat) : Nat → State
  | 0 => s
  | f + 1 => match s.overflowing t n with
    | none => s
    | some b => match s.demoteFirst t n b (s.recutCandidates t b) with
      | none => s
      | some s => s.recutLoop t n f

/-- CUT_STAT.overflow and ovf_bucket (R103). -/
def State.noteOverflow (s : State) (t n : Nat) : State := s.modTenant t (fun x => { x with overflow := s.overflowing t n })

/-- CUT_CTRL.recut_en. -/
def State.recutOn (s : State) : Bool := bitAt (s.reg R.CUT_CTRL).toNat 8

/-- A recut, if one starts, then the flags (R101, R103, R409); n is the frame counter of what starts it. -/
def State.recut (s : State) (t n : Nat) : State :=
  if (s.overflowing t n).isSome && s.recutOn && !s.replaying t then
    let s := (s.recutLoop t n 65536).noteOverflow t n
    if (s.tenant t).overflow.isSome then s.raise 0x07 1 else s
  else s.noteOverflow t n

/-- Apply the reel's demotions (R101, R258): the recorded outcome, tier and frame. -/
def State.applyDemotions (s : State) (t n : Nat) : List (List Byte) → State
  | [] => s
  | b :: r =>
    match s.slateOfEntry t (fld (leAt b 4 4) 0 20) with
    | none => s.applyDemotions t n r
    | some i =>
      let tier := fld (leAt b 8 1) 3 3
      let d : Decision := ⟨Placed.ofNum (fld (leAt b 8 1) 0 3), tier, leAt b 9 3, n, (s.slate i).decScore, 0, false, true⟩
      let oe := s.outFrame t (s.slate i).coded n tier
      let s := s.draw
      if (s.slate i).state = .kept then (s.demote i (fld (leAt b 16 2) 0 10) oe d).applyDemotions t n r
      else s.applyDemotions t n r

/-! ### The decision (R97, R107) -/

/-- The reservation of a must_keep or pin_tier slate leaves the forecast when the slate is decided (R89); a slate
placed again has none left. -/
def State.dropReservation (s : State) (i : Nat) : State :=
  let r := s.slate i
  let e := r.e
  let live := [(e.fwdFrame, e.releaseFrame)]
  if !(e.mustKeep || e.pinTier) || (s.tenant r.tenant).unreserved.contains r.entryIndex then s
  else
    (if e.mustKeep then s.uncharge r.tenant 0 e.pred live 0
     else s.uncharge r.tenant e.pinValue e.bound live 0).modTenant r.tenant
      (fun x => { x with unreserved := x.unreserved ++ [r.entryIndex] })

/-- Rules 2 to 5 of R97. -/
def State.decideFresh (s : State) (i n : Nat) : State :=
  let r := s.slate i
  let e := r.e
  let t := r.tenant
  let z := s.frozen t
  if e.mustKeep then
    let s := s.dropReservation i
    let f := s.forcedFrames i n 0
    s.commit i f.2 ⟨.keep, 0, f.1, n, 0xFFFFFFFF, 0, false, true⟩
  else if e.pinTier then
    let s := s.dropReservation i
    if e.pinValue = 0 ∨ s.enabled t e.pinValue then
      let f := s.forcedFrames i n e.pinValue
      s.commit i f.2 ⟨outcomeOf e.pinValue, e.pinValue, f.1, n, 0xFFFFFFFF, 0, false, true⟩
    else s.fallback i n false
  else
    let pin := z.pinDefault e.streamClass
    let pd := decide (pin ≠ 0)
    let l := if pd then s.pinEval t r.coded n pin e else s.evaluate true true t r.coded n e
    match cheapest l with
    | none => s.fallback i n pd
    | some o =>
      let others := cheapest (l.filter (fun x => x.o != .keep))
      let score := match o.o, others with
        | .keep, some x => if pd then 0xFFFFFFFF else min 0xFFFFFFFF (x.cost - o.cost)
        | _, _ => 0xFFFFFFFF
      s.commit i o.oe ⟨o.o, o.t, o.p, n, score, o.cost, false, pd⟩

/-- Rule 1 of R97: the recorded outcome, tier and frame. -/
def State.decideByReel (s : State) (i n : Nat) (b : List Byte) (dem : List (List Byte)) : State :=
  let r := s.slate i
  let t := r.tenant
  let tier := fld (leAt b 8 1) 3 3
  let d : Decision := ⟨Placed.ofNum (fld (leAt b 8 1) 0 3), tier, leAt b 9 3, n, 0xFFFFFFFF, 0, false, true⟩
  let oe := s.outFrame t r.coded n tier
  (((s.draw.dropReservation i).advanceReel t).commit i oe d).applyDemotions t n dem

/-- decide() of R107 for a SEALED slate with frame counter n; the flags of R103 follow. -/
def State.decideSlate (s : State) (i n : Nat) : State :=
  let t := (s.slate i).tenant
  let s := s.bump R.CUT_DECISIONS 1
  let s := match s.playFor t (s.slate i).entryIndex with
    | .off => s.decideFresh i n
    | .ended => (s.endPlay t).decideFresh i n
    | .miss => (s.replayMiss t).decideFresh i n
    | .hit b dem =>
      if Placed.ofNum (fld (leAt b 8 1) 0 3) = Placed.reshoot ∧ !(s.frozen t).recompute then
        ((s.replayMiss t).advanceReel t).decideFresh i n
      else s.decideByReel i n b dem
  s.recut t n

end Sys2Proof.Machine
end

