-- ==== Sys2Proof/Machine/Stitcher.lean ====
section
/-! DEFINITION. The stitcher (R19, R132 to R135, R321): taps, lanes, and the commit of a block; the continuity
comparison (R167 to R171). -/

namespace Sys2Proof.Machine

/-- FCLK cycles of one AOC tick, by the CLK_MODE strap in force (R3, R371). -/
def State.cyclesPerTick (s : State) : Nat :=
  if s.rst.clkMode = 1#2 then 16 else if s.rst.clkMode = 2#2 then 1 else 20

/-- A stored book; book 0 is built in (R129). -/
def State.bookOf (s : State) (id : Nat) : List Byte := if id = 0 then book0 else (look s.books.store id).getD []

def State.bookStored (s : State) (id : Nat) : Bool := id == 0 || (look s.books.store id).isSome

/-! ### Lanes (R19, R321) -/

/-- The lane that serves a tap; none when no lane is in service. -/
def State.laneOfTap (s : State) (tap : Nat) : Option Nat :=
  let lanes := bitsOf s.stitcher.lanes 8
  if lanes.contains (tap / 6) then some (tap / 6)
  else
    let homeless := (List.range 48).filter (fun k => !lanes.contains (k / 6))
    lanes[homeless.idxOf tap % lanes.length]?

def State.laneJobs (s : State) (lane : Nat) : List LaneJob := (look s.stitcher.jobs lane).getD []

def State.setLaneJobs (s : State) (lane : Nat) (l : List LaneJob) : State :=
  { s with stitcher := { s.stitcher with jobs := if l.isEmpty then del s.stitcher.jobs lane else put s.stitcher.jobs lane l } }

/-- Hand a block to a lane. -/
def State.handToLane (s : State) (lane : Nat) (j : LaneJob) : State := s.setLaneJobs lane (s.laneJobs lane ++ [j])

/-- Does a lane still hold a block of a slate (R133)? -/
def State.laneHolds (s : State) (i : Nat) : Bool :=
  s.stitcher.jobs.any (fun p => p.2.any (fun j => j.slate == i && j.gen == (s.slate i).gen))

/-- A stitcher lane is mapped out (R321); its blocks go to the lane that serves their tap now. -/
def State.mapOutStitcher (s : State) (lane cause : Nat) : State :=
  let held := s.laneJobs lane
  let s := s.setLaneJobs lane []
  let s := { s with stitcher := { s.stitcher with lanes := setBit s.stitcher.lanes lane false } }
  let s := s.report 0x0602 2 [w32 lane, w32 cause, w32 (popBits s.stitcher.lanes 8), 1#32] 0x0A 2
  held.foldl (fun s j => match s.laneOfTap j.tap with
    | none => s.handToLane lane j
    | some l => s.handToLane l j) s

/-! ### Taps (R19, R132, R133) -/

def State.setTap (s : State) (tap : Nat) (b : Option TapBuf) : State :=
  { s with stitcher := { s.stitcher with taps := match b with
      | none => del s.stitcher.taps tap
      | some b => put s.stitcher.taps tap b } }

/-- A lane remembers the tap it served last (R19). -/
def State.noteTap (s : State) (lane tap : Nat) : State :=
  { s with stitcher := { s.stitcher with lastTap := put s.stitcher.lastTap lane tap } }

/-- Is a block of an OPEN slate committed, or with a lane? -/
def State.blockWritten (s : State) (i b : Nat) : Bool :=
  (look (s.extent i).index b).isSome
    || s.stitcher.jobs.any (fun p => p.2.any (fun j => j.slate == i && j.gen == (s.slate i).gen && j.block == b))

/-- A complete block leaves its tap: it goes to a lane, or tears its slate (R64, R69). With no lane in service it stays in
the tap's buffer (log entry 82). -/
def State.tapBlock (s : State) (tap : Nat) (b : TapBuf) : State :=
  let r := s.slate b.slate
  let live := r.state == .opened && r.gen == b.gen
  if live && s.blockWritten b.slate b.block then s.tear b.slate 2
  else if live && decide (r.e.sizeBlocks ≤ b.block) then s.tear b.slate 3
  else match s.laneOfTap tap with
    | none => s.setTap tap (some b)
    | some lane => (s.handToLane lane ⟨b.slate, b.gen, b.block, b.data, tap, none, none⟩).noteTap lane tap

/-- One beat of a tap is accepted (R132): beat 0 carries the identity. -/
def State.acceptBeat (s : State) (tap slate gen block : Nat) (data : List Byte) : State :=
  let b := (look s.stitcher.taps tap).getD ⟨slate, gen, block, 0, []⟩
  let b := { b with beats := b.beats + 1, data := b.data ++ fitTo 64 data }
  let s := s.bump64 R.STI_RAW_IN 64
  if b.beats = 64 then (s.setTap tap none).tapBlock tap b else s.setTap tap (some b)

/-- A tap is back-pressured: its next beat is the last of a block, and the lane that serves it is busy with one, or no lane
is in service (R19; log entry 82). -/
def State.tapBlocked (s : State) (tap : Nat) : Bool :=
  (match look s.stitcher.taps tap with | some b => b.beats == 63 | none => false)
    && (match s.laneOfTap tap with | some l => !(s.laneJobs l).isEmpty | none => true)

/-- The beats that the engine of a tap has on offer. -/
def State.offers (s : State) (tap : Nat) : List TapOffer := (look s.stitcher.offered tap).getD []

def State.setOffers (s : State) (tap : Nat) (l : List TapOffer) : State :=
  { s with stitcher := { s.stitcher with
      offered := if l.isEmpty then del s.stitcher.offered tap else put s.stitcher.offered tap l } }

/-- A tap offers a beat: it is accepted, or it waits at the tap behind those that wait there (R19). -/
def State.tapBeat (s : State) (tap slate gen block : Nat) (data : List Byte) : State :=
  if (s.offers tap).isEmpty ∧ s.tapBlocked tap = false then s.acceptBeat tap slate gen block data
  else s.setOffers tap (s.offers tap ++ [⟨slate, gen, block, data⟩])

/-- Beats on offer are accepted, oldest first, until the tap is back-pressured again. -/
def State.admitBeats (s : State) (tap : Nat) : List TapOffer → State
  | [] => s.setOffers tap []
  | o :: r =>
    if s.tapBlocked tap then s.setOffers tap (o :: r)
    else (s.acceptBeat tap o.slate o.gen o.block o.data).admitBeats tap r

/-- The taps of a lane in the order of its round-robin (R19). -/
def State.tapTurn (s : State) (lane : Nat) : List Nat :=
  let last := (look s.stitcher.lastTap lane).getD 47
  ((List.range 48).map (fun k => (last + 1 + k) % 48)).filter (fun t => s.laneOfTap t == some lane)

/-- The lanes that are free take what back-pressured taps have on offer (R19). -/
def State.admitTaps (s : State) : State :=
  if s.stitcher.offered.isEmpty then s
  else (bitsOf s.stitcher.lanes 8).foldl (fun (s : State) lane =>
    (s.tapTurn lane).foldl (fun (s : State) t => s.admitBeats t (s.offers t)) s) s

/-! ### Continuity (R168 to R171) -/

/-- The granule offset of a covered entry's check table (R167). -/
def State.covered (s : State) (t e : Nat) : Option Nat :=
  match (s.tenant t).sheet with
  | none => none
  | some sh => (sh.cover.getD e none)

/-- The continuity axis frozen for a tenant: 0 off, 1 sample, 2 full. -/
def Frozen.continuity (z : Frozen) : Nat := fld z.mode.toNat 5 2

/-- Address of a block's logged check (R168). -/
def State.logAddr (s : State) (t off block : Nat) : Nat :=
  (match (s.tenant t).sheet with | none => 0 | some sh => sh.logBase) + 32 * off + 4 * block

/-- Log the raw check of a forward block (R168). -/
def State.logCheck (s : State) (i block raw : Nat) : State :=
  let r := s.slate i
  match s.covered r.tenant r.entryIndex with
  | none => s
  | some off =>
    if (s.frozen r.tenant).continuity = 0 then s else s.unitWrite (s.logAddr r.tenant off block) (leBytes raw 4)

/-- Is a block selected for comparison by everything but the script (R169)? -/
def State.selected (s : State) (i block : Nat) : Option Nat :=
  let r := s.slate i
  let t := r.tenant
  let z := s.frozen t
  let sampled := decide (z.sampleN ≠ 0)
    && (block + r.entryIndex + (s.tenant t).stepId.toNat) % z.sampleN == 0
  if r.e.continuity && (z.continuity == 2 || z.continuity == 1 && sampled) then s.covered t r.entryIndex else none

/-- Enter a block into the poison table (R171). -/
def State.poison (s : State) (i block : Nat) : State :=
  { s with continuity := { s.continuity with poison := s.continuity.poison ++ [(i, (s.slate i).gen, block)] } }

/-- The fault policy on a mismatch (R171). -/
def State.mismatchPolicy (s : State) (i block : Nat) : State :=
  let t := (s.slate i).tenant
  if !(s.frozen t).policy then (s.enterLost i 6).haltStep t
  else if s.continuity.poison.length < 64 then s.poison i block
  else ((s.modTenant t (fun x => { x with poisonFull := true })).raise 0x11 2 |>.enterLost i 6).haltStep t

/-- Compare a block's raw check with the log (R169 to R171). ret: an off-load return; lane: the lane that coded
the block, 15 for the stitcher. -/
def State.compareCheck (s : State) (i block raw off : Nat) (ret : Bool) (lane : Nat) : State :=
  let r := s.slate i
  let logged := s.memNat (s.logAddr r.tenant off block) 4
  let s := s.bump R.CNT_CHECKED 1
  if logged = raw then s
  else
    let s := s.bump R.CNT_MISMATCH 1
    let p0 := s.slateWordOf i
    let p1 := w32 (block + 2 ^ 19 * b2n ret + 2 ^ 20 * lane)
    let s := s.report 0x0601 (if ret then 5 else if lane = 15 then 2 else 4) [p0, p1, w32 logged, w32 raw] 0x11 0
    (s.pageError 0x11 p1 (p0.toNat + 2 ^ 32 * raw)).mismatchPolicy i block

/-! ### Committing a forward block (R113, R114, R132) -/

/-- The block that a lane has coded, after forced-raw-check; verify is what the lane's verify decoder found when
that differs from the raw check. -/
def State.codeForward (s : State) (i block : Nat) (raw : List Byte) : Coded :=
  let r := s.slate i
  let z := s.frozen r.tenant
  encodeBlock (modeCompress z.mode.toNat) z.sparse r.e.format r.e.bookId (s.bookOf r.e.bookId) ⟨i, r.gen, block⟩ raw

/-- Does the verify decoder of a lane report a mismatch (R114)? -/
def State.verifyFails (s : State) (t : Nat) (c : Coded) (raw : Nat) (verify : Option Word) : Option Word :=
  if modeCompress (s.frozen t).mode.toNat = 2 ∧ 3 ≤ c.mode then
    match verify with
    | some v => if v.toNat = raw then none else some v
    | none => none
  else none

/-- BLOCK_CHECK_FAIL (R145). -/
def State.logBlockFail (s : State) (source i block stage bank expected computed : Nat) : State :=
  s.log 0x0501 source [s.slateWordOf i, w32 (block + 2 ^ 22 * stage + 2 ^ 25 * bank), w32 expected, w32 computed]

/-- A verify mismatch of a lane: counted, logged, and the second for a tenant's step maps the lane out (R114,
R321). -/
def State.verifyMismatch (s : State) (lane i block raw : Nat) (found : Word) : State :=
  let t := (s.slate i).tenant
  let key := lane * 8 + t
  let n := (look s.stitcher.mismatch key).getD 0 + 1
  let s := { s with stitcher := { s.stitcher with mismatch := put s.stitcher.mismatch key n } }
  let s := ((s.bump R.STI_VERIFY_FAIL 1).logBlockFail 2 i block 4 63 raw found.toNat).raise 0x0A 2
  if 2 ≤ n ∧ bitAt s.stitcher.lanes lane then s.mapOutStitcher lane 3 else s

/-- Counters of a committed block (R135). -/
def State.countBlock (s : State) (c : Coded) : State :=
  let s := (s.bump (R.STI_MODE + 4 * c.mode) 1).bump64 R.STI_CODED_OUT c.granules
  if c.fallback then s.bump R.STI_FALLBACK 1 else s

/-- Commit a forward block of an OPEN slate; none while no vault unit is free. -/
def State.commitForward (s : State) (i block : Nat) (raw : List Byte) (c : Coded) : Option State :=
  let r := s.slate i
  (s.placeBlock i block c.image).map fun s =>
    let s := s.modSlate i (fun r => { r with blocksWritten := r.blocksWritten + 1,
                                             rawFallback := r.rawFallback + b2n c.fallback })
    let s := (s.countBlock c).logCheck i block (crc32c raw)
    if r.e.streamClass = 1 then s.meterBlock i block 1 raw (s.bookOf r.e.bookId) else s

/-- A lane has waited for a vault unit since an instant (R204, VLT_STALL). -/
def State.countStall (s : State) (since : Option Nat) : State :=
  match since with
  | none => s
  | some a => s.bumpSat R.VLT_STALL ((s.now - a) * s.cyclesPerTick)

/-- What the lanes that wait have waited so far is counted. -/
def State.tallyLanes (s : State) : State :=
  (List.range 8).foldl (fun (s : State) l => match s.laneJobs l with
    | j :: r => if j.waitsSince.isSome then (s.countStall j.waitsSince).setLaneJobs l ({ j with waitsSince := some s.now } :: r) else s
    | [] => s) s

/-! ### Inline blocks (R74) -/

def State.inlineBytes (s : State) (i : Nat) : List Byte := fitTo 4096 ((look s.stitcher.inlineBuf i).getD [])

def State.setInline (s : State) (i : Nat) (bs : List Byte) : State :=
  { s with stitcher := { s.stitcher with inlineBuf := put s.stitcher.inlineBuf i bs } }

/-- The stitcher hands the inline block to the lowest lane in service (R74). -/
def State.handInline (s : State) (i : Nat) : State :=
  match (bitsOf s.stitcher.lanes 8)[0]? with
  | none => s
  | some lane =>
    let r := s.slate i
    (s.modSlate i (fun r => { r with inlineHanded := true })).handToLane lane ⟨i, r.gen, 0, s.inlineBytes i, 0, none, none⟩
      |>.bump64 R.STI_RAW_IN 4096

end Sys2Proof.Machine
end

