-- ==== Sys2Proof/Machine/Reshoot.lean ====
section
/-! DEFINITION. Reshoot jobs (R155 to R163): start, operands, lane blocks, descriptors, progress and end. -/

namespace Sys2Proof.Machine

/-! ### Scripts and steps -/

def State.script (s : State) (n : Nat) : Option Script := look s.retake.scripts n

def State.jobSteps (s : State) (j : Job) : List ScriptStep := match s.script j.script with | some x => x.steps | none => []

/-- Lane steps run on the retake lanes (R153). -/
def ScriptStep.onLanes (k : ScriptStep) : Bool := decide (2 ≤ k.op)

/-- The operand references of a step: kind and reference (R151, R152). -/
def ScriptStep.refs (k : ScriptStep) : List (Nat × Nat) :=
  [(k.kindA, k.srcA), (k.kindB, k.srcB), (k.kindC, k.srcC), (k.kindK, k.imm)]

/-- Does a step read the working stream? -/
def ScriptStep.readsWork (k : ScriptStep) : Bool := k.refs.any (fun p => p.1 == 3)

/-- Number of the last step of a job. -/
def State.lastStep (s : State) (j : Job) : Nat := (s.jobSteps j).length - 1

def State.jobStep (s : State) (j : Job) (k : Nat) : Option ScriptStep := (s.jobSteps j)[k]?

/-- Output format of step k: the slate's for the last step (R151). -/
def State.stepFmt (s : State) (j : Job) (k : Nat) : Nat :=
  if k = s.lastStep j then (s.slate j.slate).e.format
  else match s.jobStep j k with | some x => x.outFmt | none => 0

/-- Output blocks of step k (R157). -/
def State.stepBlocks (s : State) (j : Job) (k : Nat) : Nat :=
  let e := (s.slate j.slate).e
  if k = s.lastStep j then e.sizeBlocks else ceilDiv (e.sizeBlocks * fmtBits (s.stepFmt j k)) (fmtBits e.format)

/-! ### The slots -/

def State.job (s : State) (slot : Nat) : Option Job := look s.retake.jobs slot

def State.setJob (s : State) (slot : Nat) (j : Job) : State :=
  { s with retake := { s.retake with jobs := put s.retake.jobs slot j } }

/-- The lowest free job slot (R155). -/
def State.freeSlot (s : State) : Option Nat := lowestFree (s.retake.jobs.map (·.1)) 0 512

/-- Deadline, then slate index (R100). -/
def firstWait : List JobWait → Option JobWait
  | [] => none
  | w :: r => match firstWait r with
    | none => some w
    | some v => if v.deadline < w.deadline ∨ v.deadline = w.deadline ∧ v.slate < w.slate then some v else some w

/-- A job fails: its target enters LOST (R156). -/
def State.failJob (s : State) (slot : Nat) : State :=
  match s.job slot with
  | none => s
  | some j => if j.stopped then s else s.enterLost j.slate 5

/-! ### Operands (R152, R155) -/

/-- The slate a reference names in the tenant's step; none where it names none (R156). -/
def State.refSlate (s : State) (j : Job) (kind ref : Nat) : Option Nat :=
  let tag := if kind = 1 then ((s.slate j.slate).e.tag + ref) % 2 ^ 32 else ref
  match (s.tenant j.tenant).sheet with
  | none => none
  | some sh =>
    match sh.entries.findIdx? (fun e => e.tag == tag) with
    | none => none
    | some e => s.slateOfEntry j.tenant e

/-- The slate references of a list of steps. -/
def slateRefs (ks : List ScriptStep) : List (Nat × Nat) :=
  (ks.flatMap ScriptStep.refs).filter (fun p => p.1 == 1 || p.1 == 2)

/-- A slate that a job can read (R155). -/
def SlateState.readable : SlateState → Bool
  | .kept | .movingOut | .ready | .inUse => true
  | _ => false

/-- Does a reference still name the slate it named when the job started, and is that slate not gone (R156)? -/
def State.refGood (s : State) (j : Job) (p : Nat × Nat) : Bool :=
  match s.refSlate j p.1 p.2 with
  | none => false
  | some i =>
    let r := s.slate i
    j.operands.contains (i, r.gen) && !(r.state == .torn || r.state == .lost || r.state == .free)

/-- Bring a PARKED or DROPPED operand in (R155). One that waits for a job slot already keeps its deadline (DESIGN CHOICE, log
entry 89). -/
def State.bringOperand (s : State) (slot : Nat) (j : Job) (p : Nat × Nat) : State :=
  match s.refSlate j p.1 p.2 with
  | none => s
  | some i =>
    if !s.mayStart j.tenant then s
    else match (s.slate i).state with
      | .parked => if s.transfersOf i |>.any (fun x => x.2.kind == .ret) then s else
          let s := s.beginReturn i j.deadline (some slot)
          if (s.slate i).state = .returning then s else s.failJob slot
      | .dropped => if s.retake.waiting.any (fun w => w.slate == i) then s else s.wantJob i j.deadline
      | _ => s

/-- Has a job read the operands of the step it is at: every descriptor of an engine step is answered, every block of a lane
step is committed or computed (R156)? -/
def State.stepRead (s : State) (slot : Nat) (j : Job) : Bool :=
  match s.jobStep j j.step with
  | none => true
  | some x =>
    if x.onLanes then
      (List.range (s.stepBlocks j j.step)).all (fun b => (look j.done (workKey j.step b)).isSome
        || s.retake.work.any (fun w => w.2.slot == slot && w.2.step == j.step && w.2.block == b && w.2.data.isSome))
    else decide (s.stepBlocks j j.step ≤ j.nextDesc) && j.toResend.isEmpty && j.unanswered.isEmpty

/-- Does a job have to fail now (R156)? -/
def State.jobDoomed (s : State) (slot : Nat) (j : Job) : Bool :=
  let todo := (s.jobSteps j).drop (j.step + b2n (s.stepRead slot j))
  !j.stopped && ((slateRefs todo).any (fun p => !s.refGood j p)
    || (s.retake.lanes == 0 && (s.jobSteps j).any ScriptStep.onLanes))

/-- Fail doomed jobs, lowest slot first, until none is left; a job's target may be another job's operand. -/
def State.failDoomed (s : State) : Nat → State
  | 0 => s
  | f + 1 => match s.retake.jobs.find? (fun p => s.jobDoomed p.1 p.2) with
    | none => s
    | some p => (s.failJob p.1).failDoomed f

/-- What every running job needs done after a change: failures (R156) and operands brought in (R155). -/
def State.tendJobs (s : State) : State :=
  let s := s.failDoomed 512
  s.retake.jobs.foldl (fun s p =>
    if p.2.stopped then s
    else (slateRefs ((s.jobSteps p.2).drop p.2.step)).foldl (fun s r => s.bringOperand p.1 p.2 r) s) s

/-! ### Start (R155, R159) -/

/-- Start the job of a slate in a slot: RESHOOTING, blocks_written 0, a new vault extent, references resolved. -/
def State.startJob (s : State) (slot i deadline : Nat) : State :=
  let r := s.slate i
  let n := match s.script r.e.scriptId with | some x => x.steps.length | none => 0
  let j : Job :=
    { slate := i, gen := r.gen, tag := r.e.tag, tenant := r.tenant, script := r.e.scriptId, step := 0, deadline := deadline,
      descs := [], unanswered := [], nextDesc := 0, nextOut := List.replicate n 0, done := [], failedOnce := false, stopped := false,
      operands := [], toResend := [] }
  let s := s.modSlate i (fun r => { r with state := .reshooting, blocksWritten := 0 })
  let s := s.setExtent i Extent.init
  let s := (s.fitUnits i).getD s
  let ops := (slateRefs (s.jobSteps j)).filterMap (fun p => (s.refSlate j p.1 p.2).map (fun k => (k, (s.slate k).gen)))
  ((s.setJob slot { j with operands := ops }).tendJobs)

/-- Start the job of a slate that waits in the lowest free slot, if there is one (R64, R155). -/
def State.startWait (s : State) (w : JobWait) : State :=
  match s.freeSlot with
  | some slot =>
    let s := { s with retake := { s.retake with waiting := s.retake.waiting.filter (fun v => v.slate != w.slate) } }
    s.startJob slot w.slate w.deadline
  | none => s

/-- A CALL starts the job of its slate at once, if a slot is free (R65). -/
def State.startNow (s : State) (i : Nat) : State :=
  match s.retake.waiting.find? (fun w => w.slate == i) with
  | some w => s.startWait w
  | none => s

/-- Start the job of the first waiting slate, if a slot is free (R64, R100, R155). -/
def State.startWaiting (s : State) : State :=
  match firstWait s.retake.waiting with
  | some w => s.startWait w
  | none => s

/-! ### Progress -/

/-- A step whose output is all committed and, for an engine step before the last, whose descriptors are all answered (R158,
R160). -/
def State.stepComplete (s : State) (j : Job) (k : Nat) : Bool :=
  (List.range (s.stepBlocks j k)).all (fun b => (look j.done (workKey k b)).isSome)
    && match s.jobStep j k with
      | none => true
      | some x => x.onLanes || k == s.lastStep j
          || (decide (s.stepBlocks j k ≤ j.nextDesc) && j.toResend.isEmpty && j.unanswered.isEmpty)

/-- The end of a job: the extent is fixed, and the slate becomes READY (R158, R159). The slot stays with the job until its
descriptors are answered (log entry 92). -/
def State.finishJob (s : State) (slot : Nat) (j : Job) : State :=
  let i := j.slate
  let s := (s.freeWork i (fun _ => true)).closeExtent i
  let jobs := if j.unanswered.isEmpty then del s.retake.jobs slot
    else put s.retake.jobs slot { j with stopped := true, toResend := [] }
  let s := { s with retake := { s.retake with jobs := jobs } }
  ((s.releaseExtents (fun x => x.slate == i && !x.lastUse)).bump R.RTK_DONE 1).enterReady i

/-- Move a job past its complete steps; the fuel is the number of steps. -/
def State.jobProgress (s : State) (slot : Nat) : Nat → State
  | 0 => s
  | f + 1 => match s.job slot with
    | none => s
    | some j =>
      if j.stopped || !s.stepComplete j j.step then s
      else if j.step = s.lastStep j then s.finishJob slot j
      else
        let s := s.freeWork j.slate (fun k => decide (k / 2 ^ 22 < j.step))
        (s.setJob slot { j with step := j.step + 1, descs := [], unanswered := [], nextDesc := 0, failedOnce := false, toResend := [] }).jobProgress slot f

/-! ### Lane steps (R158) -/

/-- Has step k started: all steps before it complete, or it is a lane step that reads the stream of a started
step? -/
def State.stepStarted (s : State) (j : Job) : Nat → Bool
  | 0 => true
  | k + 1 => decide (k + 1 ≤ j.step) || (match s.jobStep j (k + 1) with
      | some x => x.onLanes && x.readsWork && s.stepStarted j k
      | none => false)

/-- The elements of operand position pos (0 a, 1 b, 2 c, 3 imm) that output block b of a lane step needs. -/
def operandElems (x : ScriptStep) (outFmt b pos : Nat) : Nat × Nat :=
  let (e0, e1) := blockElems outFmt b
  if x.op = 3 ∧ pos = 1 then (2 * (e0 / x.rowLen), 2 * ((e1 - 1) / x.rowLen) + 2)
  else if x.op = 3 ∧ pos = 2 then (0, 2 * x.rowLen)
  else if x.op = 5 then (2 * (e0 / 2) * x.rowLen, 2 * ((e1 - 1) / 2 + 1) * x.rowLen)
  else (e0, e1)

/-- The blocks of a stream that hold a range of elements. -/
def blocksOfElems (f e0 e1 : Nat) : List Nat :=
  if e1 ≤ e0 then [] else
    let a := (elemBlocks f e0).1
    let z := (elemBlocks f (e1 - 1)).2
    (List.range (z + 1 - a)).map (a + ·)

/-- The working blocks that output block b of step k needs, of those that the stream has (R158). -/
def State.workNeeded (s : State) (j : Job) (k b : Nat) : List Nat :=
  match s.jobStep j k, k with
  | some x, p + 1 =>
    let f := s.stepFmt j p
    ((List.range 4).flatMap (fun pos =>
      match x.refs[pos]? with
      | some (3, _) => let (e0, e1) := operandElems x (s.stepFmt j k) b pos; blocksOfElems f e0 e1
      | _ => [])).filter (fun w => decide (w < s.stepBlocks j p))
  | _, _ => []

/-- Are all slates a step reads readable? In every other state of an operand the step waits: R155 names SEALED, RETURNING and
RESHOOTING, and says nothing of OPEN, which waits too (DESIGN CHOICE, log entry 88). -/
def State.operandsReadable (s : State) (j : Job) (x : ScriptStep) : Bool :=
  (x.refs.filter (fun p => p.1 == 1 || p.1 == 2)).all fun p =>
    match s.refSlate j p.1 p.2 with
    | none => false
    | some i => (s.slate i).state.readable

/-- Is a block of a step in a lane? -/
def State.inLane (s : State) (slot k b : Nat) : Bool :=
  s.retake.work.any (fun w => w.2.slot == slot && w.2.step == k && w.2.block == b)

/-- The next output block of a lane step to hand to a lane, if it can start (R146, R158). -/
def State.nextLaneBlock (s : State) (slot : Nat) (j : Job) (k : Nat) : Option Nat :=
  match s.jobStep j k with
  | none => none
  | some x =>
    if !x.onLanes || j.stopped || !s.stepStarted j k || !s.operandsReadable j x then none
    else
      let n := s.stepBlocks j k
      match ((List.range n).drop (j.nextOut.getD k 0)).find? (fun b =>
        (look j.done (workKey k b)).isNone && !s.inLane slot k b) with
      | none => none
      | some b => if (s.workNeeded j k b).all (fun w => (look j.done (workKey (k - 1) w)).isSome) then some b else none

/-- Jobs in the order of R100. -/
def insertJob (p : Nat × Job) : List (Nat × Job) → List (Nat × Job)
  | [] => [p]
  | q :: r => if p.2.deadline < q.2.deadline ∨ p.2.deadline = q.2.deadline ∧ p.2.slate ≤ q.2.slate then p :: q :: r
              else q :: insertJob p r

def State.jobsInOrder (s : State) : List (Nat × Job) := s.retake.jobs.foldr insertJob []

/-- The block a free lane takes: the first job in order, its lowest step with a block ready. -/
def State.nextWork (s : State) : Option LaneWork :=
  s.jobsInOrder.findSome? fun p =>
    (List.range (s.jobSteps p.2).length).findSome? fun k =>
      (s.nextLaneBlock p.1 p.2 k).map (fun b => LaneWork.mk p.1 k b none)

/-- The raw blocks of an operand over a range of elements, with its format. -/
def State.operandData (s : State) (j : Job) (k pos : Nat) (x : ScriptStep) (b : Nat) : Nat × NMap (List Byte) :=
  let (e0, e1) := operandElems x (s.stepFmt j k) b pos
  match x.refs[pos]? with
  | some (3, _) =>
    let f := s.stepFmt j (k - 1)
    (f, (blocksOfElems f e0 e1).filterMap (fun w =>
      (look (s.extent j.slate).work (workKey (k - 1) w)).map (fun img => (w, expand book0 img))))
  | some (kind, ref) =>
    if kind = 0 then (0, [])
    else match s.refSlate j kind ref with
      | none => (0, [])
      | some i =>
        let e := (s.slate i).e
        (e.format, (blocksOfElems e.format e0 e1).filterMap (fun w =>
          (look (s.extent i).images w).map (fun img => (w, expand (s.bookOf e.bookId) img))))
  | none => (0, [])

/-- The dropout mask of a slate (R165, R166). -/
def State.dropKey (s : State) (i : Nat) : DropKey :=
  let r := s.slate i
  let sc := s.script r.e.scriptId
  { seed := (s.frozen r.tenant).seed, layer := r.e.layerId, mb := r.e.mbId,
    site := match sc with | some x => x.site | none => 0,
    thr := match sc with | some x => x.keepThr | none => 0,
    scale := match sc with | some x => w32 x.dropScale | none => 0#32 }

/-- The value of output element e of a lane step (R148, R153, R164). R154 lets a NORM step have row_len 0 and R153 gives its
rows no meaning then; its elements take row 0 and column e (DESIGN CHOICE, log entry 90). -/
def laneElem (x : ScriptStep) (drop : DropKey) (a b c k : Nat → Word) (e : Nat) : Word :=
  if x.op = 2 then ewise x.fn (a e) (b e) (if x.kindK = 0 then w32 x.imm else k e)
  else if x.op = 3 then
    let row := e / x.rowLen
    let col := e % x.rowLen
    if x.fn = 0 then fpAdd (fpMul (fpMul (fpSub (a e) (b (2 * row))) (b (2 * row + 1))) (c col)) (c (x.rowLen + col))
    else fpMul (fpMul (a e) (b (2 * row + 1))) (c col)
  else if x.op = 4 then drop.apply e (a e)
  else
    let row := e / 2
    let m := mergeStats ((List.range x.rowLen).map (fun q =>
      (a (2 * (row * x.rowLen + q)), a (2 * (row * x.rowLen + q) + 1))))
    if e % 2 = 0 then m.1 else m.2

/-- The raw bytes of output block b of a lane step. -/
def State.laneRaw (s : State) (j : Job) (k b : Nat) (x : ScriptStep) : List Byte :=
  let f := s.stepFmt j k
  let da := s.operandData j k 0 x b
  let db := s.operandData j k 1 x b
  let dc := s.operandData j k 2 x b
  let dk := s.operandData j k 3 x b
  let (e0, e1) := blockElems f b
  packBlock f b ((List.range (e1 - e0)).map (fun n =>
    laneElem x (s.dropKey j.slate) (elemAt da.1 da.2) (elemAt db.1 db.2) (elemAt dc.1 dc.2) (elemAt dk.1 dk.2) (e0 + n)))

/-! ### Committing output (R157 to R159, R169) -/

/-- Code an output block of a job: the slate's own format and book for the target, book 0 for the stream. -/
def State.codeOutput (s : State) (j : Job) (k b : Nat) (raw : List Byte) : Coded :=
  let z := s.frozen j.tenant
  let e := (s.slate j.slate).e
  let cm := modeCompress z.mode.toNat
  if k = s.lastStep j then encodeBlock cm z.sparse e.format e.bookId (s.bookOf e.bookId) ⟨j.slate, j.gen, b⟩ raw
  else encodeBlock cm z.sparse (s.stepFmt j k) 0 book0 ⟨j.slate, j.gen, 0x40000 + b⟩ raw

/-- The comparison of a recomputed target block (R169). -/
def State.compareTarget (s : State) (j : Job) (b raw lane : Nat) : State :=
  match s.selected j.slate b with
  | none => s
  | some off =>
    if (s.jobSteps j).all (fun x => x.exact || x.onLanes) then s.compareCheck j.slate b raw off false lane
    else s.bump R.CNT_SKIP_INEXACT 1

/-- Free the working blocks that no output block of step k still needs (R158). -/
def State.freeConsumed (s : State) (slot k : Nat) : State :=
  match s.job slot with
  | none => s
  | some j =>
    if k = 0 then s
    else
      let open_ := (List.range (s.stepBlocks j k)).filter (fun b => (look j.done (workKey k b)).isNone)
      let needed := open_.flatMap (s.workNeeded j k)
      match s.jobStep j k with
      | some x =>
        if x.onLanes && x.readsWork then
          s.freeWork j.slate (fun key => key / 2 ^ 22 == k - 1 && !needed.contains (key % 2 ^ 22)
            && (look j.done key).isSome)
        else s
      | none => s

/-- Commit an output block of a job into the vault; none while no vault unit is free (R157 to R159). -/
def State.commitOutput (s : State) (slot : Nat) (j : Job) (k b : Nat) (raw : List Byte) (c : Coded) (lane : Nat) :
    Option State :=
  let i := j.slate
  let target := decide (k = s.lastStep j)
  let fresh := (look j.done (workKey k b)).isNone
  (if target then s.placeBlock i b c.image else s.placeWork i k b c.image).map fun s =>
    let s := s.countBlock c
    let s := if target && fresh then s.modSlate i (fun r => { r with blocksWritten := r.blocksWritten + 1 }) else s
    let s := s.setJob slot { j with done := put j.done (workKey k b) true }
    let s := if target then s.compareTarget j b (crc32c raw) lane else s
    let s := s.freeConsumed slot k
    ((s.jobProgress slot 17).reapJobs).tendJobs

/-- The job of a slate that is RESHOOTING. -/
def State.jobOfSlate (s : State) (i : Nat) : Option (Nat × Job) :=
  s.retake.jobs.find? (fun p => p.2.slate == i && p.2.gen == (s.slate i).gen && !p.2.stopped)

/-- The output block of an engine step that a tap block stands for (R157, R160): step and block. -/
def State.engineOutput (s : State) (j : Job) (block : Nat) : Option (Nat × Nat) :=
  match s.jobStep j j.step with
  | none => none
  | some x =>
    if x.onLanes then none
    else if j.step = s.lastStep j then (if block < s.stepBlocks j j.step then some (j.step, block) else none)
    else if 0x40000 ≤ block ∧ block - 0x40000 < s.stepBlocks j j.step then some (j.step, block - 0x40000) else none

/-! ### Retake lanes (R146, R149) -/

def State.setWork (s : State) (lane : Nat) (w : Option LaneWork) : State :=
  { s with retake := { s.retake with work := match w with | none => del s.retake.work lane | some w => put s.retake.work lane w } }

/-- A lane can take a block: in service and not under test. -/
def State.laneFree (s : State) (lane : Nat) : Bool := bitAt s.retake.lanes lane && !bitAt s.retake.lanesTesting lane

/-- A lane starts its self-test (R149). -/
def State.testLanes (s : State) (mask cause : Nat) : State :=
  { s with retake := { s.retake with lanesTesting := s.retake.lanesTesting ||| mask, testing := some cause } }

/-- A retake lane is mapped out, and its block is re-run on another lane (R149). -/
def State.mapOutLane (s : State) (lane cause : Nat) : State :=
  let s := { s with retake := { s.retake with lanes := setBit s.retake.lanes lane false } }
  let s := match look s.retake.work lane with
    | none => s
    | some w => match s.job w.slot with
      | none => s.setWork lane none
      | some j => (s.setWork lane none).setJob w.slot
          { j with nextOut := j.nextOut.set w.step (min (j.nextOut.getD w.step 0) w.block) }
  let s := s.report 0x0602 4 [w32 lane, w32 cause, w32 (popBits s.retake.lanes 16), 0#32] 0x10 1
  s.pageError 0x10 (w32 lane) 0

/-- A lane finishes its output block: it is computed, coded and committed (R158). A lane whose block finds no
vault unit keeps it (R103). -/
def State.laneOutput (s : State) (lane : Nat) : State :=
  if !s.laneFree lane then s
  else
    let pick : Option LaneWork := match look s.retake.work lane with | some w => some w | none => s.nextWork
    match pick with
    | none => s
    | some w =>
      match s.job w.slot with
      | none => s.setWork lane none
      | some j =>
        if j.stopped then (s.setWork lane none).reapJobs
        else match s.jobStep j w.step with
          | none => s.setWork lane none
          | some x =>
            let raw := w.data.getD (s.laneRaw j w.step w.block x)
            let c := s.codeOutput j w.step w.block raw
            let before := (s.reg R.CNT_MISMATCH)
            let j := { j with nextOut := j.nextOut.set w.step (max (j.nextOut.getD w.step 0) (w.block + 1)) }
            match ((s.setWork lane none).setJob w.slot j).commitOutput w.slot j w.step w.block raw c lane with
            | none => (s.setJob w.slot j).setWork lane (some { w with data := some raw })
            | some s => if s.reg R.CNT_MISMATCH = before then s else s.testLanes (2 ^ lane) 2

/-! ### Descriptors (R160, R161) -/

/-- The next enabled queue of a tenant after the last one used (R25, R160). -/
def State.nextQueue (s : State) (t : Nat) : Option Nat :=
  ((List.range 64).map (fun k => (s.retake.lastQueue + 1 + k) % 64)).find? (fun q =>
    (s.queueCtx q).enabled && (s.queueCtx q).tenant == t)

/-- The engines of a core queue: those of core q mod 12 (log entry 16). -/
def queueEngines (q : Nat) : List Nat := (List.range 4).map (fun k => 4 * (q % 12) + k)

/-- One operand field of a descriptor (R161). -/
def State.operandField (s : State) (j : Job) (k : Nat) (p : Nat × Nat) : Nat :=
  if p.1 = 3 then j.slate + 2 ^ 16 * j.gen + 2 ^ 24 * s.stepFmt j (k - 1)
  else if p.1 = 0 then 0
  else match s.refSlate j p.1 p.2 with
    | none => 0
    | some i => i + 2 ^ 16 * (s.slate i).gen + 2 ^ 24 * (s.slate i).e.format

/-- The 64-byte descriptor (R161). R161 names no byte for the row_len that R151 gives an engine step, so none holds it, and
eng_param stands in bytes 36 to 39 from bit 0 on, with the bits between it and fn zero (DESIGN CHOICE, log entry 91). -/
def State.descBytes (s : State) (slot : Nat) (j : Job) (x : ScriptStep) (d : Desc) : List Byte :=
  let k := j.step
  let base := if k = s.lastStep j then 0 else 0x40000
  leBytes slot 2 ++ leBytes k 1 ++ leBytes (x.op + 2 ^ 4 * (x.fn % 16)) 1 ++ leBytes (s.slate j.slate).e.tag 4
    ++ leBytes j.slate 2 ++ leBytes j.gen 1 ++ leBytes (j.tenant + 2 ^ 4 * s.stepFmt j k) 1
    ++ leBytes (base + d.first) 4 ++ leBytes d.count 4
    ++ x.refs.flatMap (fun p => leBytes (s.operandField j k p) 4)
    ++ leBytes (x.engParam + 2 ^ 60 * (x.fn / 16)) 8 ++ List.replicate 20 0#8

/-- Fills of a step's operands to the engines of a queue that has had no descriptor of the step yet (R160). -/
def State.fillOperands (s : State) (j : Job) (x : ScriptStep) (q : Nat) : State :=
  if j.descs.any (fun d => d.queue == q) then s
  else
    x.refs.foldl (fun s p =>
      if p.1 = 3 then
        s.startFill j.slate ((queueEngines q).flatMap (fun e =>
          (List.range (s.stepBlocks j (j.step - 1))).map (fun b => (e, 0x40000 + b)))) j.deadline (j.step - 1)
      else if p.1 = 1 ∨ p.1 = 2 then
        match s.refSlate j p.1 p.2 with
        | none => s
        | some i => s.startFill i (s.fillsFor i (queueEngines q)) j.deadline
      else s) s

/-- The descriptor a job has to send next; one that is sent again goes to the queue chosen at the failure, or to the next
enabled one where that queue is not the tenant's or not enabled. -/
def State.nextDescriptor (s : State) (j : Job) : Option Desc :=
  match j.toResend with
  | d :: _ =>
    if (s.queueCtx d.queue).enabled && (s.queueCtx d.queue).tenant == j.tenant then some d
    else (s.nextQueue j.tenant).map (fun q => { d with queue := q })
  | [] =>
    let n := s.stepBlocks j j.step
    if j.nextDesc < n then
      (s.nextQueue j.tenant).map (fun q =>
        Desc.mk q j.nextDesc (min (fld (s.reg R.RTK_CHUNK).toNat 0 10) (n - j.nextDesc)) false false)
    else none

/-- Can a job send a descriptor now? -/
def State.canDispatch (s : State) (j : Job) : Bool :=
  match s.jobStep j j.step with
  | none => false
  | some x => !x.onLanes && !j.stopped && s.operandsReadable j x && (s.nextDescriptor j).isSome

/-- The dispatcher sends one descriptor (R160). -/
def State.dispatch (s : State) : State :=
  match s.jobsInOrder.find? (fun p => s.canDispatch p.2) with
  | none => s
  | some (slot, j) =>
    match s.jobStep j j.step, s.nextDescriptor j with
    | some x, some d =>
      let bytes := s.descBytes slot j x d
      let s := s.fillOperands j x d.queue
      let j := { j with descs := if d.resent then j.descs else j.descs ++ [d], unanswered := j.unanswered ++ [d],
                        toResend := j.toResend.drop 1,
                        nextDesc := if j.toResend.isEmpty then j.nextDesc + d.count else j.nextDesc }
      let s := (s.setJob slot j).bump R.RTK_DISPATCHED 1
      ({ s with retake := { s.retake with lastQueue := d.queue } }).outDescriptor d.queue bytes
    | _, _ => s

/-- An answer of a queue takes the first descriptor that it, or else any queue, has not answered; with engine status 0 that
descriptor is complete, and is not sent again (R160, log entry 32). -/
def Job.answer (j : Job) (q : Nat) (good : Bool) : Job :=
  match (j.unanswered.find? (fun d => d.queue == q)).or j.unanswered.head? with
  | none => j
  | some d =>
    let j := { j with unanswered := j.unanswered.erase d }
    if good then { j with descs := j.descs.map (fun x => if x.first = d.first then { x with answered := true } else x)
                          toResend := j.toResend.filter (fun x => x.first != d.first) }
    else j

/-- An answer with non-zero engine status (R160): the incomplete descriptors are sent again once, to the next enabled queue;
the second one fails the job. j is the job with the answer taken in. -/
def State.stepFailed (s : State) (slot : Nat) (j : Job) : State :=
  let told := s.setJob slot j
  if j.stopped then told.reapJobs
  else if j.failedOnce then (told.failJob slot).reapJobs
  else
    let q := (s.nextQueue j.tenant).getD s.retake.lastQueue
    let again := (j.descs.filter (fun d => !d.answered)).map (fun d => { d with queue := q, resent := true })
    s.setJob slot { j with failedOnce := true, toResend := again }

end Sys2Proof.Machine
end

