-- ==== Sys2Proof/Machine/Operands.lean ====
section
/-! DEFINITION. Operand forms: the arguments of the 64-byte commands (R70, R73), the call-sheet header and
entries (R38, R40), prop descriptors (R243) and reshoot scripts (R150, R151) as they lie in memory. -/

namespace Sys2Proof.Machine

/-! ### Commands (R70, R73) -/

/-- Bits of a number outside a mask. -/
def outside (v mask : Nat) : Bool := v != v &&& mask

/-- Defined flag bits, defined argument bits, and defined payload bytes, by opcode (R73, R249, R251, R272). -/
def cmdDefined (op : Nat) : Nat × Nat × Nat :=
  match op with
  | 0x01 => (1, 2 ^ 48 - 1, 0)
  | 0x02 => (0, 0x3FFFF7FFFF, 48)
  | 0x03 => (0, 0x7FFFF, 0)
  | 0x04 => (1, 2 ^ 48 - 1, 0)
  | 0x06 => (0, 0xFFFFFF, 0)
  | 0x07 => (0, 0xFF0F01FF, 0)
  | 0x10 => (1, 0xFFFFFFFF, 0)
  | 0x11 => (1, 2 ^ 64 - 1, 0)
  | 0x12 => (7, 2 ^ 64 - 1, 4)
  | 0x30 => (0, 0xFFFFFFFF, 0)
  | 0x31 => (1, 0, 0)
  | 0x32 => (0, 0x7F07, 0)
  | _ => (0, 0, 0)

/-- A reserved bit of the command is set (R70, R72). The tag of an eyelet command holds the index (R272). -/
def cmdReserved (op : Nat) (c : Cmd) : Bool :=
  let d := cmdDefined op
  outside c.flags.toNat d.1 || outside c.args.toNat d.2.1 || !allZero (c.payload.drop d.2.2)
    || (0x10 ≤ op && op ≤ 0x12 && decide (4096 ≤ c.tag.toNat))

/-- Block index, byte offset and byte count of WRITE_INLINE. -/
def inlineBlock (c : Cmd) : Nat := fld c.args.toNat 0 19
def inlineOffset (c : Cmd) : Nat := fld c.args.toNat 20 12
def inlineCount (c : Cmd) : Nat := fld c.args.toNat 32 6

/-- Block count of SEAL. -/
def sealBlocks (c : Cmd) : Nat := fld c.args.toNat 0 19

/-- Frame index of FRAME. -/
def frameIndex (c : Cmd) : Nat := fld c.args.toNat 0 24

/-- Slot, step and engine status of RESHOOT_DONE. -/
def doneSlot (c : Cmd) : Nat := fld c.args.toNat 0 9
def doneStep (c : Cmd) : Nat := fld c.args.toNat 16 4
def doneStatus (c : Cmd) : Nat := fld c.args.toNat 24 8

/-- Step number of STEP_BEGIN. -/
def stepNumber (c : Cmd) : Word := c.args.setWidth 32

/-- Borrower and shelves of INTERMISSION (R251). -/
def loanBorrower (c : Cmd) : Nat := fld c.args.toNat 0 3
def loanShelves (c : Cmd) : Nat := fld c.args.toNat 8 7

/-! ### The call sheet in memory (R38, R40) -/

/-- The header of a call sheet. -/
structure SheetHeader where
  magic : Nat
  version : Nat
  entryCount : Nat
  frameCount : Nat
  tenant : Nat
  defaultFrame : Nat
  entriesCrc : Nat
  headerCrc : Nat
  reserved : Bool
  crcOk : Bool
  deriving DecidableEq, Repr

/-- Are the bytes at the given places of a byte string zero? -/
def zerosAt (bs : List Byte) (o n : Nat) : Bool := leAt bs o n == 0

def parseSheetHeader (bs : List Byte) : SheetHeader :=
  { magic := leAt bs 0 4, version := leAt bs 4 2, entryCount := leAt bs 8 4, frameCount := leAt bs 12 3,
    tenant := fld (leAt bs 16 1) 0 3, defaultFrame := leAt bs 20 4, entriesCrc := leAt bs 56 4,
    headerCrc := leAt bs 60 4,
    reserved := !(zerosAt bs 6 2 && zerosAt bs 15 1 && decide (leAt bs 16 1 < 8) && zerosAt bs 17 3 && zerosAt bs 24 32),
    crcOk := crc32c (bs.take 60) == leAt bs 60 4 }

/-- A 32-byte entry (R40). -/
def parseEntry (bs : List Byte) : Entry :=
  let w (n : Nat) : Nat := leAt bs (4 * n) 4
  { tag := w 0, layerId := fld (w 1) 0 12, mbId := fld (w 1) 12 10, expertId := fld (w 1) 22 8,
    fwdFrame := fld (w 2) 0 24, format := fld (w 2) 24 4, callFrame := fld (w 3) 0 24, predRatio := fld (w 3) 24 8,
    sizeBlocks := fld (w 4) 0 19, scriptId := fld (w 4) 19 12, mustKeep := bitAt (w 5) 0, pinTier := bitAt (w 5) 1,
    continuity := bitAt (w 5) 2, encryptOuter := bitAt (w 5) 3, pinValue := fld (w 5) 4 3,
    streamClass := fld (w 5) 7 3, bookId := fld (w 5) 16 12, releaseFrame := fld (w 6) 0 24,
    propDesc := fld (w 7) 0 16,
    reserved := !(fld (w 1) 30 2 == 0 && fld (w 2) 28 4 == 0 && fld (w 4) 31 1 == 0 && fld (w 5) 10 6 == 0
      && fld (w 5) 28 4 == 0 && fld (w 6) 24 8 == 0 && fld (w 7) 16 16 == 0) }

/-- The sixteen words of a slate record (R60). -/
def Slate.words (r : Slate) : List Nat :=
  let e := r.e
  [e.tag,
   e' 0 e r,
   e' 1 e r,
   e.sizeBlocks + 2 ^ 19 * e.scriptId,
   r.blocksWritten + 2 ^ 19 * b2n r.releasePending + 2 ^ 20 * b2n r.callPending,
   e.fwdFrame + 2 ^ 24 * e.expertId,
   e.callFrame + 2 ^ 24 * e.predRatio,
   e.releaseFrame,
   r.extentBase % 2 ^ 32,
   r.extentBase / 2 ^ 32,
   r.coded, r.q1, r.q2, r.q3, r.digest,
   e.layerId + 2 ^ 12 * e.mbId]
where
  /-- Words 1 and 2. -/
  e' (n : Nat) (e : Entry) (r : Slate) : Nat :=
    if n = 0 then r.entryIndex + 2 ^ 20 * r.gen + 2 ^ 28 * r.state.num
    else r.tenant + 2 ^ 3 * r.tier + 2 ^ 6 * r.outcome.num + 2 ^ 9 * b2n e.mustKeep + 2 ^ 10 * b2n e.pinTier
      + 2 ^ 11 * b2n e.continuity + 2 ^ 12 * b2n e.encryptOuter + 2 ^ 13 * e.streamClass + 2 ^ 16 * e.format
      + 2 ^ 20 * e.bookId

/-! ### Prop descriptors (R243) -/

def parsePiece (bs : List Byte) : Piece :=
  let a := leAt bs 0 8
  let w := leAt bs 8 4
  { addr := a, blocks := fld w 0 19, tier := fld w 19 3, lastUse := bitAt w 22, partner := leAt bs 12 1,
    reserved := !(a % 4096 == 0 && fld w 23 9 == 0 && zerosAt bs 13 3) }

/-- Descriptor d of a table with its pieces, as memory holds them. -/
def State.readProp (s : State) (base d : Nat) : PropDesc :=
  let bs := s.unitRead (base + 32 * (d - 1)) 32
  let list := leAt bs 0 8
  let w := leAt bs 8 4
  let n := fld w 0 13
  { auto := bitAt w 16,
    pieces := (List.range n).map (fun k => parsePiece (s.unitRead (list + 16 * k) 16)),
    reserved := !(list % 16 == 0 && fld w 13 3 == 0 && fld w 17 15 == 0 && zerosAt bs 12 20
      && decide (1 ≤ n) && decide (n ≤ 4096)) }

/-! ### Reshoot scripts (R150, R151) -/

def parseStep (bs : List Byte) : ScriptStep :=
  let k := leAt bs 3 1
  { op := fld (leAt bs 0 1) 0 4, fn := leAt bs 1 1, outFmt := fld (leAt bs 2 1) 0 4, kindA := fld k 0 2,
    kindB := fld k 2 2, kindC := fld k 4 2, kindK := fld k 6 2, srcA := leAt bs 4 4, srcB := leAt bs 8 4,
    srcC := leAt bs 12 4, imm := leAt bs 16 4, cyc := leAt bs 20 4, exact := bitAt (leAt bs 24 4) 0,
    engParam := leAt bs 24 4 / 2, rowLen := leAt bs 28 4 }

/-- The functions that an op defines (R148, R153); the engine's functions are the engine's (R151). -/
def fnDefined (op fn : Nat) : Bool :=
  if op ≤ 1 then true else if op = 2 then decide (fn ≤ 7) else if op = 3 then decide (fn ≤ 1) else true

end Sys2Proof.Machine
end

