-- ==== Sys2Proof/Machine/Gather.lean ====
section
/-! DEFINITION. Prop calls (R243 to R249): gathers, their start, retry, end and failure. -/

namespace Sys2Proof.Machine

/-- Entry of a tenant's loaded sheet by index. -/
def State.entryAt (s : State) (t ei : Nat) : Option Entry :=
  match (s.tenant t).sheet with | none => none | some sh => sh.entries[ei]?

/-- The prop descriptor of an entry, as read at the sheet load. -/
def State.propOf (s : State) (t : Nat) (e : Entry) : Option PropDesc :=
  match (s.tenant t).sheet with
  | none => none
  | some sh => if e.propDesc = 0 then none else sh.props[e.propDesc - 1]?

/-- The auto frame of a PROP entry (R245). -/
def State.autoFrame (s : State) (t : Nat) (e : Entry) (d : PropDesc) : Nat :=
  let z := s.frozen t
  if d.pieces.any (fun p => z.bw.getD p.tier 0 == 0) then e.fwdFrame
  else
    let x := sumNat (d.pieces.map (fun p => z.xfer (129 * p.blocks) p.tier))
    match z.back e.callFrame (z.lead x) with
    | none => e.fwdFrame
    | some p => max e.fwdFrame p

/-- Granules a gather charges (R245). -/
def Entry.gatherGr (e : Entry) : Nat := indexGr e.sizeBlocks + 129 * e.sizeBlocks

/-- The transfers of a gather, one per piece (R245 step 3). -/
def State.queuePieces (s : State) (i : Nat) (deadline : Nat) : Nat → Nat → List Piece → State
  | _, _, [] => s
  | k, first, p :: r =>
    let x := s.slate i
    (if p.blocks = 0 then s else s.queueTransfer { Transfer.blank .prop x.tenant with
        slate := i, gen := x.gen, tier := p.tier, blocks := (List.range p.blocks).map (first + ·), src := p.addr,
        partner := p.partner, total := 128 * p.blocks, deadline := deadline, lastUse := p.lastUse, piece := k })
      |>.queuePieces i deadline (k + 1) (first + p.blocks) r

/-- The reservations of R89 that an entry holds; a gather started again finds them gone. -/
def State.dropPropReservation (s : State) (t : Nat) (e : Entry) : State :=
  let live := [(e.fwdFrame, e.releaseFrame)]
  let s := s.uncharge t 0 e.pred live 0
  if e.mustKeep then s.uncharge t 0 e.pred live 0
  else if e.pinTier then s.uncharge t e.pinValue e.bound live 0
  else s

/-- The gather's decision, as the reel records it (R254; log entry 17). -/
def State.gatherDecision (s : State) (t : Nat) (e : Entry) : Decision :=
  let n := (s.tenant t).frame
  { outcome := .keep, tier := 0, p := (s.frozen t).backMin e.callFrame (s.frozen t).margin n, n := n,
    score := 0xFFFFFFFF, cost := 0, fallback := false, forced := false }

/-- Start a gather whose tenant has a ledger slot (R245, R258); the record's index is answered too. -/
def State.startGather (s : State) (t ei : Nat) (e : Entry) (d : PropDesc) : State × Nat :=
  let n := (s.tenant t).frame
  let first := !(s.tenant t).gathered.contains ei
  let (s, i) := s.openRecord t ei e false 0
  let s := if first then s.dropPropReservation t e else s
  let s := s.charge t 0 e.gatherGr [(n, e.releaseFrame)]
  let s := s.modTenant t (fun x => { x with
    gathered := if first then x.gathered ++ [ei] else x.gathered
    gathersWaiting := x.gathersWaiting.filter (fun g => g.entry != ei) })
  let s := (s.reelDecision t ei e.gatherGr (s.gatherDecision t e)).bump R.SHT_PROP_GATHERS 1
  let s := match s.playFor t ei with
    | .off => s
    | .ended => s.endPlay t
    | .miss => s.replayMiss t
    | .hit _ dem => (s.advanceReel t).applyDemotions t n dem
  ((s.recut t n).queuePieces i ((s.frozen t).start e.callFrame) 0 0 d.pieces, i)

/-- A gather starts, or waits for a ledger record (R248). -/
def State.tryGather (s : State) (t ei : Nat) (again : Bool) : State :=
  match s.entryAt t ei with
  | none => s
  | some e => match s.propOf t e with
    | none => s
    | some d =>
      if s.hasSlot t then (s.startGather t ei e d).1
      else if (s.tenant t).gathersWaiting.any (fun g => g.entry == ei) then s
      else s.modTenant t (fun x => { x with gathersWaiting := x.gathersWaiting ++ [GatherWait.mk ei again] })

/-- Insert in ascending entry index. -/
def insertGather (g : GatherWait) : List GatherWait → List GatherWait
  | [] => [g]
  | h :: r => if g.entry ≤ h.entry then g :: h :: r else h :: insertGather g r

/-- Retry the waiting gathers of a tenant in ascending entry index (R248). -/
def State.retryGathers (s : State) (t : Nat) : State :=
  if !s.mayStart t then s
  else ((s.tenant t).gathersWaiting.foldr insertGather []).foldl (fun s g => s.tryGather t g.entry g.again) s

/-- Auto gathers whose frame is reached (R245, R99). -/
def State.autoGathers (s : State) (t : Nat) : State :=
  match (s.tenant t).sheet with
  | none => s
  | some sh =>
    (List.range sh.entries.length).foldl (fun s ei =>
      match sh.entries[ei]? with
      | none => s
      | some e =>
        if e.streamClass ≠ 2 then s
        else match s.propOf t e with
          | none => s
          | some d =>
            if d.auto && !(s.tenant t).gathered.contains ei && decide (s.autoFrame t e d ≤ (s.tenant t).frame) then
              s.tryGather t ei false
            else s) s

/-- The SEAL that ends a gather (R246): the slate is KEPT with the p of R98. -/
def State.sealGather (s : State) (i : Nat) : State :=
  let s := s.closeExtent i
  let r := s.slate i
  let d := s.gatherDecision r.tenant r.e
  let s := s.noteDecision i 0 d
  s.modSlate i (fun r => { r with state := .kept, tier := 0 })

/-- SLATE_LOST of an entry without a slate (R247, R248): slate 0xFFFF; state and last tier are stated by no rule. -/
def State.logGatherLost (s : State) (t ei cause : Nat) : State :=
  let tag := match s.entryAt t ei with | some e => e.tag | none => 0
  let s := s.note t ei (fun x => { x with lost := true })
  let v := s.unstatedWord.toNat
  let s := s.modTenant t (fun x => { x with
    dead := if x.dead.contains ei then x.dead else x.dead ++ [ei]
    gathersWaiting := x.gathersWaiting.filter (fun g => g.entry != ei) })
  s.draw.logLost (slateWord 0xFFFF 0 t).toNat t tag cause (fld v 0 4) (fld v 4 3)

/-- A PROP transfer has ended without success (R247): the slate tears; the gather starts once more, or the entry
has no slate for the rest of the step. -/
def State.gatherFailed (s : State) (i : Nat) : State :=
  let r := s.slate i
  let t := r.tenant
  let ei := r.entryIndex
  let s := (s.tear i 1).bump R.SHT_PROP_TEARS 1
  if (s.tenant t).tornOnce.contains ei then s.logGatherLost t ei 7
  else
    let s := s.modTenant t (fun x => { x with tornOnce := x.tornOnce ++ [ei] })
    if s.mayStart t then s.tryGather t ei true else s

/-- Gathers in progress, waiting ones included (SHT_PROP_STAT, R248). -/
def State.gathersInProgress (s : State) : Nat :=
  (s.liveSlates.filter (fun i => (s.slate i).state == .opened && (s.slate i).e.streamClass == 2)).length
    + sumNat ((List.range 8).map (fun t => (s.tenant t).gathersWaiting.length))

end Sys2Proof.Machine
end

