-- ==== Sys2Proof/Machine/PeerPort.lean ====
section
/-! DEFINITION. Sending on the peer port (R310, R311): operations, their numbers, and those that wait. -/

namespace Sys2Proof.Machine

/-- Operations of a package that are not acknowledged. -/
def State.peerOutstanding (s : State) (package : Nat) : Nat :=
  (s.peer.ops.filter (fun o => o.package == package)).length

/-- Put an operation on the port with the next sequence number (R310). -/
def State.emitPeer (s : State) (o : PeerOp) : State :=
  let o := { o with seq := s.peer.nextSeq, lastSend := s.now }
  let ops := s.peer.ops ++ [o]
  (({ s with peer := { s.peer with nextSeq := (s.peer.nextSeq + 1) % 2 ^ 32, ops := ops,
                                   hwm := max s.peer.hwm ops.length } }).outPeerOp o).bump64 R.PEER_TX_BYTES o.data.length

/-- May an operation leave while a power-down of the I/O die is handled? The movers hold their own back; a REDUCE waits
(R363). -/
def State.peerMayLeave (s : State) (o : PeerOp) : Bool := o.kind != .reduce || (s.pd 3).phase == .none

/-- Send an operation; it waits while 4,096 are outstanding for its receiver (R311). -/
def State.sendPeer (s : State) (o : PeerOp) : State :=
  if s.peerOutstanding o.package < 4096 ∧ s.peer.waitingOps.all (fun w => w.package != o.package) ∧ s.peerMayLeave o then
    s.emitPeer o
  else { s with peer := { s.peer with waitingOps := s.peer.waitingOps ++ [o] } }

/-- Send the operation that has waited longest for a receiver that has room. -/
def State.drainPeer (s : State) (package : Nat) : State :=
  match s.peer.waitingOps.find? (fun o => o.package == package) with
  | none => s
  | some o =>
    if s.peerOutstanding package < 4096 ∧ s.peerMayLeave o then
      ({ s with peer := { s.peer with waitingOps := s.peer.waitingOps.erase o } }).emitPeer o
    else s

/-- A fresh operation to a package, from this instance (R310). -/
def State.newPeerOp (s : State) (kind : PeerKind) (package tenant addr len : Nat) (data : List Byte) (word : Word)
    (txn : Option Nat) : PeerOp :=
  { kind := kind, package := package, sender := s.die.package, die := s.die.die, seq := 0, tenant := tenant, addr := addr,
    len := len, data := data, slateWord := word, hint := none, txn := txn, resends := 0, lastSend := 0, badCrc := false }

end Sys2Proof.Machine
end

