-- ==== Sys2Proof/Machine/Movers.lean ====
section
/-! DEFINITION. The read and write engines (R175 to R201): which transaction issues next, failures and retry, halts,
what a response does, and how a transfer ends. -/

namespace Sys2Proof.Machine

/-! ### Domains (R363, R364) -/

/-- The tier of the stacked or host memory that holds an address; 0 where the map has none. -/
def State.tierOf (s : State) (a : Nat) : Nat :=
  match s.die.map.find? (fun r => decide (r.base ≤ a) && decide (a < r.base + r.size)) with | some r => r.tier | none => 0

/-- An address in stacked memory. -/
def State.stacked (s : State) (a : Nat) : Bool := s.tierOf a == 1 || s.tierOf a == 2

/-- PWR_DRAIN (R378): drain limit and longest deferral in ticks. -/
def State.drainLimit (s : State) : Nat := us (fld (s.reg R.PWR_DRAIN).toNat 0 16)
def State.deferMax (s : State) : Nat := us (fld (s.reg R.PWR_DRAIN).toNat 16 16)

/-- A transfer that a deferral lets through (R364). -/
def State.urgent (s : State) (d : Nat) (x : Transfer) : Bool :=
  (x.kind == .ret || x.kind == .prop) && decide (s.stepAt x.tenant x.deadline < (s.pd d).since + s.deferMax)

/-- May an access of a transfer issue to a domain? -/
def State.domainOpen (s : State) (x : Transfer) (d : Option Nat) : Bool :=
  match d with
  | none => true
  | some d => match (s.pd d).phase with
    | .none => true
    | .defer => s.urgent d x
    | _ => false

/-- The side of an access that lies in memory or at a peer: true for reads of RET, PROP, MOVE and director
transfers, and for writes of OUT, MOVE and director transfers. -/
def Transfer.outside (x : Transfer) (write : Bool) : Bool := if write then x.kind.writesMem else x.kind.readsMem

/-- The address of an access: none on the vault and local-buffer sides, which have none (R203). -/
def State.accessAddr (s : State) (c : Nat) (x : Transfer) (write flag : Bool) (first : Nat) : Option Nat :=
  if flag then some (s.chan c).active.flagAddr.toNat
  else if x.outside write then some (if write then s.writeAddr c x first else s.readAddr c x first)
  else none

/-- The domain that an access touches. -/
def State.accessDomain (s : State) (c : Nat) (x : Transfer) (write flag : Bool) (first : Nat) : Option Nat :=
  if x.kind ≠ .director ∧ x.tier = 4 then (if x.outside write then some 3 else none)
  else match s.accessAddr c x write flag first with
    | none => none
    | some a => s.addrDomain a

/-! ### Regions (R193, R220) -/

/-- Does a run lie in one DIRECTOR or ADAPTER region of a tenant? -/
def State.directorRun (s : State) (t a n : Nat) : Bool :=
  s.tiers.regions.any (fun p => (p.2.kind == 3 || p.2.kind == 4) && p.2.tenant == t && p.2.holds a n)

/-- May an access be issued? A flag address outside stacked and host memory needs no region. -/
def State.accessOk (s : State) (c : Nat) (x : Transfer) (write flag : Bool) (first count : Nat) : Bool :=
  match x.kind with
  | .director =>
    let a := (s.accessAddr c x write flag first).getD 0
    if flag then (s.addrDomain a).isNone || s.directorRun x.tenant a 4 else s.directorRun x.tenant a (32 * count)
  | .prop => write || x.tier == 4 || s.directorRun x.tenant (s.readAddr c x first) (32 * count)
  | _ => true

/-! ### Halts and failures (R195 to R199) -/

/-- The values in force: frozen while a step of the tenant is open (R201). -/
def State.retryMax (s : State) (t : Nat) : Nat :=
  if (s.tenant t).stepOpen then (s.frozen t).retryMax else fld (s.reg R.SPB_RETRY).toNat 0 4

/-- Tier of an access by R43, 5 for director channels (R199). -/
def Transfer.accessTier (x : Transfer) (write : Bool) : Nat :=
  if x.kind = .director then 5 else if x.outside write then x.tier else 0

/-- The parameters of MOVER_RETRY and CHANNEL_HALTED (R199); an access without an address has one that no rule
states. -/
def State.moverParams (s : State) (c : Nat) (x : Transfer) (write flag : Bool) (first attempt : Nat) (cause : Cause) :
    List Word :=
  let a := (s.accessAddr c x write flag first).getD (Config.unstated s.draws).toNat
  [w32 (c + 2 ^ 6 * attempt + 2 ^ 10 * b2n write + 2 ^ 11 * x.accessTier write + 2 ^ 14 * Cause.num cause), w32 a,
   w32 (a / 2 ^ 32),
   if x.kind = .director then slateWord 0xFFFF 0 x.tenant else slateWord x.slate x.gen x.tenant]

/-- A channel halts (R188, R199): the flag, the event and the page's error address. -/
def State.haltChannel (s : State) (c : Nat) (x : Transfer) (write flag : Bool) (first attempt : Nat) (cause : Cause) :
    State :=
  let ps := s.moverParams c x write flag first attempt cause
  let page := 0x14 + c / 16
  let s := s.draw.modChan c (fun h => { h with state := .halted, attempts := attempt, cause := Cause.num cause, retries := [] })
  let s := (s.bump R.SPB_HALTS 1).report 0x0702 5 ps page (16 + c % 16)
  s.pageError page (ps.getD 0 0#32) ((ps.getD 1 0#32).toNat + 2 ^ 32 * (ps.getD 2 0#32).toNat)

/-- What follows for the slate when its transfer ends without success (R64, R197, R198, R215); cause is that of a
SLATE_LOST. -/
def State.endedWithout (s : State) (x : Transfer) (cause : Nat) : State :=
  let live := (s.slate x.slate).gen == x.gen && (s.slate x.slate).state != .free
  if !live then s
  else match x.kind with
    | .out => if (s.slate x.slate).state = .movingOut then s.backToSealed x.slate else s
    | .ret =>
      if (s.slate x.slate).state = .returning then
        let s := s.recoverOrLose x.slate cause .reshooting
        match x.operandOf with | some slot => s.failJob slot | none => s
      else s
    | .fill =>
      if (s.slate x.slate).state = .inUse ∧ x.fills.all (·.2 < 0x40000) ∧ s.mayStart x.tenant then
        s.startFill x.slate (s.fillsFor x.slate (once (x.fills.map (·.1)))) (s.stepTime x.tenant)
      else s
    | .prop => s.gatherFailed x.slate
    | .move =>
      if (s.slate x.slate).state = .parked then s.recoverOrLose x.slate 2 .dropped
      else if (s.slate x.slate).state = .returning then s.recoverOrLose x.slate 2 .reshooting
      else s
    | .director => s

/-- End a slate transfer without success. -/
def State.endTransfer (s : State) (id cause : Nat) : State :=
  match s.transfer id with
  | none => s
  | some x => ((s.cancelTransfer id).endedWithout x cause).reapJobs.tendJobs

/-- The hard limit of a slate as an AOC time (R198). -/
def State.hardAt (s : State) (i : Nat) : Nat :=
  let r := s.slate i
  s.frameAt r.tenant r.e.callFrame + (s.frozen r.tenant).hardLate

/-- The hard limit ends a slate transfer (R198). -/
def State.hardEnd (s : State) (id : Nat) : State := (s.bump R.SPB_CANCELS 1).endTransfer id 1

/-- Is a block the unit of retry of an access (R181, R195)? On a RET the reads of a block or of the index table, on an
OUT or MOVE the accesses of either side (log entry 25). -/
def Transfer.byBlock (x : Transfer) (write : Bool) : Bool := (x.kind == .ret && !write) || x.kind == .out || x.kind == .move

/-- The unit of an access: the whole blocks that it touches, on a RET also the whole index table; of writes, what has been
issued. -/
def State.accessUnit (s : State) (x : Transfer) (write : Bool) (first count : Nat) : Nat × Nat :=
  if x.byBlock write then
    let us := s.units x
    let whole (u : Span) : Bool := u.block.isSome || x.kind == .ret
    let lo := match unitAt us first with | some u => if whole u then u.first else first | none => first
    let hi := match unitAt us (first + count - 1) with
      | some u => if whole u then u.first + u.len else first + count
      | none => first + count
    let hi := if write then min hi (max x.wrNext (first + count)) else hi
    (lo, hi - lo)
  else (first, count)

/-- Remove the staged runs that begin in a span. -/
def unstage (m : NMap (List Byte)) (first count : Nat) : NMap (List Byte) :=
  m.filter (fun p => !(decide (first ≤ p.1) && decide (p.1 < first + count)))

/-- The staging slots that a failed read keeps until its data is drained (R176): its own, and those of the reads of its unit
that are made again with it. -/
def State.keptSlots (s : State) (id : Nat) (x : Transfer) (first : Nat) (u : Nat × Nat) : Nat :=
  b2n (stagedGranule x.staged first).isNone
    + (if x.kind = .ret then x.staged.countP (fun p => decide (u.1 ≤ p.1) && decide (p.1 < u.1 + u.2)) else 0)
    + (if x.byBlock false then s.movers.txns.countP (fun p =>
        p.2.transfer == id && !p.2.write && !p.2.aborted && runsMeet p.2.first p.2.count u.1 u.2) else 0)

/-- Attempt a of an access has failed (R196, R197, R307). A channel that is stopped or halted makes no further attempt (R194).
A read of a block is made again as a whole, with the granules of the block that had not been read yet. -/
def State.failAccess (s : State) (c id : Nat) (x : Transfer) (write flag : Bool) (first count a : Nat) (cause : Cause) :
    State :=
  if (s.chan c).state ≠ .busy then s
  else
  let u := s.accessUnit x write first count
  let slots := if write then 0 else s.keptSlots id x first u
  let x' := if write then x else { x with
    staged := if x.kind = .ret then unstage x.staged u.1 u.2 else x.staged
    rdNext := if x.byBlock false then max x.rdNext (u.1 + u.2) else x.rdNext }
  let s := s.setTransfer id x'
  let s := if x.byBlock write then
      s.abortTxns id (fun t => t.write == write && runsMeet t.first t.count u.1 u.2) else s
  let halt (s : State) : State :=
    let s := s.haltChannel c x write flag u.1 (a - 1) cause
    if x.kind = .director then s
    else s.endTransfer id 0
  if cause = .region then halt s
  else if s.retryMax x.tenant < a then
    if x.kind ≠ .director ∧ s.hardAt x.slate ≤ s.now then s.hardEnd id else halt s
  else s.modChan c (fun h => { h with attempts := a - 1, cause := Cause.num cause, retries := h.retries ++
      [Retry.mk write flag u.1 u.2 a cause (s.now + us (2 ^ (a - 1))) slots] })

/-! ### Issue (R175 to R178, R191 to R193) -/

/-- The die-cache hint of an access (R202, R210, R211); on tier 4 the partner's cache takes it. -/
def State.hintOf (s : State) (x : Transfer) (write : Bool) (addr : Option Nat) : Option Hint :=
  match x.kind with
  | .director => if (addr.map s.stacked).getD false then some .keep else none
  | .fill => none
  | .prop => if write ∨ x.tier = 3 then none else if x.lastUse then some .lastUse else some .keep
  | _ => if !x.outside write ∨ x.tier = 3 then none else if write then some .stream else some .lastUse

/-- What the memory master shows of an access: its hint, and that a copy is being read for the last time (R209, R210). -/
def State.showAccess (s : State) (x : Transfer) (t : Txn) (bytes : Nat) : State :=
  let s := match t.addr with
    | some a => if t.seq.isSome then s else s.outAccess ⟨t.write, a, bytes, t.hint⟩
    | none => s
  if (x.kind = .ret ∨ x.kind = .move) ∧ t.hint = some .lastUse then s.readLastUse x.tier x.src else s

/-- Enter a transaction; on tier 4 it is a peer operation (R308). -/
def State.enterTxn (s : State) (c id : Nat) (x : Transfer) (write flag : Bool) (first count a : Nat)
    (data : List Byte) : State :=
  let n := s.movers.nextTxn
  let peer := x.kind != .director && x.tier == 4 && x.outside write
  let addr := s.accessAddr c x write flag first
  let t : Txn := { transfer := id, chan := c, write := write, flag := flag, first := first, count := count, attempt := a,
                   issuedAt := s.now, seq := if peer then some s.peer.nextSeq else none, aborted := false, addr := addr,
                   data := data, domain := s.accessDomain c x write flag first, hint := s.hintOf x write addr }
  let txns := put s.movers.txns n t
  let s := { s with movers := { s.movers with txns := txns, nextTxn := n + 1,
                                              inflightHwm := max s.movers.inflightHwm txns.length } }
  let s := s.showAccess x t (if flag then 4 else 32 * count)
  if peer then
    let kind := match x.kind with | .prop => PeerKind.prop | .out => .ship | _ => .fetch
    let pkg := if x.kind = .prop then x.partner else s.partner
    s.sendPeer { s.newPeerOp kind pkg x.tenant (addr.getD 0) (32 * count) data (slateWord x.slate x.gen x.tenant) (some n) with
      hint := t.hint }
  else s

/-- Issue one access, unless it lies outside its regions (R193) or its package is lost (R224). -/
def State.issueAccess (s : State) (c id : Nat) (x : Transfer) (write flag : Bool) (first count a : Nat) : State :=
  if !s.accessOk c x write flag first count then s.failAccess c id x write flag first count a .region
  else if x.kind ≠ .director ∧ x.tier = 4 ∧ x.outside write ∧ s.lostPackage (if x.kind = .prop then x.partner else s.partner) then
    s.endTransfer id 4
  else
    let data := if flag then leBytes (s.chan c).active.flagVal.toNat 4
      else if write then (stagedRun x.staged (x.stageBase + first) count).getD [] else []
    s.enterTxn c id x write flag first count a data

/-- Granules that pacing still lets a channel read in this period (R191). -/
def State.paceLeft (s : State) (c : Nat) (n : Nat) : Nat :=
  let h := s.chan c
  let quantum := fld h.active.pace.toNat 16 16
  if h.inPool ∨ fld h.active.pace.toNat 0 16 = 0 ∨ quantum = 0 then n else min n (quantum - h.used)

/-- TIER_BATCH: granules of a run, and the ticks that a write waits for it (R212, R230). -/
def State.batchRun (s : State) : Nat := 2 * fld (s.reg R.TIER_BATCH).toNat 0 8
def State.batchWait (s : State) : Nat := ceilDiv (fld (s.reg R.TIER_BATCH).toNat 16 12) (max 1 s.cyclesPerTick)

/-- Does an access of a transfer reach stacked memory (R212)? -/
def State.reachesStack (s : State) (c : Nat) (x : Transfer) (write : Bool) (g : Nat) : Bool :=
  if x.kind = .director then s.stacked (if write then s.writeAddr c x g else s.readAddr c x g)
  else x.outside write && (x.tier == 1 || x.tier == 2)

/-- The staged granules of a transfer from a granule on, as far as one run counts them. -/
def State.runLength (s : State) (x : Transfer) (g : Nat) : Nat :=
  ((List.range (min s.batchRun (x.wrTotal - g))).takeWhile (fun k => (stagedGranule x.staged (g + k)).isSome)).length

/-- The time from which the next write of a transfer may issue: one to stacked memory waits until the staged writes of its
channel make a run, or until the oldest has waited for TIER_BATCH.wait (R212; log entry 95). -/
def State.batchAt (s : State) (c : Nat) (x : Transfer) (g : Nat) : Nat :=
  if !s.reachesStack c x true g || decide (g < x.runTo) || decide (s.batchRun ≤ s.runLength x g) then 0
  else match x.staged.find? (fun p => decide (p.1 ≤ g) && decide (g < p.1 + p.2.length / 32)) with
    | some p => (look x.stagedAt p.1).getD 0 + s.batchWait
    | none => 0

/-- The transfer as its next write leaves it: a run begins where none has. -/
def State.wrote (s : State) (c : Nat) (x : Transfer) (g n : Nat) : Transfer :=
  { x with wrNext := g + n
           runTo := if s.reachesStack c x true g && decide (x.runTo ≤ g) then g + s.runLength x g else x.runTo }

/-- The next read of a transfer (R175, R178, R181): a RET reads its index table first, then block by block. While a run of
writes of its channel issues, it reads nothing from stacked memory (R212). -/
def State.nextRead (s : State) (c : Nat) (x : Transfer) : Option (Nat × Nat) :=
  let g := x.rdNext
  if x.total ≤ g ∨ (x.wrNext < x.runTo ∧ s.reachesStack c x false g) then none
  else
    let fin := if x.kind = .ret then
        let ig := indexGr (s.slate x.slate).e.sizeBlocks
        if g < ig then some ig
        else if !x.verified then none
        else (unitAt (s.units x) g).map (fun u => u.first + u.len)
      else some x.total
    match fin with
    | none => none
    | some z =>
      let n := chunkLen (s.readAddr c x g) z g
      let n := if x.kind = .director then s.paceLeft c n else n
      if n = 0 ∨ !s.domainOpen x (s.accessDomain c x false false g) then none else some (g, n)

/-- A fill waits for the load of its slate's book that a CALL has started in the bank of its engine (R138). -/
def State.bookPending (s : State) (x : Transfer) (u : Option Span) : Bool :=
  match u with
  | some u => x.kind == .fill && s.books.misses.any (fun m => m.1 == u.engine && m.2.1 == (s.slate x.slate).e.bookId)
  | none => false

/-- The next write of a transfer: what it covers is staged, a returned block whole and checked, a prop block
whole (R181). -/
def State.nextWrite (s : State) (c : Nat) (x : Transfer) : Option (Nat × Nat) :=
  let g := x.wrNext
  if x.wrTotal ≤ g then none
  else
    let fin := if x.kind = .ret ∨ x.kind = .prop ∨ x.kind = .fill then (unitAt (s.units x) g).map (fun u => u.first + u.len)
      else some x.total
    match fin with
    | none => none
    | some z =>
      let whole := x.kind == .ret || x.kind == .prop
      let n := chunkLen (s.writeAddr c x g) z g
      let n := if whole then n
        else ((List.range n).takeWhile (fun k => (stagedGranule x.staged (g + k)).isSome)).length
      let ok := if whole then (stagedRun x.staged (x.stageBase + g) (z - g)).isSome && (x.verified || x.kind == .prop)
        else decide (0 < n)
      if !ok ∨ s.bookPending x (unitAt (s.units x) g) ∨ !s.domainOpen x (s.accessDomain c x true false g) then none
      else some (g, n)

/-- The flag write of a director transfer whose data is all acknowledged (R192). -/
def State.flagReady (s : State) (c id : Nat) (x : Transfer) : Bool :=
  x.kind == .director && bitAt (s.chan c).active.cfg.toNat 23 && decide (x.total ≤ x.done)
    && !s.movers.txns.any (fun p => p.2.transfer == id && p.2.flag && !p.2.aborted)
    && s.domainOpen x (s.accessDomain c x true true 0)

/-- The vault units of a block are taken when its first granule is written (R103, R204). -/
def State.placeUnit (s : State) (x : Transfer) (g : Nat) : Option State :=
  if x.kind ≠ .ret ∧ x.kind ≠ .prop then some s
  else match unitAt (s.units x) g with
    | none => some s
    | some u => match u.block with
      | none => some s
      | some b =>
        if u.first = g then
          (s.placeBlock x.slate b ((stagedRun x.staged (x.stageBase + u.first) u.len).getD [])).map (fun s =>
            if x.kind = .prop then s.modExtent x.slate (fun y => { y with unwritten := b :: y.unwritten }) else s)
        else some s

/-- A channel that can issue: it serves a started transfer and no access of it waits (R196). -/
def Chan.active? (h : Chan) : Bool := h.state == .busy && h.started && h.transfer.isSome && h.retries.isEmpty

/-- Order from the channel after the last one served. -/
def rotate (last : Nat) (l : List Nat) : List Nat := l.filter (fun c => decide (last < c)) ++ l.filter (fun c => decide (c ≤ last))

/-- Insert by the order of R100. -/
def insertServed (p : Nat × Nat × Transfer) : List (Nat × Nat × Transfer) → List (Nat × Nat × Transfer)
  | [] => [p]
  | q :: r => if transferBefore (q.2.1, q.2.2) (p.2.1, p.2.2) then q :: insertServed p r else p :: q :: r

/-- The channels that can issue, with their transfers, in the order of R177. -/
def State.issueOrder (s : State) (write : Bool) : List (Nat × Nat × Transfer) :=
  let live := s.movers.chans.filterMap (fun p =>
    if p.2.active? then match p.2.transfer with
      | some id => (s.transfer id).map (fun x => (p.1, id, x))
      | none => none
    else none)
  let dir (k : Bool) := (live.filter (fun q => q.2.2.kind == .director && bitAt (s.chan q.1).active.cfg.toNat 24 == k)).map (·.1)
  let back (l : List Nat) := l.filterMap (fun c => live.find? (fun q => q.1 == c))
  let pick (p : Nat × Nat) := if write then p.2 else p.1
  back (rotate (pick s.movers.lastHi) (dir true))
    ++ (live.filter (fun q => q.2.2.kind != .director)).foldr insertServed []
    ++ back (rotate (pick s.movers.lastLo) (dir false))

/-- Remember the director channel served last (R177); one that goes on with a run keeps its turn (R212, log entry 95). -/
def State.served (s : State) (c : Nat) (x : Transfer) (write goesOn : Bool) : State :=
  if x.kind ≠ .director then s
  else
    let last := if goesOn then (c + 63) % 64 else c
    let upd (p : Nat × Nat) := if write then (p.1, last) else (last, p.2)
    if bitAt (s.chan c).active.cfg.toNat 24 then { s with movers := { s.movers with lastHi := upd s.movers.lastHi } }
    else { s with movers := { s.movers with lastLo := upd s.movers.lastLo } }

/-- The read engine issues for the first channel that is ready. -/
def State.issueRead (s : State) : List (Nat × Nat × Transfer) → State
  | [] => s
  | (c, id, x) :: r => match s.nextRead c x with
    | none => s.issueRead r
    | some (g, n) =>
      let upTo := if !s.reachesStack c x false g then 0 else if g < x.readTo then x.readTo else g + s.batchRun
      let y := { x with rdNext := g + n, readTo := upTo }
      let s := (s.setTransfer id y).served c x false (decide (g + n < min upTo x.total))
      let s := if x.kind = .director then s.modChan c (fun h => { h with used := h.used + n }) else s
      s.issueAccess c id y false false g n 1

/-- The write engine issues for the first channel that is ready. -/
def State.issueWrite (s : State) : List (Nat × Nat × Transfer) → State
  | [] => s
  | (c, id, x) :: r =>
    if s.flagReady c id x then (s.served c x true false).issueAccess c id x true true 0 0 1
    else match s.nextWrite c x with
      | none => s.issueWrite r
      | some (g, n) =>
        if s.now < s.batchAt c x g then s.issueWrite r
        else match s.placeUnit x g with
        | none => s.issueWrite r
        | some z =>
          let y := s.wrote c x g n
          ((z.setTransfer id y).served c x true (decide (y.wrNext < y.runTo))).issueAccess c id y true false g n 1

/-- The time from which a channel can issue a write; none while it has none. -/
def State.writeAt (s : State) (q : Nat × Nat × Transfer) : Option Nat :=
  if s.flagReady q.1 q.2.1 q.2.2 then some 0
  else match s.nextWrite q.1 q.2.2 with
    | none => none
    | some (g, _) => if (s.placeUnit q.2.2 g).isSome then some (s.batchAt q.1 q.2.2 g) else none

/-- The write engine issues a transaction: at once where a channel is ready, else when the wait of the run that is due first
ends (R212). -/
def State.writeTurn (s : State) (l : List (Nat × Nat × Transfer)) : State :=
  match (l.filterMap s.writeAt).foldl optMin none with
  | none => s
  | some t => (s.advanceTo t).issueWrite l

/-- One transaction of an engine (R175 to R177), within the bounds of R81 and R176. -/
def State.issue (s : State) (write : Bool) : State :=
  if 4096 ≤ s.movers.txns.length then s
  else if write then s.writeTurn (s.issueOrder true)
  else if 8192 ≤ s.stagingUse then s
  else s.issueRead (s.issueOrder false)

/-! ### Director transfers (R184, R187 to R190) -/

/-- Start a promoted transfer. -/
def Chan.start (h : Chan) : Chan := { h with state := .busy, started := true }

/-- The active set as a transfer. -/
def ChanRegs.asTransfer (r : ChanRegs) : Transfer :=
  { Transfer.blank .director r.tenant with src := r.src.toNat, dst := r.dst.toNat, total := r.granules }

/-- Give a channel a new director transfer from its active set. -/
def State.loadActive (s : State) (c : Nat) : State :=
  let n := s.movers.nextTransfer
  let s := s.queueTransfer (s.chan c).active.asTransfer
  s.modChan c (fun h => { h with transfer := some n, done := 0, halfSeen := false, retries := [] })

/-- Is the start condition of a frame start met (R190)? -/
def State.frameStarted (s : State) (r : ChanRegs) : Bool :=
  (s.tenant r.tenant).stepOpen && decide (fld r.startFrame.toNat 0 24 ≤ (s.tenant r.tenant).frame)

/-- Put a promoted transfer under its start source (R190). -/
def State.armStart (s : State) (c : Nat) : State :=
  let r := (s.chan c).active
  match fld r.cfg.toNat 0 2 with
  | 0 => s.modChan c Chan.start
  | 1 => s.modChan c (fun h => { h with state := .wait, started := false, startAt := s.now + fld r.pace.toNat 0 16 })
  | 2 => s.modChan c (fun h => { h with state := .wait, started := false })
  | _ => if s.frameStarted r then s.modChan c Chan.start else s.modChan c (fun h => { h with state := .wait, started := false })

/-- Promotion (R184): the shadow set becomes the active set, and its periods begin (R191). -/
def State.promote (s : State) (c : Nat) : State :=
  let h := s.chan c
  if h.state = .idle ∧ h.shadowValid ∧ !h.inPool then
    let s := match h.transfer with | some id => s.removeTransfer id | none => s
    let s := s.modChan c (fun h => { h with active := h.shadow, shadowValid := false, used := 0, periodAt := s.now })
    (s.loadActive c).armStart c
  else s

/-- Frame starts that are met (R190). -/
def State.frameStarts (s : State) (t : Nat) : State :=
  s.movers.chans.foldl (fun s p =>
    let h := s.chan p.1
    if h.state = .wait ∧ fld h.active.cfg.toNat 0 2 = 3 ∧ h.active.tenant = t ∧ s.frameStarted h.active then
      s.modChan p.1 Chan.start
    else s) s

/-- The address one transfer further on (R187). -/
def ChanRegs.advance (r : ChanRegs) : ChanRegs :=
  { r with src := BitVec.ofNat 64 (sideAddr r.src.toNat r.srcWrap r.granules),
           dst := BitVec.ofNat 64 (sideAddr r.dst.toNat r.dstWrap r.granules) }

/-- A channel changes to the group that SPB_POOL names it in (R183); one that joins the pool gives up the director transfer
with which it was stopped, and can serve. -/
def State.joinGroup (s : State) (c : Nat) : State :=
  let pool := bitAt (s.reg64 R.SPB_POOL 0) c
  let s := match (s.chan c).transfer with
    | some id => if pool && !(s.chan c).inPool then (s.abortTxns id (fun _ => true)).dropTransfer id else s
    | none => s
  s.modChan c (fun h => { h with inPool := pool, transfer := if pool && !h.inPool then none else h.transfer })

/-- A channel whose transfer has ended changes its group, where SPB_POOL asks for it (R183). -/
def State.settle (s : State) (c : Nat) : State := if (s.chan c).state = .idle then s.joinGroup c else s

/-- Half or full event of a channel (R188): flag and, where enabled, IRQ_RAW bit k of the page. -/
def State.chanEvent (s : State) (c : Nat) (full : Bool) : State :=
  let s := s.modChan c (fun h => if full then { h with full := true } else { h with half := true, halfSeen := true })
  if bitAt (s.chan c).active.cfg.toNat (if full then 22 else 21) then s.raise (0x14 + c / 16) (2 ^ (c % 16)) else s

/-- A channel has completed a transfer (R200, SPL_STAT.transfers). -/
def State.countTransfer (s : State) (c : Nat) : State :=
  s.modChan c (fun h => { h with transfers := (h.transfers + 1) % 2 ^ 16 })

/-- The full event (R188 to R190): count, chained starts, then repeat or IDLE. -/
def State.fullEvent (s : State) (c id : Nat) : State :=
  let s := (s.chanEvent c true).countTransfer c
  let s := s.movers.chans.foldl (fun s p =>
    let h := s.chan p.1
    if h.state = .wait ∧ fld h.active.cfg.toNat 0 2 = 2 ∧ fld h.active.cfg.toNat 2 6 = c then s.modChan p.1 Chan.start else s) s
  let s := (s.abortTxns id (fun _ => true)).dropTransfer id
  let h := s.chan c
  if bitAt h.active.cfg.toNat 28 ∧ !h.shadowValid ∧ (h.inPool || !bitAt (s.reg64 R.SPB_POOL 0) c) then
    ((s.modChan c (fun h => { h with active := h.active.advance })).loadActive c).modChan c Chan.start
  else (s.modChan c (fun h => { h with state := .idle, started := false, transfer := none, retries := [] })).settle c

/-! ### Responses (R181, R182, R188) -/

/-- Overwrite the staged runs of a span with new bytes. -/
def restage (m : NMap (List Byte)) (first : Nat) (bytes : List Byte) : NMap (List Byte) :=
  m.map (fun p => if first ≤ p.1 ∧ 32 * (p.1 - first) < bytes.length then
    (p.1, (bytes.drop (32 * (p.1 - first))).take p.2.length) else p)

/-- Does a return compare its blocks with the continuity log (R170)? -/
def State.checksReturns (s : State) (t : Nat) : Bool := (s.frozen t).onReturn || !(s.frozen t).recompute

/-- The index table of a return is staged: deciphered and checked (R143, R144). -/
def State.indexStaged (s : State) (c id : Nat) (x : Transfer) (ig a : Nat) : State :=
  match stagedRun x.staged 0 ig with
  | none => s
  | some b =>
    let b := s.copyIndex x b
    match parseIndex (s.slate x.slate) x.total b with
    | some t => s.setTransfer id { x with staged := restage x.staged 0 b, verified := true, table := t }
    | none =>
      let v := Config.unstated s.draws
      let s := s.draw.logBlockFail 5 x.slate 0x3FFFFF 3 63 (v.toNat % 2 ^ 32) (v.toNat / 2 ^ 32)
      s.failAccess c id x false false 0 ig a .check

/-- A block of a return is staged: deciphered, checked (R141, R144) and compared (R170). -/
def State.blockStaged (s : State) (c id : Nat) (x : Transfer) (u : Span) (b a : Nat) : State :=
  match stagedRun x.staged u.first u.len with
  | none => s
  | some img =>
    let img := if s.enciphered x.slate x.tier then xts false (s.keyOfSlate x.slate) (blockTweak x.slate x.gen b) img else img
    match checkReturned ⟨x.slate, x.gen, b⟩ img with
    | .bad st e f => (s.logBlockFail 5 x.slate b st 63 e f).failAccess c id x false false u.first u.len a .check
    | .good _ =>
      let s := s.setTransfer id { x with staged := restage x.staged u.first img }
      if s.checksReturns x.tenant then
        match s.selected x.slate b with
        | none => s
        | some off => s.compareCheck x.slate b (parseHeader img).raw off true 15
      else s

/-- A piece's block is staged raw: it becomes a RAW block image (R245). -/
def State.propStaged (s : State) (id : Nat) (x : Transfer) (k : Nat) : State :=
  match stagedRun x.staged (128 * k) 128, x.blocks[k]? with
  | some raw, some b =>
    let img := (rawBlock (s.slate x.slate).e.format ⟨x.slate, x.gen, b⟩ raw).image
    let parts := chunks 512 16 img
    let m := (List.range parts.length).foldl (fun m n => put m (2 ^ 40 + 129 * k + 16 * n) (parts.getD n []))
      (unstage x.staged (128 * k) 128)
    s.setTransfer id { x with staged := m }
  | _, _ => s

/-- A read has brought its data. -/
def State.readDone (s : State) (t : Txn) (x : Transfer) (data : List Byte) : State :=
  let c := t.chan
  let id := t.transfer
  let s := s.bump64 R.SPB_RD_BYTES (32 * t.count)
  let x := { x with staged := put x.staged t.first data, stagedAt := put x.stagedAt t.first s.now }
  let s := s.setTransfer id x
  match x.kind with
  | .ret =>
    let ig := indexGr (s.slate x.slate).e.sizeBlocks
    if t.first < ig then s.indexStaged c id x ig t.attempt
    else match unitAt (s.units x) t.first with
      | some ⟨some b, f, l, e⟩ => s.blockStaged c id x ⟨some b, f, l, e⟩ b t.attempt
      | _ => s
  | .prop => s.propStaged id x (t.first / 128)
  | _ => s

/-- Does the local buffer of a bank hold a block (R33)? -/
def Bank.holds (k : Bank) (slate gen block : Nat) : Bool :=
  match look k.lbuf (lbufKey slate block) with | some (g, _) => g == gen | none => false

/-- Does a request wait for a block to arrive? -/
def Bank.waits (k : Bank) (q : OpReq) : Bool := !q.poison && !k.holds q.slate q.gen q.block

/-- The port stalls from when its first request waits for a block until that block is there (R33, OPX_STALL). -/
def State.tendStall (s : State) (b : Nat) : State :=
  let k := s.bank b
  let n := sumNat (k.reqs.filterMap (fun q => q.stalledSince.map (fun a => (s.now - a) * s.cyclesPerTick)))
  let reqs := match k.reqs.map (fun q => { q with stalledSince := none }) with
    | q :: r => (if k.waits q then { q with stalledSince := some s.now } else q) :: r
    | [] => []
  (s.bumpSat (opxAddr R.OPX_STALL b) n).setBank b { k with reqs := reqs }

/-- A block has been written to the end (R33, R233, R245). -/
def State.unitDone (s : State) (x : Transfer) (u : Span) : State :=
  match u.block, x.kind with
  | some b, .fill =>
    let img := (stagedRun x.staged u.first u.len).getD []
    (s.modBank u.engine (fun k => { k with lbuf := put k.lbuf (lbufKey x.slate b) (x.gen, img) })).tendStall u.engine
  | some b, .prop =>
    let img := (stagedRun x.staged (x.stageBase + u.first) u.len).getD []
    ((s.modSlate x.slate (fun r => { r with blocksWritten := r.blocksWritten + 1 })).modExtent x.slate (fun y =>
      { y with unwritten := y.unwritten.erase b })).meterBlock x.slate b 0 (img.drop 32) book0
  | _, _ => s

/-- Does an extent of n granules cover a unit that is out of allocation (R215)? -/
def State.onBadUnit (s : State) (base n : Nat) : Bool :=
  (s.tiers.repairing ++ s.tiers.excluded).any (fun u => runsMeet base (4096 * ceilDiv n 128) u 4096)

/-- Success of a slate transfer (R64, R182, R215). -/
def State.finish (s : State) (id : Nat) (x : Transfer) : State :=
  let s := match s.channelOf id with | some c => s.countTransfer c | none => s
  let s := s.removeTransfer id
  let i := x.slate
  match x.kind with
  | .out =>
    let s := (s.dropExtent i).modSlate i (fun r => { r with state := .parked, tier := x.tier, extentBase := x.dst })
    if x.tier ≠ 4 ∧ s.onBadUnit x.dst x.total ∧ s.mayStart x.tenant then s.startMove i (s.stepTime x.tenant) else s
  | .ret => (s.retireTierExtent x.tier x.src).enterReady i
  | .move =>
    let s := (s.retireTierExtent x.tier x.src).modSlate i (fun r => { r with extentBase := x.dst })
    let s : State := ((s.transfersOf i).filter (fun p => p.2.kind == .ret)).foldl (fun (s : State) p => s.setTransfer p.1 { p.2 with src := x.dst }) s
    if (s.slate i).state = .parked ∧ s.onBadUnit x.dst x.total ∧ s.mayStart x.tenant then s.startMove i (s.stepTime x.tenant) else s
  | .prop => if (s.slate i).blocksWritten = (s.slate i).e.sizeBlocks then s.sealGather i else s
  | _ => s

/-- How far the acknowledged granules reach without a gap (R188). -/
def reach : Nat → Nat → NMap Nat → Nat
  | 0, d, _ => d
  | f + 1, d, m => match m.find? (fun p => decide (p.1 ≤ d) && decide (d < p.1 + p.2)) with
    | none => d
    | some p => reach f (p.1 + p.2) m

/-- Meter the granules over which SPL_DONE advances (R233). -/
def State.meterRun (s : State) (c : Nat) (x : Transfer) (a z : Nat) : State :=
  (List.range (z - a)).foldl (fun s k => match stagedGranule x.staged (a + k) with
    | none => s
    | some g => s.meterGranule c x.tenant g) s

/-- SPL_DONE and the half event of a director channel. -/
def State.advanceDone (s : State) (c : Nat) (x : Transfer) (done : Nat) : State :=
  let s := (s.meterRun c x x.done done).modChan c (fun h => { h with done := done })
  if ceilDiv x.total 2 ≤ done ∧ !(s.chan c).halfSeen then s.chanEvent c false else s

/-- A write is acknowledged. -/
def State.writeDone (s : State) (t : Txn) (x : Transfer) : State :=
  let c := t.chan
  let id := t.transfer
  if t.flag then
    let s := s.bump64 R.SPB_WR_BYTES 4
    if (s.chan c).state = .busy then s.fullEvent c id else s
  else
    let s := s.bump64 R.SPB_WR_BYTES (32 * t.count)
    let m := put x.acked t.first t.count
    let done := reach (m.length + 1) x.done m
    let us := (s.units x).filter (fun u => decide (x.done < u.first + u.len) && decide (u.first + u.len ≤ done))
    let kept := match unitAt (s.units x) done with | some u => u.first | none => done
    let y := { x with done := done, acked := m.filter (fun p => decide (done < p.1 + p.2)),
                      staged := x.staged.filter (fun p => decide (p.1 < x.stageBase) || decide (kept < p.1 - x.stageBase + p.2.length / 32))
                      stagedAt := x.stagedAt.filter (fun p => decide (kept ≤ p.1 + 16)) }
    let s := us.foldl (fun s u => s.unitDone x u) (s.setTransfer id y)
    if x.kind = .director then
      let s := s.advanceDone c x done
      if done = x.total ∧ !bitAt (s.chan c).active.cfg.toNat 23 ∧ (s.chan c).state = .busy then s.fullEvent c id else s
    else if done = x.wrTotal then (s.finish id y).reapJobs.tendJobs
    else s

/-- Put the data of a write that has completed where it goes: also that of a transfer that was cancelled, stopped or aborted
since (R182, R194). Tier 4 data went with the operation. A flag in the doorbell window is a doorbell (R284) and changes no
memory. -/
def State.landWrite (s : State) (t : Txn) : State :=
  match t.addr with
  | none => s
  | some a => if !t.write ∨ t.seq.isSome ∨ (t.flag ∧ s.inDoorbells a) then s else s.memWrite a t.data

/-- The granules that working blocks before a key take behind a vault extent (R157). -/
def Extent.workBefore (x : Extent) (key : Nat) : Nat :=
  sumNat ((x.work.filter (fun p => decide (p.1 < key))).map (fun p => p.2.length / 32))

/-- The first granule of a unit of a transfer in the vault copy that it is read from: the extent, then the working blocks
(R203; log entry 96). -/
def State.vaultGranule (s : State) (x : Transfer) (u : Span) : Nat :=
  match x.kind, u.block with
  | .fill, some b =>
    if b < 0x40000 then (((s.places x.slate).find? (fun p => p.block == b)).map (·.first)).getD 0
    else 128 * ceilDiv (s.extentGr x.slate) 128 + (s.extent x.slate).workBefore (workKey x.piece (b - 0x40000))
  | _, _ => u.first

/-- Does a read of an OUT or FILL transfer reach a unit in a retired shelf (R205)? -/
def State.readsRetired (s : State) (x : Transfer) (first count : Nat) : Bool :=
  (s.units x).any fun u =>
    let a := max u.first first
    let z := min (u.first + u.len) (first + count)
    let g := s.vaultGranule x u + (a - u.first)
    decide (a < z) && (List.range ((g + (z - a) - 1) / 128 + 1 - g / 128)).any (fun k =>
      match (s.extent x.slate).units[g / 128 + k]? with | some sh => bitAt s.vault.retired sh | none => false)

/-- Does an access touch data that is lost: a retired row (R215), or a vault unit in a retired shelf (R205)? -/
def State.touchesLost (s : State) (t : Txn) : Bool :=
  match t.addr with
  | some a => t.seq.isNone && s.tiers.lost.any (fun u => runsMeet a (max 4 (32 * t.count)) u 4096)
  | none => match s.transfer t.transfer with
    | some x => !t.write && s.readsRetired x t.first t.count
    | none => false

/-- Count the errors that the vault has corrected in a read of it (R205). -/
def State.countCorrected (s : State) (t : Txn) (n : Nat) : State :=
  if t.write ∨ t.addr.isSome ∨ t.seq.isSome then s else s.bumpSat R.VLT_ECC_CORR n

/-- The response to a transaction (R175): data of a read, acknowledgement of a write, or a failure; with the number of errors
that the vault corrected. A write of a transfer that has ended meanwhile still lands, and nothing else follows (R182). -/
def State.respond (s : State) (n : Nat) (fail : Option Cause) (data : List Byte) (corrected : Nat) : State :=
  match look s.movers.txns n with
  | none => s
  | some t =>
    let s := ({ s with movers := { s.movers with txns := del s.movers.txns n } }).countCorrected t corrected
    match (if fail.isNone && s.touchesLost t then some Cause.uncorrectable else fail) with
    | some cause => match s.transfer t.transfer with
      | none => s
      | some x => if t.aborted then s else s.failAccess t.chan t.transfer x t.write t.flag t.first t.count t.attempt cause
    | none =>
      let s := s.landWrite t
      match s.transfer t.transfer with
      | none => s
      | some x =>
        if t.aborted then s
        else if t.write then s.writeDone t x
        else s.readDone t x (if x.kind.readsMem ∧ data ≠ [] then data else s.readBytes t.chan x t.first t.count)

/-- The runs of granules that one transaction each covers, from a granule to an end (R175). -/
def chunkRuns (addr : Nat → Nat) (fin : Nat) : Nat → Nat → List (Nat × Nat)
  | 0, _ => []
  | f + 1, g =>
    if fin ≤ g then []
    else
      let n := chunkLen (addr g) fin g
      (g, n) :: chunkRuns addr fin f (g + n)

/-- The accesses that a reissue consists of: those of a whole unit, or the one that failed. -/
def State.retryRuns (s : State) (c : Nat) (x : Transfer) (q : Retry) : List (Nat × Nat) :=
  if !q.flag && x.byBlock q.write then
    chunkRuns (fun g => if q.write then s.writeAddr c x g else s.readAddr c x g) (q.first + q.count) (q.count + 1) q.first
  else [(q.first, q.count)]

/-- The failed access of a channel whose backoff ends first (R196). -/
def firstDue : List Retry → Option Retry
  | [] => none
  | q :: r => match firstDue r with
    | some p => if p.dueAt < q.dueAt then some p else some q
    | none => some q

/-- Have the bounds of R81 and R176 room for the accesses of a reissue? The slots that the failed reads kept are theirs. -/
def State.retryRoom (s : State) (q : Retry) (n : Nat) : Bool :=
  decide (s.movers.txns.length + n ≤ 4096) && (q.write || decide (s.stagingUse + n ≤ 8192 + q.slots))

/-- One access of a reissue; nothing more is issued of a transfer that has ended. -/
def State.reissueOne (c id : Nat) (q : Retry) (s : State) (r : Nat × Nat) : State :=
  match s.transfer id with
  | none => s
  | some x => s.issueAccess c id x q.write q.flag r.1 r.2 (q.attempt + 1)

/-- The reissue of a failed access after its backoff (R196, R199). -/
def State.reissue (s : State) (c : Nat) : State :=
  match firstDue (s.chan c).retries, (s.chan c).transfer with
  | some q, some id =>
    match s.transfer id with
    | none => s
    | some x =>
      let s := s.advanceTo q.dueAt
      let runs := s.retryRuns c x q
      if !s.domainOpen x (s.accessDomain c x q.write q.flag q.first) ∨ !s.retryRoom q runs.length then s
      else
        let ps := s.moverParams c x q.write q.flag q.first q.attempt q.cause
        let s := ((s.draw.bump R.SPB_RETRIES 1).modChan c (fun h =>
          { h with retries := h.retries.erase q, attempts := q.attempt })).log 0x0701 5 ps
        runs.foldl (State.reissueOne c id q) s
  | _, _ => s

end Sys2Proof.Machine
end

