-- ==== Sys2Proof/Machine/Frames.lean ====
section
/-! DEFINITION. Frames and steps: the frame table (R55, R56), frames reached (R99), STEP_BEGIN with what it freezes
(R84, R207, R254, R258), STEP_END with its records (R241, R242, R259, R262). -/

namespace Sys2Proof.Machine

/-! ### The frame table (R55, R56) -/

def State.sheetOf (s : State) (t : Nat) : Option Sheet := (s.tenant t).sheet

def State.frameCount (s : State) (t : Nat) : Nat := match s.sheetOf t with | some x => x.frameCount | none => 0

def State.ftbBase (s : State) (t : Nat) : Nat := match s.sheetOf t with | some x => x.ftbBase | none => 0

/-- Address of the entry of frame f in copy 0 or 1. -/
def ftbAddr (base f : Nat) (copy : Bool) : Nat := base + 32 * f + 16 * b2n copy

def State.estAt (s : State) (t f : Nat) (copy : Bool) : Nat := s.memNat (ftbAddr (s.ftbBase t) f copy) 4

/-- The est fields of a copy, by frame. -/
def State.estList (s : State) (t : Nat) (copy : Bool) : List Nat :=
  (List.range (s.frameCount t)).map (fun f => s.estAt t f copy)

/-- Sums of est over the earlier frames, and of all. -/
def startSums : Nat → List Nat → List Nat × Nat
  | a, [] => ([], a)
  | a, e :: r => let x := startSums (a + e) r; (a :: x.1, x.2)

/-- Write the start fields of a copy. -/
def State.writeStarts (s : State) (t : Nat) (copy : Bool) : State :=
  let st := (startSums 0 (s.estList t copy)).1
  (List.range st.length).foldl (fun s f => s.unitWrite (ftbAddr (s.ftbBase t) f copy + 8) (leBytes (st.getD f 0) 8)) s

/-- The meas fields of a copy, by frame. -/
def State.measList (s : State) (t : Nat) (copy : Bool) : List Nat :=
  (List.range (s.frameCount t)).map (fun f => s.memNat (ftbAddr (s.ftbBase t) f copy + 4) 4)

/-- est and meas of a frame at the end of a step: updated with weight 1/4 where it was measured, else as the active copy had
them at STEP_BEGIN (R56, R57). -/
def Frozen.frameEntry (z : Frozen) (f : Nat) (m : Option Nat) : List Byte :=
  match m with
  | some m => leBytes ((3 * z.est.getD f 0 + m + 2) / 4) 4 ++ leBytes m 4
  | Option.none => leBytes (z.est.getD f 0) 4 ++ leBytes (z.meas.getD f 0) 4

/-- Frame f closes with a measured duration: standby copy (R56). -/
def State.measure (s : State) (t f m : Nat) : State :=
  (s.unitWrite (ftbAddr (s.ftbBase t) f (!(s.tenant t).copy)) ((s.frozen t).frameEntry f (some m))).modTenant t
    (fun x => { x with measured := put x.measured f m })

/-- The standby copy at STEP_END: every frame is written, whatever the director has written there since STEP_BEGIN, then the
starts (R56, R57). -/
def State.endTable (s : State) (t : Nat) : State :=
  let x := s.tenant t
  ((List.range (s.frameCount t)).foldl (fun (s : State) f =>
    s.unitWrite (ftbAddr (s.ftbBase t) f (!x.copy)) ((s.frozen t).frameEntry f (look x.measured f))) s).writeStarts t (!x.copy)

/-- The frame table at a sheet load: both copies at default_frame (R56). -/
def State.initTable (s : State) (t d : Nat) : State :=
  let s := (List.range (s.frameCount t)).foldl (fun s f =>
    [false, true].foldl (fun s k => s.unitWrite (ftbAddr (s.ftbBase t) f k) (leBytes d 4 ++ leBytes 0 4)) s) s
  (s.writeStarts t false).writeStarts t true

/-! ### Frames reached (R64, R99, R305) -/

/-- A placed slate whose p is reached. -/
def State.reachSlate (s : State) (i : Nat) : State :=
  let r := s.slate i
  if !r.decided || (s.tenant r.tenant).frame < r.decP || !s.mayStart r.tenant then s
  else match r.state with
    | .kept => s.enterReady i
    | .movingOut => s.moveBack i
    | .parked => if (s.transferKind i .ret).isSome then s else s.beginReturn i (s.returnDeadline i) none
    | .dropped => s.wantJob i (s.returnDeadline i)
    | _ => s

/-- Everything that the frame counter of a tenant has reached: slates in ascending index, gathers, channels. -/
def State.reachFrame (s : State) (t : Nat) : State :=
  let s := (s.tenantSlates t).foldl State.reachSlate s
  let s := if s.mayStart t then s.autoGathers t else s
  (s.frameStarts t).tendJobs

/-- Close the frames up to an index (R54, R58). -/
def State.closeFrames (s : State) (t f : Nat) : State :=
  let x := s.tenant t
  let s := s.measure t f (min 0xFFFFFFFF (s.now - x.frameOpenAt))
  let skipped := (List.range (f - x.frame)).map (fun k => x.frame + 1 + k)
  s.modTenant t (fun y => { y with
    frame := f + 1, frameOpenAt := s.now, framesClosed := y.framesClosed + (f + 1 - x.frame),
    frameTimes := put (skipped.foldl (fun m g => put m g x.frameOpenAt) y.frameTimes) (f + 1) s.now })

/-! ### STEP_BEGIN -/

/-- Frozen tier values (R207). -/
def State.planBw (s : State) (t tier : Nat) : Nat :=
  let bw := fld (s.regT R.TIER_PLAN tier).toNat 0 16
  if tier = 1 then bw * s.tiers.nearChans / 12
  else if tier = 3 ∧ s.reg64 R.TIER_CXL_BYTES t ≠ 0 then min bw (fld (s.reg R.TIER_PLAN_CXL).toNat 0 16)
  else bw

def State.planLat (s : State) (t tier : Nat) : Nat :=
  let lat := fld (s.regT R.TIER_PLAN tier).toNat 16 16
  if tier = 3 ∧ s.reg64 R.TIER_CXL_BYTES t ≠ 0 then max lat (fld (s.reg R.TIER_PLAN_CXL).toNat 16 16) else lat

/-- min(TIER_CAP, pool length) in bytes (R49, R207). -/
def State.tierCap (s : State) (t tier : Nat) : Nat :=
  match s.pool t tier with
  | none => 0
  | some p => min (s.reg64 R.TIER_CAP (8 * t + tier)) p.2.len

/-- The conditions of R207 for en[t]. -/
def State.tierEnabled (s : State) (t tier : Nat) : Bool :=
  decide (0 < s.planBw t tier) && decide (0 < s.tierCap t tier / 32) && (s.pool t tier).isSome
    && (tier != 3 || s.tiers.host == .attached) && (tier != 4 || !s.peerLost)

/-- cap[0] (R84). -/
def State.vaultCap (s : State) (t : Nat) : Nat := s.shelfCount t * 32768 - fld (s.regT R.CUT_RESERVE t).toNat 0 22

/-- The bucket shift (R84). -/
def bucketShift (frames : Nat) : Nat := ((List.range 16).find? (fun k => decide (frames ≤ 1024 * 2 ^ k))).getD 15

/-- A region register of page RPL: its length counts only inside a CONTROL region of the tenant (R220, R267). -/
def State.regionBytes (s : State) (t base bytes : Nat) : Nat :=
  if base = 0 ∨ bytes = 0 ∨ (s.controlRegion t base bytes).isNone then 0 else bytes

/-- The global mode word as it reads (R344): test, outer encryption and wait styles beside what software wrote. -/
def State.blkMode (s : State) : Nat :=
  s.modeWord + 2 ^ 14 * b2n s.dbg.test
    + sumNat ((List.range 8).map (fun t => 2 ^ (16 + t) * b2n (s.part t).outerEnc
        + 2 ^ (24 + t) * b2n (bitAt (s.regT R.EYE_TCFG t).toNat 0)))

/-- The values frozen at STEP_BEGIN; st is of the copy that is active now. -/
def State.freeze (s : State) (t : Nat) : Frozen :=
  let est := s.estList t (s.tenant t).copy
  let st := startSums 0 est
  let tiers := [0, 1, 2, 3, 4]
  let share := (s.regT R.RTK_SHARE t).toNat
  let late := (s.reg R.SPB_LATE).toNat
  let p := s.part t
  let rb := s.reg64 R.RPL_BASE t
  let pb := s.reg64 R.RPL_PLAY_BASE t
  let wb := s.reg64 R.RPL_WRAP_BASE t
  let cnt := (s.regT R.CNT_CTRL t).toNat
  { est := est, meas := s.measList t (s.tenant t).copy, st := st.1, stEnd := st.2,
    en := tiers.map (fun k => k != 0 && s.tierEnabled t k),
    bw := tiers.map (fun k => if k = 0 then 0 else s.planBw t k),
    lat := tiers.map (fun k => if k = 0 then 0 else s.planLat t k),
    cap := tiers.map (fun k => if k = 0 then s.vaultCap t else s.tierCap t k / 32),
    alpha := (s.regT R.CUT_ALPHA t).toNat, beta := (s.regT R.CUT_BETA t).toNat, gamma := (s.regT R.CUT_GAMMA t).toNat,
    guard := (s.regT R.CUT_GUARD t).toNat, margin := (s.regT R.CUT_MARGIN t).toNat,
    pinClass := (s.regT R.CUT_PIN_CLASS t).toNat, mode := w32 s.blkMode, shift := bucketShift (s.frameCount t),
    laneShare := fld share 0 5, engShare := fld share 8 6, sparse := bitAt (s.reg R.STI_CTRL).toNat 8,
    seed := (s.regT R.RTK_SEED t).toNat, policy := bitAt cnt 8, onReturn := bitAt cnt 9,
    sampleN := fld (s.regT R.CNT_SAMPLE_N t).toNat 0 16, softLate := fld late 0 16, hardLate := fld late 16 16,
    retryMax := fld (s.reg R.SPB_RETRY).toNat 0 4, outerEnc := p.outerEnc, keySlot := p.keySlot,
    rplBase := rb, rplBytes := s.regionBytes t rb (s.regT R.RPL_BYTES t).toNat,
    playBase := pb, playBytes := s.regionBytes t pb (s.regT R.RPL_PLAY_BYTES t).toNat,
    wrapBase := wb, wrapBytes := s.regionBytes t wb (s.regT R.RPL_WRAP_BYTES t).toNat }

/-- The frozen-value image (R256). -/
def Frozen.image (z : Frozen) : List Byte :=
  let four (l : List Nat) (n : Nat) : List Byte := [1, 2, 3, 4].flatMap (fun k => leBytes (l.getD k 0) n)
  [1, 2, 3, 4].flatMap (fun k => leBytes (b2n (z.en.getD k false)) 1) ++ four z.bw 2 ++ four z.lat 2
    ++ [0, 1, 2, 3, 4].flatMap (fun k => leBytes (z.cap.getD k 0) 5)
    ++ leBytes z.alpha 4 ++ leBytes z.beta 4 ++ leBytes z.gamma 4 ++ leBytes z.guard 4 ++ leBytes z.margin 4
    ++ leBytes z.pinClass 4 ++ leBytes (fld z.mode.toNat 2 2) 1 ++ leBytes (b2n (!z.recompute)) 1
    ++ leBytes z.shift 1 ++ leBytes z.laneShare 1 ++ leBytes z.engShare 1 ++ leBytes (b2n z.sparse) 1

/-- The reservations of R89. -/
def State.reserve (s : State) (t : Nat) (e : Entry) : State :=
  let live := [(e.fwdFrame, e.releaseFrame)]
  let s := if e.mustKeep then s.charge t 0 e.pred live else s
  let s := if e.streamClass = 2 then s.charge t 0 e.pred live else s
  if e.pinTier then s.charge t e.pinValue e.bound live else s

/-- STEP and EXPOSURE records (R254, R255). -/
def State.reelBegin (s : State) (t : Nat) : State :=
  let z := s.frozen t
  let crc := match s.sheetOf t with | some x => x.entriesCrc | none => 0
  let est := crc32c ((s.estList t (s.tenant t).copy).flatMap (fun e => leBytes e 4))
  let s := s.writeReel t (reelRecord 1 t (s.tenant t).stepId.toNat (leBytes crc 4 ++ leBytes z.seed 4
    ++ leBytes (s.frameCount t) 4 ++ leBytes (crc32c z.image) 4 ++ leBytes est 4 ++ leBytes z.mode.toNat 4)) false
  s.services.exposures.foldl (fun s p =>
    let x := s.exposure p.1
    if x.enabled && x.tenant == t then
      s.writeReel t (reelRecord 2 t p.1 (leBytes x.scale 1 ++ leBytes 0 3 ++ leBytes x.hmax.toNat 4)) false
    else s) s

/-- What a replay takes from its reel at STEP_BEGIN (R258): seed and scales. -/
def State.playBegin (s : State) (t : Nat) : State :=
  if !s.replaying t then s
  else
    let recs := s.playRecords t
    let s := match recs.find? (fun p => leAt p.2 0 1 == 1) with
      | some p => s.modTenant t (fun x => { x with frozen := x.frozen.map (fun z => { z with seed := leAt p.2 12 4 }) })
      | none => s
    recs.foldl (fun s p =>
      if leAt p.2 0 1 = 2 then
        let k := fld (leAt p.2 4 4) 0 11
        s.setExposure k { s.exposure k with scale := leAt p.2 8 1 }
      else s) s

/-- Open a step (R56, R73, R84, R89, R103, R235, R254). -/
def State.openStep (s : State) (t : Nat) (id : Word) : State :=
  let s := s.modTenant t (fun x =>
    { x with stepOpen := true, stepId := id, frame := 0, frameOpenAt := s.now, beganAt := s.now, copy := !x.copy,
             measured := [], frameTimes := [(0, s.now)], framesClosed := 0, opened := [], trace := [], fc := [],
             overflow := none, replayMiss := false, recuts := 0, fallbacks := 0, halted := false, poisonFull := false,
             enHost := true, enPeer := true, enOff := [], capLoss := 0, reel := Reel.init, gathered := [],
             tornOnce := [], dead := [], unreserved := [], gathersWaiting := [], held := none })
  let s := s.modTenant t (fun x => { x with frozen := some (s.freeze t) })
  let s := { s with stitcher := { s.stitcher with mismatch := s.stitcher.mismatch.filter (fun p => p.1 % 8 != t) } }
  let s := match s.sheetOf t with | some x => x.entries.foldl (fun (s : State) e => s.reserve t e) s | none => s
  let s := if s.metered t ∧ bitAt (s.reg R.MTR_CTRL).toNat 9 then s.clearMeter else s
  ((s.playBegin t).reelBegin t).reachFrame t

/-! ### STEP_END (R76, R259, R262) -/

/-- The slack of an entry (R260), as a 32-bit two's-complement number. -/
def State.slack (s : State) (t : Nat) (e : Entry) (x : Trace) : Nat :=
  match x.readyAt with
  | none => 0x80000000
  | some r =>
    match look (s.tenant t).frameTimes e.callFrame with
    | none => (s.unstatedWord).toNat
    | some o => if r ≤ o then min (o - r) 0x7FFFFFFF else (2 ^ 32 - min (r - o) 0x80000000) % 2 ^ 32

def State.wrapEntry (s : State) (t ei : Nat) : List Byte :=
  match s.entryAt t ei with
  | none => []
  | some e =>
    let x := (look (s.tenant t).trace ei).getD Trace.init
    leBytes ei 4 ++ leBytes (s.slack t e x) 4
      ++ leBytes (b2n x.soft + 2 * b2n x.hard + 4 * b2n x.lost + 8 * b2n x.recut + 16 * b2n x.fallback + 32 * b2n x.torn) 1
      ++ leBytes x.outcome.num 1 ++ leBytes x.tier 1 ++ leBytes 0 1 ++ leBytes x.coded 4

/-- Insert in ascending order. -/
def insertNat (n : Nat) : List Nat → List Nat
  | [] => [n]
  | m :: r => if n ≤ m then n :: m :: r else m :: insertNat n r

/-- The wrap record (R259). -/
def State.writeWrap (s : State) (t : Nat) (abandoned : Bool) : State :=
  let z := s.frozen t
  let x := s.tenant t
  let all := x.opened.foldr insertNat []
  if z.wrapBytes < 64 then
    if z.wrapBytes = 0 then s else s.setReel t (fun r => { r with truncated := true })
  else
    let fit := all.take ((z.wrapBytes - 64) / 16)
    let cut := decide (fit.length < all.length)
    let es := fit.flatMap (s.wrapEntry t)
    let n (f : Trace → Bool) : Nat := x.trace.countP (fun p => f p.2)
    let head := leBytes 0x7E1A5C02 4 ++ leBytes x.stepId.toNat 4 ++ leBytes x.framesClosed 4 ++ leBytes (s.frameCount t) 4
      ++ leBytes fit.length 4 ++ leBytes (n (·.soft)) 4 ++ leBytes (n (·.hard)) 4 ++ leBytes (n (·.lost)) 4
      ++ leBytes x.recuts 4 ++ leBytes x.fallbacks 4
      ++ leBytes (crc32c ((s.estList t (!x.copy)).flatMap (fun e => leBytes e 4))) 4
      ++ leBytes (b2n abandoned + 2 * b2n cut) 1 ++ leBytes 0 15
    let s := (s.unitWrite z.wrapBase (head ++ leBytes (crc32c (head ++ es)) 4 ++ es)).draw
    if cut then s.setReel t (fun r => { r with truncated := true }) else s

/-- RELEASE of a slate, or its share of STEP_END with abandon (R64, R163). -/
def State.releaseSlate (s : State) (i : Nat) : State :=
  let r := s.slate i
  if r.state = .reshooting then
    let busy := s.retake.jobs.any (fun p => p.2.slate == i && p.2.gen == r.gen)
    let s := ((s.modSlate i (fun r => { r with releasePending := true })).cancelSlate i).stopJob i
    (if busy then s.reapJobs else s.freeSlate i).tendJobs
  else (s.freeSlate i).tendJobs

/-- Free every slate of a tenant (R76): an OPEN one logs nothing (R69). Their jobs stop first (R163), so none fails for
an operand that goes with them. -/
def State.abandon (s : State) (t : Nat) : State :=
  let l := s.tenantSlates t
  let s := l.foldl State.stopJob s
  l.foldl (fun (s : State) i => if (s.slate i).state = .free then s else s.releaseSlate i) s

/-- Close a step, in the order of R262. -/
def State.closeStep (s : State) (t : Nat) (abandoned : Bool) : State :=
  let s := if abandoned then s else s.updateExposures t
  let s := s.writeScales t (s.tenant t).stepId
  let s := (s.endTable t).writeWrap t abandoned
  let s := s.writeReel t (reelRecord 7 t (s.tenant t).stepId.toNat
    (leBytes ((s.tenant t).reel.records + 1) 4 ++ leBytes (b2n abandoned) 4)) true
  s.modTenant t (fun x => { x with stepOpen := false, halted := false, gathersWaiting := [] })

end Sys2Proof.Machine
end

