-- ==== Sys2Proof/Machine/Eyelets.lean ====
section
/-! DEFINITION. Eyelets, waits, clapper lines, lace wires and eyelet contexts (R269 to R298). -/

namespace Sys2Proof.Machine

/-! ### Eyelets (R269 to R275) -/

/-- d of an eyelet as a signed number (R269). -/
def Eyelet.d (e : Eyelet) : Int := (e.count - e.target).toInt

/-- d as the 32-bit word that completions carry. -/
def Eyelet.dWord (e : Eyelet) : Word := e.count - e.target

def Eyelet.depth (e : Eyelet) : Nat := fld e.cfg.toNat 0 24

/-- Does an eyelet lie in a tenant's range (R271)? -/
def Partition.hasEye (p : Partition) (e : Nat) : Bool := decide (p.eyeBase ≤ e) && decide (e < p.eyeBase + p.eyeCount)

/-- The tenant of an eyelet. -/
def State.eyeTenant (s : State) (e : Nat) : Option Nat := (List.range 8).find? (fun t => (s.part t).hasEye e)

/-- Sources of R298. -/
inductive AddSource where
  | command | signal | lace
  deriving DecidableEq, Repr

def AddSource.num : AddSource → Nat
  | .command => 0 | .signal => 1 | .lace => 2

/-- What an add came to (R273, R274). -/
inductive AddResult where
  | ok | underflow | overflow
  deriving DecidableEq, Repr

/-- Add v to count or target of an eyelet, with the checks of R274. -/
def State.addEye (s : State) (e : Nat) (target : Bool) (v : Word) (src : AddSource) (t : Nat) : State × AddResult :=
  let x := s.eyelet e
  let p0 := w32 (e + 2 ^ 12 * t + 2 ^ 16 * src.num)
  if v = 0#32 then (s, .ok)
  else if target then
    let y := { x with target := x.target + v }
    if y.d < 0 then
      (((s.bump R.EYE_UNDERFLOWS 1).report 0x0901 6 [p0, x.count, x.target, v] 0x19 0).pageError 0x19 p0 0, .underflow)
    else (s.setEyelet e y, .ok)
  else
    let y := { x with count := x.count + v }
    let s := s.setEyelet e y
    if y.depth ≠ 0 ∧ (y.depth : Int) < y.d then
      (((s.bump R.EYE_OVERFLOWS 1).report 0x0902 6 [p0, y.count, y.target, w32 y.depth] 0x19 1).pageError 0x19 p0 0, .overflow)
    else (s, .ok)

/-! ### Clapper lines (R279) -/

/-- The line that a core queue is mapped to, if its entry is enabled (R299). -/
def State.clapLine (s : State) (q : Nat) : Option Nat :=
  let b := fld (s.reg (R.EYE_CLAP + 4 * (q / 4))).toNat (8 * (q % 4)) 8
  if bitAt b 7 then some (fld b 0 6) else none

/-- Drive a line low for three AOC cycles from the next AOC edge; a pulse that still runs then goes on in this one. -/
def State.pulse (s : State) (line : Nat) : State :=
  let start := s.now + 1
  let since := match look s.lace.pulses line with
    | some (a, z) => if start ≤ z then min a start else start
    | none => start
  { s with lace := { s.lace with pulses := put s.lace.pulses line (since, start + 3) } }

/-- Does the Relith hold a line low in this AOC cycle? While FCLK is stopped, without power or in OFF every line is released
(R373); under a wrapper instruction that drives the boundary register's cells, the line's drive cell says it (R394, R395). -/
def State.drivesLine (s : State) (line : Nat) : Bool :=
  if holding s.dbg.wir then padCells s.dbg.wir && !s.dbg.wbr.getLsbD (35 + 2 * line)
  else s.rst.powered && s.clockRuns && match look s.lace.pulses line with
  | some (a, z) => decide (a ≤ s.now) && decide (s.now < z)
  | none => false

def State.pulseQueue (s : State) (q : Nat) : State :=
  match s.clapLine q with | none => s | some l => s.pulse l

/-! ### Waits (R276 to R283) -/

def waitN (c : Cmd) : Nat := fld c.args.toNat 0 32
def waitTimeout (c : Cmd) : Nat := fld c.args.toNat 32 16
def waitHint (c : Cmd) : Nat := fld c.args.toNat 48 16

/-- Complete a wait that has been taken off its table: completion, pulse and wait-end message. -/
def State.endWait (s : State) (w : Wait) (status : Nat) (result : Option Nat) (clap : Bool) : State :=
  let s := s.complete 0x11#8 w.cmd { status := status, result := result, value := some (s.eyelet w.eye).dWord }
  let s := if w.lent then s.outPower (4 + 2 ^ 8 * w.cmd.queue.val) else s
  if clap && !w.abter then s.pulseQueue w.cmd.queue.val else s

def State.setWaits (s : State) (l : List Wait) : State := { s with eyes := { s.eyes with waits := l } }

/-- Examine the waits of an eyelet in registration order (R277): the waits that stay, and the state. -/
def State.examineList (s : State) (e : Nat) : List Wait → List Wait → State
  | kept, [] => s.setWaits kept.reverse
  | kept, w :: r =>
    let x := s.eyelet e
    if w.eye = e ∧ (w.n : Int) ≤ x.d then
      let s := if w.consume then s.setEyelet e { x with target := x.target + w32 w.n } else s
      (s.endWait w 0 (some 1) true).examineList e kept r
    else s.examineList e (w :: kept) r

/-- Does a wire hold its line and is its condition met (R287, R288)? -/
def State.wireArrives (s : State) (n : Nat) : Bool :=
  let w := s.wire n
  let b := (s.reg (R.LACE_WIRE + 4 * n)).toNat
  let a := fld (s.reg (R.LACE_ARR + 4 * n)).toNat 0 12
  w.state == .hold && !w.badBind && decide (a ≠ 0) && decide ((a : Int) ≤ (s.eyelet (fld b 0 12)).d)

/-- The last sample of a wire's lace_done (R300). -/
def State.sampleDone (s : State) (n : Nat) (v : Bool) : State := { s with lace := { s.lace with done := setBit s.lace.done n v } }

/-- A wire enters HOLD: the instance holds lace_done low (R288). -/
def State.holdWire (s : State) (n : Nat) : State := (s.setWire n { s.wire n with state := .hold }).sampleDone n false

/-- Wires whose arrival eyelet has reached its count pass to ARRIVED (R288). -/
def State.laceCheck (s : State) : State :=
  (List.range 16).foldl (fun s n => if s.wireArrives n then s.setWire n { s.wire n with state := .arrived, arrivedAt := s.now } else s) s

/-- After a change of an eyelet: its waits, then the wires. -/
def State.examine (s : State) (e : Nat) : State := (s.examineList e [] s.eyes.waits).laceCheck

/-- Native waits and Abter holds registered (R278, R280). -/
def State.nativeWaits (s : State) : Nat := (s.eyes.waits.filter (fun w => !w.abter)).length
def State.abterHolds (s : State) : Nat := (s.eyes.waits.filter (·.abter)).length

/-- A queue whose command is held by an Abter wait (R280). -/
def State.queueHeld (s : State) (q : Nat) : Bool := s.eyes.waits.any (fun w => w.abter && w.cmd.queue.val == q)

/-- The wait style of a tenant (R280, R344). -/
def State.abterStyle (s : State) (t : Nat) : Bool := bitAt (s.regT R.EYE_TCFG t).toNat 0

/-! ### Eyelet commands (R272 to R276) -/

/-- The absolute eyelet of a command; none when the index is not below the tenant's count. -/
def State.cmdEye (s : State) (c : Cmd) : Option Nat :=
  let p := s.part (s.tenantOf c)
  let k := fld c.tag.toNat 0 12
  if k < p.eyeCount then some (p.eyeBase + k) else none

/-- An eyelet command with a reserved bit set: BAD_ARG, with d where its index names an eyelet (R272). -/
def State.refuseEye (s : State) (op : BitVec 8) (c : Cmd) : State :=
  s.complete op c { status := 3, value := (s.cmdEye c).map (fun e => (s.eyelet e).dWord) }

/-- EYE_ADD (R274). -/
def State.runEyeAdd (s : State) (c : Cmd) : State :=
  match s.cmdEye c with
  | none => s.complete 0x10#8 c { status := 0x20 }
  | some e =>
    let (s, r) := s.addEye e (c.flags.getLsbD 0) (c.args.setWidth 32) .command (s.tenantOf c)
    let st := match r with | .ok => 0 | .underflow => 0x23 | .overflow => 0x25
    (s.complete 0x10#8 c { status := st, value := some (s.eyelet e).dWord }).examine e

/-- Register a wait (R278, R280, R283). -/
def State.registerWait (s : State) (c : Cmd) (t e : Nat) : State :=
  let abter := s.abterStyle t
  if !abter && decide (1024 ≤ s.nativeWaits) then s.complete 0x11#8 c { status := 0x22, value := some (s.eyelet e).dWord }
  else
    let hint := waitHint c
    let lend := !abter && decide (hint ≠ 0) && decide (fld (s.reg R.EYE_LEND_MIN).toNat 0 16 ≤ hint)
    let w : Wait := { cmd := c, tenant := t, eye := e, n := waitN c, consume := c.flags.getLsbD 0,
                      due := if waitTimeout c = 0 then none else some (s.now + us (waitTimeout c)), abter := abter,
                      lent := lend }
    let s := s.setWaits (s.eyes.waits ++ [w])
    if lend then
      (s.outPower (3 + 2 ^ 8 * c.queue.val + 2 ^ 32 * hint)).log 0x0202 8
        [0#32, w32 hint, w32 (1 + 2 ^ 8 * c.queue.val), 0#32]
    else s

/-- EYE_WAIT (R276). -/
def State.runEyeWait (s : State) (c : Cmd) : State :=
  match s.cmdEye c with
    | none => s.complete 0x11#8 c { status := if waitN c = 0 ∨ 0x7FFFFFFF < waitN c then 3 else 0x20 }
    | some e =>
      let x := s.eyelet e
      if waitN c = 0 ∨ 0x7FFFFFFF < waitN c then s.complete 0x11#8 c { status := 3, value := some x.dWord }
      else if (waitN c : Int) ≤ x.d then
        let s := if c.flags.getLsbD 0 then s.setEyelet e { x with target := x.target + w32 (waitN c) } else s
        (s.complete 0x11#8 c { status := 0, result := some 0, value := some (s.eyelet e).dWord }).laceCheck
      else s.registerWait c (s.tenantOf c) e

/-- EYE_SET (R275). -/
def State.runEyeSet (s : State) (c : Cmd) : State :=
  match s.cmdEye c with
  | none => s.complete 0x12#8 c { status := 0x20 }
  | some e =>
    let x := s.eyelet e
    let cfg := w32 (leAt c.payload 0 4)
    let y : Eyelet := { count := if c.flags.getLsbD 0 then c.args.setWidth 32 else x.count,
                        target := if c.flags.getLsbD 1 then (c.args >>> 32).setWidth 32 else x.target,
                        cfg := if c.flags.getLsbD 2 then cfg else x.cfg }
    if y.d < 0 ∨ (c.flags.getLsbD 2 ∧ fld cfg.toNat 30 2 ≠ 0) then
      s.complete 0x12#8 c { status := 3, value := some x.dWord }
    else ((s.setEyelet e y).complete 0x12#8 c { status := 0, value := some y.dWord }).examine e

/-! ### Context save and restore (R293 to R295) -/

/-- Bytes of a tenant's context image. -/
def State.ctxBytes (s : State) (t : Nat) : Nat := 64 + 16 * (s.part t).eyeCount

/-- The ctx unit ends with a result (EYE_STAT.ctx_result). -/
def State.ctxRefuse (s : State) (r : Nat) : State := { s with eyes := { s.eyes with ctxResult := r } }

/-- End every wait of a tenant with a status (R282, R293, R296). -/
def State.endWaits (s : State) (f : Wait → Bool) (status : Nat) (clap : Bool) : State :=
  let gone := s.eyes.waits.filter f
  gone.foldl (fun s w => s.endWait w status none clap) (s.setWaits (s.eyes.waits.filter (fun w => !f w)))

/-- Start a save or restore (R293, R294). -/
def State.startCtx (s : State) (t base : Nat) (save loan : Bool) : State :=
  if s.eyes.ctx.isSome then s.ctxRefuse 2
  else if (s.controlRegion t base (s.ctxBytes t)).isNone then s.ctxRefuse 3
  else
    let n := (s.eyes.waits.filter (fun w => w.tenant == t)).length
    let s := if save then s.endWaits (fun w => w.tenant == t) 0x24 true else s
    { s with eyes := { s.eyes with ctx := some { tenant := t, save := save, base := base, loan := loan, ended := n } } }

/-- Is an eyelet in the range that a context operation holds (R293 step 2)? -/
def State.ctxHolds (s : State) (t : Nat) : Bool := match s.eyes.ctx with | some c => c.tenant == t | none => false

/-- The eyelet entries of an image. -/
def State.ctxEntries (s : State) (t : Nat) : List Byte :=
  (List.range (s.part t).eyeCount).flatMap (fun k =>
    let x := s.eyelet ((s.part t).eyeBase + k)
    leBytes x.count.toNat 4 ++ leBytes x.target.toNat 4 ++ leBytes x.cfg.toNat 4 ++ leBytes 0 4)

/-- The image of a save (R295). -/
def State.ctxImage (s : State) (x : CtxOp) : List Byte :=
  let p := s.part x.tenant
  let head := leBytes 0x7E1A5C03 4 ++ leBytes x.tenant 4 ++ leBytes p.eyeBase 2 ++ leBytes p.eyeCount 2
    ++ leBytes x.ended 4 ++ leBytes 0 44
  let es := s.ctxEntries x.tenant
  head ++ leBytes (crc32c (head ++ es)) 4 ++ es

/-- A signal, or a doorbell add, that has passed its checks of address (R284, R285). -/
def State.applySignal (s : State) (h : HeldSignal) : State :=
  match s.eyeTenant h.eye with
  | none => s.bump R.EYE_DB_DROPS 1
  | some t =>
    if s.ctxHolds t then { s with eyes := { s.eyes with heldSignals := s.eyes.heldSignals ++ [h] } }
    else if !bitAt (s.eyelet h.eye).cfg.toNat 24 then s.bump R.EYE_DB_DROPS 1
    else (s.addEye h.eye h.target h.add .signal t).1.examine h.eye

/-- The context operation is over: result OK or BAD_IMAGE, the interrupt, and the signals that were held. -/
def State.endCtx (s : State) (r : Nat) : State :=
  let held := s.eyes.heldSignals
  let s := { s with eyes := { s.eyes with ctx := none, ctxResult := r, heldSignals := [] } }
  held.foldl State.applySignal (s.raise 0x19 4)

/-- Set a run of eyelets. -/
def State.fillEyes (s : State) (base n : Nat) (f : Nat → Eyelet) : State :=
  (List.range n).foldl (fun s k => s.setEyelet (base + k) (f k)) s

/-- Steps 3 to 5 of a save (R293). -/
def State.finishSave (s : State) (x : CtxOp) : State :=
  let p := s.part x.tenant
  ((s.unitWrite x.base (s.ctxImage x)).fillEyes p.eyeBase p.eyeCount (fun _ => ⟨0#32, 0#32, 0#32⟩)).endCtx 0

/-- Is the image in memory acceptable (R294)? -/
def State.ctxGood (s : State) (x : CtxOp) : Bool :=
  let p := s.part x.tenant
  let b := s.unitRead x.base (s.ctxBytes x.tenant)
  leAt b 0 4 == 0x7E1A5C03 && fld (leAt b 4 1) 0 3 == x.tenant && fld (leAt b 8 2) 0 12 == p.eyeBase
    && fld (leAt b 10 2) 0 13 == p.eyeCount && leAt b 60 4 == crc32c (b.take 60 ++ b.drop 64)

/-- A restore (R294). -/
def State.finishRestore (s : State) (x : CtxOp) : State :=
  let p := s.part x.tenant
  if s.ctxGood x then
    let b := s.unitRead x.base (s.ctxBytes x.tenant)
    let s := s.fillEyes p.eyeBase p.eyeCount (fun k =>
      ⟨w32 (leAt b (64 + 16 * k) 4), w32 (leAt b (68 + 16 * k) 4), w32 (leAt b (72 + 16 * k) 4)⟩)
    ((List.range p.eyeCount).foldl (fun s k => s.examine (p.eyeBase + k)) s).endCtx 0
  else s.endCtx 1

/-! ### Lace wires (R287 to R292) -/

/-- Fields of LACE_WIREn (R300). -/
def State.wireArrival (s : State) (n : Nat) : Nat := fld (s.reg (R.LACE_WIRE + 4 * n)).toNat 0 12
def State.wireRelease (s : State) (n : Nat) : Nat := fld (s.reg (R.LACE_WIRE + 4 * n)).toNat 12 12
def State.wireTenant (s : State) (n : Nat) : Nat := fld (s.reg (R.LACE_WIRE + 4 * n)).toNat 24 3
def State.wireRealign (s : State) (n : Nat) : Bool := bitAt (s.reg (R.LACE_WIRE + 4 * n)).toNat 27
def State.wireCount (s : State) (n : Nat) : Nat := fld (s.reg (R.LACE_ARR + 4 * n)).toNat 0 12

/-- The check of a binding (R287, R292). -/
def State.bindCheck (s : State) (n : Nat) : State :=
  let p := s.part (s.wireTenant n)
  let ok := p.hasEye (s.wireArrival n) && p.hasEye (s.wireRelease n) && decide (s.wireCount n ≠ 0)
  s.setWire n { s.wire n with badBind := !ok }

/-- Realign the eyelets bound to a wire (R290). -/
def State.realign (s : State) (n : Nat) : State :=
  let t := s.wireTenant n
  let p := s.part t
  let hits := ((List.range p.eyeCount).map (p.eyeBase + ·)).filter (fun e =>
    let c := (s.eyelet e).cfg.toNat
    bitAt c 25 && fld c 26 4 == n)
  let big := (hits.map (fun e => (s.eyelet e).target.toNat)).foldl max 0
  let s := hits.foldl (fun s e =>
    let x := s.eyelet e
    s.setEyelet e { x with count := x.dWord, target := 0#32 }) s
  let s := if big = 0 then s
    else s.log 0x0904 10 [w32 (n + 2 ^ 8 * t), w32 hits.length, w32 (hits.headD 0), w32 big]
  hits.foldl (fun s e => s.examineList e [] s.eyes.waits) s

/-- The release of a wire (R288, R289): the actions in order, then GAP, 100 ns after the first of the two samples. -/
def State.releaseWire (s : State) (n : Nat) : State :=
  let t := s.wireTenant n
  let a := w32 (s.wireCount n)
  let arr := s.wireArrival n
  let rel := s.wireRelease n
  let s := (s.addEye arr true a .lace t).1
  let s := (s.addEye rel false a .lace t).1
  let s := if s.wireRealign n then s.realign n else s
  let s := (s.bump R.LACE_RELEASES 1).raise 0x1A 2
  let s := s.setWire n { s.wire n with state := .gap, gapEnds := s.now + 9 }
  let s := s.sampleDone n true
  (s.examine arr).examine rel

/-- A reset notice of a die (R291). -/
def State.loseDie (s : State) (die : Nat) (system : Bool) : State :=
  let roll (n : Nat) : Nat := s.reg64 (R.LACE_ROLL + 8 * n) 0
  let held := (List.range 16).filter (fun n => bitAt (roll n) die)
  let act := (List.range 16).filter (fun n => (s.wire n).state == .hold || (s.wire n).state == .arrived)
  let mask (l : List Nat) : Word := w32 (sumNat (l.map (2 ^ ·)))
  if held.any (fun n => (s.wire n).state != .off) then
    let s := held.foldl (fun s n => s.setReg64 (R.LACE_ROLL + 8 * n) 0 (setBit (s.reg64 (R.LACE_ROLL + 8 * n) 0) die false)) s
    let p0 := w32 (die + 2 ^ 8 * b2n system)
    ((s.bump R.LACE_LOST 1).report 0x0903 10 [p0, mask held, mask act, 0#32] 0x1A 0).pageError 0x1A p0 0
  else s

/-- End of an enrolled wire's gap (R288). -/
def State.endGap (s : State) (n : Nat) : State :=
  let w := s.wire n
  if w.state = .gap then
    let s := (s.advanceTo w.gapEnds).setWire n { w with state := .hold }
    let s := s.laceCheck
    if (s.wire n).state = .hold then s.sampleDone n false else s
  else s

end Sys2Proof.Machine
end

