-- ==== Sys2Proof/Machine/Sheets.lean ====
section
/-! DEFINITION. Call sheets: load, checks, refusal and unload (R48 to R52), with the continuity log (R167), the prop
descriptors (R243, R244) and the regions recorded as in use (R221). -/

namespace Sys2Proof.Machine

/-! ### The start of a load (R48, R415) -/

/-- A load starts: it takes SHT_BASE, SHT_BYTES and the values its checks use. -/
def State.sheetLoad (s : State) (t : Nat) : State :=
  if (s.tenant t).check.isSome then s
  else
    let tiers := [1, 2, 3, 4]
    let c : SheetCheck :=
      { base := s.reg64 R.SHT_BASE 0, bytes := (s.reg R.SHT_BYTES).toNat, ftbBase := s.reg64 R.SHT_FTB_BASE t,
        stepOpen := (s.tenant t).stepOpen, shelves := s.shelfCount t, quota := (s.part t).quota,
        caps := tiers.map (s.tierCap t), ens := tiers.map (s.tierEnabled t),
        books := 0 :: s.books.store.map (·.1) }
    s.modTenant t (fun x => { x with check := some c })

/-! ### Entries (R50) -/

/-- A prop descriptor that is valid for an entry's size (R244). -/
def State.propValid (s : State) (t size : Nat) (d : PropDesc) : Bool :=
  !d.reserved && sumNat (d.pieces.map (·.blocks)) == size
    && d.pieces.all (fun p => !p.reserved && decide (1 ≤ p.tier) && decide (p.tier ≤ 4)
      && (p.tier == 4 || s.directorRun t p.addr (4096 * p.blocks)))

/-- A malformed entry, by its own fields and the entries before it. -/
def State.malformed (s : State) (t frames : Nat) (props : List PropDesc) (before : List Entry) (e : Entry) : Bool :=
  e.reserved || decide (0xC ≤ e.format) || decide (5 ≤ e.streamClass) || decide (6 ≤ e.pinValue)
    || e.sizeBlocks == 0 || decide (262144 < e.sizeBlocks) || decide (e.predRatio < 32)
    || decide (frames ≤ e.fwdFrame) || decide (frames ≤ e.callFrame) || decide (frames ≤ e.releaseFrame)
    || decide (e.callFrame ≤ e.fwdFrame) || decide (e.releaseFrame < e.callFrame)
    || (match before.getLast? with | some p => decide (e.fwdFrame < p.fwdFrame) | none => false)
    || ((e.streamClass == 4) == (e.expertId == 0xFF))
    || (if e.streamClass = 2 then
          (match (if e.propDesc = 0 then none else props[e.propDesc - 1]?) with
            | some d => !s.propValid t e.sizeBlocks d
            | none => true)
        else e.propDesc != 0)
    || (e.mustKeep && e.pinTier) || (e.pinTier && e.pinValue == 5)
    || before.any (fun p => p.tag == e.tag)

/-- The lowest entry for which a test of the entry and those before it holds. -/
def firstEntry (f : List Entry → Entry → Bool) (es : List Entry) : Option Nat :=
  (List.range es.length).find? (fun k => match es[k]? with | some e => f (es.take k) e | none => false)

/-! ### Capacity (R47, R49) -/

/-- The entries live in a frame. -/
def liveIn (es : List Entry) (f : Nat) : List Entry :=
  es.filter (fun e => decide (e.fwdFrame ≤ f) && decide (f ≤ e.releaseFrame))

/-- The lowest frame in which a sum over the live entries exceeds a limit, with the excess. -/
def overIn (es : List Entry) (frames limit : Nat) (size : Entry → Nat) : Option (Nat × Nat) :=
  ((List.range frames).find? (fun f => decide (limit < sumNat ((liveIn es f).map size)))).map
    (fun f => (f, sumNat ((liveIn es f).map size) - limit))

/-- Capacity of a tier in granules, as check 0x0B uses it. -/
def SheetCheck.capGr (c : SheetCheck) (tier : Nat) : Nat :=
  if tier = 0 then c.shelves * 32768 else c.caps.getD (tier - 1) 0 / 32

/-- Check 0x0B: the lowest frame over all tiers, then the lowest tier. A capacity in bytes that is no multiple of
a granule is compared in bytes. -/
def SheetCheck.pinOver (c : SheetCheck) (es : List Entry) (frames : Nat) : Option (Nat × Nat) :=
  (List.range frames).findSome? fun f =>
    [0, 1, 2, 3, 4].findSome? fun tier =>
      let n := sumNat (((liveIn es f).filter (fun e => e.pinTier && e.pinValue == tier)).map Entry.bound)
      if c.capGr tier < n then some (f, n - c.capGr tier) else none

/-- The capacity of check 0x0C in granules. -/
def SheetCheck.totalGr (c : SheetCheck) : Nat :=
  c.capGr 0 + sumNat ([1, 2, 3, 4].map (fun k => if c.ens.getD (k - 1) false then c.capGr k else 0))

/-! ### The checks (R49) -/

/-- A refusal: reason, entry, frame, excess (R51). -/
structure SheetRefusal where
  reason : Nat
  entry : Nat := 0xFFFFFFFF
  frame : Nat := 0xFFFFFFFF
  excess : Nat := 0
  deriving DecidableEq, Repr

/-- The prop descriptors of a tenant that lie in its CONTROL regions (R243, R268). -/
def State.readProps (s : State) (t : Nat) : List PropDesc :=
  let base := s.reg64 R.SHT_PROP_BASE t
  let n := fld (s.regT R.SHT_PROP_COUNT t).toNat 0 16
  if n = 0 ∨ (s.controlRegion t base (32 * n)).isNone then []
  else (List.range n).map (fun k =>
    let d := s.readProp base (k + 1)
    let list := s.memNat (base + 32 * k) 8
    if (s.controlRegion t list (16 * d.pieces.length)).isNone then { d with reserved := true } else d)

/-- The entries of a sheet in memory. -/
def State.readEntries (s : State) (base n : Nat) : List Entry :=
  (List.range n).map (fun k => parseEntry (s.unitRead (base + 64 + 32 * k) 32))

/-- A header with a wrong or out-of-range field. -/
def SheetHeader.wrong (h : SheetHeader) (t : Nat) : Bool :=
  h.magic != 0x7E1A5C01 || h.version != 1 || h.tenant != t || !h.crcOk || h.reserved
    || h.entryCount == 0 || decide (1048576 < h.entryCount) || h.frameCount == 0 || decide (1048576 < h.frameCount)
    || h.defaultFrame == 0

/-- The first failing check of a load, in the order of R49; none when the load passes. The region table of checks 0x02 and 0x0D
and the script store of 0x06 are those at the end of the load (DESIGN CHOICE, log entry 85). -/
def State.sheetFault (s : State) (t : Nat) (c : SheetCheck) : Option SheetRefusal :=
  let h := parseSheetHeader (s.unitRead c.base 64)
  if c.stepOpen then some { reason := 0x01 }
  else if (s.controlRegion t c.base c.bytes).isNone ∨ c.base % 4096 ≠ 0 ∨ c.bytes ≠ 64 + 32 * h.entryCount then
    some { reason := 0x02 }
  else if h.wrong t then some { reason := 0x03 }
  else if c.ftbBase = 0 ∨ c.ftbBase % 4096 ≠ 0 ∨ (s.controlRegion t c.ftbBase (32 * h.frameCount)).isNone then
    some { reason := 0x0D }
  else if crc32c (s.unitRead (c.base + 64) (32 * h.entryCount)) ≠ h.entriesCrc then some { reason := 0x04 }
  else
    let es := s.readEntries c.base h.entryCount
    let props := s.readProps t
    let shelfGr := c.shelves * 32768
    match firstEntry (s.malformed t h.frameCount props) es with
    | some k => some { reason := 0x05, entry := k }
    | none =>
    match firstEntry (fun _ e => e.scriptId != 0 && (match s.script e.scriptId with
        | some x => x.tenant != t
        | none => true)) es with
    | some k => some { reason := 0x06, entry := k }
    | none =>
    match firstEntry (fun _ e => !c.books.contains e.bookId) es with
    | some k => some { reason := 0x07, entry := k }
    | none =>
    match overIn es h.frameCount c.quota (fun _ => 1) with
    | some (f, x) => some { reason := 0x08, frame := f, excess := x }
    | none =>
    match overIn es h.frameCount shelfGr (fun e => if e.mustKeep then e.bound else 0) with
    | some (f, x) => some { reason := 0x09, frame := f, excess := x }
    | none =>
    match overIn es h.frameCount shelfGr (fun e => if e.mustKeep || e.streamClass == 2 then e.pred else 0) with
    | some (f, x) => some { reason := 0x0A, frame := f, excess := x }
    | none =>
    match c.pinOver es h.frameCount with
    | some (f, x) => some { reason := 0x0B, frame := f, excess := x }
    | none =>
    match overIn es h.frameCount c.totalGr Entry.bound with
    | some (f, x) => some { reason := 0x0C, frame := f, excess := x }
    | none => none

/-! ### The continuity log at a load (R167) -/

/-- Place the check tables of the flagged entries one after another. -/
def coverEntries (limit : Nat) : Nat → List Entry → List (Option Nat)
  | _, [] => []
  | g, e :: r =>
    if e.continuity ∧ 32 * (g + indexGr e.sizeBlocks) ≤ limit then
      some g :: coverEntries limit (g + indexGr e.sizeBlocks) r
    else none :: coverEntries limit g r

/-- Granules of the offset table. -/
def logHead (n : Nat) : Nat := ceilDiv (n * 4) 32

/-- The coverage of a sheet's entries: none when the log does not meet its conditions. -/
def State.logCover (s : State) (t : Nat) (es : List Entry) : Option (List (Option Nat)) :=
  let base := s.reg64 R.CNT_LOG_BASE t
  let bytes := (s.regT R.CNT_LOG_BYTES t).toNat
  if base = 0 ∨ (s.controlRegion t base bytes).isNone ∨ bytes < 32 * logHead es.length then none
  else some (coverEntries bytes (logHead es.length) es)

/-- Write the offset table. -/
def State.writeOffsets (s : State) (t : Nat) (cover : List (Option Nat)) : State :=
  s.unitWrite (s.reg64 R.CNT_LOG_BASE t) (fitTo (32 * logHead cover.length)
    (cover.flatMap (fun c => leBytes (c.getD 0xFFFFFFFF) 4)))

/-! ### The end of a load -/

/-- CONTROL entries of a tenant that contain a run (R221). -/
def State.holders (s : State) (t a n : Nat) : List Nat :=
  (s.tiers.regions.filter (fun p => p.2.kind == 1 && p.2.tenant == t && p.2.holds a n)).map (·.1)

/-- Refuse a load (R51): the previous sheet stays. -/
def State.refuseSheet (s : State) (t : Nat) (r : SheetRefusal) : State :=
  let s := s.modTenant t (fun x => { x with
    check := none, refused := true, reason := r.reason, refuseEntry := w32 r.entry, refuseFrame := w32 r.frame,
    refuseExcess := w32 r.excess })
  let p0 := w32 (r.reason + 2 ^ 8 * t)
  ((s.log 0x0304 0 [p0, w32 r.entry, w32 r.frame, w32 r.excess]).pageError 0x06 p0 (r.entry + 2 ^ 32 * r.frame)).raise 0x06 1

/-- The largest live count over all frames (R52). -/
def livePeak (es : List Entry) (frames : Nat) : Nat :=
  (List.range frames).foldl (fun m f => max m (liveIn es f).length) 0

/-- A passed load: the sheet replaces the previous one, frame table and continuity log are written. -/
def State.passSheet (s : State) (t : Nat) (c : SheetCheck) : State :=
  let h := parseSheetHeader (s.unitRead c.base 64)
  let es := s.readEntries c.base h.entryCount
  let cover := s.logCover t es
  let logBase := s.reg64 R.CNT_LOG_BASE t
  let used := s.holders t c.base c.bytes ++ s.holders t c.ftbBase (32 * h.frameCount)
    ++ (if cover.isSome then s.holders t logBase (s.regT R.CNT_LOG_BYTES t).toNat else [])
  let n := (cover.getD []).countP (·.isSome)
  let sheet : Sheet :=
    { entries := es, frameCount := h.frameCount, defaultFrame := h.defaultFrame, entriesCrc := h.entriesCrc,
      shelves := c.shelves, peak := livePeak es h.frameCount, ftbBase := c.ftbBase, logBase := logBase,
      cover := cover.getD (es.map (fun _ => none)), props := s.readProps t, inUse := used }
  let s := s.modTenant t (fun x => { x with check := none, refused := false, sheet := some sheet, copy := false })
  let s := s.initTable t h.defaultFrame
  let s := match cover with | some l => s.writeOffsets t l | none => s
  ((s.setRegT R.CNT_COVERED t (w32 n)).setRegT R.CNT_UNCOVERED t (w32 (es.countP (·.continuity) - n))).raise 0x06 1

/-- The checks of a load end (R49). -/
def State.sheetDone (s : State) (t : Nat) : State :=
  match (s.tenant t).check with
  | none => s
  | some c =>
    if !s.memOpen c.base then s else
    match s.sheetFault t c with
    | some r => s.refuseSheet t r
    | none => s.passSheet t c

/-- SHT_CTRL.unload: ignored while a step is open or a load is CHECKING (R48, R53). Afterwards sheet_state reads NONE, also
where it was REFUSED, and SHT_PEAK reads 0 (DESIGN CHOICE, log entry 87). -/
def State.sheetUnload (s : State) (t : Nat) : State :=
  let x := s.tenant t
  if x.stepOpen || x.check.isSome then s else s.setTenant t { x with sheet := none, refused := false }

/-- The loaded sheet passed against more shelves than the tenant has now (R52). -/
def State.sheetStale (s : State) (t : Nat) : Bool :=
  match (s.tenant t).sheet with | some sh => decide (s.shelfCount t < sh.shelves) | none => false

/-- Does a loaded sheet name a book (R130)? -/
def State.bookNamed (s : State) (b : Nat) : Bool :=
  (List.range 8).any (fun t => match (s.tenant t).sheet with
    | some sh => sh.entries.any (fun e => e.bookId == b)
    | none => false)

end Sys2Proof.Machine
end

