-- ==== Sys2Proof/Machine/Commands.lean ====
section
/-! DEFINITION. The engine command port behind its boundary: ticket window, decoding in port order, and what each of
the 64-byte commands does (R59, R64 to R66, R70 to R83, R133, R134, R162, R227, R245 to R253). -/

namespace Sys2Proof.Machine

/-! ### Common refusals (R72, R75, R171, R305) -/

/-- Complete a command with a status and nothing else. -/
def State.refuse (s : State) (op : BitVec 8) (c : Cmd) (st : Nat) : State := s.complete op c { status := st }

/-- The entry of the tenant's loaded sheet with a tag. -/
def State.entryOfTag (s : State) (t tag : Nat) : Option Nat :=
  match (s.tenant t).sheet with
  | none => none
  | some sh => sh.entries.findIdx? (fun e => e.tag == tag)

/-- The status with which a command ends before it names a slate: reserved bits, no open step, a halted step. -/
def State.gate (s : State) (op : Nat) (c : Cmd) (halts : Bool) : Option Nat :=
  let x := s.tenant (s.tenantOf c)
  if cmdReserved op c then some 0x03
  else if !x.stepOpen then some 0x04
  else if halts && x.halted then some 0x02
  else none

/-- A tag of a PROP entry that is left without a slate for the rest of the step: its CALLs complete with LOST, also in the
step that its loss has halted (R65, R247, R248). -/
def State.deadTag (s : State) (t tag : Nat) : Bool :=
  match s.entryOfTag t tag with
  | none => false
  | some e => (s.tenant t).dead.contains e && (s.slateOfEntry t e).isNone

/-- What the tag of a command names: a status that ends it, or a slate of the step (R65). -/
inductive Named where
  | status (st : Nat)
  | slate (i : Nat)
  deriving DecidableEq, Repr

def State.named (s : State) (op : Nat) (c : Cmd) (halts : Bool) : Named :=
  let t := s.tenantOf c
  match s.gate op c (halts && !(op == 0x04 && s.deadTag t c.tag.toNat)) with
  | some st => .status st
  | none => match s.entryOfTag t c.tag.toNat with
    | none => .status 0x01
    | some e => match s.slateOfEntry t e with
      | some i => .slate i
      | none => .status (if op = 0x04 ∧ (s.tenant t).dead.contains e then 0x0B else 0x0E)

/-! ### OPEN, WRITE_INLINE (R59, R73, R74, R77) -/

/-- Engine or writer mask of OPEN and CALL with the inline flag set names no tap (R74). -/
def State.runOpen (s : State) (c : Cmd) : State :=
  let t := s.tenantOf c
  match s.gate 0x01 c true with
  | some st => s.refuse 0x01#8 c st
  | none =>
    if cmdFlag0 c ∧ cmdMask c ≠ 0 then s.refuse 0x01#8 c 0x03
    else match s.entryOfTag t c.tag.toNat with
    | none => s.refuse 0x01#8 c 0x01
    | some ei => match s.entryAt t ei with
      | none => s.refuse 0x01#8 c 0x01
      | some e =>
        if (s.tenant t).opened.contains ei then s.refuse 0x01#8 c 0x09
        else if !s.hasSlot t then (s.bump R.SHT_NO_SLOT 1).refuse 0x01#8 c 0x08
        else
          let (s, i) := s.openRecord t ei e (cmdFlag0 c) (cmdMask c)
          s.complete 0x01#8 c { status := 0, slate := i, gen := (s.slate i).gen, result := some 1, value := some (w32 ei) }

/-- WRITE_INLINE. -/
def State.runInline (s : State) (c : Cmd) : State :=
  match s.named 0x02 c false with
  | .status st => s.refuse 0x02#8 c st
  | .slate i =>
    let r := s.slate i
    let no (st : Nat) : State := s.complete 0x02#8 c { status := st, slate := i, gen := r.gen }
    let n := inlineCount c
    if r.state ≠ .opened ∨ !r.inline ∨ r.e.sizeBlocks ≠ 1 then no 0x02
    else if inlineBlock c ≠ 0 ∨ n = 0 ∨ 48 < n ∨ 4096 < inlineOffset c + n then no 0x03
    else
      (s.setInline i (patch (s.inlineBytes i) (inlineOffset c) (c.payload.take n ++ List.replicate (n - c.payload.length) 0#8))).complete
        0x02#8 c { status := 0, slate := i, gen := r.gen, value := some (w32 n) }

/-! ### SEAL (R64, R66, R74, R83, R133, R134) -/

/-- RAW_FALLBACK_RATE at a SEAL. -/
def State.fallbackRate (s : State) (i : Nat) : State :=
  let r := s.slate i
  if r.e.sizeBlocks * fld (s.reg R.STI_CTRL).toNat 0 8 < r.rawFallback * 256 then
    let p0 := s.slateWordOf i
    (s.report 0x0502 2 [p0, w32 r.e.tag, w32 r.rawFallback, w32 r.e.sizeBlocks] 0x0A 0).pageError 0x0A p0 0
  else s

/-- A SEAL is applied: the slate is SEALED and the clicker has accepted it, or it turns TORN. -/
def State.applySeal (s : State) (c : Cmd) (i : Nat) : State :=
  let r := s.slate i
  if sealBlocks c ≠ r.e.sizeBlocks ∨ sealBlocks c ≠ r.blocksWritten then
    (s.tear i 1).complete 0x03#8 c { status := 0x05, slate := i, gen := r.gen }
  else
    let s := (s.closeExtent i).modSlate i (fun r => { r with state := .sealed })
    let s := ((s.fallbackRate i).reelCheck i).playCheck i
    let u : Undecided := ⟨i, r.gen, some (s.tenant r.tenant).frame, some c⟩
    { s with clicker := { s.clicker with queue := s.clicker.queue ++ [u] } }

/-- A SEAL that has left the command queue. -/
def State.runSeal (s : State) (c : Cmd) : State :=
  match s.named 0x03 c true with
  | .status st => s.refuse 0x03#8 c st
  | .slate i =>
    if (s.slate i).state = .opened then s.applySeal c i
    else s.complete 0x03#8 c { status := 0x02, slate := i, gen := (s.slate i).gen }

/-- The OPEN slate whose SEAL a command is, unless it is a duplicate. -/
def State.sealOf (s : State) (c : Cmd) : Option Nat :=
  if s.port.window.any (fun k => k.ticket == c.ticket) then none
  else match s.named 0x03 c true with
    | .slate i => if (s.slate i).state = .opened then some i else none
    | .status _ => none

/-- Must the SEAL of a slate wait: for the inline block, for blocks with a lane, or for the clicker? -/
def State.sealBusy (s : State) (i : Nat) : Bool :=
  let r := s.slate i
  (r.inline && !r.inlineHanded && s.stitcher.lanes != 0) || s.laneHolds i || !s.clicker.queue.isEmpty

/-- The inline block of a SEAL at the head of the queue is handed over. -/
def State.beginSeal (s : State) (i : Nat) : State :=
  let r := s.slate i
  if r.inline && !r.inlineHanded then s.handInline i else s

/-! ### CALL, RELEASE, FRAME (R58, R64, R65, R73) -/

/-- A CALL begins to wait for its slate; the first one gives the time of R100. -/
def State.addCall (s : State) (i : Nat) (c : Cmd) : State :=
  s.modSlate i (fun r => { r with callPending := true, calls := r.calls ++ [c],
                                  callAt := if r.callPending then r.callAt else s.stepTime r.tenant })

/-- What a CALL that waits does at once to the state a slate is in (R65). -/
def State.actOnCall (s : State) (i : Nat) : State :=
  if !s.mayStart (s.slate i).tenant then s
  else match (s.slate i).state with
    | .ready => s.takePending i
    | .kept => s.enterReady i
    | .movingOut => s.moveBack i
    | .parked => s.beginReturn i (s.callDeadline i) none
    | .dropped => (s.wantJob i (s.callDeadline i)).startNow i
    | _ => s

/-- A CALL with DROP_ON_READ that R166 rejects. -/
def State.dropBad (s : State) (c : Cmd) (e : Entry) : Bool :=
  cmdFlag0 c && (decide (2 < e.format) || e.scriptId == 0
    || (match s.script e.scriptId with | some x => !x.dropValid | none => true)
    || (engines (cmdMask c)).any (fun b => !bitAt (s.reg (opxAddr R.OPX_BCTRL b)).toNat 0))

/-- CALL. -/
def State.runCall (s : State) (c : Cmd) : State :=
  match s.named 0x04 c true with
  | .status st => s.refuse 0x04#8 c st
  | .slate i =>
    let r := s.slate i
    let done (st : Nat) (s : State) : State :=
      s.complete 0x04#8 c { status := st, slate := i, gen := r.gen, result := some r.state.num }
    if s.dropBad c r.e then done 0x03 s
    else match r.state with
    | .opened => done 0x02 s
    | .lost => done 0x0B s
    | .inUse => done 0 (s.serveEngines i (cmdMask c) (cmdFlag0 c))
    | _ => (s.addCall i c).actOnCall i |>.tendJobs

/-- RELEASE. -/
def State.runRelease (s : State) (c : Cmd) : State :=
  match s.named 0x05 c false with
  | .status st => s.refuse 0x05#8 c st
  | .slate i =>
    let r := s.slate i
    (s.releaseSlate i).complete 0x05#8 c { status := 0, slate := i, gen := r.gen, result := some r.state.num }

/-- FRAME. The value is the counter, which a refused index leaves as it was (R73, log entry 24). -/
def State.runFrame (s : State) (c : Cmd) : State :=
  let t := s.tenantOf c
  match s.gate 0x06 c false with
  | some st => s.refuse 0x06#8 c st
  | none =>
    let now : Answer := { status := 0, value := some (w32 (s.tenant t).frame) }
    if frameIndex c < (s.tenant t).frame then s.complete 0x06#8 c { now with status := 0x06 }
    else if s.frameCount t ≤ frameIndex c then s.complete 0x06#8 c { now with status := 0x03 }
    else
      let s := (s.closeFrames t (frameIndex c)).reachFrame t
      s.complete 0x06#8 c { status := 0, value := some (w32 (s.tenant t).frame) }

/-! ### RESHOOT_DONE (R160, R162, R163) -/

/-- An answer with engine status 0: one descriptor of the step is answered. -/
def State.stepAnswered (s : State) (slot : Nat) (j : Job) (q : Nat) : State :=
  ((s.setJob slot (j.answer q true)).jobProgress slot 17).reapJobs.tendJobs

/-- Is the answer one that R162 rejects? -/
def State.answerWrong (s : State) (c : Cmd) (j : Job) : Bool :=
  (match s.jobStep j j.step with | some x => x.onLanes | none => true)
    || doneStep c != j.step || c.tag.toNat != j.tag || j.unanswered.isEmpty

/-- RESHOOT_DONE. -/
def State.runDone (s : State) (c : Cmd) : State :=
  if cmdReserved 0x07 c then s.refuse 0x07#8 c 0x03
  else match s.job (doneSlot c) with
  | none => s.refuse 0x07#8 c 0x03
  | some j =>
    if s.answerWrong c j then s.refuse 0x07#8 c 0x03
    else
      let q := c.queue.val
      let s := s.complete 0x07#8 c { status := 0, slate := j.slate, gen := j.gen }
      if doneStatus c = 0 then s.stepAnswered (doneSlot c) j q
      else ((s.bump R.RTK_STEP_FAIL 1).stepFailed (doneSlot c) (j.answer q false)).tendJobs

/-! ### STEP_BEGIN, STEP_END (R52, R73, R75, R76, R227, R252) -/

/-- Is a tenant the lender of a loan that runs or is being made or ended? -/
def State.lending (s : State) (t : Nat) : Bool :=
  s.security.loans.any (fun l => l.lender == t) || (match s.security.clearing with | some l => l.lender == t | none => false)

def State.borrowing (s : State) (t : Nat) : Bool :=
  s.security.loans.any (fun l => l.borrower == t) || (match s.security.clearing with | some l => l.borrower == t | none => false)

/-- The status with which a STEP_BEGIN ends without opening a step. -/
def State.beginRefusal (s : State) (c : Cmd) : Option Nat :=
  let t := s.tenantOf c
  let x := s.tenant t
  if cmdReserved 0x30 c then some 0x03
  else if s.lending t then some 0x48
  else if x.stepOpen || x.check.isSome then some 0x02
  else if x.sheet.isNone then some 0x0D
  else if s.sheetStale t then some 0x0A
  else none

/-- Open the step of a STEP_BEGIN, or complete it with its status. -/
def State.beginStep (s : State) (c : Cmd) : State :=
  match s.beginRefusal c with
  | some st => s.refuse 0x30#8 c st
  | none => (s.openStep (s.tenantOf c) (stepNumber c)).complete 0x30#8 c { status := 0, value := some (stepNumber c) }

/-- STEP_BEGIN: one that arrives while the host is not ATTACHED is held (R227); the hold slot of its tenant holds one
(log entry 27). -/
def State.runBegin (s : State) (c : Cmd) : State :=
  let t := s.tenantOf c
  if s.tiers.host ≠ .attached then
    if (s.tenant t).held.isSome then s.refuse 0x30#8 c 0x02
    else
      let s := (s.modTenant t (fun x => { x with held := some c })).raise 0x06 2
      { s with tiers := { s.tiers with host := .heldSteps } }
  else s.beginStep c

/-- STEP_END. -/
def State.runEnd (s : State) (c : Cmd) : State :=
  let t := s.tenantOf c
  if cmdReserved 0x31 c then s.refuse 0x31#8 c 0x03
  else if !(s.tenant t).stepOpen then s.refuse 0x31#8 c 0x04
  else if cmdFlag0 c then
    let n := (s.tenantSlates t).length
    ((s.abandon t).closeStep t true).complete 0x31#8 c { status := 0, value := some (w32 n) }
  else if s.tenantSlates t ≠ [] then s.refuse 0x31#8 c 0x07
  else (s.closeStep t false).complete 0x31#8 c { status := 0, value := some 0#32 }

/-! ### PROP_CALL, INTERMISSION, RESUME (R249, R251 to R253) -/

/-- PROP_CALL. -/
def State.runProp (s : State) (c : Cmd) : State :=
  let t := s.tenantOf c
  match s.gate 0x20 c true with
  | some st => s.refuse 0x20#8 c st
  | none => match s.entryOfTag t c.tag.toNat with
    | none => s.refuse 0x20#8 c 0x01
    | some ei => match s.entryAt t ei with
      | none => s.refuse 0x20#8 c 0x01
      | some e =>
        match s.propOf t e with
        | none => s.refuse 0x20#8 c 0x40
        | some d =>
          if e.streamClass ≠ 2 then s.refuse 0x20#8 c 0x40
          else if (s.tenant t).opened.contains ei then s.refuse 0x20#8 c 0x09
          else if !s.hasSlot t then s.refuse 0x20#8 c 0x08
          else
            let (s, i) := s.startGather t ei e d
            s.complete 0x20#8 c { status := 0, slate := i, gen := (s.slate i).gen, result := some (s.slate i).state.num,
                                  value := some (w32 e.gatherGr) }

/-- The highest n bits set in a 112-bit map. -/
def highBits (m n : Nat) : Nat := sumNat (((bitsOf m 112).reverse.take n).map (2 ^ ·))

/-- The status with which an INTERMISSION ends without a loan, in the order of R251. -/
def State.loanRefusal (s : State) (c : Cmd) : Option Nat :=
  let t := s.tenantOf c
  let x := s.tenant t
  let p := s.part t
  if cmdReserved 0x32 c then some 0x03
  else if x.stepOpen || x.held.isSome then some 0x02
  else if s.lending t || s.borrowing t then some 0x48
  else if !p.loanEn || p.borrower != loanBorrower c || decide (p.maxLoan < loanShelves c) then some 0x49
  else if loanShelves c = 0 ∨ s.shelfCount t < loanShelves c then some 0x03
  else none

/-- INTERMISSION: the shelves are taken; they are cleared and given over by the steps that follow. -/
def State.runLend (s : State) (c : Cmd) : State :=
  let t := s.tenantOf c
  match s.loanRefusal c with
  | some st => s.refuse 0x32#8 c st
  | none =>
    let l : Loan := ⟨t, loanBorrower c, highBits (s.shelvesOf t) (loanShelves c)⟩
    { s with security := { s.security with clearing := some l, clearCmd := some c, clearReturn := false } }

/-- RESUME: the loan ends; its shelves are cleared and given back by the steps that follow. -/
def State.runResume (s : State) (c : Cmd) : State :=
  let t := s.tenantOf c
  if cmdReserved 0x33 c then s.refuse 0x33#8 c 0x03
  else match s.security.loans.find? (fun l => l.lender == t) with
  | none => s.refuse 0x33#8 c 0x4A
  | some l =>
    if (s.tenant l.borrower).stepOpen then s.refuse 0x33#8 c 0x4B
    else { s with security := { s.security with
      loans := s.security.loans.erase l, clearing := some l, clearCmd := some c, clearReturn := true } }

/-- The last part of an INTERMISSION or RESUME: the shelves change hands and the command completes. -/
def State.endLoan (s : State) : State :=
  match s.security.clearing, s.security.clearCmd with
  | some l, some c =>
    let back := s.security.clearReturn
    let s := { s with security := { s.security with
      clearing := none, clearCmd := none, clearReturn := false
      loans := if back then s.security.loans else s.security.loans ++ [l] } }
    let n := popBits (if back then mapMinus l.shelves s.vault.retired else l.shelves) 112
    s.complete (if back then 0x33#8 else 0x32#8) c { status := 0, value := some (w32 n) }
  | _, _ => s

/-- The shelves of a loan are clear: the lender's eyelet context is saved or restored next (R252, R253). -/
def State.shelvesCleared (s : State) : State :=
  match s.security.clearing with
  | none => s
  | some l =>
    if s.eyes.ctx.isSome then s
    else
      let s' := s.startCtx l.lender (s.reg64 R.SHT_INT_SAVE l.lender) (!s.security.clearReturn) true
      if s'.eyes.ctx.isSome then s' else s'.endLoan

/-! ### The command queue (R28, R70, R78, R81, R83, R280, R293, R412) -/

/-- Run a decoded command. -/
def State.runCmd (s : State) (op : BitVec 8) (c : Cmd) : State :=
  match op.toNat with
  | 0x01 => s.runOpen c
  | 0x02 => s.runInline c
  | 0x03 => s.runSeal c
  | 0x04 => s.runCall c
  | 0x05 => s.runRelease c
  | 0x06 => s.runFrame c
  | 0x07 => s.runDone c
  | 0x10 => if cmdReserved 0x10 c then s.refuseEye op c else s.runEyeAdd c
  | 0x11 => if cmdReserved 0x11 c then s.refuseEye op c else s.runEyeWait c
  | 0x12 => if cmdReserved 0x12 c then s.refuseEye op c else s.runEyeSet c
  | 0x20 => s.runProp c
  | 0x30 => s.runBegin c
  | 0x31 => s.runEnd c
  | 0x32 => s.runLend c
  | 0x33 => s.runResume c
  | _ => s.refuse op c 0x0C

/-- Enter a ticket into the window of the last 1,024 (R78). -/
def State.enterTicket (s : State) (k : Ticket) : State :=
  { s with port := { s.port with window := (k :: s.port.window).take 1024 } }

/-- A command begins to execute (R78). -/
def State.beginCmd (s : State) (op : BitVec 8) (c : Cmd) : State :=
  let n := s.port.serial
  let s := s.enterTicket { ticket := c.ticket, opcode := op, tenant := s.tenantOf c, tag := c.tag, queue := c.queue.val,
                           completion := none, serial := n }
  { s with port := { s.port with serial := n + 1, executing := s.port.executing ++ [⟨n, op, c, []⟩] } }

/-- A copy waits for the execution of its original (R78). -/
def State.awaitOriginal (s : State) (k : Ticket) : State :=
  { s with port := { s.port with executing := s.port.executing.map (fun x =>
      if x.serial = k.serial then { x with copies := x.copies ++ [k] } else x) } }

/-- Decode a command: a duplicate is answered from the window or when its original completes, any other runs (R78). -/
def State.decode (s : State) (op : BitVec 8) (c : Cmd) : State :=
  let s := { s with port := { s.port with decoded := (s.port.decoded + 1) % 2 ^ 32, lastOpcode := op } }
  match s.port.window.find? (fun k => k.ticket == c.ticket) with
  | some k =>
    let own : Ticket := { k with opcode := op, tenant := s.tenantOf c, tag := c.tag, queue := c.queue.val }
    match k.completion with
    | some d => (s.enterTicket own).answerCopy own d
    | none => (s.enterTicket own).awaitOriginal own
  | none => (s.beginCmd op c).runCmd op c

/-- Is an opcode an eyelet command's? -/
def eyeOp (op : BitVec 8) : Bool := op == 0x10#8 || op == 0x11#8 || op == 0x12#8

/-- The first command of the queue that no Abter wait holds, with the others. -/
def State.frontCmd (s : State) : List (BitVec 8 × Cmd) → Option ((BitVec 8 × Cmd) × List (BitVec 8 × Cmd))
  | [] => none
  | p :: r =>
    if s.queueHeld p.2.queue.val then (s.frontCmd r).map (fun q => (q.1, p :: q.2)) else some (p, r)

/-- A SEAL of the tenant is applied and not decided yet. -/
def State.sealPending (s : State) (t : Nat) : Bool :=
  s.clicker.queue.any (fun u => u.cmd.isSome && (s.slate u.slate).tenant == t)

/-- Must a command wait at the head of the queue? A second INTERMISSION or RESUME waits for the first (log entry 21). A FRAME
or PROP_CALL waits for the decision of a SEAL before it in port order: it would change what the decision rests on, which R105
makes a function of that order (log entry 94). -/
def State.mustWait (s : State) (p : BitVec 8 × Cmd) : Bool :=
  ((p.1 == 0x06#8 || p.1 == 0x20#8) && s.sealPending (s.tenantOf p.2))
    || (eyeOp p.1 && s.ctxHolds (s.tenantOf p.2))
    || ((p.1 == 0x32#8 || p.1 == 0x33#8) && s.security.clearing.isSome)
    || (p.1 == 0x03#8 && (match s.sealOf p.2 with | some i => s.sealBusy i | none => false))

/-- Hand over what a waiting command still has to hand over. -/
def State.prepare (s : State) (p : BitVec 8 × Cmd) : State :=
  if p.1 = 0x03#8 then match s.sealOf p.2 with | some i => s.beginSeal i | none => s else s

/-- The port accepts commands that core queues hold, while fewer than 256 commands wait (R81). -/
def State.admitCmds (s : State) : State :=
  let n := 256 - s.port.queue.length
  { s with port := { s.port with queue := s.port.queue ++ s.port.stalled.take n, stalled := s.port.stalled.drop n } }

/-- Decode the next command, if it need not wait; answers whether one was decoded. -/
def State.decodeNext (s : State) : State × Bool :=
  match s.frontCmd s.port.queue with
  | none => (s, false)
  | some (p, rest) =>
    let s := s.prepare p
    if s.mustWait p then (s, false)
    else (((({ s with port := { s.port with queue := rest } }).admitCmds).decode p.1 p.2).takeRaised, true)

/-- DBG_CTRL.seq_halt: no further command is decoded (R412). -/
def State.seqHalt (s : State) : Bool := bitAt (s.reg R.DBG_CTRL).toNat 0

/-- The sequencer halts once the decision in progress has ended (R412). -/
def State.takeHalt (s : State) : State :=
  if s.seqHalt && s.clicker.queue.isEmpty && !s.dbg.halted then
    ({ s with dbg := { s.dbg with halted := true } }).raise 0x1E 2
  else s

/-- May the sequencer decode: FCLK runs, and the recorder has taken its events (R353, R381)? -/
def State.seqRuns (s : State) : Bool := s.clockRuns && !s.sourceHeld 0

/-- Decode commands until the queue is empty, its head waits or the sequencer halts. A step that found no command to decode
decodes the next one (R412). -/
def State.drainCmds (s : State) : Nat → State
  | 0 => s
  | f + 1 =>
    if !s.seqRuns then s
    else if s.seqHalt then
      if s.dbg.stepPending then
        let r := s.decodeNext
        if r.2 then { r.1 with dbg := { r.1.dbg with stepPending := false } } else r.1
      else s
    else
      let r := s.decodeNext
      if r.2 then r.1.drainCmds f else r.1

/-- Let the command port run (R83). -/
def State.drain (s : State) : State := s.drainCmds (s.port.queue.length + s.port.stalled.length)

/-- A core queue issues a command: it enters the command queue, or stays with its issuer while 256 commands wait (R81); then
the port runs. -/
def State.acceptCmd (s : State) (op : BitVec 8) (c : Cmd) : State :=
  ({ s with port := { s.port with stalled := s.port.stalled ++ [(op, c)] } }).admitCmds.drain

/-! ### The clicker's decision (R83, R65, R66, R107) -/

/-- The SEAL completes with the decision. -/
def State.completeSeal (s : State) (u : Undecided) : State :=
  match u.cmd with
  | none => s
  | some c =>
    let r := s.slate u.slate
    s.complete 0x03#8 c { status := 0, slate := u.slate, gen := r.gen, result := some r.outcome.num, value := some (w32 r.digest) }

/-- Decide one slate, then act on a waiting CALL and on a p that is reached already. -/
def State.decideOne (s : State) (u : Undecided) : State :=
  let r := s.slate u.slate
  if r.gen ≠ u.gen ∨ r.state ≠ .sealed then s
  else
    let s := (s.decideSlate u.slate (u.n.getD (s.tenant r.tenant).frame)).completeSeal u
    let s := if (s.slate u.slate).callPending then s.actOnCall u.slate else s
    (s.reachSlate u.slate).tendJobs

/-- The clicker takes the decision at the head of its queue. -/
def State.clickerDecision (s : State) : State :=
  match s.clicker.queue with
  | [] => s
  | u :: r => ((({ s with clicker := { s.clicker with queue := r } }).decideOne u).takeHalt).drain

end Sys2Proof.Machine
end

