-- ==== Sys2Proof/Machine/Banks.lean ====
section
/-! DEFINITION. Unlacer banks (R29 to R34, R136 to R140, R166, R417), the code-book store (R126 to R131) and the
stitcher's lanes at work (R113, R114, R132, R133). -/

namespace Sys2Proof.Machine

/-! ### Decoders (R139, R140) -/

/-- Working decoders in use: at most 16 of the 17 that are not mapped out. -/
def Bank.working (k : Bank) : Nat := min 16 (17 - popBits k.failed 17)

/-- The spare has taken a place: an active decoder is mapped out and the spare is not. -/
def Bank.spareUsed (k : Bank) : Bool := decide (0 < popBits k.failed 16) && !bitAt k.failed 16

/-- Fewer than 8 decoders work. -/
def Bank.outOfService (k : Bank) : Bool := decide (k.working < 8)

/-- Map a decoder out (R139). -/
def State.mapOutDecoder (s : State) (b d : Nat) (boot : Bool) : State :=
  let k := s.bank b
  if bitAt k.failed d then s
  else
    let k := { k with failed := setBit k.failed d true }
    (s.setBank b k).report 0x0503 3
      [w32 b, w32 d, w32 (k.working + 2 ^ 8 * b2n k.spareUsed + 2 ^ 9 * b2n k.outOfService), w32 (b2n boot)]
      (0x0C + b / 12) (b % 12)

/-! ### Books in the banks (R31, R138) -/

/-- Use a book in a bank's cache of 32: it becomes the most recently used. -/
def State.useBook (s : State) (b book : Nat) : State :=
  s.modBank b (fun k => { k with cache := (book :: k.cache.erase book).take 32 })

/-- The first request of a bank misses a book: counted, delayed by 24 cycles, and put to the store. A load of the book
that a CALL has pending serves the miss, whose wait counts from now (R31, R138). -/
def State.missBook (s : State) (b book : Nat) : State :=
  let s := (s.bump (opxAddr R.OPX_BOOK_MISS b) 1).wantBook b book
  let s := { s with books := { s.books with
    misses := s.books.misses.map (fun (m : Nat × Nat × Nat) => if m.1 = b ∧ m.2.1 = book then (b, book, 0) else m) } }
  s.modBank b (fun k => { k with reqs := match k.reqs with
    | q :: r => { q with latency := q.latency + 24, missed := some book } :: r
    | [] => [] })

/-- The first request of a bank waits n cycles more, where the book is the one that it missed (R138). -/
def State.delayMiss (s : State) (b book n : Nat) : State :=
  s.modBank b (fun k => { k with reqs := match k.reqs with
    | q :: r => (if q.missed = some book then { q with latency := q.latency + n } else q) :: r
    | [] => [] })

/-- The miss that the store takes next: ascending bank order from the bank after the one last served. -/
def State.nextMiss (s : State) : Option (Nat × Nat × Nat) :=
  ((List.range 48).map (fun k => (s.books.lastServed + 1 + k) % 48)).findSome? (fun b =>
    s.books.misses.find? (fun m => m.1 == b))

/-- The store takes one pending miss or book load (R138). -/
def State.serveMiss (s : State) : State :=
  match s.nextMiss with
  | none => s
  | some m =>
    let rest := (s.books.misses.erase m).map (fun x => (x.1, x.2.1, x.2.2 + 1))
    let s := { s with books := { s.books with misses := rest, lastServed := m.1 } }
    (s.useBook m.1 m.2.1).delayMiss m.1 m.2.1 (m.2.2 - 15)

/-! ### Requests (R30 to R33, R68, R417) -/

/-- The hard limit of a slate has passed (R33, R198). -/
def State.pastHardLimit (s : State) (i : Nat) : Bool := (s.slate i).pastHard

/-- Is a request one that R417 answers without decoding? -/
def State.answersPoisoned (s : State) (b slate gen block : Nat) : Bool :=
  let r := s.slate slate
  r.gen != gen || r.state == .free || r.state == .torn || r.state == .lost
    || (s.pastHardLimit slate && !(s.bank b).holds slate gen block)
    || (s.bank b).outOfService
    || s.continuity.poison.contains (slate, gen, block)

/-- DROP_ON_READ is applied to a request of a bank for a slate (R31, R166). -/
def State.dropsOnRead (s : State) (b slate : Nat) : Bool :=
  bitAt (s.slate slate).dorMask b && bitAt (s.reg (opxAddr R.OPX_BCTRL b)).toNat 0

/-- A bank takes a request of its engine. -/
def State.acceptRequest (s : State) (b slate gen block : Nat) : State :=
  let q : OpReq := { slate := slate, gen := gen, block := block, poison := s.answersPoisoned b slate gen block,
                     latency := if s.dropsOnRead b slate then 10 else 8, stalledSince := none, missed := none }
  (s.modBank b (fun k => { k with reqs := k.reqs ++ [q] })).tendStall b

/-- Does a bank accept requests: it runs no self-test, and its elastic queue holds fewer than three blocks (R34, R137)? -/
def Bank.accepts (k : Bank) : Bool := k.selftest.isNone && decide (k.elastic.length < 3)

/-- A bank accepts the requests that its engine has on offer, oldest first. -/
def State.acceptOffered (s : State) (b : Nat) : State :=
  let k := s.bank b
  if k.accepts then
    k.offered.foldl (fun (s : State) o => s.acceptRequest b o.1 o.2.1 o.2.2) (s.setBank b { k with offered := [] })
  else s

/-- An engine requests a block: the bank takes the request, or it waits at the port (R34, R137, R140). -/
def State.operandRequest (s : State) (b slate gen block : Nat) : State :=
  if (s.bank b).accepts ∧ (s.bank b).offered = [] then s.acceptRequest b slate gen block
  else s.modBank b (fun k => { k with offered := k.offered ++ [(slate, gen, block)] })

/-! ### A block leaves a bank (R29, R34, R136, R137) -/

/-- The format and book that a block of a slate is checked against: a working block has its stream's format and
book 0 (R157). -/
def State.blockForm (s : State) (i block : Nat) (img : List Byte) : Nat × Nat :=
  if block < 0x40000 then ((s.slate i).e.format, (s.slate i).e.bookId)
  else match s.jobOfSlate i with
    | some (_, j) => (s.stepFmt j (j.step - 1), 0)
    | none => ((parseHeader img).fmt, 0)

/-- The marks of an answer whose eight beats are all poisoned. -/
def allPoisoned : List Bool := List.replicate 8 true

/-- Beat k of a block: bytes 64k to 64k + 63 of each of the eight sub-streams (R29). -/
def beatOf (raw : List Byte) (k : Nat) : List Byte := (List.range 8).flatMap (fun j => (raw.drop (512 * j + 64 * k)).take 64)

/-- The eight beats of a block. What a poisoned beat holds is open (log entry 9). -/
def beatsOf (free : Nat) (poison : List Bool) (raw : List Byte) : List (List Byte) :=
  (List.range 8).map fun k => if poison.getD k false then fitTo 512 (Config.poisonBeat free k) else beatOf raw k

/-- The answer to a request. -/
def State.answerOf (s : State) (b : Nat) (q : OpReq) (poison : List Bool) (raw : List Byte) : Beats :=
  ⟨b, q.slate, q.gen, q.block, poison, beatsOf s.draws poison raw, q.latency⟩

/-- The first request of a bank is done with. -/
def State.popRequest (s : State) (b : Nat) : State := (s.modBank b (fun k => { k with reqs := k.reqs.drop 1 })).tendStall b

/-- The output of the first request's block enters the elastic queue (R34). -/
def State.queueBlock (s : State) (b : Nat) (q : OpReq) (poison : List Bool) (raw : List Byte) : State :=
  let x := s.answerOf b q poison raw
  (s.draw.modBank b (fun k => { k with elastic := k.elastic ++ [x], hwm := max k.hwm (k.elastic.length + 1) })).popRequest b

/-- Eight beats leave at the operand port. -/
def State.deliver (s : State) (b : Nat) (x : Beats) : State :=
  let s := s.bump (opxAddr R.OPX_BLOCKS b) 1
  (if x.poison.any id then s.bump (opxAddr R.OPX_POISON b) 1 else s).outBeats x

/-- The bank drives the blocks of its elastic queue in request order, and accepts what its engine has on offer (R32, R34). -/
def State.driveQueue (s : State) (b : Nat) : State :=
  ((s.bank b).elastic.foldl (fun (s : State) x => s.deliver b x) (s.modBank b (fun k => { k with elastic := [] }))).acceptOffered b

/-- The first request is answered without decoding, behind the blocks of the elastic queue (R417). -/
def State.answerPoisoned (s : State) (b : Nat) (q : OpReq) : State :=
  let s := s.driveQueue b
  (s.draw.popRequest b).deliver b (s.answerOf b { q with latency := 8 } allPoisoned [])

/-- A self-test of decoders starts, behind the blocks of the elastic queue; the bank accepts no request until it ends (R137,
R140). -/
def State.startSelftest (s : State) (b mask : Nat) : State :=
  (s.driveQueue b).modBank b (fun k => { k with selftest := some mask })

/-- The self-test ends: the decoders under test that failed are mapped out, lowest first. -/
def State.endSelftest (s : State) (b : Nat) (failing : List (Fin 17)) : State :=
  match (s.bank b).selftest with
  | none => s
  | some mask =>
    let bad := (List.range 17).filter (fun d => bitAt mask d && failing.any (fun f => f.val == d))
    (bad.foldl (fun s d => s.mapOutDecoder b d false) (s.modBank b (fun k => { k with selftest := none }))).acceptOffered b

/-- The DROP_ON_READ product of a raw block (R165, R166). -/
def State.dropBlock (s : State) (i block : Nat) (raw : List Byte) : List Byte :=
  let f := (s.slate i).e.format
  let (e0, e1) := blockElems f block
  packBlock f block ((List.range (e1 - e0)).map (fun n =>
    (s.dropKey i).apply (e0 + n) (elemAt f [(block, raw)] (e0 + n))))

/-- A block has failed a check at a bank: BLOCK_CHECK_FAIL with the page's error registers (R145, R409). -/
def State.bankFail (s : State) (b : Nat) (q : OpReq) (stage e f : Nat) : State :=
  let page := 0x0C + b / 12
  let p1 := w32 (q.block + 2 ^ 22 * stage + 2 ^ 25 * b)
  let s := s.logBlockFail 3 q.slate q.block stage b e f
  (s.pageError page p1 (s.slateWordOf q.slate).toNat).raise page (2 ^ (16 + b % 12))

/-- What follows a failed check: a fresh fill of the block after HEADER or PAYLOAD, the self-test of the decoders that
decoded it after RAW (R33, R137). -/
def State.afterFail (s : State) (b : Nat) (q : OpReq) (stage used : Nat) : State :=
  if stage = 2 then s.startSelftest b (mapMinus used (s.bank b).failed)
  else
    let s := s.modBank b (fun k => { k with lbuf := del k.lbuf (lbufKey q.slate q.block) })
    if s.mayStart (s.slate q.slate).tenant then
      s.startFill q.slate [(b, q.block)] (s.stepTime (s.slate q.slate).tenant) (match s.jobOfSlate q.slate with | some (_, j) => j.step - 1 | none => 0)
    else s

/-- The first request of a bank whose block is at hand is decoded and checked. seen: the image as the bank reads it, where that
differs from what the local buffer holds; used: the decoders that decode it; drive: the port is free. Beats leave before the
verdict only on a free port with no block ahead in the elastic queue; how many have left when a check fails is a free number
(log entry 9), and those that have not are poisoned (R34, R136). -/
def State.expandBlock (s : State) (b : Nat) (q : OpReq) (img : List Byte) (seen : Option (List Byte)) (used : Nat)
    (drive : Bool) : State :=
  let len := img.length / 32
  let img := seen.getD img
  let h := parseHeader img
  let form := s.blockForm q.slate q.block img
  if 3 ≤ h.mode ∧ h.mode ≤ 5 ∧ !(s.bank b).cache.contains form.2 then
    if q.missed = some form.2 ∧ s.books.misses.any (fun m => m.1 == b && m.2.1 == form.2) then s else s.missBook b form.2
  else
    let s := if 3 ≤ h.mode ∧ h.mode ≤ 5 then s.useBook b form.2 else s
    match checkBlock form.1 form.2 (s.bookOf form.2) ⟨q.slate, q.gen, q.block⟩ len img with
    | .good raw =>
      s.queueBlock b q (List.replicate 8 false) (if s.dropsOnRead b q.slate then s.dropBlock q.slate q.block raw else raw)
    | .bad st e f =>
      let driven := if drive && (s.bank b).elastic.isEmpty then (Config.unstated s.draws).toNat % 8 else 0
      let s := s.queueBlock b q ((List.range 8).map (fun k => decide (driven ≤ k))) (expand (s.bookOf form.2) img)
      (s.bankFail b q st e f).afterFail b q st used

/-- The bank's first request, if its block is at hand or is not waited for: decoded while the elastic queue has room for a
block (R34), or answered poisoned as soon as the port is free (R417). -/
def State.expandFirst (s : State) (b : Nat) (seen : Option (List Byte)) (used : Nat) (drive : Bool) : State :=
  let k := s.bank b
  match k.reqs with
  | [] => s
  | q :: _ =>
    if q.poison || s.answersPoisoned b q.slate q.gen q.block then (if drive then s.answerPoisoned b q else s)
    else match look k.lbuf (lbufKey q.slate q.block) with
      | some (g, img) =>
        if g = q.gen ∧ k.elastic.length < 4 then s.expandBlock b q img seen used drive else s.tendStall b
      | none => s.tendStall b

/-- BLOCK_EXPANDED: the bank answers its first request, and drives what its elastic queue holds if the port is free. -/
def State.blockExpanded (s : State) (b : Nat) (seen : Option (List Byte)) (used : Nat) (drive : Bool) : State :=
  if (s.bank b).selftest.isSome then s
  else
    let s := s.expandFirst b seen used drive
    if drive then s.driveQueue b else s

/-- Every request of a slate that still waits for a block is answered poisoned: its hard limit has passed (R33). -/
def State.poisonWaiting (s : State) (i : Nat) : State :=
  s.banks.foldl (fun (s : State) p => (s.modBank p.1 (fun k => { k with reqs := k.reqs.map (fun q =>
    if q.slate = i ∧ k.waits q then { q with poison := true } else q) })).tendStall p.1) s

/-! ### Engines (R64, R133, R315) -/

/-- The reset of an engine: its tap's block and its bank's requests are discarded, and the OPEN slates that name
its tap as a writer turn TORN. -/
def State.engineReset (s : State) (e : Nat) : State :=
  let s := ((s.setTap e none).setOffers e []).modBank e (fun k => { k with reqs := [], elastic := [], offered := [] })
  ((s.liveSlates.filter (fun i => (s.slate i).state == .opened && bitAt (s.slate i).writerMask e)).foldl
    (fun s i => s.tear i 0) s).tendJobs

/-! ### A stitcher lane commits (R113, R114, R132, R133, R158, R204) -/

/-- The lane's block is done with. -/
def State.popLane (s : State) (lane : Nat) : State := s.setLaneJobs lane ((s.laneJobs lane).drop 1)

/-- The lane's block finds no vault unit and waits, with what its verify decoder found (R114, R204). -/
def State.holdLane (s : State) (lane : Nat) (j : LaneJob) (fails : Option Word) : State :=
  s.setLaneJobs lane ({ j with waitsSince := some (j.waitsSince.getD s.now), found := fails } :: (s.laneJobs lane).drop 1)

/-- What the verify decoder of a lane has found of a block: that of the first try, where the block waits for space. -/
def LaneJob.verdict (j : LaneJob) (verify : Option Word) : Option Word := if j.waitsSince.isSome then j.found else verify

/-- A forward block: coded, verified, committed. -/
def State.commitOpen (s : State) (lane : Nat) (j : LaneJob) (verify : Option Word) : State :=
  let t := (s.slate j.slate).tenant
  let c := s.codeForward j.slate j.block j.data
  let raw := crc32c j.data
  let fails := s.verifyFails t c raw (j.verdict verify)
  let c := if fails.isSome then rawBlock (s.slate j.slate).e.format ⟨j.slate, j.gen, j.block⟩ j.data else c
  match s.commitForward j.slate j.block j.data c with
  | none => s.holdLane lane j fails
  | some s =>
    let s := (s.popLane lane).countStall j.waitsSince
    match fails with
    | some v => s.verifyMismatch lane j.slate j.block raw v
    | none => s

/-- An output block of an engine step: coded by the stitcher and committed for the job. -/
def State.commitEngine (s : State) (lane : Nat) (j : LaneJob) (slot : Nat) (job : Job) (k b : Nat) (verify : Option Word) :
    State :=
  let c := s.codeOutput job k b j.data
  let raw := crc32c j.data
  let fails := s.verifyFails job.tenant c raw (j.verdict verify)
  let c := if fails.isSome then
      rawBlock (s.stepFmt job k) ⟨j.slate, j.gen, if k = s.lastStep job then b else 0x40000 + b⟩ j.data else c
  match s.commitOutput slot job k b j.data c 15 with
  | none => s.holdLane lane j fails
  | some s =>
    let s := (s.popLane lane).countStall j.waitsSince
    match fails with
    | some v => s.verifyMismatch lane j.slate j.block raw v
    | none => s

/-- A lane finishes its block; a block whose slate has moved on is discarded (R68, R133). -/
def State.blockCommit (s : State) (lane : Nat) (verify : Option Word) : State :=
  match s.laneJobs lane with
  | [] => s
  | j :: _ =>
    let r := s.slate j.slate
    let s := if r.gen ≠ j.gen then (s.popLane lane).countStall j.waitsSince
      else if r.state = .opened then s.commitOpen lane j verify
      else match (if r.state = .reshooting then s.jobOfSlate j.slate else none) with
        | none => (s.popLane lane).countStall j.waitsSince
        | some (slot, job) => match s.engineOutput job j.block with
          | none => (s.popLane lane).countStall j.waitsSince
          | some (k, b) => s.commitEngine lane j slot job k b verify
    s.admitTaps.drain

/-! ### Page CBK (R128 to R131) -/

/-- The 128 bytes of the staging window. -/
def State.bookWindow (s : State) : List Byte :=
  (List.range 32).flatMap (fun n => leBytes (s.reg (R.CBK_WIN + 4 * n)).toNat 4)

/-- The selected book. -/
def State.bookSel (s : State) : Nat := fld (s.reg R.CBK_SEL).toNat 0 12

/-- A load or invalidate ends with a result. -/
def State.bookResult (s : State) (r : Nat) : State := ({ s with books := { s.books with result := r } }).raise 0x0B 1

/-- Remove a book from every bank's cache (R130). -/
def State.dropCached (s : State) (b : Nat) : State :=
  { s with banks := s.banks.map (fun (p : Nat × Bank) => (p.1, { p.2 with cache := p.2.cache.filter (· != b) })) }

/-- CBK_CTRL.load (R128 to R130). -/
def State.bookLoad (s : State) : State :=
  let b := s.bookSel
  let w := s.bookWindow
  if b = 0 then s.bookResult 3
  else if s.bookNamed b then s.bookResult 1
  else if !bookValid w then s.bookResult 2
  else (({ s with books := { s.books with store := put s.books.store b w } }).dropCached b).bookResult 0

/-- CBK_CTRL.invalidate. -/
def State.bookInvalidate (s : State) : State :=
  let b := s.bookSel
  if b = 0 then s.bookResult 3
  else if s.bookNamed b then s.bookResult 1
  else (({ s with books := { s.books with store := del s.books.store b } }).dropCached b).bookResult 0

end Sys2Proof.Machine
end

