-- ==== Sys2Proof/Machine/Channels.lean ====
section
/-! DEFINITION. Channels and limits: pool channels and the deadline queue (R180, R183), promotion and starts (R184 to
R191), stop, abort and restart (R194), timeouts (R195), and the margins of a slate (R198, R309). -/

namespace Sys2Proof.Machine

/-! ### Doorbells (R284) -/

/-- A write into the doorbell window, at an offset and with a size in bytes. -/
def State.doorbell (s : State) (offset size : Nat) (v : Word) : State :=
  if size ≠ 4 ∨ offset % 4 ≠ 0 then s.bump R.EYE_DB_DROPS 1
  else s.applySignal { target := decide (0x4000 ≤ offset), eye := offset % 0x4000 / 4, add := v }

/-! ### Transactions (R175, R195) -/

/-- The doorbell that a flag write into the window rings when it completes (R284). -/
def State.ringFlag (s : State) (t : Txn) : State :=
  match t.addr with
  | some a => if t.flag && s.inDoorbells a then s.doorbell (a - s.die.dbBase) 4 (w32 (leNat t.data)) else s
  | none => s

/-- TRANSACTION_RESPONSE of an access that is no peer operation: those are answered on the peer port (R308). -/
def State.txnResponse (s : State) (n : Nat) (fail : Option Cause) (corrected : Nat) : State :=
  match look s.movers.txns n with
  | some t =>
    if t.seq.isSome then s
    else ((if fail.isNone then s.ringFlag t else s).respond n fail [] corrected).drain
  | none => s

/-- No response within 20 µs (R195); peer operations have their own resend rules instead (R308). -/
def State.txnTimeout (s : State) (n : Nat) : State :=
  match look s.movers.txns n with
  | none => s
  | some t => if t.seq.isSome then s else ((s.advanceTo (t.issuedAt + us 20)).respond n (some .timeout) [] 0).drain

/-! ### The pool (R180, R183) -/

/-- Pool channels that can take a transfer, ascending. -/
def State.idlePool (s : State) : List Nat :=
  (List.range 64).filter (fun c => let h := s.chan c; h.inPool && h.state == .idle && h.transfer.isNone)

/-- The lowest idle pool channel takes the head of the deadline queue (R180). -/
def State.takeTransfer (s : State) : State :=
  match s.idlePool, s.headTransfer with
  | c :: _, some (id, _) => s.modChan c (fun h => { h with transfer := some id, state := .busy, started := true, retries := [] })
  | _, _ => s

/-- A write of SPB_POOL (R183): ignored when it would leave fewer than 8 pool channels. A channel changes group
when the transfer it serves has ended. -/
def State.writePool (s : State) (v : Nat) : State :=
  if popBits v 64 < 8 then s
  else
    (List.range 64).foldl (fun (s : State) c =>
      let h := s.chan c
      if h.inPool = bitAt v c ∨ h.state ≠ .idle then s else s.joinGroup c)
      (s.setReg64 R.SPB_POOL 0 v)

/-! ### Arming and control (R184 to R186, R194) -/

/-- A wrap value that R200 reserves. -/
def wrapReserved (k : Nat) : Bool := k != 0 && (decide (k < 12) || decide (30 < k))

/-- A shadow set that R186 refuses. -/
def ChanRegs.bad (r : ChanRegs) (c : Nat) : Bool :=
  r.granules == 0 || wrapReserved r.srcWrap || wrapReserved r.dstWrap
    || (r.srcWrap != 0 && decide (2 ^ r.srcWrap < 32 * r.granules))
    || (r.dstWrap != 0 && decide (2 ^ r.dstWrap < 32 * r.granules))
    || (fld r.cfg.toNat 0 2 == 2 && fld r.cfg.toNat 2 6 == c)
    || (fld r.cfg.toNat 0 2 == 1 && fld r.pace.toNat 0 16 == 0)
    || (bitAt r.cfg.toNat 23 && r.flagAddr.toNat % 4 != 0)

/-- SPL_CTRL.arm (R184 to R186). -/
def State.armChannel (s : State) (c : Nat) : State :=
  let h := s.chan c
  if h.inPool || h.shadow.bad c then s.modChan c (fun h => { h with badCfg := true, shadowValid := false })
  else s.modChan c (fun h => { h with shadowValid := true })

/-- A transfer as it resumes: what is not acknowledged is read and written again, from SPL_DONE on for a director
transfer, from the unit that is not complete for a slate transfer (log entry 18). -/
def State.rewound (s : State) (x : Transfer) : Transfer :=
  let x := { x with staged := [], stagedAt := [], runTo := 0, readTo := 0, acked := [] }
  if x.kind = .director then { x with rdNext := x.done, wrNext := x.done }
  else
    let us := s.units x
    let g := match unitAt us x.done with | some u => u.first | none => x.done
    let rd := if x.kind = .prop then 128 * (us.filter (fun u => decide (u.first < g))).length else g
    { x with rdNext := rd, wrNext := g, done := g }

/-- Rewind a transfer; its transactions in flight run on, ignored. -/
def State.rewind (s : State) (id : Nat) : State :=
  match s.transfer id with
  | none => s
  | some x => (s.abortTxns id (fun _ => true)).setTransfer id (s.rewound x)

/-- A pool channel gives its transfer back to the deadline queue. -/
def State.requeue (s : State) (c : Nat) : State :=
  match (s.chan c).transfer with
  | none => s
  | some id => (s.rewind id).modChan c (fun h => { h with transfer := none })

/-- SPL_CTRL.stop: IDLE, with active set, SPL_DONE and shadow set kept. A halt is not ended by it. -/
def State.stopChannel (s : State) (c : Nat) : State :=
  let h := s.chan c
  if h.state = .idle ∨ h.state = .halted then s
  else
    let s := if h.inPool then s.requeue c else s
    (s.modChan c (fun h => { h with state := .idle, started := false, retries := [] })).settle c

/-- SPL_CTRL.abort: as stop, and the active set is discarded; a halt is cleared. -/
def State.abortChannel (s : State) (c : Nat) : State :=
  let h := s.chan c
  let s := if h.inPool then s.requeue c
    else match h.transfer with
      | some id => (s.abortTxns id (fun _ => true)).dropTransfer id
      | none => s
  (s.modChan c (fun h => { h with state := .idle, started := false, retries := [], transfer := none,
                                  active := if h.inPool then h.active else ChanRegs.zero })).settle c

/-- SPL_CTRL.restart: only on a HALTED channel. -/
def State.restartChannel (s : State) (c : Nat) : State :=
  let h := s.chan c
  if h.state ≠ .halted then s
  else if h.inPool then
    (s.modChan c (fun h => { h with state := .idle, started := false, transfer := none, retries := [] })).settle c
  else match h.transfer with
    | some id => (s.rewind id).modChan c (fun h => { h with state := .busy, started := true, retries := [] })
    | none => s.modChan c (fun h => { h with state := .idle, started := false })

/-- The first period boundary of a timer start, one period after promotion (R190). -/
def State.timerStart (s : State) (c : Nat) : State :=
  let h := s.chan c
  if h.state = .wait ∧ fld h.active.cfg.toNat 0 2 = 1 then (s.advanceTo h.startAt).modChan c Chan.start else s

/-- A new pacing period with a fresh quantum (R191). -/
def State.newPeriod (s : State) (c : Nat) : State :=
  let h := s.chan c
  let period := fld h.active.pace.toNat 0 16
  if h.inPool ∨ period = 0 ∨ h.transfer.isNone then s
  else (s.advanceTo (h.periodAt + period)).modChan c (fun h => { h with periodAt := h.periodAt + period, used := 0 })

/-! ### Margins (R198, R248, R309) -/

/-- The soft margin of an entry's slate passes: one that is not READY is logged, once. -/
def State.slateLate (s : State) (t ei : Nat) : State :=
  match s.slateOfEntry t ei with
  | none => s
  | some i =>
    let r := s.slate i
    let s := s.advanceTo (s.frameAt t r.e.callFrame + (s.frozen t).softLate)
    if r.state = .ready ∨ r.state = .inUse ∨ r.state = .lost ∨ r.softLogged then s
    else
      let p := if r.decided then r.decP else s.unstatedWord.toNat
      let s := (s.draw.modSlate i (fun r => { r with softLogged := true })).noteSlate i (fun x => { x with soft := true })
      s.log 0x0302 0 [s.slateWordOf i, w32 r.e.tag, w32 (r.e.callFrame + 2 ^ 24 * r.state.num), w32 (fld p 0 24)]

/-- The hard limit ends one transfer of a slate; a MOVE is only cancelled, and its slate keeps its state. -/
def State.hardOne (s : State) (id : Nat) : State :=
  match s.transfer id with
  | none => s
  | some x => if x.kind = .move then (s.bump R.SPB_CANCELS 1).cancelTransfer id else s.hardEnd id

/-- The hard limit of an entry passes (R33, R198, R248). -/
def State.hardLimit (s : State) (t ei : Nat) : State :=
  match s.entryAt t ei with
  | none => s
  | some e =>
    if !(s.tenant t).stepOpen then s
    else
      let s : State := s.advanceTo (s.frameAt t e.callFrame + (s.frozen t).hardLate)
      let s : State := match s.slateOfEntry t ei with
        | none => s
        | some i =>
          if (s.slate i).pastHard then s
          else
            let ids := (s.transfersOf i).map (·.1)
            let late := !((s.slate i).state == .ready || (s.slate i).state == .inUse)
            let s := (s.modSlate i (fun r => { r with pastHard := true })).poisonWaiting i
            let s := if late then s.noteSlate i (fun x => { x with hard := true }) else s
            ids.foldl (fun (s : State) id => s.hardOne id) s
      if (s.tenant t).gathersWaiting.any (fun g => g.entry == ei) then (s.logGatherLost t ei 8).drain else s.drain

/-! ### Space (R103, R208, R209, R215) -/

/-- A writer that waits for vault space: a retake lane, or a channel whose transfer places blocks. -/
inductive SpaceWaiter where
  | lane (lane : Nat)
  | chan (c id : Nat) (x : Transfer)
  | stitch (lane : Nat)
  deriving DecidableEq, Repr

/-- Insert by deadline, then slate (R100). -/
def insertWaiter (p : (Nat × Nat) × SpaceWaiter) : List ((Nat × Nat) × SpaceWaiter) → List ((Nat × Nat) × SpaceWaiter)
  | [] => [p]
  | q :: r => if decide (p.1.1 < q.1.1) || (p.1.1 == q.1.1 && decide (p.1.2 ≤ q.1.2)) then p :: q :: r else q :: insertWaiter p r

/-- The writers that wait, in deadline order; stitcher lanes, which have no deadline, come first. -/
def State.spaceWaiters (s : State) : List SpaceWaiter :=
  let lanes := s.retake.work.filterMap (fun w => (s.job w.2.slot).map (fun j => ((j.deadline, j.slate), SpaceWaiter.lane w.1)))
  let chans := (s.issueOrder true).filterMap (fun q =>
    if q.2.2.kind = .ret ∨ q.2.2.kind = .prop then some ((q.2.2.deadline, q.2.2.slate), SpaceWaiter.chan q.1 q.2.1 q.2.2) else none)
  let held := (List.range 8).filter (fun l => match s.laneJobs l with | j :: _ => j.waitsSince.isSome | [] => false)
  held.map SpaceWaiter.stitch ++ ((lanes ++ chans).foldr insertWaiter []).map (·.2)

/-- Let one writer try again. -/
def State.retrySpace (s : State) (w : SpaceWaiter) : State :=
  match w with
  | .lane l => s.laneOutput l
  | .stitch l => s.blockCommit l none
  | .chan c id x => s.issueWrite [(c, id, x)]

/-- VAULT_SPACE_RETRY (R103). -/
def State.vaultRetry (s : State) : State := (s.spaceWaiters.foldl State.retrySpace s).drain

/-- Transfers that wait for a tier extent, by number. -/
def State.unallocated (s : State) : List (Nat × Transfer) :=
  s.movers.transfers.filter (fun p => (p.2.kind == .out || p.2.kind == .move) && !p.2.allocated)

/-- Retry the allocations in the order of R100; each try takes one transfer off the list. -/
def State.retryAllocs (s : State) : Nat → List (Nat × Transfer) → State
  | 0, _ => s
  | f + 1, l =>
    match firstTransfer l with
    | none => s
    | some (id, x) =>
      let s : State := match s.allocTier x.slate x.tier with
        | none => s
        | some (s, a) =>
          let s := s.setTransfer id { x with dst := a, allocated := true }
          if x.kind = .out then s.modSlate x.slate (fun r => { r with extentBase := a }) else s
      s.retryAllocs f (l.filter (fun p => p.1 != id))

/-- TIER_ALLOC_RETRY (R208). -/
def State.allocRetry (s : State) : State := s.retryAllocs s.unallocated.length s.unallocated

/-- The die cache has acknowledged its last discard: the units of a released extent return to the pool (R209), and its slate's
record drops the address (R60). -/
def State.lastUseAck (s : State) (tier base : Nat) : State :=
  let gone := s.tiers.extents.filter (fun x => x.lastUse && x.tier == tier && x.base == base)
  gone.foldl (fun (s : State) x =>
    if (s.slate x.slate).gen = x.gen ∧ (s.slate x.slate).extentBase = base then s.modSlate x.slate (fun r => { r with extentBase := 0 })
    else s) (s.keepExtents (fun x => !(x.lastUse && x.tier == tier && x.base == base)))

/-- A MOVE that has waited 1 ms for its extent counts as kind LOST (R215). -/
def State.moveTimeout (s : State) (i : Nat) : State :=
  match (s.transfersOf i).find? (fun p => p.2.kind == .move && !p.2.allocated) with
  | none => s
  | some (id, x) => ((s.advanceTo (x.allocAt + us 1000)).endTransfer id 2).drain

end Sys2Proof.Machine
end

