-- ==== Sys2Proof/Machine/HostTier.lean ====
section
/-! DEFINITION. Tiers at work: retired rows and shelves (R205, R215, R216), host detachment and attachment (R225 to
R229), and the region table (R220, R221, R230). -/

namespace Sys2Proof.Machine

/-! ### Retired units (R215, R216) -/

/-- The slates whose tier extent covers a unit, ascending. -/
def State.coverers (s : State) (u : Nat) : List Nat :=
  ((s.tiers.extents.filter (fun x => x.tier != 4 && !x.lastUse && runsMeet x.base (4096 * x.units) u 4096)).map
    (·.slate)).foldr (fun i l => if l.contains i then l else insertNat i l) []

/-- Does the copy that a PARKED slate rests on cover a unit? The target of a MOVE is not yet that copy (R215). -/
def State.restsOn (s : State) (i u : Nat) : Bool :=
  let r := s.slate i
  r.state == .parked && s.tiers.extents.any (fun x => x.slate == i && x.tier == r.tier && x.base == r.extentBase && !x.lastUse
    && runsMeet x.base (4096 * x.units) u 4096)

/-- ROW_RETIRED (R216, R409). -/
def State.logRetired (s : State) (kind tier a : Nat) (slates : List Nat) : State :=
  let p0 := w32 (kind + 2 ^ 2 * tier + 2 ^ 8 * min 255 slates.length)
  ((s.log 0x0801 11 [p0, w32 a, w32 (a / 2 ^ 32), w32 ((slates.foldl optMin none).getD 0xFFFF)]).pageError 0x08 p0 a).raise 0x08 4

/-- Put a unit on a list once. -/
def addOnce (u : Nat) (l : List Nat) : List Nat := if l.contains u then l else l ++ [u]

/-- Move the PARKED slates that cover a unit to new extents (R215). -/
def State.evacuate (s : State) (u : Nat) : State :=
  (s.coverers u).foldl (fun s i =>
    let r := s.slate i
    if r.state = .parked ∧ s.mayStart r.tenant ∧ (s.transferKind i .move).isNone then s.startMove i (s.stepTime r.tenant) else s) s

/-- A notice of kind EVACUATE or EXCLUDE. -/
def State.retireUnit (s : State) (a : Nat) (exclude : Bool) : State :=
  let u := a / 4096 * 4096
  let s := s.bump R.TIER_RETIRE 1
  let s := { s with tiers := { s.tiers with
    repairing := if exclude then s.tiers.repairing else addOnce u s.tiers.repairing
    excluded := if exclude then addOnce u s.tiers.excluded else s.tiers.excluded
    notices := addOnce u s.tiers.notices } }
  let hit := s.coverers u
  let s := (s.evacuate u).ackNotices
  s.logRetired (if exclude then 2 else 0) (s.tierOf u) u hit

/-- A notice of kind LOST: the unit's data is gone. -/
def State.loseUnit (s : State) (a : Nat) : State :=
  let u := a / 4096 * 4096
  let s := s.bump R.TIER_RETIRE 1
  let s := { s with tiers := { s.tiers with repairing := addOnce u s.tiers.repairing, lost := addOnce u s.tiers.lost } }
  let hit := s.coverers u
  let s := hit.foldl (fun s i => if s.restsOn i u then s.recoverOrLose i 2 .dropped else s) s
  (s.logRetired 1 (s.tierOf u) u hit).tendJobs

/-- The controller has repaired a unit: it returns to allocation. -/
def State.repairDone (s : State) (a : Nat) : State :=
  let u := a / 4096 * 4096
  { s with tiers := { s.tiers with repairing := s.tiers.repairing.filter (· != u), lost := s.tiers.lost.filter (· != u) } }

/-! ### Retired shelves (R205, R106) -/

/-- Slates with a unit in a shelf, ascending. -/
def State.onShelfSlates (s : State) (sh : Nat) : List Nat :=
  (s.vault.extents.filter (fun p => decide (0 < p.2.onShelf sh))).map (·.1)

/-- The tenant that holds a shelf. -/
def State.shelfHolder (s : State) (sh : Nat) : Option Nat := (List.range 8).find? (fun t => bitAt (s.shelfMap t) sh)

/-- An uncorrectable vault error retires a shelf. -/
def State.retireShelf (s : State) (sh : Nat) : State :=
  if bitAt s.vault.retired sh then s
  else
    let holder := s.shelfHolder sh
    let hit := s.onShelfSlates sh
    let s := { s with vault := { s.vault with retired := setBit s.vault.retired sh true } }
    let s := match holder with
      | some t => s.modTenant t (fun x => { x with capLoss := x.capLoss + 32768 })
      | none => s
    let s := hit.foldl (fun s i => if (s.slate i).state = .kept then s.recoverOrLose i 2 .dropped else s) s
    let s := ((s.logRetired 3 0 sh hit).pageError 0x09 (w32 sh) 0).raise 0x09 1
    (match holder with
      | some t => if (s.tenant t).stepOpen then s.recut t (s.tenant t).frame else s
      | none => s).tendJobs

/-! ### The host tier (R225 to R229) -/

/-- The runs of bytes that one side of a director transfer covers: a circular side covers parts of its ring (R187). -/
def sideRuns (addr k bytes : Nat) : List (Nat × Nat) :=
  if k = 0 then [(addr, bytes)]
  else
    let base := addr / 2 ^ k * 2 ^ k
    let first := min bytes (2 ^ k - addr % 2 ^ k)
    [(addr, first), (base, min (bytes - first) (2 ^ k))]

/-- The runs that a channel's director transfer reads and those that it writes: of the transfer that it serves, else of its
active set. -/
def State.directorRuns (s : State) (h : Chan) : List (Nat × Nat) :=
  let a := h.active
  let (src, dst) := match h.transfer.bind s.transfer with
    | some x => (x.src, x.dst)
    | none => (a.src.toNat, a.dst.toNat)
  sideRuns src a.srcWrap (32 * a.granules) ++ sideRuns dst a.dstWrap (32 * a.granules)
    ++ (if bitAt a.cfg.toNat 23 then [(a.flagAddr.toNat, 4)] else [])

/-- Does a director transfer of a channel read, write or flag host memory? -/
def State.touchesHost (s : State) (c : Nat) : Bool :=
  (s.directorRuns (s.chan c)).any (fun q => s.die.map.any (fun r => r.tier == 3 && runsMeet q.1 q.2 r.base r.size))

/-- Halt a director channel with cause LINK and without retry (R226, R317). -/
def State.linkHalt (s : State) (c : Nat) : State :=
  match (s.chan c).transfer with
  | none => s
  | some id => match s.transfer id with
    | none => s
    | some x =>
      let w := x.total ≤ x.rdNext
      s.haltChannel c x w false (if w then x.done else x.rdNext) 0 .link

/-- What a detachment does to the slate at one index, with the numbers of slates dropped and made LOST and of
transfers ended (R226 steps 2 and 3). -/
def State.detachSlate (p : State × Nat × Nat × Nat) (i : Nat) : State × Nat × Nat × Nat :=
  let (s, dropped, lost, ended) := p
  let r := s.slate i
  if r.state = .parked ∧ r.tier = 3 then
    let s := s.recoverOrLose i 3 .dropped
    if (s.slate i).state = .lost then (s, dropped, lost + 1, ended) else (s, dropped + 1, lost, ended)
  else
    let go := (s.transfersOf i).filter (fun q => (q.2.kind == .out || q.2.kind == .ret) && q.2.tier == 3)
    let s := go.foldl (fun (s : State) q => s.endTransfer q.1 3) s
    (s, dropped, lost + b2n ((s.slate i).state == .lost && r.state != .lost), ended + go.length)

/-- The host tier detaches (R226). -/
def State.detachHost (s : State) (cause : Nat) : State :=
  if s.tiers.host ≠ .attached then s
  else
    let s := { s with tiers := { s.tiers with host := .detached, detachedAt := s.now } }
    let s := (List.range 8).foldl (fun (s : State) t => s.modTenant t (fun x => { x with enHost := false })) s
    let r := s.liveSlates.foldl State.detachSlate (s, 0, 0, 0)
    let s := r.1
    let s := (s.movers.chans.map (·.1)).foldl (fun (s : State) c =>
      if (s.chan c).state = .busy ∧ !(s.chan c).inPool ∧ s.touchesHost c then s.linkHalt c else s) s
    let s := s.keepExtents (fun x => x.tier != 3)
    ((s.log 0x0802 11 [w32 cause, w32 r.2.1, w32 r.2.2.1, w32 r.2.2.2]).raise 0x08 1).tendJobs.drain

/-- TIER_HOST.attach: the held STEP_BEGINs complete in ascending tenant order (R229). -/
def State.attachHost (s : State) : State :=
  if s.tiers.host = .attached then s
  else
    let held := (List.range 8).filter (fun t => (s.tenant t).held.isSome)
    let us_ := min 0xFFFFFFFF ((s.now - s.tiers.detachedAt) / 100)
    let s := { s with tiers := { s.tiers with host := .attached } }
    let s := (s.log 0x0803 11 [w32 us_, w32 (sumNat (held.map (2 ^ ·))), 0#32, 0#32]).raise 0x08 2
    held.foldl (fun s t => match (s.tenant t).held with
      | none => s
      | some c => (s.modTenant t (fun x => { x with held := none })).beginStep c) s

/-- A write of TIER_HOST (R229, R230). -/
def State.writeHost (s : State) (v : Nat) : State :=
  if bitAt v 0 ∧ bitAt v 1 then s
  else if bitAt v 0 then s.detachHost 0
  else if bitAt v 1 then s.attachHost
  else s

/-- TIER_HB_LIMIT µs have passed without a write of TIER_HB. -/
def State.heartbeatLost (s : State) : State :=
  let limit := fld (s.reg R.TIER_HB_LIMIT).toNat 0 24
  if limit = 0 ∨ s.tiers.host ≠ .attached then s else (s.advanceTo (s.tiers.hbAt + us limit)).detachHost 1

/-! ### The region table (R220, R221, R230) -/

/-- The selected entry. -/
def State.regionSel (s : State) : Nat := fld (s.reg R.TIER_RGN_SEL).toNat 0 6

/-- An empty entry. -/
def Region.none : Region := { base := 0, len := 0, tenant := 0, kind := 0, loc := 0, poolTier := 0, partner := 0 }

/-- The staging registers as an entry. -/
def State.stagedRegion (s : State) : Region :=
  let c := (s.reg R.TIER_RGN_CFG).toNat
  { base := s.reg64 R.TIER_RGN_BASE 0, len := s.reg64 R.TIER_RGN_BYTES 0, tenant := fld c 0 3, kind := fld c 4 3,
    loc := fld c 8 2, poolTier := fld c 12 3, partner := fld c 16 8 }

/-- TIER_RGN_CFG of an entry. -/
def Region.cfg (r : Region) : Nat :=
  r.tenant + 2 ^ 4 * r.kind + 2 ^ 8 * r.loc + 2 ^ 12 * r.poolTier + 2 ^ 16 * r.partner

/-- A write of TIER_RGN_SEL loads the selected entry into the staging registers. -/
def State.selectRegion (s : State) (e : Nat) : State :=
  let r := (look s.tiers.regions e).getD Region.none
  (((s.setReg R.TIER_RGN_SEL (w32 e)).setReg64 R.TIER_RGN_BASE 0 r.base).setReg64 R.TIER_RGN_BYTES 0 r.len).setReg
    R.TIER_RGN_CFG (w32 r.cfg)

/-- The conditions of BAD. -/
def State.regionBad (s : State) (e : Nat) (r : Region) : Bool :=
  r.base % 4096 != 0 || r.len % 4096 != 0 || r.len == 0 || decide (6 ≤ r.kind)
    || (r.loc == 0 && !(r.kind == 2 && r.poolTier == 4))
    || (r.loc != 0 && !s.die.map.any (fun m => m.tier == r.loc && decide (m.base ≤ r.base)
          && decide (r.base + r.len ≤ m.base + m.size)))
    || (r.kind == 2 && (r.poolTier == 0 || decide (5 ≤ r.poolTier)
          || (decide (r.poolTier ≤ 3) && r.loc != r.poolTier) || (r.poolTier == 4 && r.loc != 0)
          || s.tiers.regions.any (fun p => p.1 != e && p.2.kind == 2 && p.2.tenant == r.tenant && p.2.poolTier == r.poolTier)))
    || (r.kind != 2 && r.poolTier != 0) || (r.kind != 5 && r.partner != 0)

/-- A channel whose director transfer is active in an entry. -/
def State.channelUses (s : State) (g : Region) (p : Nat × Chan) : Bool :=
  !p.2.inPool && p.2.state != .idle && p.2.active.tenant == g.tenant && (g.kind == 3 || g.kind == 4)
    && (s.directorRuns p.2).any (fun q => runsMeet q.1 q.2 g.base g.len)

/-- An entry in use (R221). -/
def State.regionBusy (s : State) (e : Nat) : Bool :=
  match look s.tiers.regions e with
  | none => false
  | some g =>
    (List.range 8).any (fun t => match (s.tenant t).sheet with | some x => x.inUse.contains e | none => false)
      || s.retake.scripts.any (fun p => p.2.region == some e)
      || (g.kind == 2 && s.tiers.extents.any (fun x => x.tenant == g.tenant && x.tier == g.poolTier))
      || s.movers.chans.any (s.channelUses g)

/-- An entry that overlaps another in a way R221 forbids. -/
def State.regionOverlap (s : State) (e : Nat) (r : Region) : Bool :=
  let off (x : Region) : Bool := x.kind == 2 && x.poolTier == 4
  s.tiers.regions.any (fun p =>
    let o := p.2
    p.1 != e && (off o == off r) && runsMeet r.base r.len o.base o.len
      && (o.tenant != r.tenant || o.kind == 2 || o.kind == 5 || r.kind == 2 || r.kind == 5))

/-- The result of the last commit or empty. -/
def State.regionResult (s : State) (n : Nat) : State := { s with tiers := { s.tiers with rgnResult := n } }

/-- TIER_RGN_CTRL.commit. A staged entry of kind NONE empties the entry. -/
def State.commitRegion (s : State) : State :=
  let e := s.regionSel
  let r := s.stagedRegion
  if s.regionBad e r then (s.regionResult 3).raise 0x08 8
  else if s.regionBusy e then (s.regionResult 1).raise 0x08 8
  else if r.kind ≠ 0 ∧ s.regionOverlap e r then (s.regionResult 2).raise 0x08 8
  else
    let rs := if r.kind = 0 then del s.tiers.regions e else put s.tiers.regions e r
    { s with tiers := { s.tiers with regions := rs, rgnResult := 0 } }

/-- TIER_RGN_CTRL.empty. -/
def State.emptyRegion (s : State) : State :=
  let e := s.regionSel
  if s.regionBusy e then s.regionResult 1
  else { s with tiers := { s.tiers with regions := del s.tiers.regions e, rgnResult := 0 } }

end Sys2Proof.Machine
end

