-- ==== Sys2Proof/Machine/Norm.lean ====
section
/-! DEFINITION. Global norm (R236 to R239, R265): the partial of an instance, the leader's sums, the result record,
and the polls of a round. -/

namespace Sys2Proof.Machine

/-! ### Square roots -/

/-- The bits of the whole square root of n from bit k - 1 down, added to r. -/
def sqrtBits (n : Nat) : Nat → Nat → Nat
  | 0, r => r
  | k + 1, r => let q := r + 2 ^ k; sqrtBits n k (if q * q ≤ n then q else r)

/-- The whole square root of a number below 2^600. -/
def wholeSqrt (n : Nat) : Nat := sqrtBits n 300 0

/-- FP64. -/
def fmtF64 : FpFmt := ⟨52, -1022, 0x7FEFFFFFFFFFFFFF, some 0x7FF0000000000000⟩

/-- Numerator and denominator of a number on the same side of every rounding boundary as the square root of
S × 2^-160: 120 bits below the root's unit place, and one bit for what lies below them. -/
def rootRatio (sum : Nat) : Nat × Nat :=
  let q := wholeSqrt (sum * 2 ^ 240)
  (2 * q + b2n (q * q != sum * 2 ^ 240), 2 ^ 201)

/-! ### Records -/

/-- Append the CRC-32C of a record (R238, R239). -/
def withCrc (bs : List Byte) : List Byte := bs ++ leBytes (crc32c bs) 4

/-- A record of n bytes with a correct CRC and the given round, which stands at offset o. -/
def recordValid (bs : List Byte) (n o : Nat) (round : Nat) : Bool :=
  bs.length == n && leAt bs (n - 4) 4 == crc32c (bs.take (n - 4)) && leAt bs o 4 == round

/-- A partial record (R238). -/
def partialRecord (sum under nonfin : Nat) (ovf : Bool) (die insts round : Nat) : List Byte :=
  withCrc (leBytes (sum % 2 ^ 352) 44 ++ leBytes (min under (2 ^ 32 - 1)) 4 ++ leBytes (min nonfin (2 ^ 32 - 1)) 4
    ++ leBytes (b2n ovf) 1 ++ leBytes die 1 ++ leBytes insts 2 ++ leBytes round 4)

/-- Sums over partial records: sum, underflow, non-finite, overflow, instances. -/
structure GnSum where
  sum : Nat
  under : Nat
  nonfin : Nat
  ovf : Bool
  insts : Nat
  deriving DecidableEq, Repr

def GnSum.add (g : GnSum) (bs : List Byte) : GnSum :=
  { sum := (g.sum + leAt bs 0 44) % 2 ^ 352, under := g.under + leAt bs 44 4, nonfin := g.nonfin + leAt bs 48 4,
    ovf := g.ovf || bitAt (leAt bs 52 1) 0, insts := g.insts + leAt bs 54 2 }

def sumRecords (rs : List (List Byte)) : GnSum := rs.foldl GnSum.add ⟨0, 0, 0, false, 0⟩

/-- The result record (R239). The root of a negative sum, which no contribution makes, is a free value. -/
def resultRecord (g : GnSum) (incomplete : Bool) (packages round : Nat) (free : BitVec 64) : List Byte :=
  let nonfinite := decide (0 < g.nonfin)
  let neg := decide (2 ^ 351 ≤ g.sum)
  let mag := if neg then 2 ^ 352 - g.sum else g.sum
  let root := rootRatio mag
  let sumsq := if nonfinite then 0x7FF8000000000000 else b2n neg * 2 ^ 63 + roundMag fmtF64 mag (2 ^ 160)
  let norm64 := if nonfinite then 0x7FF8000000000000 else if neg then free.toNat else roundMag fmtF64 root.1 root.2
  let norm32 := if nonfinite then 0x7FC00000 else if neg then free.toNat else roundMag fmtF32 root.1 root.2
  withCrc (leBytes g.sum 44 ++ leBytes g.under 8 ++ leBytes g.nonfin 8
    ++ leBytes (b2n g.ovf + 2 * b2n incomplete + 4 * b2n nonfinite) 1 ++ leBytes packages 1 ++ leBytes g.insts 2
    ++ leBytes sumsq 8 ++ leBytes norm64 8 ++ leBytes norm32 4 ++ leBytes round 4 ++ leBytes 0 36)

/-! ### The registers of a round -/

def State.gn (s : State) : Gn := s.services.gn

def State.gnTenant (s : State) : Nat := fld (s.reg R.MTR_CTRL).toNat 0 3
def State.gnRound (s : State) : Nat := (s.reg R.MTR_GN_ROUND).toNat
def State.gnCrew (s : State) : List Nat := bitsOf (s.reg64 R.MTR_GN_CREW 0) 64
def State.gnArea (s : State) : Nat := s.reg64 R.MTR_GN_AREA 0
/-- MTR_GN_PKG.count, which is 1 in a package that has no index (R410). -/
def State.gnCount (s : State) : Nat := if s.die.package.isNone then 1 else fld (s.reg R.MTR_GN_PKG).toNat 0 8
def State.gnPackage (s : State) : Nat := fld (s.reg R.MTR_GN_PKG).toNat 8 8
def State.gnTimeoutTicks (s : State) : Nat := us (fld (s.reg R.MTR_GN_TIMEOUT).toNat 0 16)

/-- The leader is the member with the lowest die index (R237). -/
def State.gnLeads (s : State) : Bool := s.gnCrew.head? == some s.die.die

/-- The area is a registered CONTROL region of 8 KiB (R237, R220). -/
def State.gnAreaOk (s : State) : Bool := (s.controlRegion s.gnTenant s.gnArea 8192).isSome

def Gn.runs (g : Gn) : Bool := g.phase == .crew || g.phase == .packages

/-- The instance's partial (R236): the sum over the tags of a class, at the write. -/
def State.gnPartial (s : State) (cls : Nat) : List Byte :=
  let v := (s.reg R.MTR_GN_TAGS).toNat
  let lo := fld v 0 12
  let hi := fld v 16 12
  let ms := (s.services.meters.filter (fun p => p.1 % 4 == cls && decide (lo ≤ p.1 / 4) && decide (p.1 / 4 ≤ hi))).map (·.2)
  partialRecord (sumNat (ms.map (·.sum))) (sumNat (ms.map (·.under))) (sumNat (ms.map (·.nonfin))) (ms.any (·.ovf))
    s.die.die 1 s.gnRound

/-- MTR_GN_CTRL.start (R236): ignored while a round runs. Totals that were received early are kept. -/
def State.gnStart (s : State) (cls : Nat) : State :=
  let g := s.gn
  if g.runs then s.setGn { g with rejected := true }
  else
    let own := s.gnPartial cls
    let s := s.setGn { phase := .crew, startedAt := s.now, leads := s.gnLeads, written := false, own := own,
                       totals := g.totals, incomplete := false,
                       overflow := false, nonfinite := false, rejected := false, packages := 0, instances := 0 }
    if s.gnCrew.contains s.die.die ∧ s.gnAreaOk then s.unitWrite (s.gnArea + 64 * s.die.die) own else s

/-! ### The leader (R237 steps 2 to 4) -/

/-- The crew's valid slots. -/
def State.gnSlots (s : State) : List (List Byte) :=
  if !s.gnAreaOk then []
  else (s.gnCrew.map (fun d => s.unitRead (s.gnArea + 64 * d) 64)).filter (fun r => recordValid r 64 56 s.gnRound)

/-- The package total (R238). -/
def State.gnTotal (s : State) (slots : List (List Byte)) : List Byte :=
  let g := sumRecords slots
  partialRecord g.sum g.under g.nonfin g.ovf s.die.die g.insts s.gnRound

/-- The other packages of the exchange. -/
def State.gnOthers (s : State) : List Nat := (List.range s.gnCount).filter (· != s.gnPackage)

/-- Send the package total to the leaders of the other packages; a lost package gets none (R313). -/
def State.gnReduce (s : State) (total : List Byte) : State :=
  s.gnOthers.foldl (fun (s : State) p =>
    if s.lostPackage p then s
    else s.sendPeer (s.newPeerOp .reduce p s.gnTenant 0 64 total 0xFFFF#32 none)) s

/-- The round of a total. -/
def totalRound (p : Nat × List Byte) : Nat := leAt p.2 56 4

/-- The received totals of this round (R237 step 3). -/
def State.gnRoundTotals (s : State) : List (Nat × List Byte) := s.gn.totals.filter (fun p => totalRound p == s.gnRound)

/-- Write the result record at offset 0x1000 of the area; the totals of the round are used up. -/
def State.gnWrite (s : State) (incomplete : Bool) : State :=
  let g := s.gn
  let parts := g.own :: (if s.gnCount ≤ 1 then [] else s.gnRoundTotals.map (·.2))
  let r := resultRecord (sumRecords parts) incomplete parts.length s.gnRound (Config.unstated s.draws)
  let s := s.draw.setGn { g with written := true, totals := g.totals.filter (fun p => totalRound p != s.gnRound) }
  if s.gnAreaOk then s.unitWrite (s.gnArea + 0x1000) r else s

/-- Write the result once every other package's total of the round is held. -/
def State.gnFinish (s : State) : State :=
  if s.gn.phase = .packages ∧ !s.gn.written ∧ s.gnOthers.all (fun p => s.gnRoundTotals.any (·.1 == p)) then s.gnWrite false
  else s

/-- The crew's slots are taken: own becomes the package total, which goes out when there are other packages. -/
def State.gnTake (s : State) (slots : List (List Byte)) : State :=
  let total := s.gnTotal slots
  let s := s.setGn { s.gn with own := total, phase := if s.gnCount ≤ 1 then .crew else .packages }
  if s.gnCount ≤ 1 then s else s.gnReduce total

/-- GN_LEADER_POLL. -/
def State.gnLeaderPoll (s : State) : State :=
  if !s.gnLeads ∨ s.gn.phase ≠ .crew ∨ s.gn.written ∨ !s.memOpen s.gnArea then s.gnFinish
  else
    let slots := s.gnSlots
    if slots.length < s.gnCrew.length then s
    else
      let s := s.gnTake slots
      if s.gnCount ≤ 1 then s.gnWrite false else s.gnFinish

/-! ### Members (R237 step 5) -/

/-- The round is over with a result: registers, copy, status and interrupts. -/
def State.gnDone (s : State) (r : List Byte) (packages insts bit : Nat) : State :=
  let s := (List.range 32).foldl (fun (s : State) k => s.setReg (R.MTR_GN_RES + 4 * k) (w32 (leAt r (4 * k) 4))) s
  let dst := s.reg64 R.MTR_GN_DST 0
  let s := if dst ≠ 0 ∧ bit = 0 ∧ (s.controlRegion s.gnTenant dst 128).isSome then s.unitWrite dst r else s
  let f := leAt r 60 1
  (s.setGn { s.gn with phase := .done, written := false, incomplete := bitAt f 1, overflow := bitAt f 0,
                       nonfinite := bitAt f 2, packages := packages, instances := insts }).raise 0x12 (2 ^ bit)

/-- GN_MEMBER_POLL. The instances of this package are those of its own total on the leader; on another member they
are those of the result when it holds one package, and otherwise no rule gives them. -/
def State.gnMemberPoll (s : State) : State :=
  let r := s.unitRead (s.gnArea + 0x1000) 128
  if !s.gn.runs ∨ !s.gnAreaOk ∨ !s.memOpen s.gnArea ∨ !recordValid r 128 84 s.gnRound then s
  else
    let insts := if s.gn.written then leAt s.gn.own 54 2
      else if leAt r 61 1 = 1 then leAt r 62 2 else s.unstatedWord.toNat % 128
    s.draw.gnDone r (leAt r 61 1) insts 0

/-- Where the round's time limit stands: the leader's first limit, or twice that. -/
def State.gnDue (s : State) : Nat :=
  s.gn.startedAt + (if s.gnLeads && !s.gn.written then s.gnTimeoutTicks else 2 * s.gnTimeoutTicks)

/-- GN_TIMEOUT. -/
def State.gnTimeout (s : State) : State :=
  if !s.gn.runs then s
  else
    let s := s.advanceTo s.gnDue
    if s.gnLeads ∧ !s.gn.written then
      let s := if s.gn.phase = .crew then s.gnTake s.gnSlots else s
      (s.gnWrite true).raise 0x12 2
    else
      s.draw.gnDone (resultRecord (sumRecords [s.gn.own]) true 1 s.gnRound (Config.unstated s.draws)) 1 (leAt s.gn.own 54 2) 1

/-- MTR_GN_STAT (R265). leader is that of the last accepted start (log entry 98). -/
def State.gnStat (s : State) : Nat :=
  let g := s.gn
  (match g.phase with | .idle => 0 | .crew => 1 | .packages => 2 | .done => 3)
    + 4 * b2n g.incomplete + 8 * b2n g.overflow + 16 * b2n g.nonfinite + 32 * b2n g.rejected + 64 * b2n g.leads
    + 2 ^ 8 * (g.packages % 256) + 2 ^ 16 * (g.instances % 128)

end Sys2Proof.Machine
end

