-- ==== Sys2Proof/Machine/PeerOps.lean ====
section
/-! DEFINITION. The peer protocol at work: received operations with their windows (R310, R312, R324), acknowledgements,
resends and PEER_LOST (R311, R313), and page PEER (R413, R414). -/

namespace Sys2Proof.Machine

/-! ### Received operations (R312) -/

def PeerHead.pkg (h : PeerHead) : Nat := h.package.val
def PeerHead.from? (h : PeerHead) (w : RxWindow) : Bool := w.package == h.package.val && w.die == h.die.val

/-- The window of a sender. -/
def State.rxOf (s : State) (h : PeerHead) : Option RxWindow := s.peer.rx.find? (PeerHead.from? h)

/-- What the receiver makes of a sequence number (R312). -/
inductive Seen where
  | fresh | again (error : Bool) | stale
  deriving DecidableEq, Repr

/-- (H − s) mod 2^32. -/
def behind (high seq : Nat) : Nat := (high + 2 ^ 32 - seq) % 2 ^ 32

def RxWindow.seen (w : RxWindow) (seq : Nat) : Seen :=
  let d := behind w.high seq
  if d < 4096 then match w.applied.find? (fun p => p.1 == seq) with | some p => .again p.2 | none => .fresh
  else if d < 2 ^ 31 then .stale
  else .fresh

/-- A sender that has sent nothing yet has no window: its first operation is applied. -/
def State.seen (s : State) (h : PeerHead) : Seen :=
  match s.rxOf h with | some w => w.seen h.seq.toNat | none => .fresh

/-- Note an applied number: H rises to it when it is above H, and the record keeps the numbers in the window. -/
def RxWindow.note (w : RxWindow) (seq : Nat) (error : Bool) : RxWindow :=
  let high := if 2 ^ 31 ≤ behind w.high seq then seq else w.high
  { w with high := high, applied := (w.applied ++ [(seq, error)]).filter (fun p => decide (behind high p.1 < 4096)) }

def State.noteRx (s : State) (h : PeerHead) (error : Bool) : State :=
  let seq := h.seq.toNat
  let rx := match s.rxOf h with
    | some w => s.peer.rx.map (fun v => if PeerHead.from? h v then w.note seq error else v)
    | none => s.peer.rx ++ [{ package := h.package.val, die := h.die.val, high := seq, applied := [(seq, error)] }]
  { s with peer := { s.peer with rx := rx } }

/-- The acknowledgement of an operation (R310); for FETCH and PROP it carries the data, which count as sent (R413). -/
def State.answerPeer (s : State) (h : PeerHead) (error : Bool) (data : List Byte) : State :=
  let s := if data.isEmpty then s else s.bump64 R.PEER_TX_BYTES data.length
  s.outAnswer { package := h.package.val, die := h.die.val, seq := h.seq.toNat, error := error, data := data,
                crc := w32 (crc32c (Config.ackBytes h.seq.toNat error data)) }

/-! ### The lent window (R223, R244, R324) -/

/-- What the window check of an operation finds: the local address, no window or bounds, or another tenant's window. -/
inductive Lent where
  | at (addr : Nat) | outside | otherTenant
  deriving DecidableEq, Repr

/-- The LENT regions that name a package. -/
def State.lentTo (s : State) (package : Nat) : List Region :=
  (s.tiers.regions.filter (fun p => p.2.kind == 5 && p.2.partner == package)).map (·.2)

/-- Addresses of an operation are offsets in the window (R220); with several windows the lowest entry of the
tenant that holds the run serves it (log entry 20). -/
def State.lentWindow (s : State) (h : PeerHead) (addr n : Nat) : Lent :=
  let all := s.lentTo h.package.val
  let mine := all.filter (fun r => r.tenant == h.tenant.val)
  match mine.find? (fun r => decide (addr + n ≤ r.len)) with
  | some r => .at (r.base + addr)
  | none => if all ≠ [] ∧ mine = [] then .otherTenant else .outside

/-- An operation that carries another tenant than its region (R324). -/
def State.rejectTenant (s : State) : State :=
  (s.bump R.PEER_TENANT_REJ 1).portReject (0xFF + 2 ^ 8 * 3 + 2 ^ 12 * 7 + 2 ^ 16) 0 0#32

/-- Units of a run whose data is lost: an access to them fails (R215). -/
def State.lostRun (s : State) (a n : Nat) : Bool := s.tiers.lost.any (fun u => runsMeet u 4096 a n)

/-- The check of an operation on the lent window: its local address, or none with the answer an error. -/
def State.checkLent (s : State) (h : PeerHead) (addr n : Nat) : State × Option Nat :=
  match s.lentWindow h addr n with
  | .otherTenant => (s.rejectTenant, none)
  | .outside => (s, none)
  | .at a => (s, if s.lostRun a n then none else some a)

/-- The hint that an access of a partner gives the die cache (R202, R211). -/
def State.lentHint (s : State) (k : Hint) (a : Nat) : Option Hint := if s.stacked a then some k else none

/-- A stale operation is discarded without acknowledgement. -/
def State.stale (s : State) : State := s.bump R.PEER_STALE 1

/-! ### Signals (R285) -/

def LateSignal.from? (h : PeerHead) (w : LateSignal) : Bool := w.package == h.package.val && w.die == h.die.val

/-- What became of an operation of a sender: none while it has not been applied, else its status. One older than the window,
whose status the receiver no longer holds, counts as applied without error (log entry 99). -/
def State.rxStatus (s : State) (h : PeerHead) (seq : Nat) : Option Bool :=
  match s.rxOf h with
  | none => none
  | some w => match w.seen seq with
    | .fresh => none
    | .again e => some e
    | .stale => some false

/-- A signal arrives with its packet: it waits for the earlier packets that are still missing, and is not applied when one of
them has failed. -/
def State.noteSignal (s : State) (h : PeerHead) (g : Signal) : State :=
  let earlier := g.earlier.map BitVec.toNat
  if earlier.any (fun q => s.rxStatus h q == some true) then s
  else { s with peer := { s.peer with signals := s.peer.signals ++ [
    { package := h.package.val, die := h.die.val, earlier := earlier.filter (fun q => (s.rxStatus h q).isNone),
      eye := g.eyelet.val, add := g.add }] } }

/-- A packet has been applied with a status: a failure ends the signals of its transfer, and a signal whose packets have all
been written is applied. -/
def State.packetDone (s : State) (h : PeerHead) (seq : Nat) (error : Bool) : State :=
  let mine (w : LateSignal) : Bool := LateSignal.from? h w && w.earlier.contains seq
  let left := (s.peer.signals.filter (fun w => !(error && mine w))).map (fun w =>
    if mine w then { w with earlier := w.earlier.filter (· != seq) } else w)
  let ready := left.filter (fun w => w.earlier.isEmpty)
  let s := { s with peer := { s.peer with signals := left.filter (fun w => !w.earlier.isEmpty) } }
  ready.foldl (fun (s : State) w => s.applySignal { target := false, eye := w.eye, add := w.add }) s

/-- SHIP into the lent window; the signal follows the data (R285). One whose address lies in a domain whose power-down is
handled is not answered, and its sender sends it again (R311, R363, log entry 97). -/
def State.recvShip (s : State) (h : PeerHead) (addr : Nat) (data : List Byte) (sig : Option Signal) : State :=
  match s.seen h with
  | .stale => s.stale
  | .again e => (s.bump R.PEER_DUPS 1).answerPeer h e []
  | .fresh =>
    let r := s.checkLent h addr data.length
    match r.2 with
    | none => (((r.1.noteRx h true).packetDone h h.seq.toNat true).answerPeer h true []).drain
    | some a =>
      if !s.memOpen a then s
      else
        let s := (r.1.memWrite a data).outAccess ⟨true, a, data.length, s.lentHint .stream a⟩
        let s := ((s.bump64 R.PEER_RX_BYTES data.length).bump R.PEER_LENT_OPS 1).noteRx h false
        let s := match sig with
          | some g => s.noteSignal h g
          | none => s
        ((s.packetDone h h.seq.toNat false).answerPeer h false []).drain

/-- Serve a read of the lent window, with the hint of the reader's transfer (R211). -/
def State.serveRead (s : State) (h : PeerHead) (addr len : Nat) (first fetch : Bool) (hint : Hint) : State :=
  let r := s.checkLent h addr len
  let noted := if first then r.1.noteRx h r.2.isNone else r.1
  match r.2 with
  | none => noted.answerPeer h true []
  | some a =>
    if !s.memOpen a then s
    else
      let s := noted.outAccess ⟨false, a, len, s.lentHint hint a⟩
      (if fetch then s.bump R.PEER_LENT_OPS 1 else s).answerPeer h false (Memory.read s.mem a len)

/-- FETCH or PROP; a repeat is served again (R312). A FETCH is that of a RET, whose last use of the copy it is. -/
def State.recvRead (s : State) (h : PeerHead) (addr len : Nat) (fetch lastUse : Bool) : State :=
  let hint : Hint := if fetch || lastUse then .lastUse else .keep
  match s.seen h with
  | .stale => s.stale
  | .again _ => (s.bump R.PEER_DUPS 1).serveRead h addr len false fetch hint
  | .fresh => s.serveRead h addr len true fetch hint

/-- The CONTROL region of the reduction area has another tenant (R324). -/
def State.areaOther (s : State) (t : Nat) : Bool :=
  match s.tiers.regions.find? (fun p => p.2.kind == 1 && p.2.holds s.gnArea 8192) with
  | some p => p.2.tenant != t
  | none => false

/-- REDUCE: a package total with a correct CRC is held for the round that it names (R237 step 3). -/
def State.recvReduce (s : State) (h : PeerHead) (total : List Byte) : State :=
  match s.seen h with
  | .stale => s.stale
  | .again e => (s.bump R.PEER_DUPS 1).answerPeer h e []
  | .fresh =>
    if s.areaOther h.tenant.val then ((s.rejectTenant).noteRx h true).answerPeer h true []
    else
      let s := (s.bump64 R.PEER_RX_BYTES total.length).noteRx h false
      let good := total.length == 64 && leAt total 60 4 == crc32c (total.take 60)
      let s := if good then s.setGn { s.gn with totals := s.gn.totals ++ [(h.package.val, total)] } else s
      (s.answerPeer h false []).gnFinish

/-! ### Acknowledgements (R310, R313) -/

/-- Operations not yet acknowledged, by sequence number. -/
def State.peerOp (s : State) (seq : Nat) : Option PeerOp := s.peer.ops.find? (fun o => o.seq == seq)

def State.setOps (s : State) (l : List PeerOp) : State := { s with peer := { s.peer with ops := l } }

/-- PEER_ACK: a bad CRC leaves the operation unacknowledged; an error answer fails the access. -/
def State.peerAck (s : State) (package seq : Nat) (crcOk error : Bool) (data : List Byte) : State :=
  match s.peerOp seq with
  | none => s
  | some o =>
    if o.package ≠ package ∨ s.lostPackage package then s
    else if !crcOk then s.setOps (s.peer.ops.map (fun v => if v.seq == seq then { v with badCrc := true } else v))
    else
      let s := (s.setOps (s.peer.ops.filter (fun v => v.seq != seq))).drainPeer package
      match o.txn with
      | none => s
      | some n =>
        let s := if error then s else s.bump64 R.PEER_RX_BYTES data.length
        (s.respond n (if error then some .errorResponse else none) data 0).drain

/-! ### Resends and PEER_LOST (R311, R313) -/

def PeerKind.num : PeerKind → Nat
  | .ship => 0 | .fetch => 1 | .reduce => 2 | .prop => 3

/-- Bits 17 to 0 of parameter 0 (R303). -/
def PeerOp.who (o : PeerOp) : Nat := o.package + 2 ^ 8 * o.die + 2 ^ 16 * PeerKind.num o.kind

/-- Transfers that a lost package ends, by number. -/
def State.peerTransfers (s : State) (package : Nat) : List Nat :=
  (s.movers.transfers.filter (fun p =>
    let x := p.2
    x.tier == 4 && (match x.kind with
      | .out | .ret => s.partner == package
      | .prop => x.partner == package
      | _ => false))).map (·.1)

/-- PEER_LOST for the package of an operation (R313). -/
def State.losePeer (s : State) (o : PeerOp) : State :=
  let ids := s.peerTransfers o.package
  let slates := (ids.filterMap (fun i => (s.transfer i).map (·.slate))).foldr (fun i l => if l.contains i then l else i :: l) []
  let s := { s with peer := { s.peer with lost := setBit s.peer.lost o.package true,
                                          ops := s.peer.ops.filter (fun v => v.package != o.package),
                                          waitingOps := s.peer.waitingOps.filter (fun v => v.package != o.package) } }
  let s := if s.partner = o.package then
      (List.range 8).foldl (fun (s : State) t => s.modTenant t (fun x => { x with enPeer := false })) s else s
  let p0 := w32 o.who
  let s := s.report 0x0C02 12 [p0, w32 o.seq, w32 slates.length, w32 ids.length] 0x1F 0
  let s := s.pageError 0x1F p0 o.seq
  (ids.foldl (fun (s : State) i => s.endTransfer i 4) s).drain

/-- The 8 µs after the last send of an operation have passed (R311). -/
def State.ackResend (s : State) (seq : Nat) : State :=
  match s.peerOp seq with
  | none => s
  | some o =>
    let s := s.advanceTo (o.lastSend + us 8)
    if o.resends < 4 then
      let p0 := o.who + 2 ^ 20 * (o.resends + 1) + 2 ^ 23 * b2n o.badCrc
      let o' := { o with resends := o.resends + 1, lastSend := s.now, badCrc := false }
      let s := s.setOps (s.peer.ops.map (fun v => if v.seq == seq then o' else v))
      (((s.outPeerOp o').bump64 R.PEER_TX_BYTES o.data.length).bump R.PEER_RESENDS 1).report 0x0C01 12
        [w32 p0, w32 seq, o.slateWord, 0#32] 0x1F 1
    else s.losePeer o

/-! ### Page PEER (R413, R414) -/

/-- PEER_CTRL.clear_lost and clear_all. -/
def State.clearLost (s : State) (package : Nat) : State :=
  { s with peer := { s.peer with lost := if package < 64 then setBit s.peer.lost package false else s.peer.lost } }

def State.clearAllLost (s : State) : State := { s with peer := { s.peer with lost := 0 } }

/-- May PEER_PARTNER be written (R414)? -/
def State.partnerFree (s : State) : Bool :=
  !s.tiers.extents.any (fun x => x.tier == 4)
    && !(s.partnerValid && (s.peer.ops ++ s.peer.waitingOps).any (fun o => o.package == s.partner))

/-- Change the peer protocol's own state. -/
def State.setPeer (s : State) (f : Peer → Peer) : State := { s with peer := f s.peer }

/-- A write of PEER_PARTNER. -/
def State.writePartner (s : State) (v : Nat) : State :=
  if s.partnerFree then
    (s.setReg R.PEER_PARTNER (w32 (v % 2 ^ 9))).setPeer (fun p => { p with partnerReject := false })
  else s.setPeer (fun p => { p with partnerReject := true })

/-- The I/O die's report of the links. -/
def State.setLinks (s : State) (up : Bool) : State := { s with peer := { s.peer with portUp := up } }

end Sys2Proof.Machine
end

