-- ==== Sys2Proof/Machine/Sync.lean ====
section
/-! DEFINITION. Doorbells, the eyelet view, lace registers, clapper lines and core-queue resets (R279, R282, R284, R286,
R287, R292, R299, R300, R315). -/

namespace Sys2Proof.Machine

/-! ### The eyelet view of page EYE (R286, R299) -/

/-- Copy the selected eyelet into the three registers. -/
def State.showEye (s : State) (e : Nat) : State :=
  let x := s.eyelet e
  ((s.setReg R.EYE_COUNT x.count).setReg R.EYE_TARGET x.target).setReg R.EYE_CFG x.cfg

def State.eyeSel (s : State) : Nat := fld (s.reg R.EYE_SEL).toNat 0 12

/-- A write of EYE_SEL. -/
def State.selectEye (s : State) (e : Nat) : State := (s.setReg R.EYE_SEL (w32 e)).showEye e

/-- Set the live eyelet, unless d would be negative or a reserved bit of cfg is set (R275, R286), and update the copy. -/
def State.setLiveEye (s : State) (f : Eyelet → Eyelet) : State :=
  let e := s.eyeSel
  let y := f (s.eyelet e)
  if y.d < 0 ∨ fld y.cfg.toNat 30 2 ≠ 0 then s
  else (((s.setEyelet e y).showEye e).examine e).drain

/-! ### Lace registers (R287, R292, R300) -/

/-- Enrol or withdraw a wire. -/
def State.enrolWire (s : State) (on : Bool) (n : Nat) : State :=
  let w := s.wire n
  if on ∧ w.state = .off then s.holdWire n
  else if !on ∧ w.state ≠ .off then s.setWire n { w with state := .off }
  else s

/-- A write of LACE_CTRL. -/
def State.writeEnrol (s : State) (v : Nat) : State :=
  ((List.range 16).foldl (fun (s : State) n => s.enrolWire (bitAt v n) n) (s.setReg R.LACE_CTRL (w32 (v % 2 ^ 16)))).laceCheck

/-- A write of LACE_WIREn or LACE_ARRn: ignored while the wire is enrolled. -/
def State.writeWire (s : State) (n : Nat) (arr : Bool) (v : Nat) : State :=
  if (s.wire n).state ≠ .off then s
  else if arr then (s.setReg (R.LACE_ARR + 4 * n) (w32 (v % 2 ^ 12))).bindCheck n
  else (s.setReg (R.LACE_WIRE + 4 * n) (w32 (v % 2 ^ 28))).bindCheck n

/-- LACE_RELEASE: lace_done has been sampled high twice since the wire arrived. The first of the two samples that counts is at
the earliest that of the AOC cycle in which the wire entered ARRIVED (R288). -/
def State.laceReleased (s : State) (n : Nat) : State :=
  if (s.wire n).state = .arrived then ((s.advanceTo ((s.wire n).arrivedAt + 1)).releaseWire n).drain else s

/-! ### Clapper lines (R279, R300) -/

/-- A write of CLAP_FIRE. -/
def State.fireLines (s : State) (v : Nat) : State := (bitsOf v 64).foldl State.pulse s

/-- The end of a pulse. -/
def State.pulseEnd (s : State) (line : Nat) : State :=
  match look s.lace.pulses line with
  | none => s
  | some (_, t) => let s := s.advanceTo t; { s with lace := { s.lace with pulses := del s.lace.pulses line } }

/-! ### Waits that end (R281, R282) -/

/-- The wait whose timeout passes first; of two at one time the one registered first. -/
def firstDueWait : List Wait → Option Wait
  | [] => none
  | w :: r => match firstDueWait r with
    | some v => if v.due.getD 0 < w.due.getD 0 then some v else some w
    | none => some w

/-- Is a wait one of a queue's command with a ticket that has a timeout? -/
def Wait.timesOutAs (w : Wait) (q : Nat) (ticket : BitVec 16) : Bool :=
  w.cmd.queue.val == q && w.cmd.ticket == ticket && w.due.isSome

/-- The wait of a queue's command passes its timeout, of several with one ticket the one that is due first; an Abter hold's
queue goes on. -/
def State.waitTimesOut (s : State) (q : Nat) (ticket : BitVec 16) : State :=
  match firstDueWait (s.eyes.waits.filter (fun w => w.timesOutAs q ticket)) with
  | none => s
  | some w =>
    let s := s.advanceTo (w.due.getD 0)
    let s := s.setWaits (s.eyes.waits.erase w)
    (((s.endWait w 0x21 none true).bump R.EYE_TIMEOUTS 1).raise 0x19 8).drain

/-- The job's descriptors that are outstanding at a queue count as answered with an engine status that is not zero
(R160, R315). -/
def State.resendFor (s : State) (q slot : Nat) : State :=
  match s.job slot with
  | none => s
  | some j =>
    let hit := j.unanswered.any (fun d => d.queue == q)
    if !hit then s
    else s.stepFailed slot { j with unanswered := j.unanswered.filter (fun d => d.queue != q) }

/-- The die reports a reset of a core queue. -/
def State.queueReset (s : State) (q : Nat) : State :=
  let s := s.endWaits (fun w => w.cmd.queue.val == q) 0x26 false
  (((s.retake.jobs.map (·.1)).foldl (fun (s : State) k => s.resendFor q k) s).tendJobs).drain

/-! ### Context operations (R252, R253, R293, R294) -/

/-- The save or restore has ended; a loan's INTERMISSION or RESUME goes on. -/
def State.ctxEnded (s : State) (save : Bool) : State :=
  match s.eyes.ctx with
  | none => s
  | some x =>
    if x.save ≠ save ∨ (!save ∧ !s.memOpen x.base) then s
    else
      let s := if save then s.finishSave x else s.finishRestore x
      (if x.loan then s.endLoan else s).drain

/-- EYE_CTRL.ctx_save and ctx_restore. -/
def State.startContext (s : State) (t : Nat) (save : Bool) : State :=
  (s.startCtx t (s.reg64 R.EYE_CTX_BASE t) save false).drain

end Sys2Proof.Machine
end

