-- ==== Sys2Proof/Machine/Guard.lean ====
section
/-! DEFINITION. Protection: rights and page locks (R325 to R335, R318), countersign and key slots (R336 to R343). -/

namespace Sys2Proof.Machine

/-! ### Rights (R325 to R328) -/

/-- Page and offset of a control-space address; the two low bits are ignored (R400). -/
def pageOf (addr : Nat) : Nat := addr / 0x1000
def offsetOf (addr : Nat) : Nat := addr % 0x1000 / 4 * 4

/-- The privilege table's right of a port for a page. -/
def State.tableRight (s : State) (p : Port) (page : Nat) : Nat :=
  let v := match p with
    | .control => s.security.privCtl
    | .security => s.security.privSec
    | .debug => s.security.privDbg
  fld v.toNat (2 * page) 2

/-- The registers of page SEC that both parties write (R327). -/
def proposalReg (addr : Nat) : Bool :=
  (decide (R.SEC_PROP ≤ addr) && decide (addr < R.SEC_PROP + 0x80))
    || [R.SEC_PROPOSE, R.SEC_NONCE, R.SEC_CS_NONCE, R.SEC_CS_DIGEST].contains addr

def keyStageReg (addr : Nat) : Bool := decide (R.SEC_KEY_STAGE ≤ addr) && decide (addr < R.SEC_KEY_STAGE + 0x40)

/-- The right of a port for an address: 0 NONE, 1 READ, 2 WRITE. Pages SEC and PORT have fixed rights. -/
def State.rightOf (s : State) (p : Port) (addr : Nat) : Nat :=
  let page := pageOf addr
  if page = 3 then
    if proposalReg addr then (match p with | .debug => 0 | _ => 2)
    else if keyStageReg addr then (match p with | .security => 2 | _ => 0)
    else match p with | .control => 1 | .security => 2 | .debug => 0
  else if page = 4 then (match p with | .control => 2 | _ => 1)
  else s.tableRight p page

/-- May a port see a tenant's views (R328)? -/
def State.viewTenant (s : State) (p : Port) : Nat :=
  match p with | .control => s.security.viewCtl | .security => s.security.viewSec | .debug => s.security.viewDbg

def State.sees (s : State) (p : Port) (t : Nat) : Bool :=
  bitAt s.security.dbgPriv.toNat (match p with | .control => 0 | .security => 1 | .debug => 2) || s.viewTenant p == t

/-! ### Locks (R331 to R335, R318) -/

/-- LOCK.owner: the port's number, or 7. -/
def Page.ownerNum (g : Page) : Nat := match g.owner with | some p => Port.num p | none => 7

/-- An access that a right (kind 1) or a lock (kind 0) turns away. -/
def State.turnAway (s : State) (p : Port) (addr kind : Nat) (write : Bool) (v : Word) : State :=
  let page := pageOf addr
  s.portReject (page + 2 ^ 8 * Port.num p + 2 ^ 12 * (s.page page).ownerNum + 2 ^ 16 * kind)
    (offsetOf addr + 2 ^ 12 * b2n write) (if write then v else 0#32)

/-- LOCK.acquire of a page that no port holds. -/
def State.takeLock (s : State) (p : Port) (page : Nat) : State :=
  s.modPage page (fun g => if g.owner.isNone then { g with owner := some p, staged := [], overflow := false,
                                                           accessAt := s.now, lockedAt := s.now } else g)

/-- The lock is free again, with a result. -/
def State.freeLock (s : State) (page result : Nat) : State :=
  s.modPage page (fun g => { g with owner := none, staged := [], overflow := false, lastResult := result })

/-- Stage an owner's write (R332): a second write to a register keeps its place; a 65th sets overflow. -/
def Page.stage (g : Page) (addr : Nat) (v : Word) : Page :=
  if g.staged.any (fun q => q.1 == addr) then { g with staged := g.staged.map (fun q => if q.1 == addr then (addr, v) else q) }
  else if g.staged.length < 64 then { g with staged := g.staged ++ [(addr, v)] }
  else { g with overflow := true }

/-- SHADOW_CTRL.discard. -/
def State.discardStaged (s : State) (page : Nat) : State :=
  s.modPage page (fun g => { g with staged := [], overflow := false })

/-- The lock breaks (R318); cause as in R303. -/
def State.breakLock (s : State) (page cause : Nat) : State :=
  let g := s.page page
  match g.owner with
  | none => s
  | some p =>
    (s.freeLock page 3).report 0x0A02 13
      [w32 (page + 2 ^ 8 * Port.num p + 2 ^ 12 * cause), w32 g.staged.length,
       w32 (min 0xFFFFFFFF ((s.now - g.lockedAt) / 100)), 0#32] 0x04 1

def State.lockLimit (s : State) : Nat := us (fld (s.reg R.PORT_LOCK_IDLE_LIMIT).toNat 0 24)

/-- The owner has made no access for LOCK_IDLE_LIMIT (R334). -/
def State.lockIdle (s : State) (page : Nat) : State :=
  if s.lockLimit = 0 ∨ (s.page page).owner.isNone then s
  else (s.advanceTo ((s.page page).accessAt + s.lockLimit)).breakLock page 2

/-! ### Proposals (R339 to R341) -/

/-- The staged proposal of SEC_PROP0 to SEC_PROP31. -/
def State.proposalBytes (s : State) : List Byte :=
  (List.range 32).flatMap (fun n => leBytes (s.reg (R.SEC_PROP + 4 * n)).toNat 4)

/-- The content of a TENANT proposal (R341). -/
def tenantOfProposal (b : List Byte) : Nat := fld (leAt b 1 1) 0 3
def partOfProposal (b : List Byte) : Partition :=
  { shelves := leAt b 4 14, eyeBase := fld (leAt b 20 2) 0 12, eyeCount := fld (leAt b 22 2) 0 13,
    quota := fld (leAt b 24 4) 0 17, keySlot := fld (leAt b 28 1) 0 4, outerEnc := bitAt (leAt b 28 1) 4,
    borrower := fld (leAt b 29 1) 0 3, loanEn := bitAt (leAt b 29 1) 3, maxLoan := fld (leAt b 30 1) 0 7 }

/-- A proposal encodes its defined fields and nothing in its reserved bits. -/
def reservedClear (b : List Byte) : Bool :=
  match leAt b 0 1 with
  | 1 =>
    decide (leAt b 1 1 < 8) && zerosAt b 2 2 && zerosAt b 18 2 && decide (leAt b 20 2 < 2 ^ 12) && decide (leAt b 22 2 < 2 ^ 13)
      && decide (leAt b 24 4 < 2 ^ 17) && decide (leAt b 28 1 < 2 ^ 5) && decide (leAt b 29 1 < 2 ^ 4)
      && decide (leAt b 30 1 < 2 ^ 7) && zerosAt b 31 97
  | 2 => decide (leAt b 1 1 < 16) && zerosAt b 2 2 && zerosAt b 8 120
  | 3 => decide (leAt b 1 1 < 16) && zerosAt b 2 126
  | 4 =>
    zerosAt b 1 3 && decide (leAt b 4 1 < 8) && leAt b 5 2 == leAt b 5 2 &&& 0x777 && zerosAt b 7 1 && zerosAt b 32 96
  | 5 => zerosAt b 1 127
  | _ => false

/-- Does a range of eyelets meet another? -/
def Partition.eyesMeet (p q : Partition) : Bool :=
  decide (0 < p.eyeCount) && decide (0 < q.eyeCount) && runsMeet p.eyeBase p.eyeCount q.eyeBase q.eyeCount

def State.others (s : State) (t : Nat) : List Partition :=
  ((List.range 8).filter (fun u => u != t)).map s.part

/-- A TENANT proposal that BAD_PROPOSAL refuses. -/
def State.badTenant (s : State) (b : List Byte) : Bool :=
  let t := tenantOfProposal b
  let p := partOfProposal b
  (List.range 8).any (fun u => u != t && (s.part u).shelves &&& p.shelves != 0)
    || p.shelves &&& s.vault.retired != 0
    || decide (4096 < p.eyeBase + p.eyeCount) || (s.others t).any (Partition.eyesMeet p)
    || decide (65536 < p.quota + sumNat ((s.others t).map (·.quota)))
    || (p.outerEnc && ((look s.security.keys p.keySlot).isNone || (s.others t).any (fun q => q.outerEnc && q.keySlot == p.keySlot)))
    || (p.loanEn && p.borrower == t)

/-- All sixteen words of the key staging have been written (R343). -/
def State.keyStaged (s : State) : Bool := (List.range 16).all (fun n => (look s.security.stage n).isSome)

/-- A PRIVILEGE proposal that BAD_PROPOSAL refuses: a reserved right, or other rights for pages SEC or PORT. -/
def State.badPrivilege (s : State) (b : List Byte) : Bool :=
  [(leAt b 8 8, s.security.privCtl), (leAt b 16 8, s.security.privSec), (leAt b 24 8, s.security.privDbg)].any (fun q =>
    (List.range 32).any (fun p => fld q.1 (2 * p) 2 == 3)
      || fld q.1 6 2 != fld q.2.toNat 6 2 || fld q.1 8 2 != fld q.2.toNat 8 2)

/-- The form of a proposal (R341). -/
def State.badProposal (s : State) (b : List Byte) (nonce : Word) : Bool :=
  !reservedClear b || s.security.lastNonce == some nonce
    || (match leAt b 0 1 with
      | 1 => s.badTenant b
      | 2 => !s.keyStaged
      | 4 => s.badPrivilege b
      | _ => false)

def State.setSecurity (s : State) (f : Security → Security) : State := { s with security := f s.security }

/-- SEC_CS_STAT (R347). -/
def State.csStat (s : State) : Nat :=
  let c := s.security
  b2n (c.proposal.isSome || c.applying.isSome) + 2 * c.lastProposer + 2 ^ 8 * c.result + 2 ^ 16 * (c.refused % 2 ^ 16)

/-- A result of page SEC, with its interrupt and syndrome (R409). -/
def State.csResult (s : State) (r : Nat) : State :=
  let s := s.setSecurity (fun c => { c with result := r })
  (s.raise 0x03 1).pageError 0x03 (w32 s.csStat) 0

/-- SEC_PROPOSE. The end of a KEY_LOAD proposal that is refused for its form clears the staging (R343). -/
def State.propose (s : State) (p : Port) : State :=
  let b := s.proposalBytes
  let nonce := s.reg R.SEC_NONCE
  if s.security.proposal.isSome ∨ s.security.applying.isSome then s.csResult 6
  else if s.badProposal b nonce then
    (if leAt b 0 1 = 2 then s.setSecurity (fun c => { c with stage := [] }) else s).csResult 3
  else
    let d := w32 (crc32c b)
    s.setSecurity (fun c => { c with proposal := some (Proposal.mk p b nonce d (s.now + 100000)), lastProposer := Port.num p,
                                     digest := d, refused := 0 })

/-- The proposal ends without being applied; the end of a KEY_LOAD proposal clears the staging (R343). -/
def State.endProposal (s : State) (q : Proposal) : State :=
  s.setSecurity (fun c => { c with proposal := none, applying := none,
                                   stage := if leAt q.bytes 0 1 = 2 then [] else c.stage })

/-- COUNTERSIGN_TIMEOUT (R303), for a window that ends (result TIMEOUT) or a port that goes (result DISCARDED). -/
def State.dropProposal (s : State) (q : Proposal) (result : Nat) : State :=
  let n := s.security.refused
  ((s.endProposal q).csResult result).log 0x0A03 13
    [w32 (Port.num q.proposer + 2 ^ 8 * leAt q.bytes 0 1), q.nonce, q.digest, w32 n]

/-- The window ends with the proposal pending. -/
def State.proposalTimeout (s : State) : State :=
  match s.security.proposal with
  | none => s
  | some q => (s.advanceTo q.endsAt).dropProposal q 2

/-! ### Countersign and apply (R339 to R343) -/

/-- Shelves that a TENANT proposal takes away. -/
def State.removedShelves (s : State) (b : List Byte) : Nat :=
  mapMinus (s.part (tenantOfProposal b)).shelves (partOfProposal b).shelves

/-- Eyelets that change tenant. -/
def State.movedEyes (s : State) (b : List Byte) : List Nat :=
  let p := s.part (tenantOfProposal b)
  let q := partOfProposal b
  (List.range 4096).filter (fun e => p.hasEye e != q.hasEye e)

/-- IN_USE (R341). -/
def State.proposalInUse (s : State) (b : List Byte) : Bool :=
  match leAt b 0 1 with
  | 1 =>
    let t := tenantOfProposal b
    let p := partOfProposal b
    let gone := s.removedShelves b
    let live := (s.tenantSlates t).length
    (bitsOf gone 112).any (fun sh => s.shelfUse sh != 0) || (gone != 0 && (s.tenant t).stepOpen)
      || (s.movedEyes b).any (fun e => s.eyes.waits.any (fun w => w.eye == e))
      || decide (p.quota < live) || decide (p.quota < (match (s.tenant t).sheet with | some x => x.peak | none => 0))
      || (p.outerEnc != (s.part t).outerEnc && decide (0 < live))
  | 2 => (List.range 8).any (fun t => (s.part t).keySlot == leAt b 1 1 && s.tenantSlates t != [])
  | 3 => (List.range 8).any (fun t => (s.part t).keySlot == leAt b 1 1 && s.tenantSlates t != [])
  | _ => false

/-- LOAN (R341). -/
def State.proposalLoan (s : State) (b : List Byte) : Bool :=
  leAt b 0 1 == 1 &&
    (let t := tenantOfProposal b
     let p := partOfProposal b
     (s.lending t || s.borrowing t)
       && (p.shelves != (s.part t).shelves || p.eyeBase != (s.part t).eyeBase || p.eyeCount != (s.part t).eyeCount))

/-- The 64 staged key bytes (R343). -/
def State.stagedKey (s : State) : List Byte :=
  (List.range 16).flatMap (fun n => leBytes ((look s.security.stage n).getD 0#32).toNat 4)

/-- Make the change (R342). -/
def State.makeChange (s : State) (b : List Byte) : State :=
  match leAt b 0 1 with
  | 1 =>
    let eyes := s.movedEyes b
    let s := s.setPart (tenantOfProposal b) (partOfProposal b)
    eyes.foldl (fun (s : State) e => s.setEyelet e ⟨0#32, 0#32, 0#32⟩) s
  | 2 => s.setSecurity (fun c => { c with keys := put c.keys (leAt b 1 1) ⟨s.stagedKey, w32 (leAt b 4 4)⟩ })
  | 3 => s.setSecurity (fun c => { c with keys := del c.keys (leAt b 1 1) })
  | 4 =>
    let v := leAt b 5 2
    s.setSecurity (fun c => { c with privCtl := BitVec.ofNat 64 (leAt b 8 8), privSec := BitVec.ofNat 64 (leAt b 16 8),
                                     privDbg := BitVec.ofNat 64 (leAt b 24 8), dbgPriv := BitVec.ofNat 3 (leAt b 4 1),
                                     viewCtl := fld v 0 3, viewSec := fld v 4 3, viewDbg := fld v 8 3 })
  | _ => { s with recorder := { s.recorder with tail := s.recorder.head, eraseBelow := some s.recorder.head,
                                                wrapped := false } }

/-- The proposal is applied; an apply clears the key staging (R343). -/
def State.applyProposal (s : State) (q : Proposal) : State :=
  let s := (s.makeChange q.bytes).setSecurity (fun c => { c with proposal := none, applying := none,
                                                                 lastNonce := some q.nonce, stage := [] })
  (s.csResult 1).drain

/-- A write of SEC_CS_DIGEST (R339 steps 3 and 4). -/
def State.countersign (s : State) (p : Port) (digest : Word) : State :=
  match s.security.proposal with
  | none => s
  | some q =>
    if q.endsAt ≤ s.now then s.dropProposal q 2
    else if p = q.proposer ∨ s.security.csNonce ≠ q.nonce ∨ digest ≠ q.digest then
      s.setSecurity (fun c => { c with refused := min 0xFFFF (c.refused + 1) })
    else if s.proposalInUse q.bytes then (s.endProposal q).csResult 4
    else if s.proposalLoan q.bytes then (s.endProposal q).csResult 5
    else if leAt q.bytes 0 1 = 1 ∧ s.removedShelves q.bytes ≠ 0 then
      s.setSecurity (fun c => { c with proposal := none, applying := some q })
    else s.applyProposal q

/-- The clearing of shelves ends: of a countersign apply, or of an intermission or resume (R252, R253, R342). -/
def State.shelfClearDone (s : State) : State :=
  match s.security.applying with
  | some q => s.applyProposal q
  | none => s.shelvesCleared.drain

/-- A write of a key staging word (R343). -/
def State.stageKey (s : State) (n : Nat) (v : Word) : State :=
  let was := s.keyStaged
  let s := s.setSecurity (fun c => { c with stage := put c.stage n v })
  if s.keyStaged ∧ !was then s.raise 0x03 2 else s

/-! ### Resets of ports (R318, R334, R340, R343) -/

/-- A register port is reset or detached. -/
def State.portReset (s : State) (p : Port) (detach : Bool) : State :=
  let s := (List.range 32).foldl (fun (s : State) g =>
    if (s.page g).owner = some p then s.breakLock g (b2n detach) else s) s
  let s := match s.security.proposal with
    | some q => if p = Port.debug then s else s.dropProposal q 7
    | none => s
  let s := s.setSecurity (fun c => { c with attached := if detach then setBit c.attached (Port.num p) false else c.attached,
                                            stage := if p = Port.security ∧ !detach then [] else c.stage })
  { s with latches := del s.latches (Port.num p) }

end Sys2Proof.Machine
end

