-- ==== Sys2Proof/Machine/Clocks.lean ====
section
/-! DEFINITION. Power states, the next-event timer, lending, and power-down of other domains (R349 to R365, R317). -/

namespace Sys2Proof.Machine

def State.setPower (s : State) (f : PowerUnit → PowerUnit) : State := { s with power := f s.power }

/-! ### States (R351, R352, R378) -/

/-- Change the power state; the time spent in the old one is added up (PWR_RESn). -/
def State.powerTo (s : State) (st : Power) : State :=
  s.setPower (fun p =>
    let n := Power.num p.state
    { p with state := st, since := s.now, resid := p.resid.set n (p.resid.getD n 0 + (s.now - p.since)) })

/-- Ticks spent in state n since the last read of its counter. -/
def State.timeIn (s : State) (n : Nat) : Nat :=
  s.power.resid.getD n 0 + (if Power.num s.power.state = n then s.now - s.power.since else 0)

/-- A state whose entry and exit are logged (R304). -/
def Power.logged (p : Power) : Bool := p == .nap || p == .deep || p == .off

/-- STATE_CHANGE (R303). -/
def State.logChange (s : State) (old new : Power) (trigger : Nat) : State :=
  if old.logged || new.logged then
    s.log 0x0201 8 [w32 (Power.num old + 2 ^ 3 * Power.num new), w32 s.power.gap, w32 trigger, 0#32]
  else s

/-- Wake latency in AOC ticks (R351, R356). -/
def Power.latency : Power → Nat
  | .doze => 15 | .nap => 400 | .deep => 4000 | _ => 0

/-- FCLK is stopped: DOZE, NAP or DEEP. -/
def State.asleep (s : State) : Bool := s.power.state == .doze || s.power.state == .nap || s.power.state == .deep

/-- Start a wake: budget that is lent is reclaimed first (R361). No second wake starts. -/
def State.beginWake (s : State) (trigger : Nat) : State :=
  if !s.asleep ∨ s.power.waking.isSome then s
  else
    let s := if s.power.lending then (s.outPower (2 + 2 ^ 16 * s.power.lent)).setPower (fun p => { p with lending := false, needAck := true })
      else s
    s.setPower (fun p => { p with waking := some (s.now + p.state.latency), trigger := trigger })

/-- An unplanned cause wakes the instance (R357); from IDLE it is ACTIVE at once. -/
def State.rouse (s : State) : State :=
  if s.power.state = .idle then (s.bump R.PWR_UNPLANNED 1).powerTo .active
  else if s.asleep ∧ s.power.waking.isNone then (s.bump R.PWR_UNPLANNED 1).beginWake 1
  else s

/-- The wake ends: the instance is ACTIVE (R352). -/
def State.wakeUp (s : State) : State :=
  let old := s.power.state
  let s := s.advanceTo (s.power.waking.getD s.now)
  ((s.powerTo .active).setPower (fun p => { p with waking := none })).logChange old .active s.power.trigger

/-! ### Quiescence (R354) -/

/-- A command that can be decoded now. -/
def State.decodable (s : State) : Bool :=
  (!s.seqHalt || s.dbg.stepPending) && (match s.frontCmd s.port.queue with | some (p, _) => !s.mustWait p | none => false)

/-- A transfer that quiescence allows: it waits for pool space or for a powered-down domain, or it is a director's and its
channel waits for its start, is stopped or is halted. -/
def State.restingTransfer (s : State) (id : Nat) (x : Transfer) : Bool :=
  if x.kind = .director then (match s.channelOf id with | some c => (s.chan c).state != .busy | none => true)
  else !x.allocated || x.powerWait.isSome

def Pd.busy (p : Pd) : Bool := p.phase == .drain || p.phase == .defer

def State.quiescent (s : State) : Bool :=
  !s.decodable && s.clicker.queue.isEmpty
    && s.movers.txns.isEmpty && s.movers.transfers.all (fun p => s.restingTransfer p.1 p.2)
    && s.retake.jobs.isEmpty
    && s.stitcher.taps.isEmpty && s.stitcher.jobs.all (fun p => p.2.isEmpty)
    && s.banks.all (fun p => p.2.reqs.isEmpty && p.2.elastic.isEmpty && p.2.offered.isEmpty)
    && (List.range 8).all (fun t => (s.tenant t).check.isNone)
    && s.retake.loading.isNone && s.security.applying.isNone && s.security.clearing.isNone && s.eyes.ctx.isNone
    && !s.gn.runs && s.power.pds.all (fun p => !p.2.busy)

/-- No unit has work (R354; log entry 102): no command to decode, no decision, no block in a lane, a bank or a retake lane, no descriptor to
send, no transaction in flight and no channel that can issue one, and no load, apply, clearing or context operation. -/
def State.noWork (s : State) : Bool :=
  !s.decodable && s.clicker.queue.isEmpty && s.stitcher.jobs.all (fun p => p.2.isEmpty)
    && s.banks.all (fun p => p.2.reqs.isEmpty && p.2.elastic.isEmpty && p.2.offered.isEmpty)
    && s.retake.work.isEmpty && s.jobsInOrder.all (fun p => !s.canDispatch p.2)
    && s.movers.txns.isEmpty && s.movers.chans.all (fun p => p.2.state != .busy)
    && (s.headTransfer.isNone || s.idlePool.isEmpty)
    && (List.range 8).all (fun t => (s.tenant t).check.isNone)
    && s.retake.loading.isNone && s.security.applying.isNone && s.security.clearing.isNone && s.eyes.ctx.isNone

/-! ### The next-event timer (R355) -/

/-- A source and its event time. -/
abbrev Source := Nat × Nat

/-- Frame closes. -/
def State.frameEvents (s : State) : List Source :=
  ((List.range 8).filter (fun t => (s.tenant t).stepOpen)).map (fun t =>
    let x := s.tenant t
    let est := (s.frozen t).est.getD x.frame 0
    let due := x.frameOpenAt + est
    (1, if due < s.now then s.now + est / 8 else due))

/-- Soft and hard margins of the slates that are not READY. -/
def State.slateEvents (s : State) : List Source :=
  (s.liveSlates.filter (fun i => (s.slate i).state != .ready && (s.tenant (s.slate i).tenant).stepOpen)).flatMap (fun i =>
    let r := s.slate i
    let c := s.frameAt r.tenant r.e.callFrame
    [(2, c + (s.frozen r.tenant).softLate), (2, c + (s.frozen r.tenant).hardLate)])

/-- Timer starts, pacing boundaries with granules waiting, and backoff ends. -/
def State.moverEvents (s : State) : List Source :=
  s.movers.chans.flatMap (fun p =>
    let h := p.2
    let period := fld h.active.pace.toNat 0 16
    (if h.state = .wait ∧ fld h.active.cfg.toNat 0 2 = 1 then [(3, h.startAt)] else [])
      ++ (if h.state = .busy ∧ !h.inPool ∧ period ≠ 0 then [(3, h.periodAt + period)] else [])
      ++ h.retries.map (fun r => (3, r.dueAt)))

def State.waitEvents (s : State) : List Source := s.eyes.waits.filterMap (fun w => w.due.map (fun d => (4, d)))

/-- Countersign window, lock idle limits, heartbeat limit. -/
def State.guardEvents (s : State) : List Source :=
  let hb := fld (s.reg R.TIER_HB_LIMIT).toNat 0 24
  (match s.security.proposal with | some q => [(5, q.endsAt)] | none => [])
    ++ (if s.lockLimit = 0 then [] else
        (s.pages.filter (fun p => p.2.owner.isSome)).map (fun p => (5, p.2.accessAt + s.lockLimit)))
    ++ (if hb = 0 ∨ s.tiers.host ≠ .attached then [] else [(5, s.tiers.hbAt + us hb)])

def State.hintEvents (s : State) : List Source :=
  match s.power.hintAt with
  | some t => if (List.range 8).any (fun k => (s.tenant k).stepOpen) then [] else [(6, t)]
  | none => []

def State.pdEvents (s : State) : List Source :=
  s.power.pds.filterMap (fun p => match p.2.phase with
    | .drain => some (7, p.2.since + s.drainLimit)
    | .defer => some (7, p.2.since + s.deferMax)
    | _ => none)

/-- The AOC time at which operating time next crosses a multiple of 2^32 µs (R388). -/
def State.persistAt (s : State) : Nat :=
  100 * ((s.optime / 2 ^ 32 + 1) * 2 ^ 32 - s.recorder.optimeBase)

def State.events (s : State) : List Source :=
  s.frameEvents ++ s.slateEvents ++ s.moverEvents ++ s.waitEvents ++ s.guardEvents ++ s.hintEvents ++ s.pdEvents
    ++ [(8, s.persistAt)]

/-- The earliest event that has not passed; of two at one time the lower source. -/
def State.nextEvent (s : State) : Option Source :=
  (s.events.filter (fun e => decide (s.now ≤ e.2))).foldl (fun b e => match b with
    | none => some e
    | some c => if e.2 < c.2 ∨ (e.2 = c.2 ∧ e.1 < c.1) then some e else some c) none

/-! ### Choice of a state (R356, R358, R361) -/

/-- PWR_GUARD.guard. -/
def State.guardPercent (s : State) : Nat := fld (s.reg R.PWR_GUARD).toNat 0 6

/-- G and E. -/
def State.gapOf (s : State) : Nat × Nat :=
  let g := match s.nextEvent with | some e => min 0xFFFFFFFF (e.2 - s.now) | none => 0xFFFFFFFF
  (g, g - ceilDiv (g * s.guardPercent) 100)

def stateFor (e : Nat) : Power :=
  if e < 40 then .idle else if e < 1200 then .doze else if e < 20000 then .nap else .deep

def Power.ofNum : Nat → Power
  | 0 => .active | 1 => .idle | 2 => .doze | 3 => .nap | 4 => .deep | _ => .active

/-- power_policy and fixed_state of the global mode word. -/
def State.policy (s : State) : Nat := fld s.modeWord 8 2
def State.fixedState (s : State) : Power := Power.ofNum (fld s.modeWord 10 3)

/-- wake_at for a state, from now on. -/
def State.wakeFor (s : State) (st : Power) (e : Nat) : Nat :=
  if s.policy = 2 then
    match s.nextEvent with
    | some ev => max s.now (ev.2 - st.latency)
    | none => s.now + 0xFFFFFFFF
  else s.now + e - st.latency

/-- Milliwatts that a sleep state leaves to lend. -/
def State.lendable (s : State) (st : Power) : Nat := s.power.budget - (if st = .nap then 900 else 600)

/-- Enter a state from ACTIVE or IDLE: lending, BUDGET_LENT and STATE_CHANGE. -/
def State.enterState (s : State) (st : Power) (wakeAt : Nat) : State :=
  let old := s.power.state
  let s := (s.powerTo st).setPower (fun p => { p with wakeAt := some wakeAt })
  let s := if st = .nap ∨ st = .deep then
      let mw := s.lendable st
      let d := min 0xFFFFFFFF ((wakeAt - s.now) / 100)
      ((s.outPower (1 + 2 ^ 16 * mw + 2 ^ 32 * d)).setPower (fun p => { p with lending := true, lent := mw })).log 0x0202 8
        [w32 mw, w32 d, 0#32, 0#32]
    else s
  s.logChange old st 0

/-- The power state of an instance that is not quiescent: IDLE while no unit has work, else ACTIVE; a fixed state ACTIVE is
never left (R354, R358). -/
def State.idleOrActive (s : State) : State :=
  if s.noWork && !(s.policy == 2 && s.fixedState == .active) then
    (if s.power.state = .idle then s else (s.powerTo .idle).setPower (fun p => { p with wakeAt := none }))
  else if s.power.state = .idle then s.powerTo .active
  else s

/-- The choice of a state: by the procedure of R356 on entry to quiescence, else by the units' work (R354). Under performance
the state is never deeper than IDLE (R358). -/
def State.choosePower (s : State) : State :=
  if s.asleep ∨ s.power.state = .off ∨ !s.isReady then s
  else if s.policy = 1 ∨ !s.quiescent then s.idleOrActive
  else
    let (g, e) := s.gapOf
    let st := if s.policy = 2 then s.fixedState else stateFor e
    let src := match s.nextEvent with | some ev => ev.1 | none => 0
    let s := s.setPower (fun p => { p with gap := g, eff := e, src := src, chosen := st })
    s.enterState st (s.wakeFor st e)

/-- The timer reaches wake_at: a sleeping instance begins its wake, one in IDLE is ACTIVE at once (R356). -/
def State.timerWake (s : State) : State :=
  match s.power.wakeAt with
  | none => s
  | some t =>
    if s.power.state = .idle then (s.advanceTo t).powerTo .active
    else if !s.asleep ∨ s.power.waking.isSome then s
    else (s.advanceTo t).beginWake 0

/-- A source has changed while the instance sleeps: wake_at moves, and a wake_at that is past wakes at once. -/
def State.moveWake (s : State) : State :=
  if !s.asleep ∨ s.power.waking.isSome then s
  else
    let (g, e) := s.gapOf
    let st := s.power.state
    let past := decide (s.policy ≠ 2) && decide (e < st.latency)
    let src := match s.nextEvent with | some ev => ev.1 | none => 0
    let w := s.wakeFor st e
    let s := s.setPower (fun p => { p with gap := g, eff := e, src := src, wakeAt := some w })
    if past ∨ w ≤ s.now then s.beginWake 0 else s

/-- What a step leaves of an instance that it found with other sources: where it sleeps, wake_at moves (R356). -/
def State.movedFrom (s was : State) : State := if s.asleep && s.events != was.events then s.moveWake else s

/-- PWR_HINT. -/
def State.writeHint (s : State) (v : Nat) : State :=
  (s.setReg R.PWR_HINT (w32 v)).setPower (fun p => { p with hintAt := if v = 0 then none else some (s.now + us v) })

/-- PWR_CTRL.wake: return to ACTIVE, and choose again. OFF is left only by a power-on reset (R359). -/
def State.wakeCommand (s : State) : State :=
  if s.power.offPending ∨ s.power.state = .off then s
  else if s.asleep then s.rouse
  else (s.powerTo .active).choosePower

/-- RECLAIM_ACK. -/
def State.reclaimAck (s : State) : State := s.setPower (fun p => { p with needAck := false })

/-- BUDGET_SET (R362). -/
def State.setBudget (s : State) (mw : Nat) : State := s.setPower (fun p => { p with budget := max 6000 (min 18000 mw) })

/-- Does a cause of R357 hold: a rise of lace_done on a wire in ARRIVED, or a pulse on a line enabled in EYE_WAKE_MASK? -/
def State.wakeCauseHolds (s : State) (c : WakeCause) : Bool :=
  match c with
  | .laceDone v => (List.range 16).any (fun n => (s.wire n).state == .arrived && bitAt v.toNat n && !bitAt s.lace.done n)
  | .clapper low => mapMinus low.toNat s.lace.others &&& s.reg64 R.EYE_WAKE_MASK 0 != 0
  | .hostPowerDown => (s.pd 0).req
  | .coreReset => true

/-- What the AOC edge samples (R26): a wire that the instance itself holds reads low (R22, R288). -/
def State.sample (s : State) (c : WakeCause) : State :=
  match c with
  | .laceDone v => { s with lace := { s.lace with done := bitSum 16 (fun n => bitAt v.toNat n && (s.wire n).state != .hold) } }
  | .clapper low => { s with lace := { s.lace with others := low.toNat } }
  | _ => s

/-! ### Power-down of another domain (R363 to R365, R317) -/

/-- Transactions in flight to a domain. -/
def State.domainTxns (s : State) (d : Nat) : List Txn := (s.movers.txns.map (·.2)).filter (fun t => t.domain == some d)

/-- Is something in flight to a domain: a transaction, or for the I/O die a peer operation without its acknowledgement (R363)? -/
def State.domainBusy (s : State) (d : Nat) : Bool := s.domainTxns d != [] || (d == 3 && s.peer.ops != [])

/-- The transfers in flight to a domain. -/
def State.domainTransfers (s : State) (d : Nat) : List Nat := once ((s.domainTxns d).map (·.transfer))

/-- Does a transfer touch a domain with its first access on its outside? -/
def State.touchesDomain (s : State) (d : Nat) (x : Transfer) : Bool :=
  s.accessDomain 0 x (!x.kind.readsMem) false 0 == some d

/-- The transfers that defer a grant (R364), nearest deadline first. -/
def State.deferring (s : State) (d : Nat) : List Transfer :=
  (s.movers.transfers.map (·.2)).filter (fun x => s.urgent d x && s.touchesDomain d x)

/-- The transfer with the nearest deadline. -/
def nearest : List Transfer → Option Transfer
  | [] => none
  | x :: r => match nearest r with
    | some y => if y.deadline < x.deadline then some y else some x
    | none => some x

/-- The transfer created last waits until a domain is powered. -/
def State.waitForPower (s : State) (d : Nat) : State :=
  let id := s.movers.nextTransfer - 1
  match s.transfer id with
  | some x => s.setTransfer id { x with powerWait := some d }
  | none => s

/-- What the grant does to an aborted transfer (R317): a state, with the slates reverted and channels halted. -/
def State.abortFor (d : Nat) (p : State × List Nat × Nat) (id : Nat) : State × List Nat × Nat :=
  let (s, slates, halts) := p
  match s.transfer id with
  | none => p
  | some x =>
    match x.kind with
    | .out =>
      let s := s.endTransfer id 0
      (s.modTenant x.tenant (fun t => { t with enOff := if t.enOff.contains x.tier then t.enOff else t.enOff ++ [x.tier] }),
        (if slates.contains x.slate then slates else x.slate :: slates), halts)
    | .ret =>
      let s := (s.removeTransfer id).startReturn x.slate x.deadline x.operandOf
      (s.waitForPower d, slates, halts)
    | .move =>
      let s := (s.cancelTransfer id).startMove x.slate x.deadline
      (s.waitForPower d, slates, halts)
    | .prop =>
      let s := ((s.removeTransfer id).queueTransfer (s.rewound x))
      (s.waitForPower d, slates, halts)
    | .director => match s.channelOf id with
      | some c => (s.linkHalt c, slates, halts + 1)
      | none => (s, slates, halts)
    | .fill => p

/-- pd_gnt_n falls: undrained transactions are aborted (R317, R363). -/
def State.grant (s : State) (d : Nat) : State :=
  let s := s.setPd d { s.pd d with phase := .granted }
  let ids := once (((s.domainTxns d).filter (fun t => !t.aborted)).map (·.transfer))
  let s := { s with movers := { s.movers with txns := s.movers.txns.filter (fun p => p.2.domain != some d) } }
  let s := if d = 3 then { s with peer := { s.peer with ops := [] } } else s
  let r := ids.foldl (State.abortFor d) (s, [], 0)
  let s := r.1
  let s := if ids = [] then s
    else s.log 0x0204 8 [w32 d, w32 ids.length, w32 r.2.1.length, w32 r.2.2]
  (if d = 0 then s.detachHost 3 else s).tendJobs.drain

/-- pd_req[d] rises. -/
def State.pdRequest (s : State) (d : Nat) : State :=
  if (s.pd d).req then s
  else
    let s := s.raise 0x02 1
    if d = 0 then (s.setPd d ⟨true, .drain, s.now⟩).rouse
    else if s.asleep then (s.setPd d ⟨true, .none, s.now⟩).grant d
    else s.setPd d ⟨true, .drain, s.now⟩

/-- The drain ends: early when nothing is in flight to the domain, else at its limit (R363). -/
def State.drainEnd (s : State) (d : Nat) : State :=
  if (s.pd d).phase ≠ .drain then s
  else
    let n := (s.domainTransfers d).length
    let s := if s.domainBusy d then s.advanceTo ((s.pd d).since + s.drainLimit) else s
    let s' := s.setPd d { s.pd d with phase := .defer, since := s.now }
    match nearest (s'.deferring d) with
    | none => s.grant d
    | some x => s'.log 0x0203 8 [w32 d, w32 (s.deferMax / 100), slateWord x.slate x.gen x.tenant, w32 n]

/-- The deferral ends: when its transfers have ended, else at PD_DEFER_MAX (R364). -/
def State.deferEnd (s : State) (d : Nat) : State :=
  if (s.pd d).phase ≠ .defer then s
  else
    let s := if s.deferring d = [] then s else s.advanceTo ((s.pd d).since + s.deferMax)
    s.grant d

/-- pd_req[d] falls: issue resumes, and the transfers that wait for the domain proceed (R365). -/
def State.pdWithdraw (s : State) (d : Nat) : State :=
  let s := s.setPd d ⟨false, .none, s.now⟩
  let s := { s with movers := { s.movers with transfers := s.movers.transfers.map (fun (p : Nat × Transfer) =>
    (p.1, if p.2.powerWait = some d then { p.2 with powerWait := none } else p.2)) } }
  let s := s.flushWrites
  if d = 3 then (once (s.peer.waitingOps.map (·.package))).foldl State.drainPeer s else s

/-! ### OFF (R359) -/

/-- May the instance go OFF? -/
def State.mayGoOff (s : State) : Bool :=
  (List.range 8).all (fun t => !(s.tenant t).stepOpen) && s.liveSlates.isEmpty && s.security.loans.isEmpty && s.quiescent

end Sys2Proof.Machine
end

