-- ==== Sys2Proof/Machine/Recorder.lean ====
section
/-! DEFINITION. The event recorder: storing, reading and discarding records, the time service, and the counters kept
in the NV store (R379 to R393). -/

namespace Sys2Proof.Machine

def State.setRecorder (s : State) (f : Recorder → Recorder) : State := { s with recorder := f s.recorder }

/-- Distance from one sequence number to a later one (R383). -/
def seqFrom (a b : Nat) : Nat := (b + 2 ^ 32 - a % 2 ^ 32) % 2 ^ 32

/-- Records in the ring. -/
def Recorder.held (r : Recorder) : Nat := seqFrom r.tail r.head

/-- The watermark; values outside 1 to 8,192 take the reset value when they are written (R393). -/
def State.watermark (s : State) : Nat := fld (s.reg R.REC_CTRL).toNat 0 14

/-- Waiting events are taken while the write queue has room (R381). -/
def State.takeWaiting (s : State) : Nat → State
  | 0 => s
  | f + 1 =>
    match s.recorder.waiting with
    | [] => s
    | e :: r =>
      if s.recorder.queue.length < 16 then
        ((s.setRecorder (fun x => { x with waiting := r })).takeRec (s.recordOf e)).takeWaiting f
      else s

/-- Put a record into its slot; the ring advances, or its oldest record is overwritten (R383). -/
def Recorder.store (r : Recorder) (x : Rec) (q : List Rec) : Recorder :=
  let full := r.held == 8192
  { r with queue := q, ring := put r.ring (x.seq % 8192) x, head := (r.head + 1) % 2 ^ 32,
           tail := if full then (r.tail + 1) % 2 ^ 32 else r.tail, wrapped := r.wrapped || full }

/-- The write queue stores its oldest record (R381 to R383, R392). -/
def State.recordStore (s : State) : State :=
  match s.recorder.queue with
  | [] => s
  | x :: q =>
    let before := s.recorder.held
    let s := s.setRecorder (fun r => r.store x q)
    let s := if before = 8192 then (s.bump R.REC_OVERWRITTEN 1).raise 0x1B 2 else s
    let s := if before < s.watermark ∧ s.watermark ≤ s.recorder.held then s.raise 0x1B 1 else s
    s.takeWaiting 16

/-- A write of REC_TAIL (R390). -/
def State.writeTail (s : State) (t : Nat) : State :=
  let ok := decide (seqFrom s.recorder.tail t ≤ s.recorder.held)
  s.setRecorder (fun r => { r with tail := if ok then t else r.tail, tailReject := !ok })

/-- The eight words of a record (R379). -/
def Rec.word (x : Rec) (n : Nat) : Word :=
  match n with
  | 0 => w32 x.seq
  | 1 => w32 (x.code + 2 ^ 16 * x.source + 2 ^ 24 * x.flags)
  | 2 => w32 x.time
  | 3 => w32 (x.time / 2 ^ 32)
  | n => x.params.getD (n - 4) 0#32

/-- REC_WINn (R389). -/
def State.recWin (s : State) (n : Nat) : Word :=
  let c := (s.reg R.REC_CURSOR).toNat
  if seqFrom s.recorder.tail c < s.recorder.held then
    match look s.recorder.ring (c % 8192) with
    | some x => x.word n
    | none => 0#32
  else 0#32

/-- REC_STAT (R393). -/
def State.recStat (s : State) : Nat :=
  let r := s.recorder
  b2n r.wrapped + 2 * b2n r.timeLocked + 4 * b2n r.nvBlank + 8 * b2n r.nvFail + 16 * (r.nvSlot % 2)
    + 32 * b2n r.eraseBelow.isSome + 2 ^ 8 * b2n r.tailReject

/-- The clearing of an applied REC_ERASE ends: slots below the erase point are clear (R391). -/
def State.recEraseEnd (s : State) : State :=
  match s.recorder.eraseBelow with
  | none => s
  | some h => s.setRecorder (fun r => { r with
      eraseBelow := none, ring := r.ring.filter (fun p => decide (seqFrom h p.2.seq < 2 ^ 31)) })

/-! ### Time service (R385) -/

/-- A time message with ns since the epoch: a counter that is behind is set, one that is ahead runs slow. -/
def State.timeMessage (s : State) (ns : Nat) : State :=
  let c := s.calendar
  s.setRecorder (fun r => { r with calNs := max c ns, calAt := s.now, calRef := ns, calMsgAt := some s.now,
                                   timeLocked := true })

/-- No message for 10 ms. -/
def State.timeLockLost (s : State) : State :=
  match s.recorder.timeLocked, s.recorder.calMsgAt with
  | true, some t => (s.advanceTo (t + us 10000)).setRecorder (fun r => { r with timeLocked := false })
  | _, _ => s

/-! ### Persistent counters (R386 to R388) -/

/-- The first twelve bytes of a slot: operating time, count, generation (R386). -/
def NvSlot.head (x : NvSlot) : List Byte := leBytes x.optime 6 ++ leBytes x.count 2 ++ leBytes x.gen 4

/-- The 16 bytes of a slot (R386). -/
def NvSlot.bytes (x : NvSlot) : List Byte := x.head ++ leBytes (crc32c x.head) 4

/-- What a slot holds, where its CRC is right. -/
def nvRead (bs : List Byte) : Option NvSlot :=
  if leAt bs 12 4 = crc32c (bs.take 12) then some ⟨leAt bs 0 6, leAt bs 6 2, leAt bs 8 4⟩ else none

/-- What slot i of an NV store holds. -/
def nvAt (nv : List (List Byte)) (i : Nat) : Option NvSlot := nvRead (nv.getD i [])

/-- Is generation a newer than b? -/
def newerGen (a b : Nat) : Bool := decide (1 ≤ seqFrom b a) && decide (seqFrom b a ≤ 2 ^ 31 - 1)

/-- The slot that a power-on takes. -/
def nvTaken (nv : List (List Byte)) : Option (Nat × NvSlot) :=
  match nvAt nv 0, nvAt nv 1 with
  | some a, some b => if newerGen a.gen b.gen then some (0, a) else some (1, b)
  | some a, none => some (0, a)
  | none, some b => some (1, b)
  | none, none => none

/-- The slot that the next persistence writes: of two blank slots, slot 0 (log entry 22). -/
def Recorder.nvTarget (r : Recorder) : Nat :=
  if (nvTaken r.nv).isNone then 0 else 1 - r.nvSlot

/-- Send the counters to the slot that was not taken or last written. -/
def State.persist (s : State) : State :=
  let i := s.recorder.nvTarget
  let gen := match nvAt s.recorder.nv (1 - i) with | some x => (x.gen + 1) % 2 ^ 32 | none => 1
  s.setRecorder (fun r => { r with nvPending := some (i, s.now, NvSlot.bytes ⟨s.optime, r.pcycles, gen⟩) })

/-- Operating time crosses a multiple of 2^32 µs. -/
def State.persistence (s : State) : State := (s.advanceTo s.persistAt).persist

/-- The NV store acknowledges the write. -/
def State.nvWriteAck (s : State) : State :=
  match s.recorder.nvPending with
  | none => s
  | some (i, _, x) => s.setRecorder (fun r => { r with nv := r.nv.set i x, nvSlot := i, nvFail := false, nvPending := none })

/-- No acknowledgement within 10 ms: which bytes of the slot are new is left open (log entry 22). -/
def State.nvWriteTimeout (s : State) : State :=
  match s.recorder.nvPending with
  | none => s
  | some (i, t, x) =>
    let v := (s.unstatedWord).toNat
    let old := s.recorder.nv.getD i []
    let torn := (List.range 16).map (fun k => (if bitAt v k then x else old).getD k 0#8)
    ((s.advanceTo (t + us 10000)).draw).setRecorder (fun r => { r with
      nv := r.nv.set i torn, nvFail := true, nvPending := none })

/-- The release of por_n reads both slots and adds one to the power-cycle count (R387). -/
def Recorder.powerOn (nv : List (List Byte)) : Recorder :=
  match nvTaken nv with
  | some (i, x) => { Recorder.init with nv := nv, nvSlot := i, optimeBase := x.optime, pcycles := min 0xFFFF (x.count + 1) }
  | none => { Recorder.init with nv := nv, nvBlank := true, pcycles := 1 }

end Sys2Proof.Machine
end

