-- ==== Sys2Proof/Machine/Resets.lean ====
section
/-! DEFINITION. Resets, boot, isolation, test wrapper, loopbacks, sequencer halt and OFF (R296, R316, R346 rule K, R359,
R366 to R377, R394 to R399, R411, R412). -/

namespace Sys2Proof.Machine

def State.setRst (s : State) (f : ResetUnit → ResetUnit) : State := { s with rst := f s.rst }
def State.setDebug (s : State) (f : Debug → Debug) : State := { s with dbg := f s.dbg }

/-- A boot whose self-tests find nothing. -/
def cleanTest : BootTest := { decoders := [], lanes := [], stitchers := [], shelves := [], also := [] }

/-! ### Isolation (R296, R316) -/

/-- The outbound writes that have no response yet: director and tier writes with their bytes, and tier-4 writes
by their sequence number. -/
def State.outstandingWrites (s : State) : List OutWrite :=
  s.movers.txns.filterMap (fun p =>
    let t := p.2
    match t.addr with
    | none => none
    | some a =>
      if !t.write then none
      else if t.seq.isSome then some ⟨p.1, t.seq, 0, []⟩
      else some ⟨p.1, none, a, if t.flag ∧ s.inDoorbells a then [] else t.data⟩)

/-- A dropped write: each 64-byte line is left old or new, as a free value says (R316, R217). -/
def State.dropLines (s : State) (a : Nat) (bytes : List Byte) : Nat → State
  | 0 => s
  | f + 1 =>
    if bytes.isEmpty then s
    else
      let n := 64 - a % 64
      let s' := if bitAt (Config.unstated s.draws).toNat 0 then s.draw.memWrite a (bytes.take n) else s.draw
      s'.dropLines (a + n) (bytes.drop n) f

/-- Operand requests in flight: those of which a bank has not driven the last beat. -/
def State.inFlight (s : State) : Nat :=
  sumNat (s.banks.map (fun p => p.2.elastic.length + p.2.reqs.length + p.2.offered.length))

/-- The answers that an isolation gives to a bank's requests: poisoned beats, in request order (R316). -/
def State.flushAnswers (s : State) (b : Nat) (k : Bank) : List Beats :=
  let all := allPoisoned
  k.elastic.map (fun x => { x with poison := all, beats := beatsOf s.draws all [] })
    ++ (k.reqs.map (fun q => (q.slate, q.gen, q.block)) ++ k.offered).map
      (fun o => ⟨b, o.1, o.2.1, o.2.2, all, beatsOf s.draws all [], 8⟩)

/-- Answer the operand requests in flight with poisoned beats (R316 step 2). -/
def State.poisonInFlight (s : State) : State :=
  (s.banks.flatMap (fun p => s.flushAnswers p.1 p.2)).foldl State.outBeats
    { s.draw with banks := s.banks.map (fun p => (p.1, { p.2 with reqs := [], elastic := [], offered := [] })) }

/-- A request that the boundary holds, and not a report that no one waits for. -/
def HeldReq.asks (r : HeldReq) : Bool := match r with | .notice _ => false | _ => true

/-- Step 1 of an isolation: the requests that wait at the boundary are answered with an error. -/
def State.refuseHeld (s : State) : State :=
  ({ s with power := { s.power with heldReqs := [] } }).outErrors (s.power.heldReqs.filter HeldReq.asks).length

/-- A reset of the whole instance begins: waits end with RESET, every enabled clapper mapping is pulsed, and what is in flight
is answered (R296, R316). -/
def State.beginIsolation (s : State) : State :=
  let n := s.inFlight
  let h := (s.power.heldReqs.filter HeldReq.asks).length
  let s := (List.range 64).foldl State.pulseQueue (s.endWaits (fun _ => true) 0x26 true)
  (s.poisonInFlight.refuseHeld).setRst (fun r => { r with iso := (0, h, n) })

/-- The writes that are still unanswered are dropped (R316 step 4). -/
def State.dropWrites (s : State) (ws : List OutWrite) : State :=
  let s := ws.foldl (fun (s : State) w => s.dropLines w.addr w.data 16) s
  s.setRst (fun r => { r with iso := (r.iso.1 + ws.length, r.iso.2.1, r.iso.2.2), writes := [], isolating := false })

/-- A request that reaches an isolated or absent instance is answered with an error (R316, R374). -/
def State.boundaryError (s : State) : State :=
  (s.setRst (fun r => { r with iso := (r.iso.1, if r.isolating || r.phase != .ready then r.iso.2.1 + 1 else r.iso.2.1, r.iso.2.2) })).outError

/-! ### What a level clears (R369) -/

/-- Everything cleared but memory, the die, the boundary's past outputs and the queue of commands. -/
def State.blank (s : State) : State :=
  { State.reset with mem := s.mem, die := s.die, out := s.out, draws := s.draws, pending := s.pending, now := s.now }

/-- Domains whose request pin is high stay requested; their handling starts at READY (R365, R374). -/
def State.keepRequests (s : State) : NMap Pd :=
  (s.power.pds.filter (fun p => p.2.req)).map (fun p => (p.1, ⟨true, .none, p.2.since⟩))

/-- What a system reset leaves: recorder, straps, debug logic and causes, and the clapper pulses that its isolation began
(R296). test ends unless an instruction holds the boundary (R394). -/
def State.systemClear (s : State) (causes : List Nat) (opcode : Nat) (writes : List OutWrite) : State :=
  { s.blank with
    recorder := { s.recorder with tailReject := false }
    lace := { State.reset.lace with pulses := s.lace.pulses }
    dbg := { s.dbg with test := s.dbg.test && holding s.dbg.wir }
    port := { CmdPort.init with decoded := s.port.decoded, lastOpcode := s.port.lastOpcode }
    regs := s.regs.filter (fun p => p.1 % 2 ^ 20 / 0x1000 == 0x1E)
    pages := s.pages.filter (fun p => p.1 == 0x1E)
    power := { PowerUnit.init with since := s.now, pds := s.keepRequests }
    rst := { ResetUnit.init with
      phase := .clear, bootSrc := s.rst.bootSrc, clkMode := s.rst.clkMode, cause := s.rst.cause, causeNow := causes,
      releasedAt := s.now, restart := s.power.state.latency, isolating := !writes.isEmpty, writes := writes,
      iso := s.rst.iso, opcode := opcode } }

/-! ### Boot (R371, R372, R375, R376) -/

/-- FCLK cycles in one AOC tick by the clock straps; the reserved value acts as 00 (R371). -/
def clkRate (m : BitVec 2) : Nat := if m = 1#2 then 16 else if m = 2#2 then 1 else 20

/-- Advance by FCLK cycles. -/
def State.afterCycles (s : State) (n : Nat) : State := s.advanceTo (s.now + ceilDiv n (clkRate s.rst.clkMode))

/-- The record of a completed reset: that of the lowest cause bit among the sources of its level (R303, R367). -/
def State.recordReset (s : State) : State :=
  let r := s.rst
  let straps := w32 (r.bootSrc.toNat + 4 * r.clkMode.toNat)
  match r.causeNow.foldl min 8 with
  | 0 => s.log 0x0101 9 [r.cause, straps, w32 r.readyUs, w32 s.recorder.pcycles]
  | 1 => s.log 0x0102 9 [r.cause, straps, w32 r.readyUs, 0#32]
  | 3 => s.log 0x0104 9 [r.cause, 1#32, w32 r.opcode, 0#32]
  | 4 => s.log 0x0105 9 [r.cause, w32 (1 + 2 ^ 8), 0#32, 0#32]
  | 5 => s.log 0x0105 9 [r.cause, w32 (2 + 2 ^ 8), 0#32, 0#32]
  | _ => s

/-- ISO_FLUSH, when the isolation dropped or answered anything (R316). -/
def State.recordFlush (s : State) : State :=
  let r := s.rst
  let (d, e, p) := r.iso
  let s := s.setRst (fun r => { r with iso := (0, 0, 0) })
  if d + e + p = 0 then s
  else s.log 0x0106 9 [w32 d, w32 e, w32 p, w32 (r.causeNow.foldl min 8)]

/-- relith_ready_n falls (R375 step 8), and the interrupt lines follow their pages from now on (R373); requests of domains that
are high begin (R365), and a sequencer that DBG_CTRL halts stops before its first command (R412). -/
def State.reachReady (s : State) : State :=
  let t := s.setRst (fun r => { r with phase := .ready, readyUs := (s.now - r.releasedAt) / 100 })
  let t := { t with power := { t.power with since := t.now, pds := t.power.pds.map (fun (p : Nat × Pd) => (p.1, Pd.mk p.2.req .drain t.now)) } }
  ((((t.noteIrq (s.irqLine 0) (s.irqLine 1)).raise 0x01 1).recordReset).recordFlush).takeHalt

/-- The boot ends: image cycles, the opening of the ports and 20 ns (R375 steps 6 to 8). -/
def State.openPorts (s : State) (cycles : Nat) : State :=
  let s := s.afterCycles (cycles + 2000)
  (s.advanceTo (s.now + 2)).reachReady

/-- Indexes below n that a self-test names, each once and ascending. -/
def namedBelow {n : Nat} (l : List (Fin n)) : List Nat := (List.range n).filter (fun k => l.any (fun x => x.val == k))

/-- Decoder self-tests of a boot, by bank. -/
def State.testDecoders (s : State) (l : List (Fin 48 × Fin 17)) : State :=
  (List.range 48).foldl (fun (s : State) b =>
    (namedBelow ((l.filter (fun p => p.1.val == b)).map (·.2))).foldl (fun (s : State) d => s.mapOutDecoder b d true) s) s

/-- The clearing and self-tests of steps 4 and 5, then the boot phase by strap (R372). -/
def State.clearAndBoot (s : State) (test : BootTest) : State :=
  let s := (s.setRst (fun r => { r with phase := .clear })).afterCycles 229376
  let s := (namedBelow test.stitchers).foldl (fun (s : State) l => s.mapOutStitcher l 0) s
  let s := s.testDecoders test.decoders
  let s := (namedBelow test.lanes).foldl (fun (s : State) l => s.mapOutLane l 0) s
  let s := (s.setRst (fun r => { r with phase := .verify })).afterCycles 229376
  let s := (namedBelow test.shelves).foldl State.retireShelf s
  let s := s.setRst (fun r => { r with phase := .boot, bootResult := if r.bootSrc = 3#2 then 3 else 0 })
  if s.rst.bootSrc = 0#2 then s.openPorts 80000 else s

/-- Is a boot image good (R372)? Its length field may not exceed what was read (log entry 23). -/
def bootImageGood (b : List Byte) : Bool :=
  let n := leAt b 4 4
  decide (64 ≤ b.length) && leAt b 0 4 == 0x7E1A5C04 && decide (64 ≤ n) && decide (n ≤ b.length)
    && leAt b 60 4 == crc32c (b.take 60 ++ (b.take n).drop 64)

/-- Is the instance in the boot phase under a strap value? -/
def State.bootWaits (s : State) (src : BitVec 2) : Bool :=
  s.rst.powered && s.rst.phase == .boot && s.rst.bootSrc == src

/-- RST_BOOT_CTRL.go (R372): the image's load takes the cycles of a boot from ROM (log entry 23). -/
def State.bootGo (s : State) : State :=
  if !s.bootWaits 1#2 then s
  else if bootImageGood (Memory.read s.mem (s.reg64 R.RST_BOOT_ADDR 0) (fld (s.reg R.RST_BOOT_BYTES).toNat 0 24)) then
    (s.setRst (fun r => { r with bootResult := 0 })).openPorts 80000
  else s.setRst (fun r => { r with bootResult := 2 })

/-- A valid image arrives from the sibling. -/
def State.siblingImage (s : State) : State := if s.bootWaits 2#2 then s.openPorts 120000 else s

/-- No valid image from the sibling: boot from ROM (R372, R375). -/
def State.siblingTimeout (s : State) : State :=
  if s.bootWaits 2#2 then (s.setRst (fun r => { r with bootResult := 1 })).openPorts 200000 else s

/-! ### Power-on and system reset (R366, R367, R369, R375, R376) -/

/-- A source's bit in the cause register (R366). -/
def State.addCause (s : State) (bit : Nat) : State := s.setRst (fun r => { r with cause := r.cause ||| w32 (2 ^ bit) })

/-- An NV write in flight when power or the instance goes: the slot is left old, new or invalid (log entry 22). -/
def State.tearNv (s : State) : State :=
  let t := s.now
  { s.nvWriteTimeout with now := t }

/-- por_n releases. -/
def State.powerOn (s : State) (bootSrc clkMode : BitVec 2) (test : BootTest) : State :=
  let s := if s.rst.powered then s.beginIsolation.dropWrites s.outstandingWrites else s
  let s := s.tearNv
  let t := { s.blank with
    now := 1
    recorder := Recorder.powerOn s.recorder.nv
    power := { PowerUnit.init with pds := s.keepRequests }
    rst := { ResetUnit.init with phase := .lock, bootSrc := bootSrc, clkMode := clkMode, iso := s.rst.iso } }
  let t := t.persist
  (t.advanceTo (t.now + us 20)).clearAndBoot test

/-- The isolation has ended: clear, test and boot (R376). -/
def State.finishSystem (s : State) (test : BootTest) : State :=
  (s.advanceTo (s.now + s.rst.restart)).clearAndBoot test

/-- A sequence of a reset is running, or the instance has no power. -/
def State.inReset (s : State) : Bool := s.rst.isolating || s.rst.phase != .ready

/-- The opcode being decoded: that of a command that waits at the head of the queue, else SEAL while one awaits its
decision, 0xFF for none (log entry 26). -/
def State.decoding (s : State) : Nat :=
  match s.frontCmd s.port.queue with
  | some (p, _) => if s.seqHalt then 0xFF else p.1.toNat
  | none => if s.clicker.queue.any (fun u => u.cmd.isSome) then 0x03 else 0xFF

/-- The system-level sources of one AOC cycle act, their cause bits set: during another sequence of that level or deeper
nothing more happens (R367). -/
def State.systemLevel (s : State) (bits : List Nat) (test : BootTest) : State :=
  if s.inReset then
    if s.rst.isolating ∧ s.now = s.rst.releasedAt then s.setRst (fun r => { r with causeNow := bits ++ r.causeNow }) else s
  else
    let op := s.decoding
    let ws := s.outstandingWrites
    let s := s.beginIsolation.systemClear bits op ws
    if ws.isEmpty then s.finishSystem test else s

/-- The wait for write responses ends: at once when all have come, else after 2 µs (R316). -/
def State.drainDone (s : State) (test : BootTest) : State :=
  if !s.rst.isolating then s
  else
    let ws := s.rst.writes
    let s := if ws.isEmpty then s else s.advanceTo (s.rst.releasedAt + us 2)
    (s.dropWrites ws).finishSystem test

/-- A response to a write that the isolation waits for: its bytes are globally visible. -/
def State.drainedWrite (s : State) (f : OutWrite → Bool) (ok : Bool) : State :=
  let hit := s.rst.writes.filter f
  let s := s.setRst (fun r => { r with writes := r.writes.filter (fun w => !f w) })
  if ok then hit.foldl (fun (s : State) w => s.memWrite w.addr w.data) s else s

/-! ### Core reset and watchdog (R368, R370) -/

/-- The clicker starts again: every SEALED slate waits for its decision, in ascending index, against the frame
counter of that moment; a SEAL that had not completed completes then (R370). -/
def State.restartClicker (s : State) : State :=
  let old := s.clicker.queue
  let q := (s.liveSlates.filter (fun i => (s.slate i).state == .sealed)).map (fun i =>
    (⟨i, (s.slate i).gen, none, (old.find? (fun u => u.slate == i)).bind (·.cmd)⟩ : Undecided))
  { s with clicker := { s.clicker with queue := q } }

/-- The core-level sources of one AOC cycle act, their cause bits set, with one record: that of the lowest bit (R367, R370). From
IDLE the instance is ACTIVE at once; from a sleep state it wakes as from any unplanned cause, and the clicker and the sequencer
go on once FCLK runs (R357, R361, R369). -/
def State.coreLevel (s : State) (bits : List Nat) : State :=
  if s.inReset ∨ s.dbg.test then s
  else
    let op := s.decoding
    let n := s.clicker.queue.length
    let s := (s.rouse.restartClicker).bump R.RST_CORE_RESETS 1
    let c := s.rst.cause
    (match bits.foldl min 8 with
      | 2 => s.log 0x0103 9 [c, w32 op, w32 n, 0#32]
      | 3 => s.log 0x0104 9 [c, 0#32, w32 op, 0#32]
      | 4 => s.log 0x0105 9 [c, 1#32, 0#32, 0#32]
      | _ => s.log 0x0105 9 [c, 2#32, 0#32, 0#32]).takeHalt.drain

/-- RST_WDOG (R377). -/
def State.wdogLimit (s : State) : Nat := fld (s.reg R.RST_WDOG).toNat 0 16
def State.wdogEscalate (s : State) : Nat := us (fld (s.reg R.RST_WDOG).toNat 16 16)

/-- Does the watchdog count (R368, R411)? -/
def State.wdogCounts (s : State) : Bool :=
  decide (s.wdogLimit ≠ 0) && s.clockRuns && s.rst.phase == .ready && s.rst.powered
    && !(s.dbg.halted && bitAt (s.reg R.DBG_CTRL).toNat 8)

/-- Does a watchdog that expires now reset at system level: is a watchdog core reset at most escalate back? -/
def State.wdogAgain (s : State) : Bool :=
  match s.rst.wdogCoreAt with | some t => decide (s.now - t ≤ s.wdogEscalate) | none => false

/-- Can a source act (R366, R368)? The watchdog counts; a write of RST_CMD from the debug port names no source. -/
def State.sourceActs (s : State) (x : ResetSource) : Bool :=
  match x with
  | .watchdog => s.wdogCounts
  | .command p _ => p != Port.debug
  | _ => true

/-- The cause bit of a source, and whether it acts at system level (R366). -/
def State.sourceBit (s : State) (x : ResetSource) : Nat × Bool :=
  match x with
  | .system => (1, true)
  | .core => (2, false)
  | .watchdog => (3, s.wdogAgain)
  | .command p deep => (if p = Port.control then 4 else 5, deep)

/-- The sources of one AOC cycle act (R366 to R368): every one sets its bit, and the deepest level acts for the sources that
reach it (log entry 109). -/
def State.resetBy (s : State) (xs : List ResetSource) (test : BootTest) : State :=
  if !s.rst.powered ∨ s.power.state = .off then s
  else
    let xs := xs.filter s.sourceActs
    let bits := xs.map s.sourceBit
    let deep := (bits.filter (·.2)).map (·.1)
    let wdog := xs.contains .watchdog
    let again := s.wdogAgain
    let t := bits.foldl (fun (s : State) b => s.addCause b.1) s
    let t := if wdog && again then t.addCause 8 else t
    if xs = [] then s
    else if deep ≠ [] then t.systemLevel deep test
    else
      let t := t.coreLevel (bits.map (·.1))
      if wdog then t.setRst (fun r => { r with wdogCoreAt := some s.now }) else t

/-- The watchdog expires, with the other sources of that AOC cycle. -/
def State.watchdog (s : State) (test : BootTest) : State := s.resetBy (.watchdog :: test.also) test

/-- A write of RST_CMD (R368), with the other sources of that AOC cycle. -/
def State.resetCommand (s : State) (p : Port) (v : Nat) (test : BootTest) : State :=
  if fld v 16 16 ≠ 0xA5C3 then s
  else if fld v 0 2 = 1 then s.resetBy (.command p false :: test.also) test
  else if fld v 0 2 = 2 then s.resetBy (.command p true :: test.also) test
  else s

/-! ### OFF and loss of power (R359) -/

/-- PWR_CTRL.off: an accepted write first persists the counters; the rest follows when that write has ended (log entry 103). -/
def State.goOff (s : State) : State :=
  if s.power.offPending then s
  else if !s.mayGoOff then (s.setPower (fun p => { p with offRefused := true })).raise 0x02 2
  else s.persist.setPower (fun p => { p with offPending := true, offRefused := false })

/-- The persistence that precedes OFF has ended: relith_ready_n rises, every output takes its inactive level (R373), and OFF_READY
is posted. The trigger of the STATE_CHANGE is stated by no rule. -/
def State.finishOff (s : State) : State :=
  if !s.power.offPending then s
  else
    let old := s.power.state
    let trigger := (Config.unstated s.draws).toNat % 4
    let s := (s.draw.powerTo .off).logChange old .off trigger
    let s := { s with lace := { State.reset.lace with others := s.lace.others } }
    (s.setPower (fun p => { p with offPending := false, offPosted := true, pds := s.keepRequests })).outPower 5

/-- Power goes: only the NV slots stay, with what is outside the instance. -/
def State.powerRemoved (s : State) : State :=
  let s := s.tearNv
  { s.blank with recorder := { Recorder.init with nv := s.recorder.nv }
                 rst := { ResetUnit.init with powered := false, cause := 0#32, causeNow := [] }
                 power := { PowerUnit.init with pds := s.keepRequests } }

/-! ### Sequencer halt (R411, R412) -/

/-- A write of DBG_CTRL.seq_halt. -/
def State.haltSequencer (s : State) (on : Bool) : State :=
  if on then s.takeHalt else (s.setDebug (fun d => { d with halted := false, stepPending := false })).drain

/-- DBG_CTRL.step: one command, then halted again; without a command that can be decoded the step stands until there is one
(log entry 104). -/
def State.stepSequencer (s : State) : State :=
  if s.dbg.halted then (s.setDebug (fun d => { d with stepPending := true })).drainCmds 1 else s

/-! ### Wrapper (R394, R346 rule K) -/

/-- An instruction is in force: the outputs follow the units or are held by the wrapper (R394), and a loopback does not outlive
WS_LOOP (R397, log entry 105). -/
def State.setWir (s : State) (v : BitVec 4) : State :=
  (s.setDebug (fun d => { d with wir := v, lbBusy := d.lbBusy && v == 9#4 })).noteIrq (s.irqLine 0) (s.irqLine 1)

/-- What a scan under the instruction in force puts into the register that it selects: the boundary register or the bypass bit;
WRA has a row of its own (log entry 106). -/
def State.scanIn (s : State) (v : BitVec 4) (scan : Option (BitVec 1904)) : State :=
  match scan with
  | none => s
  | some w =>
    if [1, 2, 3].contains v.toNat then s.setDebug (fun d => { d with wbr := w })
    else if v = 8#4 then s
    else s.setDebug (fun d => { d with wby := w.getLsbD 0 })

/-- A wrapper instruction takes effect; reserved ones act as WS_BYPASS. -/
def State.wirUpdate (s : State) (v : BitVec 4) (scan : Option (BitVec 1904)) : State :=
  let v := if v = 6#4 ∨ v = 7#4 ∨ 10#4 ≤ v then 0#4 else v
  let s := (s.setWir v).scanIn v scan
  if holding v ∧ !s.dbg.test then ((s.setDebug (fun d => { d with test := true })).poisonInFlight).refuseHeld else s

/-- WRSTN. -/
def State.wrapperReset (s : State) : State := s.setWir 0#4

/-! ### Loopbacks (R397, R399) -/

/-- Word w of block b of the pattern. -/
def patternWord (pattern seed b w : Nat) : Nat :=
  if pattern = 1 then 0
  else
    let y := (philox seed 0 (w / 4) b).getD (w % 4) 0
    if pattern = 2 ∧ y % 2 = 0 then 0 else y

/-- One block of the pattern. -/
def patternBlock (pattern seed b : Nat) : List Byte :=
  (List.range 1024).flatMap (fun w => leBytes (patternWord pattern seed b w) 4)

/-- CRC of n blocks of the pattern, in order. -/
def patternCrc (pattern seed n : Nat) : Nat :=
  (List.range n).foldl (fun c b => (patternBlock pattern seed b).foldl crcByte c) 0xFFFFFFFF ^^^ 0xFFFFFFFF

def State.lbKind (s : State) : Nat := fld (s.reg R.DBG_LB_CTRL).toNat 0 2
def State.lbPattern (s : State) : Nat := fld (s.reg R.DBG_LB_CTRL).toNat 2 2
def State.lbBlocks (s : State) : Nat := fld (s.reg R.DBG_LB_CTRL).toNat 8 12

/-- May loopbacks run? -/
def State.lbAllowed (s : State) : Bool :=
  s.dbg.wir == 9#4 && (List.range 8).all (fun t => !(s.tenant t).stepOpen)

/-- DBG_LB_CTRL.go. A go of kind none, or during a run, starts nothing. -/
def State.loopbackGo (s : State) : State :=
  if !s.lbAllowed then s.setDebug (fun d => { d with lbNotAllowed := true })
  else if s.lbKind = 0 ∨ s.dbg.lbBusy then s
  else s.setDebug (fun d => { d with lbBusy := true, lbDone := false, lbPass := false, lbNotAllowed := false, lbFail := 0 })

/-- Beats put back in raw byte order: the inverse of beatOf (R29, R397). -/
def rawOfBeats (beats : List (List Byte)) : List Byte :=
  (List.range 8).flatMap (fun j => beats.flatMap (fun b => (b.drop (64 * j)).take 64))

/-- The bytes that arrive of a block on the path of a loopback (R397; log entry 108). Kind 1: the stitcher codes the block as BF16 with book 0,
the bank expands the image that it reads, and the captured beats are put back in raw order; the other paths carry the bytes.
seen is what arrives in place of the image, or of the bytes. -/
def loopBlock (kind pattern : Nat) (raw : List Byte) (b : Nat) (seen : Option (List Byte)) : List Byte :=
  if kind = 1 then
    let img := seen.getD (encodeBlock 1 (pattern == 2) 1 0 book0 ⟨0, 0, b⟩ raw).image
    rawOfBeats (beatsOf 0 [] (expand book0 img))
  else seen.getD raw

/-- CRC of everything that a bank, or the one run, receives, in order. -/
def loopCrc (kind pattern seed n : Nat) (seen : Nat → Option (List Byte)) : Nat :=
  (List.range n).foldl (fun c b => (loopBlock kind pattern (patternBlock pattern seed b) b (seen b)).foldl crcByte c) 0xFFFFFFFF
    ^^^ 0xFFFFFFFF

/-- What a run's fault puts in place of a block. -/
def loopSeen (r : LoopResult) (bank b : Nat) : Option (List Byte) :=
  (r.seen.find? (fun p => p.1.val == bank && p.2.1 == b)).map (·.2.2)

/-- The CRC that a run found for a bank. -/
def State.loopFound (s : State) (r : LoopResult) (bank : Nat) : Word :=
  w32 (loopCrc s.lbKind s.lbPattern (s.reg R.DBG_LB_SEED).toNat s.lbBlocks (loopSeen r bank))

/-- A run ends and is compared. -/
def State.loopbackDone (s : State) (r : LoopResult) : State :=
  if !s.dbg.lbBusy then s
  else
    let exp := w32 (patternCrc s.lbPattern (s.reg R.DBG_LB_SEED).toNat s.lbBlocks)
    let banks := if s.lbKind = 1 then bitsOf (s.reg64 R.DBG_LB_BANKS 0) 48 else [0]
    let found := banks.map (fun b => (b, s.loopFound r b))
    let bad := (found.filter (fun p => p.2 != exp)).map (·.1)
    let pass := bad.isEmpty && !(s.lbKind == 3 && r.ackFault)
    let shown := ((found.find? (fun p => p.2 != exp)).orElse (fun _ => found.head?)).map (·.2)
    (s.setDebug (fun d => { d with
      lbBusy := false, lbDone := true, lbPass := pass, lbExp := exp, lbFound := shown.getD exp,
      lbFail := if s.lbKind = 1 then sumNat (bad.map (2 ^ ·)) else 0, lbCycles := r.cycles })).raise 0x1E 1

end Sys2Proof.Machine
end

