-- ==== Sys2Proof/Machine/RegRead.lean ====
section
/-! DEFINITION. What the registers read (R9, R12, R61, R328, R400 to R415 and the page tables): page headers, live
values, per-tenant views. -/

namespace Sys2Proof.Machine

/-! ### Selectors -/

/-- The tenant that a page's per-tenant registers show. -/
def State.pageTenant (s : State) (page : Nat) : Nat :=
  let r (a : Nat) : Nat := fld (s.reg a).toNat 0 3
  match page with
  | 0x06 => r R.SHT_CTRL
  | 0x07 => r R.CUT_CTRL
  | 0x08 => r R.TIER_CTRL
  | 0x09 => r R.VLT_CTRL
  | 0x10 => r R.RTK_CTRL
  | 0x11 => r R.CNT_CTRL
  | 0x19 => r R.EYE_CTRL
  | 0x1C => r R.RPL_CTRL
  | _ => 0

/-- TIER_CTRL.tier. -/
def State.pageTier (s : State) : Nat := fld (s.reg R.TIER_CTRL).toNat 8 3

/-- The copy that a register of a scope shows. -/
def State.copyOf (s : State) (page : Nat) (sc : Scope) : Nat :=
  match sc with
  | .inst => 0
  | .tenant => s.pageTenant page
  | .tier => s.pageTier
  | .tenantTier => 8 * s.pageTenant page + s.pageTier

/-! ### Page header (R402) -/

/-- PAGE_STAT.busy: an operation of the page runs. -/
def State.pageBusy (s : State) (page : Nat) : Bool :=
  match page with
  | 0x03 => s.security.applying.isSome
  | 0x06 => (List.range 8).any (fun t => (s.tenant t).check.isSome)
  | 0x10 => s.retake.loading.isSome
  | 0x19 => s.eyes.ctx.isSome
  | 0x1B => s.recorder.eraseBelow.isSome
  | 0x1E => s.dbg.lbBusy
  | _ => false

def State.pageStat (s : State) (page : Nat) : Nat :=
  let g := s.page page
  b2n g.errValid + 2 * b2n g.owner.isSome + 4 * b2n (s.pageBusy page) + 8 * b2n (page == 1 || page == 2 || page == 0x1B)

/-- A header register (R402); high words of ERR_ADDR included. -/
def State.headerReg (s : State) (page off : Nat) : Word :=
  let g := s.page page
  match off with
  | 0x00 => w32 (pageId page)
  | 0x04 => w32 (pageCap page)
  | 0x08 => g.ctrl
  | 0x0C => w32 (s.pageStat page)
  | 0x10 => g.raw
  | 0x14 => g.en
  | 0x18 => g.irqStat
  | 0x20 => g.synd
  | 0x24 => g.addr.setWidth 32
  | 0x28 => w32 (g.addr.toNat / 2 ^ 32)
  | 0x30 => w32 g.ownerNum
  | 0x34 => w32 (g.staged.length + 2 ^ 7 * b2n g.overflow + 2 ^ 16 * g.lastResult)
  | _ => 0#32

/-! ### Live values by page -/

/-- Pages BLK, RST and PWR (R377, R378, R410). -/
def State.liveLow (s : State) (base i : Nat) : Option Nat :=
  let r := s.rst
  let p := s.power
  if base = R.BLK_MODE then some s.blkMode
  else if base = R.BLK_WHERE then
    some (s.die.die + (match s.die.package with | some k => 2 ^ 8 * k + 2 ^ 16 | none => 0))
  else if base = R.BLK_AOC_TIME then some s.now
  else if base = R.BLK_IRQ_SUM then some (bitSum 32 (fun k => (s.page k).irqStat != 0#32))
  else if base = R.BLK_IRQ_LINE then some (bitSum 2 s.irqLine)
  else if base = R.RST_CAUSE then some r.cause.toNat
  else if base = R.RST_STRAP then
    some (r.bootSrc.toNat + 4 * r.clkMode.toNat + 16 * (if r.clkMode = 3#2 then 0 else r.clkMode.toNat) + 2 ^ 8 * b2n (r.clkMode == 3#2))
  else if base = R.RST_STAT then some (Phase.num r.phase + 2 ^ 8 * b2n s.isReady + 2 ^ 9 * r.bootResult)
  else if base = R.RST_READY_US then some r.readyUs
  else if base = R.PWR_STAT then
    some (Power.num p.state + 2 ^ 3 * Power.num p.chosen + 2 ^ 6 * b2n s.quiescent + 2 ^ 7 * b2n p.lending + 2 ^ 8 * b2n p.offRefused)
  else if base = R.PWR_GAP then some p.gap
  else if base = R.PWR_EFF then some p.eff
  else if base = R.PWR_NEXT_SRC then some p.src
  else if base = R.PWR_BUDGET then some (p.budget + 2 ^ 16 * (16 * p.budget / 18000))
  else if base = R.PWR_PD_STAT then
    some (bitSum 4 (fun d => (s.pd d).req) + 2 ^ 4 * bitSum 4 (fun d => (s.pd d).phase == .granted)
      + 2 ^ 8 * bitSum 4 (fun d => (s.pd d).phase == .drain) + 2 ^ 12 * bitSum 4 (fun d => (s.pd d).phase == .defer))
  else if base = R.PWR_RES then some (min 0xFFFFFFFF (s.timeIn i / 1024))
  else none

/-- Pages SEC and PORT (R347, R348). -/
def State.livePorts (s : State) (base i : Nat) : Option Nat :=
  let c := s.security
  let p := s.part i
  if base = R.SEC_CS_STAT then some s.csStat
  else if base = R.SEC_PROP_DIGEST then some c.digest.toNat
  else if base = R.SEC_KEY_STAT then some (bitSum 16 (fun k => (look c.keys k).isSome) + 2 ^ 16 * b2n s.keyStaged)
  else if base = R.SEC_KEY_ID then some (match look c.keys i with | some k => k.id.toNat | none => 0)
  else if base = R.SEC_QUOTA then some p.quota
  else if base = R.SEC_TCFG then
    some (p.keySlot + 2 ^ 4 * b2n p.outerEnc + 2 ^ 8 * p.borrower + 2 ^ 11 * b2n p.loanEn + 2 ^ 16 * p.maxLoan)
  else if base = R.PORT_PRIV_CTL then some c.privCtl.toNat
  else if base = R.PORT_PRIV_SEC then some c.privSec.toNat
  else if base = R.PORT_PRIV_DBG then some c.privDbg.toNat
  else if base = R.PORT_DBG_PRIV then some c.dbgPriv.toNat
  else if base = R.PORT_VIEW then some (c.viewCtl + 2 ^ 4 * c.viewSec + 2 ^ 8 * c.viewDbg)
  else if base = R.PORT_ATTACH then some c.attached
  else if base = R.PORT_LOCKS then some (bitSum 32 (fun k => (s.page k).owner.isSome))
  else none

/-- SHT_STAT of a tenant. -/
def State.shtStat (s : State) (t : Nat) : Nat :=
  let x := s.tenant t
  let st := if x.check.isSome then 1 else if x.refused then 3 else if x.sheet.isSome then 2 else 0
  st + 4 * b2n x.stepOpen + 8 * b2n (x.sheet.isSome && s.sheetStale t) + 16 * b2n x.copy + 2 ^ 8 * x.reason

/-- SHT_INT_STAT of a tenant (R268). -/
def State.intStat (s : State) (t : Nat) : Nat :=
  match s.security.loans.find? (fun l => l.lender == t || l.borrower == t) with
  | some l =>
    b2n (l.lender == t) + 2 * b2n (l.borrower == t) + 4 * (if l.lender = t then l.borrower else l.lender)
      + 2 ^ 8 * popBits l.shelves 112
  | none => 0

/-- Pages SLT, SHT and CUT (R53, R62, R108, R268). -/
def State.liveSlates' (s : State) (base i t : Nat) : Option Nat :=
  let x := s.tenant t
  let c := s.clicker
  if base = R.SLT_CNT then
    some (if i = 0 then 65536 - s.liveSlates.length
          else (s.liveSlates.filter (fun k => SlateState.num (s.slate k).state == i)).length)
  else if base = R.SHT_STAT then some (s.shtStat t)
  else if base = R.SHT_REFUSE_ENTRY then some x.refuseEntry.toNat
  else if base = R.SHT_REFUSE_FRAME then some x.refuseFrame.toNat
  else if base = R.SHT_REFUSE_EXCESS then some x.refuseExcess.toNat
  else if base = R.SHT_FRAME then some x.frame
  else if base = R.SHT_STEP_ID then some x.stepId.toNat
  else if base = R.SHT_LIVE then some (s.tenantSlates t).length
  else if base = R.SHT_PEAK then some (match x.sheet with | some h => h.peak | none => 0)
  else if base = R.SHT_PROP_STAT then some s.gathersInProgress
  else if base = R.SHT_INT_STAT then some (s.intStat t)
  else if base = R.CUT_STAT then
    some (fld (s.frozen t).mode.toNat 2 2 + 4 * b2n x.stepOpen + 8 * b2n (!c.queue.isEmpty) + 16 * b2n x.replayMiss
      + (match x.overflow with | some k => 32 + 2 ^ 16 * k | none => 0))
  else if base = R.CUT_LAST then some c.last.toNat
  else if base = R.CUT_LAST_FRAME then some c.lastFrame
  else if base = R.CUT_LAST_COST then some c.lastCost
  else if base = R.CUT_LAST_SCORE then some c.lastScore
  else if base = R.CUT_SHIFT then some (s.frozen t).shift
  else none

/-- Pages TIER, VLT, STI, CBK and OPX (R131, R135, R140, R230, R231). -/
def State.liveStores (s : State) (base i t : Nat) : Option Nat :=
  let retired := s.vault.retired
  if base = R.TIER_STAT then
    some (bitSum 4 (fun k => s.enabled t (k + 1)) + 2 ^ 16 * s.tiers.nearChans + 2 ^ 20 * HostState.num s.tiers.host + 2 ^ 22 * b2n s.peerLost)
  else if base = R.TIER_FREE then some (s.poolFree t s.pageTier)
  else if base = R.TIER_EXCLUDED then some s.tiers.excluded.length
  else if base = R.TIER_RGN_STAT then
    some (s.tiers.rgnResult + 2 ^ 8 * b2n (look s.tiers.regions (fld (s.reg R.TIER_RGN_SEL).toNat 0 6)).isSome)
  else if base = R.VLT_SHELVES then
    some (s.shelfCount t + 2 ^ 16 * (112 - popBits retired 112) + 2 ^ 24 * popBits retired 112)
  else if base = R.VLT_OWN then some (fld (s.shelfMap t) (32 * i) 32)
  else if base = R.VLT_RETIRED then some (fld retired (32 * i) 32)
  else if base = R.VLT_FREE then some (s.freeUnits t)
  else if base = R.STI_STAT then
    some (s.stitcher.lanes + 2 ^ 8 * b2n (!s.stitcher.taps.isEmpty || s.stitcher.jobs.any (fun p => !p.2.isEmpty)))
  else if base = R.CBK_STAT then
    let b := s.bookSel
    some (b2n (s.bookStored b) + 2 * b2n (b == 0)
      + 4 * ((List.range 8).filter (fun k => match s.sheetOf k with | some h => h.entries.any (fun e => e.bookId == b) | none => false)).length
      + 2 ^ 8 * s.books.result)
  else if base = R.CBK_KRAFT then some (if s.bookStored s.bookSel then kraft (s.bookOf s.bookSel) else 0)
  else if base = R.CBK_COUNT then some (1 + s.books.store.length)
  else if base = R.OPX_BSTAT then
    let k := s.bank i
    some (k.failed + 2 ^ 17 * k.working + 2 ^ 22 * b2n k.spareUsed + 2 ^ 23 * b2n k.outOfService + 2 ^ 24 * b2n k.selftest.isSome)
  else if base = R.OPX_QUEUE then some ((s.bank i).elastic.length + 2 ^ 8 * (s.bank i).hwm)
  else none

/-- Does a loaded sheet of any tenant name a script? -/
def State.scriptNamed (s : State) (n : Nat) : Bool :=
  (List.range 8).any (fun t => match s.sheetOf t with | some h => h.entries.any (fun e => e.scriptId == n) | none => false)

/-- RTK_STAT of the selected slot (R173). -/
def State.rtkStat (s : State) : Nat :=
  let n := fld (s.reg R.RTK_SEL).toNat 0 12
  let owner := match s.script n with | some x => 1 + 2 * x.tenant | none => 0
  owner + 16 * b2n (s.scriptNamed n) + 2 ^ 8 * s.retake.result

/-- Blocks of a tenant's slates in the poison table. -/
def State.poisonCount (s : State) (t : Nat) : Nat :=
  (s.continuity.poison.filter (fun p => (s.slate p.1).tenant == t && (s.slate p.1).gen == p.2.1)).length

/-- Pages RTK, CNT, MTR and EXS (R173, R174, R264 to R266). -/
def State.liveServices (s : State) (base t : Nat) : Option Nat :=
  let k := s.retake
  let e := s.exposure (fld (s.reg R.EXS_SEL).toNat 0 11)
  if base = R.RTK_STAT then some s.rtkStat
  else if base = R.RTK_LANES then some (k.lanes + 2 ^ 16 * popBits k.lanes 16)
  else if base = R.RTK_JOBS then some (k.jobs.length + 2 ^ 16 * min 1023 k.waiting.length)
  else if base = R.CNT_CTRL then some (t + ((s.regT R.CNT_CTRL t).toNat &&& 0x300))
  else if base = R.CNT_COVERED then
    some (match s.sheetOf t with | some h => (h.cover.filter (·.isSome)).length | none => 0)
  else if base = R.CNT_UNCOVERED then
    some (match s.sheetOf t with
      | some h => ((h.entries.filter (·.continuity)).length) - (h.cover.filter (·.isSome)).length
      | none => 0)
  else if base = R.CNT_STAT then
    some (b2n (s.tenant t).halted + 2 * b2n (s.tenant t).poisonFull + 4 * s.poisonCount t)
  else if base = R.MTR_GN_STAT then some s.gnStat
  else if base = R.EXS_HMAX then some e.hmax.toNat
  else if base = R.EXS_HCOUNT then some (e.history.length + 2 ^ 8 * b2n e.nonfinite)
  else none

/-- SPL_STAT of a channel (R200). -/
def Chan.stat (h : Chan) : Nat :=
  (match h.state with | .idle => 0 | .wait => 1 | .busy => 2 | .halted => 3)
    + 4 * b2n h.shadowValid + 8 * b2n h.inPool + 16 * b2n h.half + 32 * b2n h.full + 64 * b2n (!h.retries.isEmpty)
    + 128 * b2n h.badCfg + 2 ^ 8 * (h.attempts % 16) + 2 ^ 12 * h.cause + 2 ^ 16 * h.transfers

def Kind.num : Kind → Nat
  | .out => 0 | .ret => 1 | .fill => 2 | .prop => 3 | .move => 4 | .director => 0

/-- SPL_SLATE of a pool channel with a transfer. -/
def State.splSlate (s : State) (h : Chan) : Nat :=
  match h.inPool, h.transfer.bind s.transfer with
  | true, some x => x.slate + 2 ^ 16 * x.gen + 2 ^ 24 * x.tenant + 2 ^ 28 * Kind.num x.kind
  | _, _ => 0

/-- The active set of a channel as it reads: that of a pool channel reflects the slate transfer it serves (R185). The side
in the vault or a local buffer has no address that a rule gives: a free number (log entry 9). -/
def State.shownSet (s : State) (h : Chan) : ChanRegs :=
  match h.inPool, h.transfer with
  | true, some id => match s.transfer id with
    | none => h.active
    | some x =>
      let free := Config.unstated id &&& ~~~31#64
      { h.active with
        cfg := 0#32, pace := 0#32, flagAddr := 0#64, flagVal := 0#32, startFrame := 0#32, count := BitVec.ofNat _ x.total
        src := if x.kind.readsMem then BitVec.ofNat 64 x.src else free
        dst := if x.kind.writesMem then BitVec.ofNat 64 x.dst else free }
  | _, _ => h.active

/-- SPL_DONE of a channel (R185, R188). -/
def State.shownDone (s : State) (h : Chan) : Nat :=
  match h.inPool, h.transfer.bind s.transfer with
  | true, some x => x.done
  | _, _ => h.done

/-- Pages SPL and SPB (R200, R201). -/
def State.liveMovers (s : State) (base c : Nat) : Option Nat :=
  let h := s.chan c
  let a := s.shownSet h
  let z := h.shadow
  let m := s.movers
  if base = R.SPL_CFG then some a.cfg.toNat
  else if base = R.SPL_STAT then some h.stat
  else if base = R.SPL_PACE then some a.pace.toNat
  else if base = R.SPL_SRC then some a.src.toNat
  else if base = R.SPL_DST then some a.dst.toNat
  else if base = R.SPL_COUNT then some a.count.toNat
  else if base = R.SPL_DONE then some (s.shownDone h)
  else if base = R.SPL_FLAG_ADDR then some a.flagAddr.toNat
  else if base = R.SPL_FLAG_VAL then some a.flagVal.toNat
  else if base = R.SPL_START_FRAME then some a.startFrame.toNat
  else if base = R.SPL_SLATE then some (s.splSlate h)
  else if base = R.SPL_SH_CFG then some z.cfg.toNat
  else if base = R.SPL_SH_PACE then some z.pace.toNat
  else if base = R.SPL_SH_SRC then some z.src.toNat
  else if base = R.SPL_SH_DST then some z.dst.toNat
  else if base = R.SPL_SH_COUNT then some z.count.toNat
  else if base = R.SPL_SH_FLAG_ADDR then some z.flagAddr.toNat
  else if base = R.SPL_SH_FLAG_VAL then some z.flagVal.toNat
  else if base = R.SPL_SH_START_FRAME then some z.startFrame.toNat
  else if base = R.SPB_INFLIGHT then some (m.txns.length + 2 ^ 16 * max m.inflightHwm m.txns.length)
  else if base = R.SPB_STAGING then some s.stagingUse
  else if base = R.SPB_QUEUE then some s.queued.length
  else if base = R.SPB_HALTED then some (bitSum 64 (fun k => (s.chan k).state == .halted))
  else none

/-- Sensed levels of the clapper lines: low while the instance or another driver of the die holds the line low (R22, R279,
R300). -/
def State.clapLevel (s : State) : Nat := bitSum 64 (fun n => !s.drivesLine n && !bitAt s.lace.others n)

/-- Pages EYE, LACE and REC (R299, R300, R393). -/
def State.liveSync (s : State) (base i t : Nat) : Option Nat :=
  let r := s.recorder
  if base = R.EYE_PART then some ((s.part t).eyeBase + 2 ^ 16 * (s.part t).eyeCount)
  else if base = R.EYE_STAT then
    some (s.nativeWaits + 2 ^ 16 * s.abterHolds + 2 ^ 24 * b2n s.eyes.ctx.isSome + 2 ^ 25 * s.eyes.ctxResult)
  else if base = R.EYE_DB_BASE then some s.die.dbBase
  else if base = R.LACE_STAT then
    some (bitSum 16 (fun n => (s.wire n).state == .hold) + 2 ^ 16 * bitSum 16 (fun n => (s.wire n).badBind))
  else if base = R.LACE_DONE then some s.lace.done
  else if base = R.CLAP_LEVEL then some s.clapLevel
  else if base = R.REC_HEAD then some r.head
  else if base = R.REC_TAIL then some r.tail
  else if base = R.REC_STAT then some s.recStat
  else if base = R.REC_TIME then some s.recTime
  else if base = R.REC_OPTIME then some s.optime
  else if base = R.REC_PCYCLES then some r.pcycles
  else if base = R.REC_WIN then some (s.recWin i).toNat
  else none

/-- DBG_STAT (R411). -/
def State.dbgStat (s : State) : Nat :=
  let d := s.dbg
  b2n d.halted + 2 * b2n (s.rst.bootSrc == 3#2) + 4 * b2n (holding d.wir) + 2 ^ 8 * s.port.lastOpcode.toNat + 2 ^ 16 * d.wir.toNat

/-- Pages RPL, FLT, DBG and PEER (R267, R322, R399, R411, R413). -/
def State.liveHigh (s : State) (base t : Nat) : Option Nat :=
  let d := s.dbg
  let p := s.peer
  let l := (s.tenant t).reel
  if base = R.RPL_CTRL then some (t + ((s.regT R.RPL_CTRL t).toNat &&& 0x300))
  else if base = R.RPL_STAT then some (b2n l.full + 2 * b2n l.diverged + 4 * b2n l.truncated + 8 * b2n l.playEnd)
  else if base = R.RPL_RECORDS then some l.records
  else if base = R.FLT_HALTED then some (bitSum 8 (fun k => (s.tenant k).halted))
  else if base = R.DBG_STAT then some s.dbgStat
  else if base = R.DBG_SEQ_PC then some (if s.port.decoded = 0 then 0 else (Config.seqPc s.port.decoded).toNat)
  else if base = R.DBG_DECODED then some s.port.decoded
  else if base = R.DBG_LB_STAT then some (b2n d.lbBusy + 2 * b2n d.lbDone + 4 * b2n d.lbPass + 8 * b2n d.lbNotAllowed)
  else if base = R.DBG_LB_EXP then some d.lbExp.toNat
  else if base = R.DBG_LB_FOUND then some d.lbFound.toNat
  else if base = R.DBG_LB_FAIL then some d.lbFail
  else if base = R.DBG_LB_CYCLES then some d.lbCycles.toNat
  else if base = R.PEER_STAT then
    some (b2n p.portUp + 2 * b2n s.peerLost + 4 * b2n p.partnerReject + 2 ^ 8 * popBits p.lost 64)
  else if base = R.PEER_LOST_MAP then some p.lost
  else if base = R.PEER_SEQ then some p.nextSeq
  else if base = R.PEER_OUTSTANDING then some (p.ops.length + 2 ^ 16 * max p.hwm p.ops.length)
  else none

/-- A register that the block computes, as a number of its full width; none for one that the register file
holds. -/
def State.live (s : State) (page base i t : Nat) : Option Nat :=
  match page with
  | 0x00 => s.liveLow base i
  | 0x01 => s.liveLow base i
  | 0x02 => s.liveLow base i
  | 0x03 => s.livePorts base i
  | 0x04 => s.livePorts base i
  | 0x05 => s.liveSlates' base i t
  | 0x06 => s.liveSlates' base i t
  | 0x07 => s.liveSlates' base i t
  | 0x08 => s.liveStores base i t
  | 0x09 => s.liveStores base i t
  | 0x0A => s.liveStores base i t
  | 0x0B => s.liveStores base i t
  | 0x0C => s.liveStores base i t
  | 0x10 => s.liveServices base t
  | 0x11 => s.liveServices base t
  | 0x12 => s.liveServices base t
  | 0x13 => s.liveServices base t
  | 0x14 => s.liveMovers base i
  | 0x18 => s.liveMovers base i
  | 0x19 => s.liveSync base i t
  | 0x1A => s.liveSync base i t
  | 0x1B => s.liveSync base i t
  | _ => s.liveHigh base t

/-! ### Reading -/

/-- Address of a register's low word. -/
def lowAddr (addr : Nat) (high : Bool) : Nat := if high then addr - 4 else addr

/-- The value of a body register, before views. -/
def State.bodyValue (s : State) (addr : Nat) (r : RegAt) : Word :=
  let page := r.desc.addr / 0x1000
  match s.live page r.desc.addr r.index (s.pageTenant page) with
  | some v => if r.high then w32 (v / 2 ^ 32) else w32 v
  | none => match r.desc.acc with
    | .wo => 0#32
    | _ => s.regT addr (s.copyOf page r.desc.scope)

/-- The tenant whose view a register is; none for one that shows no tenant (R328). -/
def State.viewOf (s : State) (r : RegAt) : Option Nat :=
  let page := r.desc.addr / 0x1000
  match r.desc.scope with
  | .tenant => some (s.pageTenant page)
  | .tenantTier => some (s.pageTenant page)
  | _ =>
    if r.desc.addr = R.SLT_REC then
      if fld (s.reg (R.SLT_REC + 4)).toNat 28 4 = 0 then none else some (fld (s.reg (R.SLT_REC + 8)).toNat 0 3)
    else if r.desc.addr = R.CUT_FC_VAL ∨ r.desc.addr = R.CUT_FC_CAP then some (fld (s.reg R.CUT_FC_SEL).toNat 24 3)
    else none

/-- The fields of a register that are per tenant although the register is not. -/
def tenantFields (base : Nat) : Nat :=
  if base = R.TIER_STAT then 0xF else if base = R.VLT_SHELVES then 0x7F
  else if base = R.CNT_CTRL ∨ base = R.RPL_CTRL then 0x300 else 0

/-- What a port sees of a body register (R328). -/
def State.seenValue (s : State) (p : Port) (addr : Nat) (r : RegAt) : Word :=
  let v := s.bodyValue addr r
  match s.viewOf r with
  | some t => if s.sees p t then v else 0#32
  | none => if s.sees p (s.pageTenant (r.desc.addr / 0x1000)) then v else v &&& ~~~(w32 (tenantFields r.desc.addr))

end Sys2Proof.Machine
end

