-- ==== Sys2Proof/Machine/Actions.lean ====
section
/-! DEFINITION. What register writes do on the pages that no other file serves: snapshots (R61, R108, R264, R266), exposure
entries (R266), reshoot scripts (R150 to R154) and lane self-tests (R149). -/

namespace Sys2Proof.Machine

/-! ### Snapshots -/

/-- A write of SLT_SEL copies the record into SLT_REC0 to SLT_REC15 (R61). -/
def State.selectSlate (s : State) (i : Nat) : State :=
  ((List.range 16).zip (s.slate i).words).foldl (fun (s : State) p => s.setReg (R.SLT_REC + 4 * p.1) (w32 p.2))
    (s.setReg R.SLT_SEL (w32 i))

/-- A write of CUT_FC_SEL copies a forecast bucket and a frozen capacity; tiers 5 to 7 select tier 0 (R108). -/
def State.selectForecast (s : State) (v : Nat) : State :=
  let t := fld v 24 3
  let tier := if 4 < fld v 16 3 then 0 else fld v 16 3
  ((s.setReg R.CUT_FC_SEL (w32 v)).setReg64 R.CUT_FC_VAL 0 ((s.tenant t).fcAt tier (fld v 0 10) % 2 ^ 40)).setReg64
    R.CUT_FC_CAP 0 ((s.frozen t).cap.getD tier 0 % 2 ^ 40)

/-- A write of MTR_SEL copies a meter entry (R264). -/
def State.selectMeter (s : State) (v : Nat) : State :=
  let m := s.meter (meterKey (fld v 0 12) (fld v 16 2))
  let s := (List.range 10).foldl (fun (s : State) n => s.setReg (R.MTR_SUM + 4 * n) (w32 (m.sum / 2 ^ (32 * n))))
    (s.setReg R.MTR_SEL (w32 v))
  (((s.setReg R.MTR_MAX m.max).setReg R.MTR_UNDER (w32 m.under)).setReg R.MTR_NONFIN (w32 m.nonfin)).setReg R.MTR_FLAGS
    (w32 (b2n m.ovf))

/-! ### Exposure entries (R240, R266) -/

def State.exposureSel (s : State) : Nat := fld (s.reg R.EXS_SEL).toNat 0 11

/-- A write of EXS_SEL loads the entry into the staging registers. -/
def State.selectExposure (s : State) (n : Nat) : State :=
  let x := s.exposure n
  (((s.setReg R.EXS_SEL (w32 n)).setReg R.EXS_CFG x.cfg).setReg R.EXS_MARGIN x.margin).setReg R.EXS_SCALE (w32 x.scale)

/-- EXS_CTRL.commit: the staging registers become the entry, whose history is empty. -/
def State.commitExposure (s : State) : State :=
  s.setExposure s.exposureSel
    { cfg := s.reg R.EXS_CFG, margin := s.reg R.EXS_MARGIN, scale := fld (s.reg R.EXS_SCALE).toNat 0 8, history := [],
      nonfinite := false }

/-- EXS_CTRL.empty. The nonfinite flag, whose clearing no rule states, goes with the history. -/
def State.emptyExposure (s : State) : State :=
  s.setExposure s.exposureSel { s.exposure s.exposureSel with history := [], nonfinite := false }

/-! ### Reshoot scripts (R150 to R154, R173) -/

/-- Bytes of a script image. -/
def scriptBytes : Nat := 544

/-- The step records of an image, up to its step count. -/
def imageSteps (b : List Byte) : List ScriptStep :=
  (List.range (min 16 (leAt b 0 1))).map (fun k => parseStep ((b.drop (32 + 32 * k)).take 32))

/-- A step record that BAD_SCRIPT refuses: a reserved op, fn or format. -/
def ScriptStep.reserved (x : ScriptStep) (last : Bool) : Bool :=
  decide (5 < x.op) || !fnDefined x.op x.fn || (!last && decide (11 < x.outFmt))

/-- The refusal conditions of R154. A step record after step_count would make another step the last one. -/
def badScript (b : List Byte) : Bool :=
  let n := leAt b 0 1
  let steps := imageSteps b
  crc32c (b.take 28 ++ (b.drop 32).take 512) != leAt b 28 4
    || n == 0 || decide (16 < n)
    || !zerosAt b (32 + 32 * n) (512 - 32 * n)
    || ((List.range n).zip steps).any (fun p => p.2.reserved (p.1 + 1 == n))
    || (match steps with | x :: _ => x.readsWork | [] => false)
    || (!bitAt (leAt b 1 1) 0 && steps.any (fun x => x.op == 4))
    || (bitAt (leAt b 1 1) 0 && leAt b 2 2 == 0)

/-- A script image as stored for a tenant. -/
def parseScript (t : Nat) (region : Option Nat) (b : List Byte) : Script :=
  { tenant := t, dropValid := bitAt (leAt b 1 1) 0, site := fld (leAt b 1 1) 4 4, keepThr := leAt b 2 2,
    dropScale := leAt b 4 4, fixedTicks := leAt b 8 4, steps := imageSteps b, region := region }

/-- A load or invalidate ends (R173, R409). -/
def State.scriptResult (s : State) (n : Nat) : State :=
  ({ s with retake := { s.retake with result := n } }).raise 0x10 1

def State.scriptSel (s : State) : Nat := fld (s.reg R.RTK_SEL).toNat 0 12

/-- RTK_CTRL.load. A load that starts while another one reads is ignored. -/
def State.scriptLoad (s : State) : State :=
  let n := s.scriptSel
  if s.retake.loading.isSome then s
  else if n = 0 then s.scriptResult 3
  else if s.scriptNamed n then s.scriptResult 1
  else { s with retake := { s.retake with loading := some (n, fld (s.reg R.RTK_CTRL).toNat 0 3, s.reg64 R.RTK_SRC 0) } }

/-- The image has been read. One outside the tenant's CONTROL regions is refused (R220). -/
def State.scriptLoaded (s : State) : State :=
  match s.retake.loading with
  | none => s
  | some (n, t, a) =>
    if !s.memOpen a then s else
    let s := { s with retake := { s.retake with loading := none } }
    let b := s.unitRead a scriptBytes
    let g := s.controlRegion t a scriptBytes
    if s.scriptNamed n then s.scriptResult 1
    else if g.isNone || badScript b then s.scriptResult 2
    else ({ s with retake := { s.retake with scripts := put s.retake.scripts n (parseScript t g b) } }).scriptResult 0

/-- RTK_CTRL.invalidate. -/
def State.scriptInvalidate (s : State) : State :=
  let n := s.scriptSel
  if n = 0 then s.scriptResult 3
  else if s.scriptNamed n then s.scriptResult 1
  else ({ s with retake := { s.retake with scripts := del s.retake.scripts n } }).scriptResult 0

/-! ### Lane self-tests (R149) -/

/-- The self-test of the lanes under test ends; those that failed are mapped out. -/
def State.endLaneTest (s : State) (failing : List Nat) : State :=
  match s.retake.testing with
  | none => s
  | some cause =>
    let bad := (bitsOf s.retake.lanesTesting 16).filter (fun l => failing.contains l && bitAt s.retake.lanes l)
    let s := { s with retake := { s.retake with testing := none, lanesTesting := 0 } }
    (bad.foldl (fun (s : State) l => s.mapOutLane l cause) s).tendJobs

end Sys2Proof.Machine
end

