-- ==== Sys2Proof/Machine/RegWrite.lean ====
section
/-! DEFINITION. What a write leaves in a register, and the action that its WO bits start (R9, R11, R12, R333, R406 and the
page tables). A write first sets values, then starts actions, so that the writes of one commit can be taken in that
order. -/

namespace Sys2Proof.Machine

/-- A write that has reached a register of a page body: address of the (low) word, value, and the bits written. -/
structure Put where
  addr : Nat
  v : Nat
  m : Nat
  deriving DecidableEq, Repr

/-! ### Field values (R12) -/

/-- A field keeps its value if it may hold it, else it takes its reset value. -/
def refield (v lo n : Nat) (ok : Nat → Bool) (d : Nat) : Nat :=
  let x := fld v lo n
  if ok x then v else v - x * 2 ^ lo + d * 2 ^ lo

/-- A pinned default (R109). -/
def pinOk (x : Nat) : Bool := decide (x ≤ 5)

/-- The value that a 32-bit register holds after a value is written to it: reserved and out-of-range values take the
reset value of their field. -/
def legal (base v : Nat) : Nat :=
  if base = R.BLK_MODE then
    let two (lo d v : Nat) : Nat := refield v lo 2 (fun x => decide (x < 3)) d
    refield (two 8 0 (two 5 0 (two 2 0 (two 0 1 v)))) 10 3 (fun x => decide (x ≤ 4)) 0
  else if base = R.PWR_GUARD then refield v 0 6 (fun x => decide (x ≤ 50)) 10
  else if base = R.CUT_PIN_CLASS then
    refield (refield (refield (refield v 0 3 pinOk 2) 3 3 pinOk 1) 9 3 pinOk 2) 12 3 pinOk 2
  else if base = R.TIER_CTRL then refield v 8 3 (fun x => decide (1 ≤ x) && decide (x ≤ 4)) 1
  else if base = R.TIER_BATCH then refield v 0 8 (fun x => x != 0) 0x40
  else if base = R.RTK_SHARE then
    refield (refield v 0 5 (fun x => decide (1 ≤ x) && decide (x ≤ 16)) 16) 8 6 (fun x => decide (1 ≤ x) && decide (x ≤ 48)) 16
  else if base = R.RTK_CHUNK then refield v 0 10 (fun x => x != 0) 0x100
  else if base = R.CNT_SAMPLE_N then refield v 0 16 (fun x => x != 0) 0x40
  else if base = R.MTR_TAP then if tapFormat (fld v 18 4) then refield v 22 2 (fun x => x != 3) 0 else 0
  else if base = R.MTR_SEL then refield v 16 2 (fun x => x != 3) 0
  else if base = R.MTR_GN_CTRL then refield v 1 2 (fun x => x != 3) 1
  else if base = R.MTR_GN_PKG then
    refield (refield v 0 8 (fun x => decide (1 ≤ x) && decide (x ≤ 64)) 1) 8 8 (fun x => decide (x ≤ 63)) 0
  else if base = R.EXS_CFG then
    refield (refield (refield v 12 2 (fun x => x != 3) 0) 14 4 (fun x => (formatMax x).isSome) 0) 18 7
      (fun x => decide (1 ≤ x) && decide (x ≤ 64)) 1
  else if base = R.EXS_MARGIN then if decide (0 < v) && decide (v ≤ 0x7F800000) then v else 0x40000000
  else if base = R.REC_CTRL then refield v 0 14 (fun x => decide (1 ≤ x) && decide (x ≤ 8192)) 0x1800
  else if base = R.DBG_LB_CTRL then refield (refield v 2 2 (fun x => x != 3) 0) 8 12 (fun x => x != 0) 1
  else if base = R.PEER_CTRL then refield v 8 8 (fun x => decide (x ≤ 63)) 0
  else if base = R.PEER_PARTNER then refield v 0 8 (fun x => decide (x ≤ 63)) 0
  else v

/-! ### Values -/

/-- The bits of a write that fields take, and what they make of the old value. -/
def Put.onto (q : Put) (mask old : Nat) : Nat := mapMinus old (mask &&& q.m) + (q.v &&& mask &&& q.m)

/-- Write a register that the register file holds. -/
def State.putPlain (s : State) (q : Put) (r : RegAt) : State :=
  let k := s.copyOf (r.desc.addr / 0x1000) r.desc.scope
  if r.desc.acc ≠ .rw then s
  else if r.desc.wide then s.setReg64 q.addr k (q.onto r.desc.mask (s.reg64 q.addr k))
  else s.setRegT q.addr k (w32 (legal r.desc.addr (q.onto r.desc.mask (s.regT q.addr k).toNat)))

/-- CNT_CTRL and RPL_CTRL: the tenant field is the page's, bits 8 and 9 are the named tenant's. -/
def State.putSelector (s : State) (addr v : Nat) : State :=
  let t := fld v 0 3
  let s := s.setReg addr (w32 (((s.reg addr).toNat &&& 0x300) + t))
  s.setRegT addr t (w32 ((v &&& 0x300) + (if t = 0 then 0 else (s.regT addr t).toNat % 8)))

/-- The fields of a channel's register set, in the order of its table (R200). -/
def chanFields : List Nat :=
  [R.SPL_CFG, R.SPL_PACE, R.SPL_SRC, R.SPL_DST, R.SPL_COUNT, R.SPL_FLAG_ADDR, R.SPL_FLAG_VAL, R.SPL_START_FRAME]

def shadowFields : List Nat :=
  [R.SPL_SH_CFG, R.SPL_SH_PACE, R.SPL_SH_SRC, R.SPL_SH_DST, R.SPL_SH_COUNT, R.SPL_SH_FLAG_ADDR, R.SPL_SH_FLAG_VAL,
   R.SPL_SH_START_FRAME]

/-- Change field k of a register set. -/
def ChanRegs.change (a : ChanRegs) (k : Nat) (f : Nat → Nat) : ChanRegs :=
  let w (x : Word) : Word := w32 (f x.toNat)
  let d (x : BitVec 64) : BitVec 64 := BitVec.ofNat 64 (f x.toNat)
  match k with
  | 0 => { a with cfg := w a.cfg }
  | 1 => { a with pace := w a.pace }
  | 2 => { a with src := d a.src }
  | 3 => { a with dst := d a.dst }
  | 4 => { a with count := w a.count }
  | 5 => { a with flagAddr := d a.flagAddr }
  | 6 => { a with flagVal := w a.flagVal }
  | _ => { a with startFrame := w a.startFrame }

/-- SPL_CFG of an active set: a reserved wrap value takes the reset value (R12); a shadow set keeps it for the arm to refuse
(R186). -/
def legalWraps (v : Nat) : Nat :=
  refield (refield v 8 5 (fun k => !wrapReserved k) 0) 16 5 (fun k => !wrapReserved k) 0

/-- Write a register of a channel (R185, R200): the active set only while the channel is IDLE and no pool channel. -/
def State.putChan (s : State) (q : Put) (r : RegAt) : State :=
  let base := r.desc.addr
  let f := q.onto r.desc.mask
  if base = R.SPL_STAT then
    s.modChan r.index (fun h => { h with half := h.half && !bitAt q.v 4, full := h.full && !bitAt q.v 5,
                                         badCfg := h.badCfg && !bitAt q.v 7 })
  else match shadowFields.findIdx? (· == base) with
  | some k => s.modChan r.index (fun h => { h with shadow := h.shadow.change k f })
  | none => match chanFields.findIdx? (· == base) with
    | some k => s.modChan r.index (fun h =>
        if h.inPool || h.state != .idle then h
        else { h with active := h.active.change k (fun x => if k = 0 then legalWraps (f x) else f x) })
    | none => s

/-- A write of BLK_MODE; a policy that forbids the current state wakes the instance (R344, R358). -/
def State.putMode (s : State) (q : Put) (r : RegAt) : State :=
  let s := s.putPlain q r
  let st := s.power.state
  let forbids := (s.policy == 1 && s.asleep) || (s.policy == 2 && st != s.fixedState && (s.asleep || st == .idle))
  if forbids then if s.asleep then s.beginWake 2 else s.powerTo .active else s

/-- Pages SEC, whose registers act by R339 and R343. -/
def State.putSecurity (s : State) (q : Put) (r : RegAt) : State :=
  let base := r.desc.addr
  if base = R.SEC_PROP then if s.security.proposal.isSome || s.security.applying.isSome then s else s.putPlain q r
  else if base = R.SEC_CS_NONCE then s.setSecurity (fun c => { c with csNonce := w32 q.v })
  else if base = R.SEC_KEY_STAGE then s.stageKey r.index (w32 q.v)
  else s.putPlain q r

/-- Pages EYE and LACE. Enrolment belongs to the control port (R287). -/
def State.putSync (s : State) (p : Port) (q : Put) (r : RegAt) : State :=
  let base := r.desc.addr
  if base = R.EYE_SEL then s.selectEye (fld q.v 0 12)
  else if base = R.EYE_COUNT then s.setLiveEye (fun e => { e with count := w32 q.v })
  else if base = R.EYE_TARGET then s.setLiveEye (fun e => { e with target := w32 q.v })
  else if base = R.EYE_CFG then s.setLiveEye (fun e => { e with cfg := w32 q.v })
  else if base = R.LACE_CTRL then if p = Port.control then s.writeEnrol q.v else s
  else if base = R.LACE_WIRE then s.writeWire r.index false q.v
  else if base = R.LACE_ARR then s.writeWire r.index true q.v
  else s.putPlain q r

/-- A write of REC_TAIL: only the control port's can take effect, and any other is rejected (R390). -/
def State.putTail (s : State) (p : Port) (v : Nat) : State :=
  if p = Port.control then s.writeTail v else s.setRecorder (fun r => { r with tailReject := true })

/-- A write of MTR_GN_PKG; its count stays 1 in a package that has no index (R410). -/
def State.putGnPkg (s : State) (q : Put) (r : RegAt) : State :=
  let s := s.putPlain q r
  if s.die.package.isNone then s.setReg R.MTR_GN_PKG (w32 (refield (s.reg R.MTR_GN_PKG).toNat 0 8 (· == 1) 1)) else s

/-- The value part of a write. -/
def State.putValue (s : State) (p : Port) (q : Put) : State :=
  match regAt q.addr with
  | none => s
  | some r =>
    let base := r.desc.addr
    match base / 0x1000 with
    | 0x00 => if base = R.BLK_MODE then s.putMode q r else s.putPlain q r
    | 0x01 =>
      if base = R.RST_CAUSE then s.setRst (fun u => { u with cause := u.cause &&& ~~~(w32 q.v) }) else s.putPlain q r
    | 0x02 => if base = R.PWR_HINT then s.writeHint q.v else s.putPlain q r
    | 0x03 => s.putSecurity q r
    | 0x05 => if base = R.SLT_SEL then s.selectSlate (fld q.v 0 16) else s.putPlain q r
    | 0x07 => if base = R.CUT_FC_SEL then s.selectForecast (q.onto r.desc.mask 0) else s.putPlain q r
    | 0x08 => if base = R.TIER_RGN_SEL then s.selectRegion (fld q.v 0 6) else s.putPlain q r
    | 0x11 => if base = R.CNT_CTRL then s.putSelector base q.v else s.putPlain q r
    | 0x12 => if base = R.MTR_SEL then s.selectMeter (legal base (q.onto r.desc.mask 0))
      else if base = R.MTR_GN_PKG then s.putGnPkg q r else s.putPlain q r
    | 0x13 => if base = R.EXS_SEL then s.selectExposure (fld q.v 0 11) else s.putPlain q r
    | 0x14 => s.putChan q r
    | 0x18 => if base = R.SPB_POOL then s.writePool (q.onto r.desc.mask (s.reg64 R.SPB_POOL 0)) else s.putPlain q r
    | 0x19 => s.putSync p q r
    | 0x1A => s.putSync p q r
    | 0x1B => if base = R.REC_TAIL then s.putTail p q.v else s.putPlain q r
    | 0x1C => if base = R.RPL_CTRL then s.putSelector base q.v else s.putPlain q r
    | 0x1F => if base = R.PEER_PARTNER then s.writePartner (legal base (q.onto r.desc.mask 0)) else s.putPlain q r
    | _ => s.putPlain q r

/-! ### Actions -/

/-- Do something for each set action bit, in ascending order. -/
def State.onBits (s : State) (v : Nat) (acts : List (Nat × (State → State))) : State :=
  acts.foldl (fun (s : State) a => if bitAt v a.1 then a.2 s else s) s

/-- SHT_CTRL: load and unload together start neither. The tenant field takes its value also where the load is ignored because a
check runs (DESIGN CHOICE, log entry 86). -/
def State.sheetAction (s : State) (v : Nat) : State :=
  let t := fld v 0 3
  if bitAt v 8 && bitAt v 9 then s
  else if bitAt v 8 then s.sheetLoad t
  else if bitAt v 9 then s.sheetUnload t
  else s

/-- DBG_CTRL: the halt, and a step of a sequencer that was halted. -/
def State.debugAction (s : State) (v : Nat) : State :=
  let was := s.dbg.halted
  let s := s.haltSequencer (bitAt v 0)
  if was && bitAt v 0 && bitAt v 1 then s.stepSequencer else s

/-- The self-test of a bank's decoders that are in service. -/
def State.bankTest (s : State) (b : Nat) : State := s.startSelftest b (mapMinus (2 ^ 17 - 1) (s.bank b).failed)

/-- The action part of a write. A system reset by command names the self-test results of its boot. -/
def State.putAction (s : State) (p : Port) (q : Put) (test : BootTest) : State :=
  match regAt q.addr with
  | none => s
  | some r =>
    let base := r.desc.addr
    let v := q.v
    match base / 0x1000 with
    | 0x01 =>
      if base = R.RST_CMD then s.resetCommand p v test
      else if base = R.RST_BOOT_CTRL then s.onBits v [(0, State.bootGo)] else s
    | 0x02 => if base = R.PWR_CTRL then s.onBits v [(0, State.goOff), (1, State.wakeCommand)] else s
    | 0x03 =>
      if base = R.SEC_PROPOSE then s.onBits v [(0, fun s => s.propose p)]
      else if base = R.SEC_CS_DIGEST then s.countersign p (w32 v) else s
    | 0x06 => if base = R.SHT_CTRL then s.sheetAction v else s
    | 0x08 =>
      if base = R.TIER_HOST then s.writeHost v
      else if base = R.TIER_HB then { s with tiers := { s.tiers with hbAt := s.now } }
      else if base = R.TIER_RGN_CTRL then s.onBits v [(0, State.commitRegion), (1, State.emptyRegion)] else s
    | 0x0B => if base = R.CBK_CTRL then s.onBits v [(0, State.bookLoad), (1, State.bookInvalidate)] else s
    | 0x0C => if base = R.OPX_BCTRL then s.onBits v [(8, fun s => s.bankTest r.index)] else s
    | 0x10 =>
      if base = R.RTK_CTRL then
        s.onBits v [(8, State.scriptLoad), (9, State.scriptInvalidate), (10, fun s => s.testLanes s.retake.lanes 1)]
      else s
    | 0x12 =>
      if base = R.MTR_CTRL then s.onBits v [(8, State.clearMeter)]
      else if base = R.MTR_GN_CTRL then s.onBits v [(0, fun s => s.gnStart (fld (s.reg R.MTR_GN_CTRL).toNat 1 2))] else s
    | 0x13 => if base = R.EXS_CTRL then s.onBits v [(0, State.commitExposure), (1, State.emptyExposure)] else s
    | 0x14 =>
      if base = R.SPL_CTRL then
        s.onBits v [(0, fun s => s.armChannel r.index), (1, fun s => s.stopChannel r.index),
          (2, fun s => s.abortChannel r.index), (3, fun s => s.restartChannel r.index)]
      else s
    | 0x19 =>
      if base = R.EYE_CTRL then
        s.onBits v [(8, fun s => s.startContext (fld v 0 3) true), (9, fun s => s.startContext (fld v 0 3) false)]
      else s
    | 0x1A => if base = R.CLAP_FIRE then s.fireLines (q.v &&& q.m) else s
    | 0x1E =>
      if base = R.DBG_CTRL then s.debugAction v
      else if base = R.DBG_LB_CTRL then s.onBits v [(4, State.loopbackGo)] else s
    | 0x1F =>
      if base = R.PEER_CTRL then
        s.onBits v [(0, fun s => s.clearLost (fld (s.reg R.PEER_CTRL).toNat 8 8)), (1, State.clearAllLost)]
      else s
    | _ => s

/-! ### Commits (R333) -/

/-- The writes of a list of staged words: two halves of one wide register make one write. -/
def putsOf : List (Nat × Word) → List Put
  | [] => []
  | (a, v) :: r =>
    match regAt a with
    | none => putsOf r
    | some x =>
      if !x.desc.wide then ⟨a, v.toNat, 0xFFFFFFFF⟩ :: putsOf r
      else if x.high then ⟨a - 4, v.toNat * 2 ^ 32, 0xFFFFFFFF00000000⟩ :: putsOf r
      else match r with
        | (b, w) :: r' =>
          if b = a + 4 then ⟨a, v.toNat + w.toNat * 2 ^ 32, 0xFFFFFFFFFFFFFFFF⟩ :: putsOf r'
          else ⟨a, v.toNat, 0xFFFFFFFF⟩ :: putsOf ((b, w) :: r')
        | [] => [⟨a, v.toNat, 0xFFFFFFFF⟩]

/-- All values, then all actions. -/
def State.applyPuts (s : State) (p : Port) (qs : List Put) (test : BootTest) : State :=
  qs.foldl (fun (s : State) q => s.putAction p q test) (qs.foldl (fun (s : State) q => s.putValue p q) s)

end Sys2Proof.Machine
end

