-- ==== Sys2Proof/Machine/Access.lean ====
section
/-! DEFINITION. Register accesses on the control, security and debug ports (R21, R325 to R335, R374, R375, R396, R400 to
R407): what turns an access away, the page header, the wide latches, staging under a lock, and the read side effects. -/

namespace Sys2Proof.Machine

/-! ### The fate of an access -/

/-- What happens to an access: an error response at the boundary, a wait for FCLK, nothing (reads 0, writes are
ignored), a rejection by a right (kind 1) or a lock (kind 0), or the access itself. -/
inductive Fate where
  | errored | waits | nothing | rejected (kind : Nat) | done
  deriving DecidableEq, Repr

/-- Pages served on the AOC domain (R21), and those served before the ports open (R375). -/
def aocPage (page : Nat) : Bool := page == 0x01 || page == 0x02 || page == 0x1B
def earlyPage (page : Nat) : Bool := aocPage page || page == 0x1E

/-- The isolation wrapper, or the die, answers in place of the instance (R316, R374, R346 rule K). -/
def State.closed (s : State) (p : Port) : Bool :=
  !s.rst.powered || s.rst.isolating || s.rst.phase == .aoc || s.power.offPosted || (s.dbg.test && p != Port.debug)

/-- The source unit, by R380, that a request or a report at the boundary makes work for. -/
def HeldReq.source (r : HeldReq) : Nat :=
  match r with
  | .cmd _ _ => 0
  | .tap _ _ _ _ _ => 2
  | .operand _ _ _ _ => 3
  | .doorbell _ _ _ => 6
  | .write _ _ _ => 7
  | .read _ _ => 7
  | .ship _ _ _ _ => 12
  | .fetch _ _ _ => 12
  | .reduce _ _ => 12
  | .prop _ _ _ _ => 12
  | .notice n => match n with
    | .engineReset _ => 2
    | .response _ _ _ => 5
    | .queueReset _ => 6
    | .waitTimeout _ _ => 6
    | .laceRelease _ => 10
    | .dieReset _ _ => 12
    | .peerAck _ _ _ _ _ => 12
    | _ => 11

/-- Work for a source waits: FCLK does not run (R353), the recorder has yet to take an event of that source (R381), or earlier
work for it waits. -/
def State.mustHold (s : State) (source : Nat) : Bool :=
  s.asleep || s.sourceHeld source || s.power.heldReqs.any (fun r => r.source == source)

/-- Does the lock of the page turn a write away (R331, R332, R335)? -/
def State.lockedOut (s : State) (p : Port) (addr : Nat) (v : Word) : Bool :=
  let owner := (s.page (pageOf addr)).owner
  let off := offsetOf addr
  if off = 0x30 then (match owner with | some q => q != p | none => bitAt v.toNat 9 && !bitAt v.toNat 8)
  else if off = 0x34 then owner != some p
  else if off < 0x40 then false
  else match owner with
  | some q => q != p
  | none => addr == R.BLK_MODE

/-- The fate of an access to an aligned address. -/
def State.fate (s : State) (p : Port) (addr : Nat) (write : Bool) (v : Word) : Fate :=
  let page := pageOf addr
  if s.closed p then .errored
  else if s.rst.phase ≠ .ready ∧ !earlyPage page then .nothing
  else if s.mustHold 7 ∧ !aocPage page then .waits
  else if 0x20 ≤ page then .nothing
  else if s.rightOf p addr < (if write then 2 else 1) then .rejected 1
  else if write ∧ s.lockedOut p addr v then .rejected 0
  else .done

/-! ### Latches (R406) -/

def State.latch (s : State) (p : Port) : Latch := (look s.latches (Port.num p)).getD ⟨none, none⟩
def State.setLatch (s : State) (p : Port) (l : Latch) : State :=
  { s with latches := putD ⟨none, none⟩ s.latches (Port.num p) l }

/-- Any access discards a held low word. -/
def State.dropLow (s : State) (p : Port) : State := s.setLatch p { s.latch p with wr := none }

/-- Is an address the low word of a 64-bit register? -/
def isLow (addr : Nat) : Bool :=
  if offsetOf addr < 0x40 then offsetOf addr == 0x24
  else match regAt addr with | some r => r.desc.wide && !r.high | none => false

/-- An access that is not held brings the instance out of IDLE, and counts as the lock owner's (R334). -/
def State.touch (s : State) (p : Port) (addr : Nat) : State :=
  let s := if aocPage (pageOf addr) then s else s.rouse
  s.modPage (pageOf addr) (fun g => if g.owner = some p then { g with accessAt := s.now } else g)

/-- Hold a request at the boundary and wake the instance (R21, R353). -/
def State.hold (s : State) (r : HeldReq) : State :=
  (s.setPower (fun p => { p with heldReqs := p.heldReqs ++ [r] })).rouse

/-- What a served access leaves: on a page of the AOC domain it may find the instance asleep, and wake_at moves with what it
changes (R21, R356). -/
def State.servedFrom (s was : State) (addr : Nat) : State := if aocPage (pageOf addr) then s.movedFrom was else s

/-! ### Writes -/

/-- LOCK.release (R333). -/
def State.releaseLock (s : State) (page : Nat) (test : BootTest) : State :=
  let g := s.page page
  match g.owner with
  | none => s
  | some p =>
    if g.overflow then s.freeLock page 2
    else (s.freeLock page 1).applyPuts p (putsOf g.staged) test

/-- A write of a page header (R331, R332, R402 to R405). -/
def State.writeHeader (s : State) (p : Port) (page off : Nat) (v : Word) (test : BootTest) : State :=
  match off with
  | 0x08 => s.irqPage page (fun g => { g with ctrl := v &&& 3#32 })
  | 0x14 => s.irqPage page (fun g => { g with en := v &&& w32 (irqBits page) })
  | 0x18 => s.irqPage page (fun g => { g with raw := g.raw &&& ~~~v })
  | 0x1C => s.raise page (v.toNat &&& irqBits page)
  | 0x2C => if bitAt v.toNat 0 then s.modPage page (fun g => { g with synd := 0#32, addr := 0#64, errValid := false }) else s
  | 0x30 => s.onBits v.toNat [(8, fun s => s.takeLock p page), (9, fun s => s.releaseLock page test)]
  | 0x34 => s.onBits v.toNat [(8, fun s => s.discardStaged page)]
  | _ => s

/-- A write of a page body word reaches the register, or the lock owner's staging (R332); held is the low word that the
port's latch held. Writes of RO and RC registers are ignored (R9). -/
def State.writeBody (s : State) (p : Port) (addr : Nat) (held : Option (Nat × Word)) (v : Word) (test : BootTest) : State :=
  match regAt addr with
  | none => s
  | some r =>
    if r.desc.acc = .ro ∨ r.desc.acc = .rc then s
    else if r.desc.wide ∧ !r.high then s.setLatch p { s.latch p with wr := some (addr, v) }
    else
      let words := match held with
        | some (a, lo) => if r.high && a + 4 == addr then [(a, lo), (addr, v)] else [(addr, v)]
        | none => [(addr, v)]
      if (s.page (pageOf addr)).owner = some p then
        words.foldl (fun (s : State) w => s.modPage (pageOf addr) (fun g => g.stage w.1 w.2)) s
      else s.applyPuts p (putsOf words) test

/-- A write on a register port. -/
def State.portWrite (s : State) (p : Port) (address : Nat) (v : Word) (test : BootTest) : State :=
  let addr := address / 4 * 4
  match s.fate p addr true v with
  | .errored => s.boundaryError
  | .waits => s.hold (.write p addr v)
  | .nothing => s.dropLow p
  | .rejected k => ((s.touch p addr).dropLow p).turnAway p addr k true v
  | .done =>
    let low := (s.latch p).wr
    let t := (s.touch p addr).dropLow p
    (if offsetOf addr < 0x40 then t.writeHeader p (pageOf addr) (offsetOf addr) v test
     else t.writeBody p addr low v test).servedFrom s addr

/-! ### Reads -/

/-- A word as a port reads it: the owner of the page's lock reads the values it has staged (R332). -/
def State.wordAt (s : State) (p : Port) (addr : Nat) : Word :=
  let g := s.page (pageOf addr)
  if offsetOf addr < 0x40 then s.headerReg (pageOf addr) (offsetOf addr)
  else match regAt addr with
  | none => 0#32
  | some r =>
    let live := s.seenValue p addr r
    match (if g.owner = some p then g.staged.find? (fun q => q.1 == addr) else none) with
    | some (_, v) => if r.desc.acc = .wo then 0#32 else (v &&& w32 r.mask) ||| (live &&& ~~~(w32 r.mask))
    | none => live

/-- What a read by the control or the security port clears or restarts (R9, R407). -/
def State.readEffect (s : State) (p : Port) (addr : Nat) : State :=
  match regAt addr with
  | none => s
  | some r =>
    let base := r.desc.addr
    if p = Port.debug then s
    else if base = R.PWR_RES then
      s.setPower (fun q => { q with resid := q.resid.set r.index 0
                                    since := if Power.num q.state = r.index then s.now else q.since })
    else if base = R.VLT_HWM then
      let t := s.pageTenant 0x09
      if s.sees p t then s.setRegT R.VLT_HWM t (w32 (s.unitsUsed t)) else s
    else if base = R.SPB_INFLIGHT then { s with movers := { s.movers with inflightHwm := s.movers.txns.length } }
    else if base = R.PEER_OUTSTANDING then { s with peer := { s.peer with hwm := s.peer.ops.length } }
    else if base = R.OPX_QUEUE then s.modBank r.index (fun k => { k with hwm := k.elastic.length })
    else if r.desc.acc = .rc then s.setReg addr 0#32
    else s

/-- A count of cycles that goes on while something waits is brought up to the moment of its read (R33, R204). -/
def State.tally (s : State) (addr : Nat) : State :=
  match regAt addr with
  | none => s
  | some r => if r.desc.addr = R.OPX_STALL then s.tendStall r.index else if r.desc.addr = R.VLT_STALL then s.tallyLanes else s

/-- A read of the live word: a low word loads the latch with the high word. -/
def State.readLive (s : State) (p : Port) (addr : Nat) : State × Word :=
  let s := s.tally addr
  let v := s.wordAt p addr
  let s := if isLow addr then s.setLatch p { s.latch p with rd := some (addr + 4, s.wordAt p (addr + 4)) } else s
  (if offsetOf addr < 0x40 then s else s.readEffect p addr, v)

/-- A read of an aligned word: the high word of a 64-bit register may come from the latch (R406). -/
def State.readWord (s : State) (p : Port) (addr : Nat) : State × Word :=
  match (s.latch p).rd with
  | some (a, w) => if a = addr then (s.setLatch p { s.latch p with rd := none }, w) else s.readLive p addr
  | none => s.readLive p addr

/-- A read on a register port; a rejected read returns 0 (R326). -/
def State.portRead (s : State) (p : Port) (address : Nat) : State :=
  let addr := address / 4 * 4
  match s.fate p addr false 0#32 with
  | .errored => s.boundaryError
  | .waits => s.hold (.read p addr)
  | .nothing => (s.dropLow p).outRead p addr 0#32
  | .rejected k => (((s.touch p addr).dropLow p).turnAway p addr k false 0#32).outRead p addr 0#32
  | .done =>
    let r := ((s.touch p addr).dropLow p).readWord p addr
    (r.1.outRead p addr r.2).servedFrom s addr

/-! ### The wrapper's register access (R396) -/

/-- An access on the debug port whose outcome the WRA register shows; one that waits for FCLK is pending. -/
def State.wraRun (s : State) (addr : Nat) (write : Bool) (data : Word) : State :=
  let fate := s.fate .debug addr write data
  let s' := if write then s.portWrite .debug addr data cleanTest else s.portRead .debug addr
  let got := match s'.out.reads.getLast? with | some r => r.2.2 | none => 0#32
  s'.setDebug (fun d => { d with
    wraDone := fate != .waits
    wraResult := (match fate with | .waits => 2 | .rejected _ => 1 | .errored => 1 | _ => 0)
    wraData := if write then data else match fate with | .waits => 0#32 | .errored => 0#32 | _ => got })

/-- UpdateWR of the WRA register, under WS_REGACC. -/
def State.wraAccess (s : State) (address : Nat) (write : Bool) (data : Word) : State :=
  if s.dbg.wir = 8#4 then
    (s.setDebug (fun d => { d with wraAddr := BitVec.ofNat 20 address, wraWrite := write })).wraRun (address / 4 * 4) write data
  else s

/-- What CaptureWR loads from the WRA register: address, write, data, done, result (R396). -/
def Debug.wraCapture (d : Debug) : BitVec 56 :=
  BitVec.ofNat 56 (d.wraAddr.toNat + 2 ^ 20 * b2n d.wraWrite + 2 ^ 21 * d.wraData.toNat + 2 ^ 53 * b2n d.wraDone
    + 2 ^ 54 * d.wraResult)

end Sys2Proof.Machine
end

