-- ==== Sys2Proof/Machine/Wrapper.lean ====
section
/-! DEFINITION. The wrapper boundary register and the levels of the boundary's sideband outputs (R8, R22, R373, R394, R395). -/

namespace Sys2Proof.Machine

/-- The cells of the boundary register by group (R395). operand, tap, localBuf and register ports have their signals numbered in
the order of the table; handshake numbers those of the three interfaces, and peer those of the last group. -/
inductive Cell where
  | readyN
  | irqN (k : Fin 2)
  | laceHoldN (wire : Fin 16)
  | laceDone (wire : Fin 16)
  | clapDrive (line : Fin 64)
  | clapSense (line : Fin 64)
  | pdReq (domain : Fin 4)
  | pdGntN (domain : Fin 4)
  | lendValidN
  | porN
  | sysRstN
  | coreRstN
  | bootSrc (k : Fin 2)
  | clkMode (k : Fin 2)
  | busOut (k : Fin 64)
  | busIn (k : Fin 64)
  | busStrobe
  | operand (port : Fin 48) (k : Fin 24)
  | tap (tap : Fin 48) (k : Fin 3)
  | localBuf (engine : Fin 48) (k : Fin 4)
  | handshake (interface : Fin 3) (k : Fin 8)
  | regPort (port : Fin 2) (k : Fin 24)
  | peer (k : Fin 36)
  deriving DecidableEq, Repr

/-- The number of a cell; cell 0 is nearest WSO. The two clk_mode cells end the first group, of 179 cells. -/
def Cell.index : Cell → Nat
  | .readyN => 0
  | .irqN k => 1 + k.val
  | .laceHoldN n => 3 + n.val
  | .laceDone n => 19 + n.val
  | .clapDrive n => 35 + 2 * n.val
  | .clapSense n => 36 + 2 * n.val
  | .pdReq d => 163 + d.val
  | .pdGntN d => 167 + d.val
  | .lendValidN => 171
  | .porN => 172
  | .sysRstN => 173
  | .coreRstN => 174
  | .bootSrc k => 175 + k.val
  | .clkMode k => 177 + k.val
  | .busOut k => 179 + k.val
  | .busIn k => 243 + k.val
  | .busStrobe => 307
  | .operand p k => 308 + 24 * p.val + k.val
  | .tap t k => 1460 + 3 * t.val + k.val
  | .localBuf e k => 1604 + 4 * e.val + k.val
  | .handshake i k => 1796 + 8 * i.val + k.val
  | .regPort p k => 1820 + 24 * p.val + k.val
  | .peer k => 1868 + k.val

/-- The level that the units give a cell (R22, R373); that of a cell whose signal is no part of the state is free. -/
def State.unitLevel (s : State) (c : Cell) : Bool :=
  match c with
  | .readyN => !s.isReady
  | .irqN k => !s.irqLine k.val
  | .laceHoldN n => !(s.outputsLive && (s.wire n.val).state == .hold)
  | .laceDone n => bitAt s.lace.done n.val
  | .clapDrive n => !s.drivesLine n.val
  | .clapSense n => !s.drivesLine n.val && !bitAt s.lace.others n.val
  | .pdReq d => (s.pd d.val).req
  | .pdGntN d => !(s.outputsLive && (s.pd d.val).phase == .granted)
  | .lendValidN => !decide (s.now < s.power.busUntil)
  | .bootSrc k => s.rst.bootSrc.getLsbD k.val
  | .clkMode k => s.rst.clkMode.getLsbD k.val
  | c => Config.cellLevel s.draws c.index

/-- The level of a boundary output (R394): the units', under an instruction that holds the boundary the cell of the boundary
register, or the safe value, which of the sideband outputs is high. -/
def State.padLevel (s : State) (c : Cell) : Bool :=
  if !holding s.dbg.wir then s.unitLevel c
  else if padCells s.dbg.wir then s.dbg.wbr.getLsbD c.index
  else true

end Sys2Proof.Machine
end

