-- ==== Sys2Proof/Machine/Boundary.lean ====
section
/-! DEFINITION. The boundary for requests other than register accesses: error responses, waiting for FCLK, and what a wake
lets proceed (R21, R316, R346 rule K, R352, R353, R374); the gate of the units' own events. -/

namespace Sys2Proof.Machine

/-- A request of R353 arrives: an error response while the instance is not ready (R374), a wait while FCLK is stopped, else
its effect. -/
def State.arrive (s : State) (r : HeldReq) (go : State → State) : State :=
  if !s.isReady then s.boundaryError
  else if s.mustHold r.source then s.hold r
  else go s.rouse

/-- A command on the engine command port (R70, R81). -/
def State.command (s : State) (op : BitVec 8) (c : Cmd) : State := s.arrive (.cmd op c) (fun s => s.acceptCmd op c)

/-- An event that goes on in every power state: none happens before READY or under test (R346 rule K, R375). -/
def State.onReady (s : State) (f : State → State) : State := if s.isReady then f s else s

/-- A unit's own event happens only while FCLK runs (R26, R351). -/
def State.running (s : State) (f : State → State) : State := if s.isReady && s.clockRuns then f s else s

/-- An event of a unit that can log one: none happens while the recorder has yet to take an event of that source (R380, R381). -/
def State.unit (s : State) (source : Nat) (f : State → State) : State := if s.sourceHeld source then s else s.running f

/-- An event of the AOC domain (R349): none happens in reset, in OFF or without power. -/
def State.aocRunning (s : State) (f : State → State) : State :=
  if s.rst.powered && s.rst.phase != .aoc && s.power.state != .off then f s else s

/-- An event of the AOC domain that can be a source of the next-event timer (R356). -/
def State.aocMoved (s : State) (f : State → State) : State := s.aocRunning (fun s => (f s).movedFrom s)

/-- What a report from the die does. -/
def State.noticed (s : State) (n : Notice) : State :=
  match n with
  | .retire u x => s.retireUnit u x
  | .lost u => (s.loseUnit u).drain
  | .repaired u => s.repairDone u
  | .discarded t a => s.lastUseAck t a
  | .nearLost => { s with tiers := { s.tiers with nearChans := s.tiers.nearChans - 1 } }
  | .linkDown => s.detachHost 2
  | .dieReset d x => s.loseDie d x
  | .queueReset q => s.queueReset q
  | .engineReset e => s.engineReset e
  | .laceRelease w => s.laceReleased w
  | .waitTimeout q t => s.waitTimesOut q t
  | .peerAck p q c e d => s.peerAck p q c e d
  | .response n f c => s.txnResponse n f c

/-- A report that waits for FCLK wakes the instance where it is a cause: a release of a wire in ARRIVED (R357), or a wait's
timeout (R283, R355). -/
def State.wakeFrom (s : State) (n : Notice) : State :=
  match n with
  | .laceRelease w => if (s.wire w).state = .arrived then s.rouse else s
  | .waitTimeout q t => match firstDueWait (s.eyes.waits.filter (fun w => w.timesOutAs q t)) with
    | some w => if s.asleep then (s.advanceTo (w.due.getD 0)).beginWake 0 else s
    | none => s
  | _ => s

/-- A report from the die: lost before READY; it acts while FCLK runs and the recorder has taken its source's events, else it
waits (log entry 101). -/
def State.notify (s : State) (n : Notice) : State :=
  s.onReady (fun s =>
    if s.mustHold (HeldReq.notice n).source then
      (s.setPower (fun p => { p with heldReqs := p.heldReqs ++ [.notice n] })).wakeFrom n
    else s.noticed n)

/-- Let a held request proceed (R353). -/
def State.proceed (s : State) (r : HeldReq) : State :=
  match r with
  | .notice n => s.notify n
  | .cmd op c => s.command op c
  | .write p a v => if p = Port.debug ∧ s.dbg.wraResult = 2 then s.wraRun a true v else s.portWrite p a v cleanTest
  | .read p a => if p = Port.debug ∧ s.dbg.wraResult = 2 then s.wraRun a false 0#32 else s.portRead p a
  | .doorbell o n v => s.arrive r (fun s => (s.doorbell o n v).drain)
  | .tap t i g b d => s.arrive r (fun s => s.tapBeat t i g b d)
  | .operand e i g b => s.arrive r (fun s => s.operandRequest e i g b)
  | .ship h a d x => s.arrive r (fun s => s.recvShip h a d x)
  | .fetch h a n => s.arrive r (fun s => s.recvRead h a n true true)
  | .reduce h t => s.arrive r (fun s => s.recvReduce h t)
  | .prop h a n l => s.arrive r (fun s => s.recvRead h a n false l)

/-- What waited proceeds, oldest first. -/
def State.proceedAll (s : State) : State :=
  s.power.heldReqs.foldl (fun (s : State) r => (s.proceed r).takeRaised) (s.setPower (fun p => { p with heldReqs := [] }))

/-- The wake latency has passed and lent budget is reclaimed: the instance is ACTIVE (R352, R361). -/
def State.wakeComplete (s : State) : State :=
  if s.asleep ∧ s.power.waking.isSome ∧ !s.power.needAck then s.wakeUp.proceedAll.drain else s

/-- The write queue stores its oldest record; what has waited for the recorder to take an event goes on (R381). -/
def State.storeRecord (s : State) : State :=
  let t := s.recordStore
  if s.recorder.waiting ≠ [] ∧ t.isReady ∧ t.clockRuns then t.proceedAll.drain else t

/-- A lock is broken by its idle limit: on an AOC page at any time, on another while FCLK runs (R21, R334). -/
def State.lockBroken (s : State) (page : Nat) : State :=
  s.aocMoved (fun s => if s.clockRuns || aocPage page then s.lockIdle page else s)

/-- pd_req rises: while the instance is not ready the power manager takes the grant as given (R374), and the request is
handled from READY on. -/
def State.pdRise (s : State) (d : Nat) : State :=
  if s.isReady then (s.pdRequest d).movedFrom s else s.setPd d ⟨true, .none, s.now⟩

/-- A sideband input changes; where that is a cause of R357 it wakes the instance. -/
def State.unplanned (s : State) (c : WakeCause) : State :=
  let s' := s.sample c
  if s.wakeCauseHolds c then s'.rouse else s'

/-- A transaction's response; during an isolation it only ends the wait for an outbound write (R316). -/
def State.txnAnswer (s : State) (n : Nat) (fail : Option Cause) (corrected : Nat) : State :=
  if s.rst.isolating then s.drainedWrite (fun w => w.txn == n) fail.isNone
  else s.notify (.response n fail corrected)

/-- A peer's acknowledgement; during an isolation it only ends the wait for an outbound write (R316). -/
def State.ackAnswer (s : State) (package seq : Nat) (crcOk error : Bool) (data : List Byte) : State :=
  if s.rst.isolating then (if crcOk then s.drainedWrite (fun w => w.seq == some seq) (!error) else s)
  else s.notify (.peerAck package seq crcOk error data)

end Sys2Proof.Machine
end

