-- ==== Sys2Proof/Machine/ExecCommands.lean ====
section
/-! DEFINITION. The meanings of the engine command port's commands (R59 to R84, R105, R160, R249, R252, R253, R262, R272 to
R281). -/

namespace Sys2Proof.Machine

/-- OPEN (R59). -/
def execOpenSlate (c : Cmd) (s : State) : Host.Outcome State Fault Refusal := (s.command 0x01#8 c).ends

/-- WRITE_INLINE (R74). -/
def execWriteInline (c : Cmd) (s : State) : Host.Outcome State Fault Refusal := (s.command 0x02#8 c).ends

/-- SEAL (R64, R83). -/
def execSealSlate (c : Cmd) (s : State) : Host.Outcome State Fault Refusal := (s.command 0x03#8 c).ends

/-- CALL (R65). -/
def execCall (c : Cmd) (s : State) : Host.Outcome State Fault Refusal := (s.command 0x04#8 c).ends

/-- RELEASE (R64, R76). -/
def execRelease (c : Cmd) (s : State) : Host.Outcome State Fault Refusal := (s.command 0x05#8 c).ends

/-- FRAME (R58). -/
def execFrame (c : Cmd) (s : State) : Host.Outcome State Fault Refusal := (s.command 0x06#8 c).ends

/-- RESHOOT_DONE (R160). -/
def execReshootDone (c : Cmd) (s : State) : Host.Outcome State Fault Refusal := (s.command 0x07#8 c).ends

/-- STEP_BEGIN (R75, R84). -/
def execStepBegin (c : Cmd) (s : State) : Host.Outcome State Fault Refusal := (s.command 0x30#8 c).ends

/-- STEP_END (R262). -/
def execStepEnd (c : Cmd) (s : State) : Host.Outcome State Fault Refusal := (s.command 0x31#8 c).ends

/-- EYE_ADD (R274). -/
def execEyeAdd (c : Cmd) (s : State) : Host.Outcome State Fault Refusal := (s.command 0x10#8 c).ends

/-- EYE_WAIT (R276). -/
def execEyeWait (c : Cmd) (s : State) : Host.Outcome State Fault Refusal := (s.command 0x11#8 c).ends

/-- EYE_SET (R275). -/
def execEyeSet (c : Cmd) (s : State) : Host.Outcome State Fault Refusal := (s.command 0x12#8 c).ends

/-- PROP_CALL (R249). -/
def execPropCall (c : Cmd) (s : State) : Host.Outcome State Fault Refusal := (s.command 0x20#8 c).ends

/-- INTERMISSION (R252). -/
def execIntermission (c : Cmd) (s : State) : Host.Outcome State Fault Refusal := (s.command 0x32#8 c).ends

/-- RESUME (R253). -/
def execResume (c : Cmd) (s : State) : Host.Outcome State Fault Refusal := (s.command 0x33#8 c).ends

/-- A command with any other opcode completes with BAD_OPCODE (R72). -/
def execBadOpcode (op : BitVec 8) (c : Cmd) (s : State) : Host.Outcome State Fault Refusal := (s.command op c).ends

end Sys2Proof.Machine
end

