-- ==== Sys2Proof/Machine/ExecRegisters.lean ====
section
/-! DEFINITION. The meanings of the register accesses that have a row of their own, and of the general write and the reads
(R9, R325 to R335, R400 to R407 and the page tables). Each is an access on a port: it can wait, be turned away by a right or
a lock, or be staged. -/

namespace Sys2Proof.Machine

/-- A write of one word. -/
def State.wordWrite (s : State) (p : Port) (addr v : Nat) : State := s.portWrite p addr (w32 v) cleanTest

/-- What the RW fields of an instance's register hold, in place. -/
def State.fieldsOf (s : State) (addr : Nat) : Nat :=
  match regAt addr with
  | some r => (s.reg addr).toNat &&& r.desc.mask
  | none => 0

/-- A write that sets action bits and leaves the register's fields as they are. -/
def State.actWrite (s : State) (p : Port) (addr bits : Nat) : State := s.wordWrite p addr (s.fieldsOf addr ||| bits)

/-- A 64-bit write: low word, then high word (R406). -/
def State.wideWrite (s : State) (p : Port) (addr : Nat) (v : BitVec 64) : State :=
  (s.wordWrite p addr (v.toNat % 2 ^ 32)).wordWrite p (addr + 4) (v.toNat / 2 ^ 32)

/-- The address of a register of a page header. -/
def headerAt (page off : Nat) : Nat := page * 0x1000 + off

/-! ### Host and regions -/

/-- TIER_HOST.detach (R226). -/
def execHostDetach (port : Port) (s : State) : Host.Outcome State Fault Refusal := (s.wordWrite port R.TIER_HOST 1).ends

/-- TIER_HOST.attach (R229). -/
def execHostAttach (port : Port) (s : State) : Host.Outcome State Fault Refusal := (s.wordWrite port R.TIER_HOST 2).ends

/-- TIER_HB (R225). -/
def execTierHb (port : Port) (v : Word) (s : State) : Host.Outcome State Fault Refusal :=
  (s.portWrite port R.TIER_HB v cleanTest).ends

/-- TIER_RGN_SEL (R230). -/
def execRegionSelect (port : Port) (entry : BitVec 6) (s : State) : Host.Outcome State Fault Refusal :=
  (s.wordWrite port R.TIER_RGN_SEL entry.toNat).ends

/-- TIER_RGN_CTRL.commit (R221). -/
def execRegionCommit (port : Port) (s : State) : Host.Outcome State Fault Refusal := (s.wordWrite port R.TIER_RGN_CTRL 1).ends

/-- TIER_RGN_CTRL.empty (R221). -/
def execRegionEmpty (port : Port) (s : State) : Host.Outcome State Fault Refusal := (s.wordWrite port R.TIER_RGN_CTRL 2).ends

/-! ### Sheets, books, scripts, self-tests -/

/-- SHT_CTRL.load (R48). -/
def execSheetLoad (port : Port) (tenant : Fin 8) (s : State) : Host.Outcome State Fault Refusal :=
  (s.wordWrite port R.SHT_CTRL (tenant.val + 2 ^ 8)).ends

/-- SHT_CTRL.unload (R52). -/
def execSheetUnload (port : Port) (tenant : Fin 8) (s : State) : Host.Outcome State Fault Refusal :=
  (s.wordWrite port R.SHT_CTRL (tenant.val + 2 ^ 9)).ends

/-- SLT_SEL (R61). -/
def execSltSel (port : Port) (index : BitVec 16) (s : State) : Host.Outcome State Fault Refusal :=
  (s.wordWrite port R.SLT_SEL index.toNat).ends

/-- CUT_FC_SEL (R108). -/
def execCutFcSel (port : Port) (v : Word) (s : State) : Host.Outcome State Fault Refusal :=
  (s.portWrite port R.CUT_FC_SEL v cleanTest).ends

/-- CBK_CTRL.load (R130). -/
def execBookLoad (port : Port) (s : State) : Host.Outcome State Fault Refusal := (s.wordWrite port R.CBK_CTRL 1).ends

/-- CBK_CTRL.invalidate (R130). -/
def execBookInvalidate (port : Port) (s : State) : Host.Outcome State Fault Refusal := (s.wordWrite port R.CBK_CTRL 2).ends

/-- OPX_BCTRL.selftest (R137, R140). -/
def execBankSelftest (port : Port) (bank : Fin 48) (s : State) : Host.Outcome State Fault Refusal :=
  (s.actWrite port (opxAddr R.OPX_BCTRL bank.val) (2 ^ 8)).ends

/-- RTK_CTRL.load (R154). -/
def execScriptLoad (port : Port) (tenant : Fin 8) (s : State) : Host.Outcome State Fault Refusal :=
  (s.wordWrite port R.RTK_CTRL (tenant.val + 2 ^ 8)).ends

/-- RTK_CTRL.invalidate (R154). -/
def execScriptInvalidate (port : Port) (tenant : Fin 8) (s : State) : Host.Outcome State Fault Refusal :=
  (s.wordWrite port R.RTK_CTRL (tenant.val + 2 ^ 9)).ends

/-- RTK_CTRL.selftest (R149). -/
def execLaneSelftest (port : Port) (s : State) : Host.Outcome State Fault Refusal := (s.actWrite port R.RTK_CTRL (2 ^ 10)).ends

/-! ### Channels -/

/-- The address of SPL_CTRL of a channel (R200). -/
def splCtrl (c : Nat) : Nat := R.SPL_CTRL + 0x1000 * (c / 16) + 0x80 * (c % 16)

/-- SPL_CTRL.arm (R184, R186). -/
def execSplArm (port : Port) (chan : Fin 64) (s : State) : Host.Outcome State Fault Refusal :=
  (s.wordWrite port (splCtrl chan.val) 1).ends

/-- SPL_CTRL.stop (R194). -/
def execSplStop (port : Port) (chan : Fin 64) (s : State) : Host.Outcome State Fault Refusal :=
  (s.wordWrite port (splCtrl chan.val) 2).ends

/-- SPL_CTRL.abort (R194). -/
def execSplAbort (port : Port) (chan : Fin 64) (s : State) : Host.Outcome State Fault Refusal :=
  (s.wordWrite port (splCtrl chan.val) 4).ends

/-- SPL_CTRL.restart (R194). -/
def execSplRestart (port : Port) (chan : Fin 64) (s : State) : Host.Outcome State Fault Refusal :=
  (s.wordWrite port (splCtrl chan.val) 8).ends

/-- SPB_POOL (R183). -/
def execSpbPoolWrite (port : Port) (v : BitVec 64) (s : State) : Host.Outcome State Fault Refusal :=
  (s.wideWrite port R.SPB_POOL v).ends

/-! ### Training services -/

/-- MTR_SEL (R264). -/
def execMtrSel (port : Port) (v : Word) (s : State) : Host.Outcome State Fault Refusal :=
  (s.portWrite port R.MTR_SEL v cleanTest).ends

/-- MTR_CTRL.clear (R235). -/
def execMtrClear (port : Port) (s : State) : Host.Outcome State Fault Refusal := (s.actWrite port R.MTR_CTRL (2 ^ 8)).ends

/-- MTR_GN_CTRL.start (R236). -/
def execGnStart (port : Port) (cls : BitVec 2) (s : State) : Host.Outcome State Fault Refusal :=
  (s.wordWrite port R.MTR_GN_CTRL (1 + 2 * cls.toNat)).ends

/-- EXS_SEL (R266). -/
def execExsSel (port : Port) (entry : BitVec 11) (s : State) : Host.Outcome State Fault Refusal :=
  (s.wordWrite port R.EXS_SEL entry.toNat).ends

/-- EXS_CTRL.commit (R266). -/
def execExsCommit (port : Port) (s : State) : Host.Outcome State Fault Refusal := (s.wordWrite port R.EXS_CTRL 1).ends

/-- EXS_CTRL: empty the history (R266). -/
def execExsEmptyHistory (port : Port) (s : State) : Host.Outcome State Fault Refusal := (s.wordWrite port R.EXS_CTRL 2).ends

/-! ### Eyelets, clapper lines, lace wires -/

/-- EYE_SEL (R286). -/
def execEyeSel (port : Port) (eyelet : Fin 4096) (s : State) : Host.Outcome State Fault Refusal :=
  (s.wordWrite port R.EYE_SEL eyelet.val).ends

/-- EYE_COUNT (R286). -/
def execEyeCountWrite (port : Port) (v : Word) (s : State) : Host.Outcome State Fault Refusal :=
  (s.portWrite port R.EYE_COUNT v cleanTest).ends

/-- EYE_TARGET (R286). -/
def execEyeTargetWrite (port : Port) (v : Word) (s : State) : Host.Outcome State Fault Refusal :=
  (s.portWrite port R.EYE_TARGET v cleanTest).ends

/-- EYE_CFG (R270, R286). -/
def execEyeCfgWrite (port : Port) (v : Word) (s : State) : Host.Outcome State Fault Refusal :=
  (s.portWrite port R.EYE_CFG v cleanTest).ends

/-- EYE_CTRL.ctx_save (R293). -/
def execContextSave (port : Port) (tenant : Fin 8) (s : State) : Host.Outcome State Fault Refusal :=
  (s.wordWrite port R.EYE_CTRL (tenant.val + 2 ^ 8)).ends

/-- EYE_CTRL.ctx_restore (R294). -/
def execContextRestore (port : Port) (tenant : Fin 8) (s : State) : Host.Outcome State Fault Refusal :=
  (s.wordWrite port R.EYE_CTRL (tenant.val + 2 ^ 9)).ends

/-- CLAP_FIRE (R279). -/
def execClapFire (port : Port) (v : BitVec 64) (s : State) : Host.Outcome State Fault Refusal :=
  (s.wideWrite port R.CLAP_FIRE v).ends

/-- LACE_CTRL (R287). -/
def execLaceEnrol (port : Port) (enrol : BitVec 16) (s : State) : Host.Outcome State Fault Refusal :=
  (s.wordWrite port R.LACE_CTRL enrol.toNat).ends

/-- LACE_WIREn, or LACE_ARRn (R292). -/
def execLaceWireWrite (port : Port) (wire : Fin 16) (arr : Bool) (v : Word) (s : State) : Host.Outcome State Fault Refusal :=
  (s.portWrite port ((if arr then R.LACE_ARR else R.LACE_WIRE) + 4 * wire.val) v cleanTest).ends

/-! ### Peers -/

/-- PEER_CTRL.clear_lost (R313). -/
def execPeerClearLost (port : Port) (package : Fin 64) (s : State) : Host.Outcome State Fault Refusal :=
  (s.wordWrite port R.PEER_CTRL (1 + 2 ^ 8 * package.val)).ends

/-- PEER_CTRL.clear_all (R414). -/
def execPeerClearAll (port : Port) (s : State) : Host.Outcome State Fault Refusal := (s.actWrite port R.PEER_CTRL 2).ends

/-- PEER_PARTNER (R414). -/
def execPeerPartnerWrite (port : Port) (v : Word) (s : State) : Host.Outcome State Fault Refusal :=
  (s.portWrite port R.PEER_PARTNER v cleanTest).ends

/-! ### Locks and protection -/

/-- LOCK.acquire (R331). -/
def execLockAcquire (port : Port) (page : Fin 32) (s : State) : Host.Outcome State Fault Refusal :=
  (s.wordWrite port (headerAt page.val R.LOCK) (2 ^ 8)).ends

/-- LOCK.release (R333). -/
def execLockRelease (port : Port) (page : Fin 32) (s : State) : Host.Outcome State Fault Refusal :=
  (s.wordWrite port (headerAt page.val R.LOCK) (2 ^ 9)).ends

/-- SHADOW_CTRL.discard (R332). -/
def execShadowDiscard (port : Port) (page : Fin 32) (s : State) : Host.Outcome State Fault Refusal :=
  (s.wordWrite port (headerAt page.val R.SHADOW_CTRL) (2 ^ 8)).ends

/-- BLK_MODE (R335). -/
def execBlkModeWrite (port : Port) (v : Word) (s : State) : Host.Outcome State Fault Refusal :=
  (s.portWrite port R.BLK_MODE v cleanTest).ends

/-- SEC_PROPOSE (R339). -/
def execPropose (port : Port) (s : State) : Host.Outcome State Fault Refusal := (s.wordWrite port R.SEC_PROPOSE 1).ends

/-- SEC_CS_DIGEST (R339 to R342). -/
def execCountersign (port : Port) (digest : Word) (s : State) : Host.Outcome State Fault Refusal :=
  (s.portWrite port R.SEC_CS_DIGEST digest cleanTest).ends

/-- SEC_KEY_STAGEn (R343). -/
def execKeyStageWrite (port : Port) (index : Fin 16) (v : Word) (s : State) : Host.Outcome State Fault Refusal :=
  (s.portWrite port (R.SEC_KEY_STAGE + 4 * index.val) v cleanTest).ends

/-! ### Power, reset, debug -/

/-- PWR_CTRL.off (R359). -/
def execPwrOff (port : Port) (s : State) : Host.Outcome State Fault Refusal := (s.wordWrite port R.PWR_CTRL 1).ends

/-- PWR_CTRL.wake (R378). -/
def execPwrWake (port : Port) (s : State) : Host.Outcome State Fault Refusal := (s.wordWrite port R.PWR_CTRL 2).ends

/-- PWR_HINT (R356). -/
def execPwrHintWrite (port : Port) (v : Word) (s : State) : Host.Outcome State Fault Refusal :=
  (s.portWrite port R.PWR_HINT v cleanTest).ends

/-- RST_CMD (R368). -/
def execResetCommand (port : Port) (v : Word) (test : BootTest) (s : State) : Host.Outcome State Fault Refusal :=
  (s.portWrite port R.RST_CMD v test).ends

/-- RST_BOOT_CTRL.go (R372). -/
def execBootGo (port : Port) (ext : List Host.Cell) (s : State) : Host.Outcome State Fault Refusal :=
  ((s.external ext).wordWrite port R.RST_BOOT_CTRL 1).ends

/-- DBG_CTRL.seq_halt = 1 (R412). -/
def execSeqHalt (port : Port) (s : State) : Host.Outcome State Fault Refusal := (s.actWrite port R.DBG_CTRL 1).ends

/-- DBG_CTRL.step (R412). -/
def execSeqStep (port : Port) (s : State) : Host.Outcome State Fault Refusal := (s.actWrite port R.DBG_CTRL 2).ends

/-- DBG_CTRL.seq_halt = 0 (R412). -/
def execSeqResume (port : Port) (s : State) : Host.Outcome State Fault Refusal :=
  (s.wordWrite port R.DBG_CTRL ((s.reg R.DBG_CTRL).toNat &&& 0xFFFFFFFE)).ends

/-- DBG_LB_CTRL.go (R397, R399). -/
def execLoopbackGo (port : Port) (v : Word) (s : State) : Host.Outcome State Fault Refusal :=
  (s.portWrite port R.DBG_LB_CTRL (v ||| 16#32) cleanTest).ends

/-! ### Recorder -/

/-- REC_TAIL (R390). -/
def execRecTailWrite (port : Port) (v : Word) (s : State) : Host.Outcome State Fault Refusal :=
  (s.portWrite port R.REC_TAIL v cleanTest).ends

/-- REC_CURSOR (R389). -/
def execRecCursorWrite (port : Port) (v : Word) (s : State) : Host.Outcome State Fault Refusal :=
  (s.portWrite port R.REC_CURSOR v cleanTest).ends

/-! ### Page headers, and the general accesses -/

/-- IRQ_STAT (R403). -/
def execIrqStatWrite (port : Port) (page : Fin 32) (v : Word) (s : State) : Host.Outcome State Fault Refusal :=
  (s.portWrite port (headerAt page.val R.IRQ_STAT) v cleanTest).ends

/-- IRQ_FORCE (R403). -/
def execIrqForce (port : Port) (page : Fin 32) (v : Word) (s : State) : Host.Outcome State Fault Refusal :=
  (s.portWrite port (headerAt page.val R.IRQ_FORCE) v cleanTest).ends

/-- ERR_CLR (R405). -/
def execErrClr (port : Port) (page : Fin 32) (s : State) : Host.Outcome State Fault Refusal :=
  (s.wordWrite port (headerAt page.val R.ERR_CLR) 1).ends

/-- A read of an RC register (R9, R407), or of any other. -/
def execReadClear (port : Port) (addr : BitVec 20) (s : State) : Host.Outcome State Fault Refusal :=
  (s.portRead port addr.toNat).ends

/-- A read of the low word of a 64-bit register (R406), or of any other word. -/
def execLowWordRead (port : Port) (addr : BitVec 20) (s : State) : Host.Outcome State Fault Refusal :=
  (s.portRead port addr.toNat).ends

/-- A write of any register (R9). -/
def execRegisterWrite (port : Port) (addr : BitVec 20) (v : Word) (s : State) : Host.Outcome State Fault Refusal :=
  (s.portWrite port addr.toNat v cleanTest).ends

end Sys2Proof.Machine
end

