-- ==== Sys2Proof/Machine/ExecSystem.lean ====
section
/-! DEFINITION. The meanings of the remaining events: synchronisation, global norm, peers, ports, power, resets, test access
and recorder (R236 to R239, R269 to R300, R302 to R318, R334 to R397). -/

namespace Sys2Proof.Machine

/-! ### Global norm -/

/-- GN_LEADER_POLL (R237). -/
def execGnLeaderPoll (ext : List Host.Cell) (s : State) : Host.Outcome State Fault Refusal :=
  ((s.external ext).running State.gnLeaderPoll).ends

/-- GN_MEMBER_POLL (R237). -/
def execGnMemberPoll (ext : List Host.Cell) (s : State) : Host.Outcome State Fault Refusal :=
  ((s.external ext).running State.gnMemberPoll).ends

/-- GN_TIMEOUT (R237). -/
def execGnTimeout (s : State) : Host.Outcome State Fault Refusal := (s.running State.gnTimeout).ends

/-! ### Synchronisation -/

/-- The context image is written (R293). -/
def execContextSaveDone (s : State) : Host.Outcome State Fault Refusal := (s.unit 6 (fun s => s.ctxEnded true)).ends

/-- The context image has been read (R294). -/
def execContextRestoreDone (ext : List Host.Cell) (s : State) : Host.Outcome State Fault Refusal :=
  ((s.external ext).unit 6 (fun s => s.ctxEnded false)).ends

/-- DOORBELL_WRITE (R284). -/
def execDoorbellWrite (offset : BitVec 15) (size : Nat) (v : Word) (s : State) : Host.Outcome State Fault Refusal :=
  (s.arrive (.doorbell offset.toNat size v) (fun s => (s.doorbell offset.toNat size v).drain)).ends

/-- EYE_WAIT_TIMEOUT (R281). -/
def execEyeWaitTimeout (queue : Fin 64) (ticket : BitVec 16) (s : State) : Host.Outcome State Fault Refusal := (s.notify (.waitTimeout queue.val ticket)).ends

/-- CLAPPER_PULSE_END (R279). -/
def execClapperPulseEnd (line : Fin 64) (s : State) : Host.Outcome State Fault Refusal := (s.aocRunning (fun s => s.pulseEnd line.val)).ends

/-- CORE_QUEUE_RESET (R282, R315). -/
def execCoreQueueReset (queue : Fin 64) (s : State) : Host.Outcome State Fault Refusal := (s.notify (.queueReset queue.val)).ends

/-- LACE_RELEASE (R288, R289). -/
def execLaceRelease (wire : Fin 16) (s : State) : Host.Outcome State Fault Refusal := (s.notify (.laceRelease wire.val)).ends

/-- LACE_GAP_END (R288). -/
def execLaceGapEnd (wire : Fin 16) (s : State) : Host.Outcome State Fault Refusal := (s.onReady (fun s => s.endGap wire.val)).ends

/-- DIE_RESET_NOTICE (R291). -/
def execDieResetNotice (die : Fin 64) (system : Bool) (s : State) : Host.Outcome State Fault Refusal := (s.notify (.dieReset die.val system)).ends

/-! ### Peers -/

/-- A received SHIP (R312, R324). -/
def execPeerShip (h : PeerHead) (addr : BitVec 64) (data : List Byte) (sig : Option Signal) (s : State) :
    Host.Outcome State Fault Refusal :=
  (s.arrive (.ship h addr.toNat data sig) (fun s => s.recvShip h addr.toNat data sig)).ends

/-- A received FETCH (R312, R324). -/
def execPeerFetch (h : PeerHead) (addr : BitVec 64) (len : Nat) (s : State) : Host.Outcome State Fault Refusal :=
  (s.arrive (.fetch h addr.toNat len) (fun s => s.recvRead h addr.toNat len true true)).ends

/-- A received REDUCE (R237, R312). -/
def execPeerReduce (h : PeerHead) (total : Partial) (s : State) : Host.Outcome State Fault Refusal :=
  (s.arrive (.reduce h total) (fun s => s.recvReduce h total)).ends

/-- A received PROP (R244, R312). -/
def execPeerProp (h : PeerHead) (addr : BitVec 64) (len : PropLength) (s : State) : Host.Outcome State Fault Refusal :=
  (s.arrive (.prop h addr.toNat len.bytes len.lastUse) (fun s => s.recvRead h addr.toNat len.bytes false len.lastUse)).ends

/-- PEER_ACK (R310, R311). -/
def execPeerAck (package : Fin 64) (seq : BitVec 32) (crcOk error : Bool) (data : List Byte) (s : State) :
    Host.Outcome State Fault Refusal :=
  (s.ackAnswer package.val seq.toNat crcOk error data).ends

/-- ACK_RESEND (R311). -/
def execAckResend (seq : BitVec 32) (s : State) : Host.Outcome State Fault Refusal :=
  (s.unit 12 (fun s => (s.ackResend seq.toNat).drain)).ends

/-- PEER_LINKS_DOWN (R313). -/
def execPeerLinksDown (s : State) : Host.Outcome State Fault Refusal := (s.setLinks false).ends

/-- PEER_LINKS_UP (R313). -/
def execPeerLinksUp (s : State) : Host.Outcome State Fault Refusal := (s.setLinks true).ends

/-! ### Ports -/

/-- LOCK_BROKEN by the idle limit (R318, R334). -/
def execLockBroken (page : Fin 32) (s : State) : Host.Outcome State Fault Refusal := (s.lockBroken page.val).ends

/-- A register port is reset or detached (R318, R340, R343). -/
def execPortReset (port : Port) (detach : Bool) (s : State) : Host.Outcome State Fault Refusal := (s.aocMoved (fun s => s.portReset port detach)).ends

/-- COUNTERSIGN_TIMEOUT (R339). -/
def execCountersignTimeout (s : State) : Host.Outcome State Fault Refusal := (s.aocRunning (fun s => if s.clockRuns then s.proposalTimeout else s)).ends

/-! ### Power -/

/-- POWER_STATE_CHOICE (R356). -/
def execPowerStateChoice (s : State) : Host.Outcome State Fault Refusal := (s.onReady State.choosePower).ends

/-- NEXT_EVENT_TIMER (R356). -/
def execNextEventTimer (s : State) : Host.Outcome State Fault Refusal := (s.onReady State.timerWake).ends

/-- UNPLANNED_WAKE (R357). -/
def execUnplannedWake (cause : WakeCause) (s : State) : Host.Outcome State Fault Refusal := (s.onReady (fun s => s.unplanned cause)).ends

/-- WAKE_COMPLETE (R352). -/
def execWakeComplete (s : State) : Host.Outcome State Fault Refusal := (s.onReady State.wakeComplete).ends

/-- RECLAIM_ACK (R361). -/
def execReclaimAck (s : State) : Host.Outcome State Fault Refusal := (s.aocRunning State.reclaimAck).ends

/-- BUDGET_SET (R362). -/
def execBudgetSet (milliwatts : BitVec 16) (s : State) : Host.Outcome State Fault Refusal :=
  (s.aocRunning (fun s => s.setBudget milliwatts.toNat)).ends

/-- pd_req rises (R363, R374). -/
def execPdRequest (domain : Fin 4) (s : State) : Host.Outcome State Fault Refusal := (s.pdRise domain.val).ends

/-- PD_DRAIN_END (R363). -/
def execPdDrainEnd (domain : Fin 4) (s : State) : Host.Outcome State Fault Refusal := (s.onReady (fun s => (s.drainEnd domain.val).movedFrom s)).ends

/-- PD_DEFER_END (R364). -/
def execPdDeferEnd (domain : Fin 4) (s : State) : Host.Outcome State Fault Refusal := (s.onReady (fun s => (s.deferEnd domain.val).movedFrom s)).ends

/-- pd_req falls (R365). -/
def execPdRequestWithdrawn (domain : Fin 4) (s : State) : Host.Outcome State Fault Refusal := ((s.pdWithdraw domain.val).movedFrom s).ends

/-- POWER_REMOVED (R359). -/
def execPowerRemoved (s : State) : Host.Outcome State Fault Refusal := s.powerRemoved.ends

/-! ### Resets -/

/-- por_n releases (R371, R375). -/
def execPowerOnReset (bootSrc clkMode : BitVec 2) (test : BootTest) (s : State) : Host.Outcome State Fault Refusal :=
  (s.powerOn bootSrc clkMode test).ends

/-- ISOLATION_DRAIN_END (R316). -/
def execIsolationDrainEnd (test : BootTest) (s : State) : Host.Outcome State Fault Refusal := (s.drainDone test).ends

/-- sys_rst_n (R367, R376). -/
def execSystemReset (test : BootTest) (s : State) : Host.Outcome State Fault Refusal :=
  (s.resetBy (.system :: test.also) test).ends

/-- core_rst_n, alone in its AOC cycle (R370, log entry 109). -/
def execCoreReset (s : State) : Host.Outcome State Fault Refusal := (s.resetBy [.core] cleanTest).ends

/-- WATCHDOG_EXPIRY (R368). -/
def execWatchdogExpiry (test : BootTest) (s : State) : Host.Outcome State Fault Refusal :=
  (s.watchdog test).ends

/-- SIBLING_BOOT_TIMEOUT (R372). -/
def execSiblingBootTimeout (s : State) : Host.Outcome State Fault Refusal := s.siblingTimeout.ends

/-- SIBLING_IMAGE_RECEIVED (R372). -/
def execSiblingImageReceived (s : State) : Host.Outcome State Fault Refusal := s.siblingImage.ends

/-! ### Test access -/

/-- WIR_UPDATE (R394). -/
def execWirUpdate (x : WrapperScan) (s : State) : Host.Outcome State Fault Refusal := (s.wirUpdate x.code x.cells).ends

/-- WRSTN (R394). -/
def execWrapperReset (s : State) : Host.Outcome State Fault Refusal := s.wrapperReset.ends

/-- UpdateWR of the WRA register (R396). -/
def execWraUpdate (addr : BitVec 20) (write : Bool) (data : Word) (s : State) : Host.Outcome State Fault Refusal :=
  (s.wraAccess addr.toNat write data).ends

/-- LOOPBACK_DONE (R397, R399). -/
def execLoopbackDone (result : LoopResult) (s : State) : Host.Outcome State Fault Refusal := (s.loopbackDone result).ends

/-! ### Recorder -/

/-- RECORD_STORE (R381, R383). -/
def execRecordStore (s : State) : Host.Outcome State Fault Refusal := (s.aocRunning State.storeRecord).ends

/-- REC_ERASE_END (R391). -/
def execRecEraseEnd (s : State) : Host.Outcome State Fault Refusal := (s.aocRunning State.recEraseEnd).ends

/-- TIME_MESSAGE (R385). -/
def execTimeMessage (ns : BitVec 64) (s : State) : Host.Outcome State Fault Refusal :=
  (s.aocRunning (fun s => s.timeMessage ns.toNat)).ends

/-- TIME_LOCK_LOST (R385). -/
def execTimeLockLost (s : State) : Host.Outcome State Fault Refusal := (s.aocRunning State.timeLockLost).ends

/-- PERSISTENCE (R388). -/
def execPersistence (s : State) : Host.Outcome State Fault Refusal := (s.aocMoved State.persistence).ends

/-- NV_WRITE_ACK (R388). -/
def execNvWriteAck (s : State) : Host.Outcome State Fault Refusal := (s.aocRunning (fun s => s.nvWriteAck.finishOff)).ends

/-- NV_WRITE_TIMEOUT (R388). -/
def execNvWriteTimeout (s : State) : Host.Outcome State Fault Refusal := (s.aocRunning (fun s => s.nvWriteTimeout.finishOff)).ends

end Sys2Proof.Machine
end

