-- ==== Sys2Proof/Machine/ExecUnits.lean ====
section
/-! DEFINITION. The meanings of the events of clicker, stitcher, banks, retake lanes and movers, and of the vault and tier
events (R30 to R34, R83, R103, R107, R132 to R138, R149, R155 to R163, R175 to R215, R315). -/

namespace Sys2Proof.Machine

/-! ### Clicker, stitcher, banks -/

/-- CLICKER_DECISION (R83, R107). -/
def execClickerDecision (s : State) : Host.Outcome State Fault Refusal := (s.unit 1 State.clickerDecision).ends

/-- TAP_BEAT (R132). -/
def execTapBeat (tap : Fin 48) (slate : BitVec 16) (gen : BitVec 8) (block : BitVec 22) (data : List Byte) (s : State) :
    Host.Outcome State Fault Refusal :=
  (s.arrive (.tap tap.val slate.toNat gen.toNat block.toNat data)
    (fun s => s.tapBeat tap.val slate.toNat gen.toNat block.toNat data)).ends

/-- BLOCK_COMMIT (R132, R204). -/
def execBlockCommit (lane : Fin 8) (verify : Option Word) (s : State) : Host.Outcome State Fault Refusal :=
  (s.unit 2 (fun s => s.blockCommit lane.val verify)).ends

/-- ENGINE_RESET (R133, R315). -/
def execEngineReset (engine : Fin 48) (s : State) : Host.Outcome State Fault Refusal := (s.notify (.engineReset engine.val)).ends

/-- OPERAND_REQUEST (R30, R33). -/
def execOperandRequest (engine : Fin 48) (slate : BitVec 16) (gen : BitVec 8) (block : BitVec 22) (s : State) :
    Host.Outcome State Fault Refusal :=
  (s.arrive (.operand engine.val slate.toNat gen.toNat block.toNat)
    (fun s => s.operandRequest engine.val slate.toNat gen.toNat block.toNat)).ends

/-- BOOK_CACHE_MISS_SERVICE (R138). -/
def execBookCacheMissService (s : State) : Host.Outcome State Fault Refusal := (s.unit 3 State.serveMiss).ends

/-- BLOCK_EXPANDED (R34, R136). -/
def execBlockExpanded (bank : Fin 48) (x : Expansion) (s : State) : Host.Outcome State Fault Refusal :=
  (s.unit 3 (fun s => (s.blockExpanded bank.val x.seen x.used.toNat x.drive).drain)).ends

/-- BANK_SELFTEST_END (R137). -/
def execBankSelftestEnd (bank : Fin 48) (failing : List (Fin 17)) (s : State) : Host.Outcome State Fault Refusal :=
  (s.unit 3 (fun s => s.endSelftest bank.val failing)).ends

/-! ### Retake lanes and dispatcher -/

/-- RESHOOT_JOB_START (R155). -/
def execReshootJobStart (s : State) : Host.Outcome State Fault Refusal := (s.unit 4 (fun s => s.startWaiting.drain)).ends

/-- DESCRIPTOR_DISPATCH (R160, R161). -/
def execDescriptorDispatch (s : State) : Host.Outcome State Fault Refusal := (s.unit 4 State.dispatch).ends

/-- LANE_SELFTEST_END (R149). -/
def execLaneSelftestEnd (failing : List (Fin 16)) (s : State) : Host.Outcome State Fault Refusal :=
  (s.unit 4 (fun s => s.endLaneTest (namedBelow failing))).ends

/-- LANE_OUTPUT_BLOCK (R158). -/
def execLaneOutputBlock (lane : Fin 16) (s : State) : Host.Outcome State Fault Refusal :=
  (s.unit 4 (fun s => (s.laneOutput lane.val).drain)).ends

/-! ### Movers -/

/-- TRANSACTION_ISSUE (R177). -/
def execTransactionIssue (write : Bool) (s : State) : Host.Outcome State Fault Refusal :=
  (s.unit 5 (fun s => s.issue write)).ends

/-- TRANSACTION_RESPONSE (R175, R188, R195), with the corrected errors of a vault read (R205). -/
def execTransactionResponse (txn : Nat) (r : Response) (ext : List Host.Cell) (s : State) : Host.Outcome State Fault Refusal :=
  ((s.external ext).txnAnswer txn r.fail r.corrected).ends

/-- TRANSACTION_TIMEOUT (R195). -/
def execTransactionTimeout (txn : Nat) (s : State) : Host.Outcome State Fault Refusal :=
  (s.unit 5 (fun s => s.txnTimeout txn)).ends

/-- BACKOFF_END (R196). -/
def execBackoffEnd (chan : Fin 64) (s : State) : Host.Outcome State Fault Refusal :=
  (s.unit 5 (fun s => s.reissue chan.val)).ends

/-- CHANNEL_TAKES_TRANSFER (R180). -/
def execChannelTakesTransfer (s : State) : Host.Outcome State Fault Refusal := (s.unit 5 State.takeTransfer).ends

/-- SHADOW_PROMOTION (R184). -/
def execShadowPromotion (chan : Fin 64) (s : State) : Host.Outcome State Fault Refusal :=
  (s.unit 5 (fun s => s.promote chan.val)).ends

/-- CHANNEL_TIMER_START (R190). -/
def execChannelTimerStart (chan : Fin 64) (s : State) : Host.Outcome State Fault Refusal :=
  (s.unit 5 (fun s => s.timerStart chan.val)).ends

/-- PACING_PERIOD (R191). -/
def execPacingPeriod (chan : Fin 64) (s : State) : Host.Outcome State Fault Refusal :=
  (s.unit 5 (fun s => s.newPeriod chan.val)).ends

/-- HARD_LIMIT (R33, R198, R248). -/
def execHardLimit (tenant : Fin 8) (entry : Nat) (s : State) : Host.Outcome State Fault Refusal :=
  (s.unit 0 (fun s => s.hardLimit tenant.val entry)).ends

/-- SLATE_LATE (R198). -/
def execSlateLate (tenant : Fin 8) (entry : Nat) (s : State) : Host.Outcome State Fault Refusal :=
  (s.unit 0 (fun s => s.slateLate tenant.val entry)).ends

/-! ### Vault, pools and retirement -/

/-- VAULT_SPACE_RETRY (R103). -/
def execVaultSpaceRetry (s : State) : Host.Outcome State Fault Refusal := (s.unit 2 State.vaultRetry).ends

/-- TIER_ALLOC_RETRY (R208). -/
def execTierAllocRetry (s : State) : Host.Outcome State Fault Refusal := (s.unit 5 State.allocRetry).ends

/-- LAST_USE_ACK (R209). -/
def execLastUseAck (x : TierBase) (s : State) : Host.Outcome State Fault Refusal :=
  (s.notify (.discarded x.tier.val x.base.toNat)).ends

/-- GATHER_RETRY (R248). -/
def execGatherRetry (tenant : Fin 8) (s : State) : Host.Outcome State Fault Refusal :=
  (s.unit 0 (fun s => s.retryGathers tenant.val)).ends

/-- RETIRE_EVACUATE (R215). -/
def execRetireEvacuate (unit : BitVec 64) (s : State) : Host.Outcome State Fault Refusal := (s.notify (.retire unit.toNat false)).ends

/-- RETIRE_LOST (R215). -/
def execRetireLost (unit : BitVec 64) (s : State) : Host.Outcome State Fault Refusal := (s.notify (.lost unit.toNat)).ends

/-- RETIRE_EXCLUDE (R215). -/
def execRetireExclude (unit : BitVec 64) (s : State) : Host.Outcome State Fault Refusal := (s.notify (.retire unit.toNat true)).ends

/-- SOFT_REPAIR_DONE (R215). -/
def execSoftRepairDone (unit : BitVec 64) (s : State) : Host.Outcome State Fault Refusal := (s.notify (.repaired unit.toNat)).ends

/-- MOVE_ALLOC_TIMEOUT (R215). -/
def execMoveAllocTimeout (slate : BitVec 16) (s : State) : Host.Outcome State Fault Refusal :=
  (s.unit 5 (fun s => s.moveTimeout slate.toNat)).ends

/-- SHELF_RETIRE (R205). -/
def execShelfRetire (shelf : Fin 112) (s : State) : Host.Outcome State Fault Refusal :=
  (s.unit 11 (fun s => (s.retireShelf shelf.val).drain)).ends

/-- NEAR_CHANNEL_LOST (R214). -/
def execNearChannelLost (s : State) : Host.Outcome State Fault Refusal := (s.notify .nearLost).ends

/-- HEARTBEAT_EXPIRY (R225). -/
def execHeartbeatExpiry (s : State) : Host.Outcome State Fault Refusal := (s.unit 11 State.heartbeatLost).ends

/-- HOST_LINK_DOWN (R225). -/
def execHostLinkDown (s : State) : Host.Outcome State Fault Refusal := (s.notify .linkDown).ends

/-- SHELF_CLEAR_DONE (R252, R253, R342). -/
def execShelfClearDone (s : State) : Host.Outcome State Fault Refusal := (s.running State.shelfClearDone).ends

/-- SHEET_LOAD_DONE (R48 to R51). -/
def execSheetLoadDone (tenant : Fin 8) (ext : List Host.Cell) (s : State) : Host.Outcome State Fault Refusal :=
  ((s.external ext).unit 0 (fun s => s.sheetDone tenant.val)).ends

/-- SCRIPT_LOAD_DONE (R150 to R154). -/
def execScriptLoadDone (ext : List Host.Cell) (s : State) : Host.Outcome State Fault Refusal :=
  ((s.external ext).unit 4 State.scriptLoaded).ends

end Sys2Proof.Machine
end

