-- ==== Sys2Proof/Machine/Dispatch.lean ====
section
/-! DEFINITION. The meaning of every step: one arm per constructor of Instr, each one direct call. -/

namespace Sys2Proof.Machine

def exec (i : Instr) (s : State) : Host.Outcome State Fault Refusal :=
  match i with
  | .openSlate c => Sys2Proof.Machine.execOpenSlate c s
  | .writeInline c => Sys2Proof.Machine.execWriteInline c s
  | .sealSlate c => Sys2Proof.Machine.execSealSlate c s
  | .call c => Sys2Proof.Machine.execCall c s
  | .release c => Sys2Proof.Machine.execRelease c s
  | .frame c => Sys2Proof.Machine.execFrame c s
  | .reshootDone c => Sys2Proof.Machine.execReshootDone c s
  | .stepBegin c => Sys2Proof.Machine.execStepBegin c s
  | .stepEnd c => Sys2Proof.Machine.execStepEnd c s
  | .eyeAdd c => Sys2Proof.Machine.execEyeAdd c s
  | .eyeWait c => Sys2Proof.Machine.execEyeWait c s
  | .eyeSet c => Sys2Proof.Machine.execEyeSet c s
  | .propCall c => Sys2Proof.Machine.execPropCall c s
  | .intermission c => Sys2Proof.Machine.execIntermission c s
  | .resume c => Sys2Proof.Machine.execResume c s
  | .badOpcode op c => Sys2Proof.Machine.execBadOpcode op c s
  | .clickerDecision  => Sys2Proof.Machine.execClickerDecision  s
  | .tapBeat tap slate gen block data => Sys2Proof.Machine.execTapBeat tap slate gen block data s
  | .blockCommit lane verify => Sys2Proof.Machine.execBlockCommit lane verify s
  | .engineReset engine => Sys2Proof.Machine.execEngineReset engine s
  | .operandRequest engine slate gen block => Sys2Proof.Machine.execOperandRequest engine slate gen block s
  | .bookCacheMissService  => Sys2Proof.Machine.execBookCacheMissService  s
  | .blockExpanded bank x => Sys2Proof.Machine.execBlockExpanded bank x s
  | .bankSelftestEnd bank failing => Sys2Proof.Machine.execBankSelftestEnd bank failing s
  | .reshootJobStart  => Sys2Proof.Machine.execReshootJobStart  s
  | .descriptorDispatch  => Sys2Proof.Machine.execDescriptorDispatch  s
  | .laneSelftestEnd failing => Sys2Proof.Machine.execLaneSelftestEnd failing s
  | .transactionIssue write => Sys2Proof.Machine.execTransactionIssue write s
  | .transactionResponse txn r ext => Sys2Proof.Machine.execTransactionResponse txn r ext s
  | .transactionTimeout txn => Sys2Proof.Machine.execTransactionTimeout txn s
  | .backoffEnd chan => Sys2Proof.Machine.execBackoffEnd chan s
  | .channelTakesTransfer  => Sys2Proof.Machine.execChannelTakesTransfer  s
  | .shadowPromotion chan => Sys2Proof.Machine.execShadowPromotion chan s
  | .channelTimerStart chan => Sys2Proof.Machine.execChannelTimerStart chan s
  | .pacingPeriod chan => Sys2Proof.Machine.execPacingPeriod chan s
  | .hardLimit tenant entry => Sys2Proof.Machine.execHardLimit tenant entry s
  | .slateLate tenant entry => Sys2Proof.Machine.execSlateLate tenant entry s
  | .vaultSpaceRetry  => Sys2Proof.Machine.execVaultSpaceRetry  s
  | .tierAllocRetry  => Sys2Proof.Machine.execTierAllocRetry  s
  | .lastUseAck x => Sys2Proof.Machine.execLastUseAck x s
  | .gatherRetry tenant => Sys2Proof.Machine.execGatherRetry tenant s
  | .retireEvacuate unit => Sys2Proof.Machine.execRetireEvacuate unit s
  | .retireLost unit => Sys2Proof.Machine.execRetireLost unit s
  | .retireExclude unit => Sys2Proof.Machine.execRetireExclude unit s
  | .softRepairDone unit => Sys2Proof.Machine.execSoftRepairDone unit s
  | .moveAllocTimeout slate => Sys2Proof.Machine.execMoveAllocTimeout slate s
  | .shelfRetire shelf => Sys2Proof.Machine.execShelfRetire shelf s
  | .nearChannelLost  => Sys2Proof.Machine.execNearChannelLost  s
  | .hostDetach port => Sys2Proof.Machine.execHostDetach port s
  | .heartbeatExpiry  => Sys2Proof.Machine.execHeartbeatExpiry  s
  | .hostLinkDown  => Sys2Proof.Machine.execHostLinkDown  s
  | .hostAttach port => Sys2Proof.Machine.execHostAttach port s
  | .tierHb port v => Sys2Proof.Machine.execTierHb port v s
  | .regionSelect port entry => Sys2Proof.Machine.execRegionSelect port entry s
  | .regionCommit port => Sys2Proof.Machine.execRegionCommit port s
  | .regionEmpty port => Sys2Proof.Machine.execRegionEmpty port s
  | .sheetLoad port tenant => Sys2Proof.Machine.execSheetLoad port tenant s
  | .sheetLoadDone tenant ext => Sys2Proof.Machine.execSheetLoadDone tenant ext s
  | .sheetUnload port tenant => Sys2Proof.Machine.execSheetUnload port tenant s
  | .sltSel port index => Sys2Proof.Machine.execSltSel port index s
  | .cutFcSel port v => Sys2Proof.Machine.execCutFcSel port v s
  | .bookLoad port => Sys2Proof.Machine.execBookLoad port s
  | .bookInvalidate port => Sys2Proof.Machine.execBookInvalidate port s
  | .bankSelftest port bank => Sys2Proof.Machine.execBankSelftest port bank s
  | .scriptLoad port tenant => Sys2Proof.Machine.execScriptLoad port tenant s
  | .scriptLoadDone ext => Sys2Proof.Machine.execScriptLoadDone ext s
  | .scriptInvalidate port tenant => Sys2Proof.Machine.execScriptInvalidate port tenant s
  | .laneSelftest port => Sys2Proof.Machine.execLaneSelftest port s
  | .splArm port chan => Sys2Proof.Machine.execSplArm port chan s
  | .splStop port chan => Sys2Proof.Machine.execSplStop port chan s
  | .splAbort port chan => Sys2Proof.Machine.execSplAbort port chan s
  | .splRestart port chan => Sys2Proof.Machine.execSplRestart port chan s
  | .spbPoolWrite port v => Sys2Proof.Machine.execSpbPoolWrite port v s
  | .mtrSel port v => Sys2Proof.Machine.execMtrSel port v s
  | .mtrClear port => Sys2Proof.Machine.execMtrClear port s
  | .gnStart port cls => Sys2Proof.Machine.execGnStart port cls s
  | .gnLeaderPoll ext => Sys2Proof.Machine.execGnLeaderPoll ext s
  | .gnMemberPoll ext => Sys2Proof.Machine.execGnMemberPoll ext s
  | .gnTimeout  => Sys2Proof.Machine.execGnTimeout  s
  | .exsSel port entry => Sys2Proof.Machine.execExsSel port entry s
  | .exsCommit port => Sys2Proof.Machine.execExsCommit port s
  | .exsEmptyHistory port => Sys2Proof.Machine.execExsEmptyHistory port s
  | .eyeSel port eyelet => Sys2Proof.Machine.execEyeSel port eyelet s
  | .eyeCountWrite port v => Sys2Proof.Machine.execEyeCountWrite port v s
  | .eyeTargetWrite port v => Sys2Proof.Machine.execEyeTargetWrite port v s
  | .eyeCfgWrite port v => Sys2Proof.Machine.execEyeCfgWrite port v s
  | .contextSave port tenant => Sys2Proof.Machine.execContextSave port tenant s
  | .contextSaveDone  => Sys2Proof.Machine.execContextSaveDone  s
  | .contextRestore port tenant => Sys2Proof.Machine.execContextRestore port tenant s
  | .contextRestoreDone ext => Sys2Proof.Machine.execContextRestoreDone ext s
  | .doorbellWrite offset size v => Sys2Proof.Machine.execDoorbellWrite offset size v s
  | .eyeWaitTimeout queue ticket => Sys2Proof.Machine.execEyeWaitTimeout queue ticket s
  | .clapperPulseEnd line => Sys2Proof.Machine.execClapperPulseEnd line s
  | .clapFire port v => Sys2Proof.Machine.execClapFire port v s
  | .coreQueueReset queue => Sys2Proof.Machine.execCoreQueueReset queue s
  | .laceEnrol port enrol => Sys2Proof.Machine.execLaceEnrol port enrol s
  | .laceWireWrite port wire arr v => Sys2Proof.Machine.execLaceWireWrite port wire arr v s
  | .laceRelease wire => Sys2Proof.Machine.execLaceRelease wire s
  | .laceGapEnd wire => Sys2Proof.Machine.execLaceGapEnd wire s
  | .dieResetNotice die system => Sys2Proof.Machine.execDieResetNotice die system s
  | .peerShip h addr data sig => Sys2Proof.Machine.execPeerShip h addr data sig s
  | .peerFetch h addr len => Sys2Proof.Machine.execPeerFetch h addr len s
  | .peerReduce h total => Sys2Proof.Machine.execPeerReduce h total s
  | .peerProp h addr len => Sys2Proof.Machine.execPeerProp h addr len s
  | .peerAck package seq crcOk error data => Sys2Proof.Machine.execPeerAck package seq crcOk error data s
  | .ackResend seq => Sys2Proof.Machine.execAckResend seq s
  | .peerLinksDown  => Sys2Proof.Machine.execPeerLinksDown  s
  | .peerLinksUp  => Sys2Proof.Machine.execPeerLinksUp  s
  | .peerClearLost port package => Sys2Proof.Machine.execPeerClearLost port package s
  | .peerClearAll port => Sys2Proof.Machine.execPeerClearAll port s
  | .peerPartnerWrite port v => Sys2Proof.Machine.execPeerPartnerWrite port v s
  | .lockAcquire port page => Sys2Proof.Machine.execLockAcquire port page s
  | .lockRelease port page => Sys2Proof.Machine.execLockRelease port page s
  | .shadowDiscard port page => Sys2Proof.Machine.execShadowDiscard port page s
  | .lockBroken page => Sys2Proof.Machine.execLockBroken page s
  | .portReset port detach => Sys2Proof.Machine.execPortReset port detach s
  | .blkModeWrite port v => Sys2Proof.Machine.execBlkModeWrite port v s
  | .propose port => Sys2Proof.Machine.execPropose port s
  | .countersign port digest => Sys2Proof.Machine.execCountersign port digest s
  | .countersignTimeout  => Sys2Proof.Machine.execCountersignTimeout  s
  | .keyStageWrite port index v => Sys2Proof.Machine.execKeyStageWrite port index v s
  | .powerStateChoice  => Sys2Proof.Machine.execPowerStateChoice  s
  | .nextEventTimer  => Sys2Proof.Machine.execNextEventTimer  s
  | .unplannedWake cause => Sys2Proof.Machine.execUnplannedWake cause s
  | .reclaimAck  => Sys2Proof.Machine.execReclaimAck  s
  | .budgetSet milliwatts => Sys2Proof.Machine.execBudgetSet milliwatts s
  | .pwrOff port => Sys2Proof.Machine.execPwrOff port s
  | .pwrWake port => Sys2Proof.Machine.execPwrWake port s
  | .pwrHintWrite port v => Sys2Proof.Machine.execPwrHintWrite port v s
  | .pdRequest domain => Sys2Proof.Machine.execPdRequest domain s
  | .pdDrainEnd domain => Sys2Proof.Machine.execPdDrainEnd domain s
  | .pdDeferEnd domain => Sys2Proof.Machine.execPdDeferEnd domain s
  | .pdRequestWithdrawn domain => Sys2Proof.Machine.execPdRequestWithdrawn domain s
  | .powerOnReset bootSrc clkMode test => Sys2Proof.Machine.execPowerOnReset bootSrc clkMode test s
  | .isolationDrainEnd test => Sys2Proof.Machine.execIsolationDrainEnd test s
  | .systemReset test => Sys2Proof.Machine.execSystemReset test s
  | .coreReset => Sys2Proof.Machine.execCoreReset s
  | .watchdogExpiry test => Sys2Proof.Machine.execWatchdogExpiry test s
  | .resetCommand port v test => Sys2Proof.Machine.execResetCommand port v test s
  | .bootGo port ext => Sys2Proof.Machine.execBootGo port ext s
  | .siblingBootTimeout  => Sys2Proof.Machine.execSiblingBootTimeout  s
  | .seqHalt port => Sys2Proof.Machine.execSeqHalt port s
  | .seqStep port => Sys2Proof.Machine.execSeqStep port s
  | .seqResume port => Sys2Proof.Machine.execSeqResume port s
  | .wirUpdate x => Sys2Proof.Machine.execWirUpdate x s
  | .wrapperReset  => Sys2Proof.Machine.execWrapperReset  s
  | .wraUpdate addr write data => Sys2Proof.Machine.execWraUpdate addr write data s
  | .loopbackGo port v => Sys2Proof.Machine.execLoopbackGo port v s
  | .loopbackDone result => Sys2Proof.Machine.execLoopbackDone result s
  | .recordStore  => Sys2Proof.Machine.execRecordStore  s
  | .recTailWrite port v => Sys2Proof.Machine.execRecTailWrite port v s
  | .recCursorWrite port v => Sys2Proof.Machine.execRecCursorWrite port v s
  | .recEraseEnd  => Sys2Proof.Machine.execRecEraseEnd  s
  | .timeMessage ns => Sys2Proof.Machine.execTimeMessage ns s
  | .timeLockLost  => Sys2Proof.Machine.execTimeLockLost  s
  | .persistence  => Sys2Proof.Machine.execPersistence  s
  | .nvWriteAck  => Sys2Proof.Machine.execNvWriteAck  s
  | .nvWriteTimeout  => Sys2Proof.Machine.execNvWriteTimeout  s
  | .irqStatWrite port page v => Sys2Proof.Machine.execIrqStatWrite port page v s
  | .irqForce port page v => Sys2Proof.Machine.execIrqForce port page v s
  | .errClr port page => Sys2Proof.Machine.execErrClr port page s
  | .readClear port addr => Sys2Proof.Machine.execReadClear port addr s
  | .registerWrite port addr v => Sys2Proof.Machine.execRegisterWrite port addr v s
  | .laneOutputBlock lane => Sys2Proof.Machine.execLaneOutputBlock lane s
  | .shelfClearDone  => Sys2Proof.Machine.execShelfClearDone  s
  | .wakeComplete  => Sys2Proof.Machine.execWakeComplete  s
  | .siblingImageReceived  => Sys2Proof.Machine.execSiblingImageReceived  s
  | .powerRemoved  => Sys2Proof.Machine.execPowerRemoved  s
  | .lowWordRead port addr => Sys2Proof.Machine.execLowWordRead port addr s

end Sys2Proof.Machine
end

