-- ==== Sys2Proof/Machine/Step.lean ====
section
/-! DEFINITION. One step of the block: the command at the front of the queue is taken and has its effect; with
an empty queue one tick of the AOC clock passes (log entry 1). -/

namespace Sys2Proof.Machine

/-- Take the front command, or let one AOC tick of 10 ns pass. -/
def step (s : State) : Host.Outcome State Fault Refusal :=
  match s.pending with
  | [] => .next { s with now := s.now + 1 }
  | c :: rest => exec c { s with pending := rest }

/-- Put the command that a word spells at the front of the queue; the table's rows give no bits, so no word
spells one. A program comes to run from reset by its commands being queued from outside (log entry 7). -/
def State.withFetchWord (s : State) (nbits w : Nat) : State :=
  match decodeTableWord nbits w with
  | none => s
  | some c => { s with pending := c :: s.pending }

end Sys2Proof.Machine
end

