-- ==== Sys2Proof/Safety.lean ====
section
/-! DEFINITION. What no step of the block may do, whatever the command: the terms in which the claims about the whole
machine are stated. -/

namespace Sys2Proof.Machine

/-- What has left the boundary stays: every list of outputs of a state goes on that of an earlier one. -/
structure Outputs.Extends (a b : Outputs) : Prop where
  completions : a.completions <+: b.completions
  beats : a.beats <+: b.beats
  descriptors : a.descriptors <+: b.descriptors
  peerOps : a.peerOps <+: b.peerOps
  peerAnswers : a.peerAnswers <+: b.peerAnswers
  power : a.power <+: b.power
  irqMessages : a.irqMessages <+: b.irqMessages
  reads : a.reads <+: b.reads
  retireAcks : a.retireAcks <+: b.retireAcks
  errors : a.errors ≤ b.errors
  accesses : a.accesses <+: b.accesses

/-- What every command leaves alone, between the state a command finds and the one it leaves: the commands that
wait, the die around the instance, what has left the boundary, the free values already used; and memory outside the
block keeps its canonical form. -/
structure Keeps (a b : State) : Prop where
  pending : b.pending = a.pending
  die : b.die = a.die
  out : a.out.Extends b.out
  draws : a.draws ≤ b.draws
  mem : Memory.wf a.mem = true → Memory.wf b.mem = true

/-- The form of the state's memory, which every step keeps. -/
def State.sound (s : State) : Bool := Memory.wf s.mem && s.recorder.raised.isEmpty

/-! ### A command that is taken at once -/

/-- The engine command port takes a command at once (R70, R78, R81, R83, R353, R381, R412): the instance is READY and ACTIVE,
nothing waits at the boundary, in the port's queue or for the recorder, the sequencer runs, no Abter wait holds the issuing
queue, and the ticket is new. -/
structure Takes (s : State) (c : Cmd) : Prop where
  ready : s.isReady = true
  awake : s.power.state = .active
  clear : s.power.heldReqs = []
  queue : s.port.queue = []
  stalled : s.port.stalled = []
  settled : s.recorder.waiting = []
  running : s.seqHalt = false
  unheld : s.queueHeld c.queue.val = false
  fresh : ∀ k ∈ s.port.window, k.ticket ≠ c.ticket
  alone : ∀ x ∈ s.port.executing, x.cmd.ticket ≠ c.ticket
  quiet : s.recorder.raised = []

/-- The state a command that is taken at once runs in: its ticket is the window's newest, and it executes (R78). -/
def State.taken (s : State) (op : BitVec 8) (c : Cmd) : State :=
  { s with port :=
    { window := (Ticket.mk c.ticket op (s.tenantOf c) c.tag c.queue.val none s.port.serial :: s.port.window).take 1024,
      executing := s.port.executing ++ [⟨s.port.serial, op, c, []⟩], serial := s.port.serial + 1, queue := [], stalled := [],
      decoded := (s.port.decoded + 1) % 2 ^ 32, lastOpcode := op } }

/-- One completion leaves the boundary, and nothing else does (R71). -/
def Completes (s u : State) (op : BitVec 8) (c : Cmd) (a : Answer) : Prop :=
  u.out = { s.out with completions := s.out.completions ++ [completionOf c op a (Config.unstated s.draws)] }

/-! ### A register access that is served -/

/-- A write on a register port reaches its register (R325, R331, R353, R374). -/
structure Serves (s : State) (p : Port) (addr : Nat) (v : Word) : Prop where
  fate : s.fate p addr true v = .done
  quiet : s.recorder.raised = []

/-- A write reaches a register of a page body that no port has locked. -/
structure Writes (s : State) (p : Port) (addr : Nat) (v : Word) : Prop extends Serves s p addr v where
  free : (s.page (pageOf addr)).owner = none

/-- A read on a register port is served, and the port's latch holds no high word (R406). -/
structure Reads (s : State) (p : Port) (addr : Nat) : Prop where
  fate : s.fate p addr false 0#32 = .done
  aligned : addr % 4 = 0
  unlatched : (s.latch p).rd = none
  quiet : s.recorder.raised = []

/-- The state in which a served access reaches its register: IDLE has ended, the lock owner's access is noted, and a low
word that the port held is gone (R334, R353, R406). -/
def State.accessed (s : State) (p : Port) (addr : Nat) : State := (s.touch p addr).dropLow p

/-- The RW registers whose write does more than set their fields, or sets fields of a unit (R48, R61, R108, R137, R154, R183,
R200, R230, R235, R236, R264, R266, R286, R287, R292, R293, R313, R335, R341, R356, R390, R397, R410, R412). -/
def ownEffect : List Nat :=
  [R.BLK_MODE, R.PWR_HINT, R.SEC_PROP, R.SLT_SEL, R.CUT_FC_SEL, R.TIER_RGN_SEL, R.CNT_CTRL, R.MTR_SEL, R.EXS_SEL, R.EYE_SEL,
   R.EYE_COUNT, R.EYE_TARGET, R.EYE_CFG, R.LACE_CTRL, R.LACE_WIRE, R.LACE_ARR, R.REC_TAIL, R.RPL_CTRL, R.PEER_PARTNER,
   R.SPB_POOL, R.SHT_CTRL, R.OPX_BCTRL, R.RTK_CTRL, R.MTR_CTRL, R.MTR_GN_CTRL, R.MTR_GN_PKG, R.EYE_CTRL, R.DBG_CTRL,
   R.DBG_LB_CTRL, R.PEER_CTRL]

/-- A register that holds what is written to its fields, and does nothing else. -/
def RegAt.plain (r : RegAt) : Prop :=
  r.desc.acc = .rw ∧ r.desc.addr ∉ ownEffect ∧ r.desc.addr / 0x1000 ≠ 0x14

/-- The RW fields of an instance's register take the bits of a written word, and the other bits stay (R9, R12). -/
def State.putFields (s : State) (addr mask v : Nat) : State :=
  s.setReg addr (w32 (legal addr (mapMinus (s.reg addr).toNat mask + (v &&& mask))))

/-! ### A request on a service port, and a unit's event -/

/-- A request of R353 that is served at once: the instance is READY and ACTIVE, nothing waits at the boundary, and the recorder
has taken every event (R381). -/
structure Arrives (s : State) : Prop where
  ready : s.isReady = true
  awake : s.power.state = .active
  clear : s.power.heldReqs = []
  settled : s.recorder.waiting = []

/-- A unit's event acts (R26, R351, R375, R381): the instance is READY, FCLK runs, nothing waits at the boundary, the recorder
has taken every event, and no event of an earlier command is unoffered. -/
structure Runs (s : State) : Prop where
  ready : s.isReady = true
  clock : s.clockRuns = true
  clear : s.power.heldReqs = []
  settled : s.recorder.waiting = []
  quiet : s.recorder.raised = []

/-- The instance is READY, in whatever power state, and no event of an earlier command is unoffered. -/
structure Stands (s : State) : Prop where
  ready : s.isReady = true
  quiet : s.recorder.raised = []

/-- The AOC domain is out of reset and not in OFF, and no event of an earlier command is unoffered (R349). -/
structure AocRuns (s : State) : Prop where
  powered : s.rst.powered = true
  started : s.rst.phase ≠ .aoc
  on : s.power.state ≠ .off
  quiet : s.recorder.raised = []

end Sys2Proof.Machine
end

