-- ==== Sys2Proof/WellFormed.lean ====
section
/-! DEFINITION. What makes a command one that the block can meet: the sizes of the manual's packets and the ranges of its
numbers that the constructors' types leave wider. -/

namespace Sys2Proof

/-- The opcodes of R72. -/
def opcodes : List (BitVec 8) :=
  [0x01#8, 0x02#8, 0x03#8, 0x04#8, 0x05#8, 0x06#8, 0x07#8, 0x10#8, 0x11#8, 0x12#8, 0x20#8, 0x30#8, 0x31#8, 0x32#8,
   0x33#8]

/-- A 64-byte command has 48 bytes of payload (R70). -/
def Cmd.wellFormed (c : Cmd) : Bool := c.payload.length == 48

/-- Bytes that other masters have put into the die's 64-bit address space (R7). -/
def cellsWellFormed (ext : List Host.Cell) : Bool := ext.all (fun p => decide (p.1 < 2 ^ 64))

/-- The bytes of one peer operation: a transaction carries at most 512 (R175, R308). -/
def lengthWellFormed (n : Nat) : Bool := decide (1 ≤ n) && decide (n ≤ 512)

/-- A doorbell write carries 1 to 64 bytes; those that are not 4 bytes on a boundary are discarded by R284. -/
def doorbellWellFormed (size : Nat) : Bool := decide (1 ≤ size) && decide (size ≤ 64)

/-- An image that a bank can have read for a block: a header and at most 4,096 bytes of payload (R121, R122). -/
def imageWellFormed (d : List Byte) : Bool := decide (d.length ≤ 4128)

/-- A command whose operands the block can meet. -/
def Instr.wellFormed : Instr → Bool
  | .openSlate c | .writeInline c | .sealSlate c | .call c | .release c | .frame c | .reshootDone c | .stepBegin c
  | .stepEnd c | .eyeAdd c | .eyeWait c | .eyeSet c | .propCall c | .intermission c | .resume c => c.wellFormed
  | .badOpcode op c => c.wellFormed && !opcodes.contains op
  | .tapBeat _ _ _ _ d => d.length == 64
  | .blockExpanded _ ⟨some d, _, _⟩ => imageWellFormed d
  | .transactionResponse _ _ ext | .sheetLoadDone _ ext | .scriptLoadDone ext | .gnLeaderPoll ext | .gnMemberPoll ext
  | .contextRestoreDone ext | .bootGo _ ext => cellsWellFormed ext
  | .doorbellWrite _ n _ => doorbellWellFormed n
  | .peerShip _ _ d _ => lengthWellFormed d.length
  | .peerFetch _ _ n | .peerProp _ _ ⟨n, _⟩ => lengthWellFormed n
  | .peerReduce _ t => t.length == 64
  | .clickerDecision | .blockCommit _ _ | .engineReset _ | .operandRequest _ _ _ _ | .bookCacheMissService
  | .blockExpanded _ ⟨none, _, _⟩ | .bankSelftestEnd _ _ | .reshootJobStart | .descriptorDispatch | .laneSelftestEnd _
  | .transactionIssue _ | .transactionTimeout _ | .backoffEnd _ | .channelTakesTransfer | .shadowPromotion _
  | .channelTimerStart _ | .pacingPeriod _ | .hardLimit _ _ | .slateLate _ _ | .vaultSpaceRetry | .tierAllocRetry
  | .lastUseAck _ | .gatherRetry _ | .retireEvacuate _ | .retireLost _ | .retireExclude _ | .softRepairDone _
  | .moveAllocTimeout _ | .shelfRetire _ | .nearChannelLost | .hostDetach _ | .heartbeatExpiry | .hostLinkDown
  | .hostAttach _ | .tierHb _ _ | .regionSelect _ _ | .regionCommit _ | .regionEmpty _ | .sheetLoad _ _
  | .sheetUnload _ _ | .sltSel _ _ | .cutFcSel _ _ | .bookLoad _ | .bookInvalidate _ | .bankSelftest _ _
  | .scriptLoad _ _ | .scriptInvalidate _ _ | .laneSelftest _ | .splArm _ _ | .splStop _ _ | .splAbort _ _
  | .splRestart _ _ | .spbPoolWrite _ _ | .mtrSel _ _ | .mtrClear _ | .gnStart _ _ | .gnTimeout | .exsSel _ _
  | .exsCommit _ | .exsEmptyHistory _ | .eyeSel _ _ | .eyeCountWrite _ _ | .eyeTargetWrite _ _ | .eyeCfgWrite _ _
  | .contextSave _ _ | .contextSaveDone | .contextRestore _ _ | .eyeWaitTimeout _ _ | .clapperPulseEnd _
  | .clapFire _ _ | .coreQueueReset _ | .laceEnrol _ _ | .laceWireWrite _ _ _ _ | .laceRelease _ | .laceGapEnd _
  | .dieResetNotice _ _ | .peerAck _ _ _ _ _ | .ackResend _ | .peerLinksDown | .peerLinksUp | .peerClearLost _ _
  | .peerClearAll _ | .peerPartnerWrite _ _ | .lockAcquire _ _ | .lockRelease _ _ | .shadowDiscard _ _
  | .lockBroken _ | .portReset _ _ | .blkModeWrite _ _ | .propose _ | .countersign _ _ | .countersignTimeout
  | .keyStageWrite _ _ _ | .powerStateChoice | .nextEventTimer | .unplannedWake _ | .reclaimAck | .budgetSet _
  | .pwrOff _ | .pwrWake _ | .pwrHintWrite _ _ | .pdRequest _ | .pdDrainEnd _ | .pdDeferEnd _
  | .pdRequestWithdrawn _ | .powerOnReset _ _ _ | .isolationDrainEnd _ | .systemReset _ | .coreReset
  | .watchdogExpiry _ | .resetCommand _ _ _ | .siblingBootTimeout | .seqHalt _ | .seqStep _ | .seqResume _
  | .wirUpdate _ | .wrapperReset | .wraUpdate _ _ _ | .loopbackGo _ _ | .loopbackDone _ | .recordStore
  | .recTailWrite _ _ | .recCursorWrite _ _ | .recEraseEnd | .timeMessage _ | .timeLockLost | .persistence
  | .nvWriteAck | .nvWriteTimeout | .irqStatWrite _ _ _ | .irqForce _ _ _ | .errClr _ _ | .readClear _ _
  | .registerWrite _ _ _ | .laneOutputBlock _ | .shelfClearDone | .wakeComplete | .siblingImageReceived
  | .powerRemoved | .lowWordRead _ _ => true

end Sys2Proof
end

