-- ==== Sys2Proof/Certificates/Slice0/Obligations.lean ====
section
/-! DEFINITION. The statements for the provers: what each command of the table does where it has its own effect, what it
leaves alone, and what no step may do. A frame is written as an equation: the state after the command, with the parts that
may change put back, is the state before. -/

open Sys2Proof Sys2Proof.Machine

/-! ### The machine as a whole -/

/-- The block's queue: a step runs the command at the front, on the state whose queue is the rest. -/
def Obligations.StepRunsTheFrontCommand : Prop :=
  ∀ (c : Instr) (s : State), step { s with pending := c :: s.pending } = exec c s

/-- DESIGN CHOICE, log entry 1: with no command waiting, a step is one tick of the AOC clock and nothing else. -/
def Obligations.IdleStepIsOneTick : Prop :=
  ∀ s : State, s.pending = [] → step s = .next { s with now := s.now + 1 }

/-- The invariant of the state's memory and of the recorder holds at reset. -/
def Obligations.ResetIsSound : Prop :=
 State.reset.sound = true

/-- Every step keeps the invariant: memory outside the block stays canonical, and no event of a finished command is left
untaken (R381). -/
def Obligations.EveryStepKeepsSound : Prop :=
  ∀ s t : State, s.sound = true → step s = .next t → t.sound = true

/-- No command takes back what has left the boundary, changes the die around the instance, touches the commands that wait or
reuses a free value; memory stays canonical. -/
def Obligations.EveryCommandKeeps : Prop :=
  ∀ (c : Instr) (s t : State), exec c s = .next t → Keeps s t

/-! ### The engine command port -/

/-- OPEN (R59): the lowest FREE record is allocated with the next generation; the completion names it (R73). -/
def Obligations.OpenAllocatesTheLowestFreeRecord : Prop :=
  ∀ (c : Cmd) (s : State) (ei i : Nat) (e : Entry), Takes s c → cmdReserved 0x01 c = false →
    (s.tenant (s.tenantOf c)).stepOpen = true → (s.tenant (s.tenantOf c)).halted = false →
    (cmdFlag0 c = true → cmdMask c = 0) → s.entryOfTag (s.tenantOf c) c.tag.toNat = some ei →
    s.entryAt (s.tenantOf c) ei = some e → ei ∉ (s.tenant (s.tenantOf c)).opened → s.hasSlot (s.tenantOf c) = true →
    s.freeRecord = some i →
    ∃ u : State, exec (.openSlate c) s = .next u
      ∧ u.slate i = { Slate.freed (((s.slate i).gen + 1) % 256) with
          state := .opened, tenant := s.tenantOf c, entryIndex := ei, entry := some e, inline := cmdFlag0 c,
          writerMask := cmdMask c }
      ∧ u.extent i = Extent.init ∧ (∀ j, j ≠ i → u.slate j = s.slate j ∧ u.extent j = s.extent j)
      ∧ u.tenant (s.tenantOf c) = { s.tenant (s.tenantOf c) with opened := (s.tenant (s.tenantOf c)).opened ++ [ei] }
      ∧ (∀ k, k ≠ s.tenantOf c → u.tenant k = s.tenant k)
      ∧ Completes s u 0x01#8 c
          { status := 0, slate := i, gen := ((s.slate i).gen + 1) % 256, result := some 1, value := some (w32 ei) }
      ∧ { u with ledger := s.ledger, vault := { u.vault with extents := s.vault.extents }, tenants := s.tenants,
                 port := s.port, out := s.out, draws := s.draws } = s

/-- WRITE_INLINE (R74): the bytes go to their place in the slate's inline block, and only there. -/
def Obligations.WriteInlineStoresItsBytes : Prop :=
  ∀ (c : Cmd) (s : State) (i : Nat), Takes s c → c.payload.length = 48 → s.named 0x02 c false = .slate i →
    (s.slate i).state = .opened → (s.slate i).inline = true → (s.slate i).e.sizeBlocks = 1 →
    inlineBlock c = 0 → 1 ≤ inlineCount c → inlineCount c ≤ 48 → inlineOffset c + inlineCount c ≤ 4096 →
    ∃ u : State, exec (.writeInline c) s = .next u
      ∧ u.inlineBytes i = patch (s.inlineBytes i) (inlineOffset c) (c.payload.take (inlineCount c))
      ∧ (∀ j, j ≠ i → u.inlineBytes j = s.inlineBytes j)
      ∧ Completes s u 0x02#8 c
          { status := 0, slate := i, gen := (s.slate i).gen, value := some (w32 (inlineCount c)) }
      ∧ { u with stitcher := { u.stitcher with inlineBuf := s.stitcher.inlineBuf }, port := s.port, out := s.out,
                 draws := s.draws } = s

/-- SEAL (R64, R66, R74, R83): an inline block that is not handed over goes to the lowest lane first, and the command waits;
with every block committed and the clicker free, the extent closes, the slate is SEALED and the clicker receives it with the
frame counter of the SEAL; a wrong count tears the slate. -/
def Obligations.SealGivesTheSlateToTheClicker : Prop :=
  ∀ (c : Cmd) (s T : State) (i lane : Nat), Takes s c → T = s.taken 0x03#8 c → s.named 0x03 c true = .slate i →
    (s.slate i).state = .opened →
    ((s.slate i).inline = true → (s.slate i).inlineHanded = false → (bitsOf s.stitcher.lanes 8)[0]? = some lane →
      exec (.sealSlate c) s = .next (({ s with port := { s.port with queue := [(0x03#8, c)] } } : State).modSlate i
        (fun r => { r with inlineHanded := true }) |>.handToLane lane ⟨i, (s.slate i).gen, 0, s.inlineBytes i, 0, none, none⟩
        |>.bump64 R.STI_RAW_IN 4096).takeRaised)
    ∧ (((s.slate i).inline = true → (s.slate i).inlineHanded = true) → s.laneHolds i = false → s.clicker.queue = [] →
      (sealBlocks c = (s.slate i).e.sizeBlocks → sealBlocks c = (s.slate i).blocksWritten →
        ∀ y : State, y = ((((T.closeExtent i).modSlate i (fun r => { r with state := .sealed })).fallbackRate i).reelCheck i).playCheck i →
        exec (.sealSlate c) s = .next ({ y with clicker := { y.clicker with queue := y.clicker.queue ++
          [⟨i, (s.slate i).gen, some (y.tenant (s.slate i).tenant).frame, some c⟩] } } : State).takeRaised)
      ∧ (sealBlocks c ≠ (s.slate i).e.sizeBlocks ∨ sealBlocks c ≠ (s.slate i).blocksWritten →
        exec (.sealSlate c) s = .next ((T.tear i 1).complete 0x03#8 c
          { status := 0x05, slate := i, gen := (s.slate i).gen }).takeRaised))

/-- CALL (R64, R65, R73, R100, R247, R248): an OPEN slate is refused and a LOST one answered so; an IN_USE one serves the new
engines; on any other the CALL waits, with the time of the first CALL, and what the slate's state asks for begins at once; one of
a gather that is lost for the step completes with LOST. RELEASE (R64, R73, R76, R163): the record is FREE again, or a running
reshoot ends its transfers and is stopped first; the completion carries the state that the slate had. -/
def Obligations.CallAndReleaseActOnTheState : Prop :=
  (∀ (c : Cmd) (s T y : State) (i : Nat) (r : Slate), Takes s c → T = s.taken 0x04#8 c → s.named 0x04 c true = .slate i →
      r = s.slate i → s.dropBad c r.e = false →
      y = T.modSlate i (fun r => { r with
        callPending := true
        calls := r.calls ++ [c]
        callAt := if r.callPending then r.callAt else s.now - (s.tenant r.tenant).beganAt }) →
      (r.state = .opened → exec (.call c) s = .next (T.complete 0x04#8 c
          { status := 0x02, slate := i, gen := r.gen, result := some 1 }).takeRaised)
      ∧ (r.state = .lost → exec (.call c) s = .next (T.complete 0x04#8 c
          { status := 0x0B, slate := i, gen := r.gen, result := some SlateState.lost.num }).takeRaised)
      ∧ (r.state = .inUse → exec (.call c) s = .next ((T.serveEngines i (cmdMask c) (cmdFlag0 c)).complete 0x04#8 c
          { status := 0, slate := i, gen := r.gen, result := some SlateState.inUse.num }).takeRaised)
      ∧ (r.state = .ready → exec (.call c) s = .next ((y.takePending i).tendJobs).takeRaised)
      ∧ (r.state = .kept → exec (.call c) s = .next ((y.enterReady i).tendJobs).takeRaised)
      ∧ (r.state = .movingOut → exec (.call c) s = .next (((y.cancelSlate i).enterReady i).tendJobs).takeRaised)
      ∧ (r.state = .parked → exec (.call c) s = .next ((y.beginReturn i (y.callDeadline i) none).tendJobs).takeRaised)
      ∧ (r.state = .dropped → exec (.call c) s = .next (((y.wantJob i (y.callDeadline i)).startNow i).tendJobs).takeRaised)
      ∧ (r.state = .sealed ∨ r.state = .returning ∨ r.state = .reshooting →
          exec (.call c) s = .next (y.tendJobs).takeRaised))
  ∧ (∀ (c : Cmd) (s : State), Takes s c → s.gate 0x04 c false = none → s.deadTag (s.tenantOf c) c.tag.toNat = true →
      exec (.call c) s = .next ((s.taken 0x04#8 c).complete 0x04#8 c { status := 0x0B }).takeRaised)
  ∧ (∀ (c : Cmd) (s T : State) (i : Nat) (r : Slate), Takes s c → T = s.taken 0x05#8 c → s.named 0x05 c false = .slate i →
      r = s.slate i →
      (r.state ≠ .reshooting → exec (.release c) s = .next (((T.freeSlate i).tendJobs).complete 0x05#8 c
          { status := 0, slate := i, gen := r.gen, result := some r.state.num }).takeRaised)
      ∧ (r.state = .reshooting → (s.retake.jobs.any (fun p => p.2.slate == i && p.2.gen == r.gen)) = true →
        exec (.release c) s = .next (((((T.modSlate i (fun r => { r with releasePending := true })).cancelSlate i).stopJob
          i).reapJobs.tendJobs).complete 0x05#8 c
            { status := 0, slate := i, gen := r.gen, result := some SlateState.reshooting.num }).takeRaised)
      ∧ (r.state = .reshooting → (s.retake.jobs.any (fun p => p.2.slate == i && p.2.gen == r.gen)) = false →
        exec (.release c) s = .next ((((((T.modSlate i (fun r => { r with releasePending := true })).cancelSlate i).stopJob
          i).freeSlate i).tendJobs).complete 0x05#8 c
            { status := 0, slate := i, gen := r.gen, result := some SlateState.reshooting.num }).takeRaised))

/-- FRAME (R54, R56, R58, R105): with no decision of a SEAL before it outstanding, the frame that is open closes and is
measured in the standby copy, the frames between close unmeasured, the counter becomes the index plus one, and what that frame
reaches begins. An index below the counter answers FRAME_STALE and one outside the sheet BAD_ARG. -/
def Obligations.FrameClosesTheOpenFrame : Prop :=
  ∀ (c : Cmd) (s T : State) (t : Nat) (x : Tenant), Takes s c → T = s.taken 0x06#8 c → t = s.tenantOf c → x = s.tenant t →
    s.gate 0x06 c false = none → s.sealPending t = false →
    (frameIndex c < x.frame → exec (.frame c) s = .next (T.complete 0x06#8 c
        { status := 0x06, value := some (w32 x.frame) }).takeRaised)
    ∧ (x.frame ≤ frameIndex c → s.frameCount t ≤ frameIndex c → exec (.frame c) s = .next (T.complete 0x06#8 c
        { status := 0x03, value := some (w32 x.frame) }).takeRaised)
    ∧ (x.frame ≤ frameIndex c → frameIndex c < s.frameCount t → ∀ y z : State,
      y = (T.measure t (frameIndex c) (min 0xFFFFFFFF (s.now - x.frameOpenAt))).modTenant t (fun y => { y with
        frame := frameIndex c + 1, frameOpenAt := s.now, framesClosed := y.framesClosed + (frameIndex c + 1 - x.frame)
        frameTimes := put (((List.range (frameIndex c - x.frame)).map (fun k => x.frame + 1 + k)).foldl
          (fun m g => put m g x.frameOpenAt) y.frameTimes) (frameIndex c + 1) s.now }) →
      z = y.reachFrame t →
      exec (.frame c) s = .next (z.complete 0x06#8 c { status := 0, value := some (w32 (z.tenant t).frame) }).takeRaised)

/-- RESHOOT_DONE (R160, R162, R163): an answer that names no running step is refused; a good one marks a descriptor answered
and the job goes on; a failure re-sends what is incomplete once, to the next enabled queue, and a second one fails the job.
-/
def Obligations.ReshootDoneAnswersADescriptor : Prop :=
  ∀ (c : Cmd) (s T : State), Takes s c → T = s.taken 0x07#8 c → cmdReserved 0x07 c = false →
    (s.job (doneSlot c) = none →
      exec (.reshootDone c) s = .next (T.complete 0x07#8 c { status := 0x03 }).takeRaised)
    ∧ ∀ j : Job, s.job (doneSlot c) = some j →
      (s.answerWrong c j = true →
        exec (.reshootDone c) s = .next (T.complete 0x07#8 c { status := 0x03 }).takeRaised)
      ∧ (s.answerWrong c j = false → ∀ (z b : State) (d : Desc) (k : Job),
        z = T.complete 0x07#8 c { status := 0, slate := j.slate, gen := j.gen } → b = z.bump R.RTK_STEP_FAIL 1 →
        (j.unanswered.find? (fun d => d.queue == c.queue.val)).or j.unanswered.head? = some d →
        k = { j with unanswered := j.unanswered.erase d } →
        (doneStatus c = 0 → exec (.reshootDone c) s = .next ((((z.setJob (doneSlot c) { k with
            descs := j.descs.map (fun x => if x.first = d.first then { x with answered := true } else x)
            toResend := j.toResend.filter (fun x => x.first != d.first) }).jobProgress (doneSlot c) 17).reapJobs).tendJobs).takeRaised)
        ∧ (doneStatus c ≠ 0 → j.stopped = true →
          exec (.reshootDone c) s = .next (((b.setJob (doneSlot c) k).reapJobs).tendJobs).takeRaised)
        ∧ (doneStatus c ≠ 0 → j.stopped = false → j.failedOnce = true →
          exec (.reshootDone c) s = .next ((((b.setJob (doneSlot c) k).failJob (doneSlot c)).reapJobs).tendJobs).takeRaised)
        ∧ (doneStatus c ≠ 0 → j.stopped = false → j.failedOnce = false →
          exec (.reshootDone c) s = .next ((b.setJob (doneSlot c) { k with
            failedOnce := true
            toResend := (j.descs.filter (fun d => !d.answered)).map (fun d =>
              { d with queue := (b.nextQueue j.tenant).getD b.retake.lastQueue, resent := true }) }).tendJobs).takeRaised))

/-- STEP_BEGIN and STEP_END (R73, R75, R76, R84, R227, R262): a step opens with the host ATTACHED, unless it is refused; any that
arrives while the host is not ATTACHED is held (that a second one of its tenant is refused is log entry 27); a step ends when no
slate is left, or is abandoned with the slates it frees counted. -/
def Obligations.StepsBeginAndEnd : Prop :=
  ∀ (c : Cmd) (s : State) (t : Nat), Takes s c → t = s.tenantOf c →
    (∀ T : State, T = s.taken 0x30#8 c →
      (s.tiers.host = .attached → s.beginRefusal c = none →
        exec (.stepBegin c) s = .next ((T.openStep t (stepNumber c)).complete 0x30#8 c
          { status := 0, value := some (stepNumber c) }).takeRaised)
      ∧ (∀ st : Nat, s.tiers.host = .attached → s.beginRefusal c = some st →
        exec (.stepBegin c) s = .next (T.complete 0x30#8 c { status := st }).takeRaised)
      ∧ (s.tiers.host ≠ .attached → (s.tenant t).held = none →
        exec (.stepBegin c) s = .next ({ (T.modTenant t (fun x => { x with held := some c })).raise 0x06 2 with
          tiers := { s.tiers with host := .heldSteps } } : State).takeRaised)
      ∧ (s.tiers.host ≠ .attached → (s.tenant t).held.isSome = true →
        exec (.stepBegin c) s = .next (T.complete 0x30#8 c { status := 0x02 }).takeRaised))
    ∧ (∀ T : State, T = s.taken 0x31#8 c → cmdReserved 0x31 c = false → (s.tenant t).stepOpen = true →
      (cmdFlag0 c = true → exec (.stepEnd c) s = .next (((T.abandon t).closeStep t true).complete 0x31#8 c
        { status := 0, value := some (w32 (s.tenantSlates t).length) }).takeRaised)
      ∧ (cmdFlag0 c = false → s.tenantSlates t ≠ [] →
        exec (.stepEnd c) s = .next (T.complete 0x31#8 c { status := 0x07 }).takeRaised)
      ∧ (cmdFlag0 c = false → s.tenantSlates t = [] → exec (.stepEnd c) s = .next ((T.closeStep t false).complete 0x31#8 c
        { status := 0, value := some 0#32 }).takeRaised))

/-- PROP_CALL, INTERMISSION and RESUME (R245, R249, R251 to R253): a gather allocates its slate; a loan takes the highest
shelves of the lender; the refusals answer NO_LOAN and LOAN_BUSY. Once the shelves are cleared the lender's eyelet context is
saved or restored, and at its end, or at once where no region is set up for it, the loan is in force or its shelves are given
back, and the command completes with their number. -/
def Obligations.GathersAndLoansStart : Prop :=
  ∀ (c : Cmd) (s : State) (t : Nat), Takes s c → t = s.tenantOf c →
    (∀ (T : State) (ei : Nat) (e : Entry) (d : PropDesc) (g : State × Nat), T = s.taken 0x20#8 c → s.gate 0x20 c true = none →
      s.entryOfTag t c.tag.toNat = some ei → s.entryAt t ei = some e → s.propOf t e = some d → e.streamClass = 2 →
      ei ∉ (s.tenant t).opened → s.hasSlot t = true → s.sealPending t = false → g = T.startGather t ei e d →
      exec (.propCall c) s = .next (g.1.complete 0x20#8 c
        { status := 0, slate := g.2, gen := (g.1.slate g.2).gen, result := some (g.1.slate g.2).state.num
          value := some (w32 e.gatherGr) }).takeRaised)
    ∧ (s.security.clearing = none → s.loanRefusal c = none →
      exec (.intermission c) s = .next { s.taken 0x32#8 c with security := { s.security with
        clearing := some ⟨t, loanBorrower c, highBits (s.shelvesOf t) (loanShelves c)⟩, clearCmd := some c
        clearReturn := false } })
    ∧ (s.security.clearing = none → cmdReserved 0x33 c = false →
      (s.security.loans.find? (fun l => l.lender == t) = none →
        exec (.resume c) s = .next ((s.taken 0x33#8 c).complete 0x33#8 c { status := 0x4A }).takeRaised)
      ∧ ∀ l : Loan, s.security.loans.find? (fun l => l.lender == t) = some l →
        ((s.tenant l.borrower).stepOpen = true →
          exec (.resume c) s = .next ((s.taken 0x33#8 c).complete 0x33#8 c { status := 0x4B }).takeRaised)
        ∧ ((s.tenant l.borrower).stepOpen = false →
          exec (.resume c) s = .next { s.taken 0x33#8 c with security := { s.security with
            loans := s.security.loans.erase l, clearing := some l, clearCmd := some c, clearReturn := true } }))
    ∧ (∀ (z y : State) (l : Loan) (back : Bool), Runs z → z.security.applying = none → z.security.clearing = some l →
      z.security.clearCmd = some c → z.security.clearReturn = back → z.eyes.ctx = none →
      (z.controlRegion l.lender (z.reg64 R.SHT_INT_SAVE l.lender) (z.ctxBytes l.lender) = none →
        exec .shelfClearDone z = .next (({ z with
          eyes := { z.eyes with ctxResult := 3 }
          security := { z.security with clearing := none, clearCmd := none, clearReturn := false
                                        loans := if back then z.security.loans else z.security.loans ++ [l] } } : State).complete
            (if back then 0x33#8 else 0x32#8) c { status := 0, value := some (w32 (popBits
              (if back then mapMinus l.shelves z.vault.retired else l.shelves) 112)) }).drain.takeRaised)
      ∧ ((z.controlRegion l.lender (z.reg64 R.SHT_INT_SAVE l.lender) (z.ctxBytes l.lender)).isSome = true →
        y = (if back then z else z.endWaits (fun w => w.tenant == l.lender) 0x24 true) →
        exec .shelfClearDone z = .next ({ y with eyes := { y.eyes with ctx := some {
          tenant := l.lender, save := !back, base := z.reg64 R.SHT_INT_SAVE l.lender, loan := true
          ended := (z.eyes.waits.filter (fun w => w.tenant == l.lender)).length } } } : State).drain.takeRaised))
    ∧ (∀ (z : State) (l : Loan), z.security.clearing = some l → z.security.clearCmd = some c →
      z.endLoan = ({ z with security := { z.security with
          clearing := none, clearCmd := none, clearReturn := false
          loans := if z.security.clearReturn then z.security.loans else z.security.loans ++ [l] } } : State).complete
        (if z.security.clearReturn then 0x33#8 else 0x32#8) c { status := 0, value := some (w32 (popBits
          (if z.security.clearReturn then mapMinus l.shelves z.vault.retired else l.shelves) 112)) })

/-- A command whose opcode the table does not define completes with BAD_OPCODE and has no other effect (R72). A command that
ends before it names a slate only completes (R72, R73, R75, R77, R305): reserved bits BAD_ARG, no open step NO_STEP, a
halted step BAD_STATE for the commands it stops, a tag of no entry NO_ENTRY. An eyelet command with a reserved bit completes
with BAD_ARG and carries d where its index names an eyelet (R272). -/
def Obligations.RejectedCommandsComplete : Prop :=
  (∀ (op : BitVec 8) (c : Cmd) (s : State), Takes s c → op ∉ opcodes →
      ∃ u : State, exec (.badOpcode op c) s = .next u ∧ Completes s u op c { status := 0x0C }
        ∧ { u with port := s.port, out := s.out, draws := s.draws } = s)
  ∧ (∀ (c : Cmd) (s : State) (i : Instr) (op : BitVec 8) (halts : Bool) (st : Nat), Takes s c →
      (i, op, halts) ∈ [(Instr.openSlate c, 0x01#8, true), (.writeInline c, 0x02#8, false), (.sealSlate c, 0x03#8, true),
        (.call c, 0x04#8, true), (.release c, 0x05#8, false), (.frame c, 0x06#8, false), (.propCall c, 0x20#8, true)] →
      (s.gate op.toNat c halts = some st
        ∨ s.gate op.toNat c halts = none ∧ op ≠ 0x06#8 ∧ s.entryOfTag (s.tenantOf c) c.tag.toNat = none ∧ st = 1
          ∧ (cmdFlag0 c = true → cmdMask c = 0)) →
      (op = 0x06#8 ∨ op = 0x20#8 → s.sealPending (s.tenantOf c) = false) →
      (op = 0x04#8 → s.deadTag (s.tenantOf c) c.tag.toNat = false) →
      ∃ u : State, exec i s = .next u ∧ Completes s u op c { status := st }
        ∧ { u with port := s.port, out := s.out, draws := s.draws } = s)
  ∧ (∀ (c : Cmd) (s : State) (i : Instr) (op : BitVec 8), Takes s c → s.ctxHolds (s.tenantOf c) = false →
      (i, op) ∈ [(Instr.eyeAdd c, 0x10#8), (.eyeWait c, 0x11#8), (.eyeSet c, 0x12#8)] → cmdReserved op.toNat c = true →
      ∃ u : State, exec i s = .next u
        ∧ Completes s u op c { status := 3, value := (s.cmdEye c).map (fun e => (s.eyelet e).count - (s.eyelet e).target) }
        ∧ { u with port := s.port, out := s.out, draws := s.draws } = s)

/-- The boundary of the command port (R78, R353, R374): before READY a command gets an error response; while the
instance sleeps it waits; a duplicate of a completed command is answered with the same completion, and counted. -/
def Obligations.CommandsWaitOrFailAtTheBoundary : Prop :=
  ∀ (c : Cmd) (s : State) (i : Instr) (op : BitVec 8),
    (i, op) ∈ [(Instr.openSlate c, 0x01#8), (.writeInline c, 0x02#8), (.sealSlate c, 0x03#8), (.call c, 0x04#8),
      (.release c, 0x05#8), (.frame c, 0x06#8), (.reshootDone c, 0x07#8), (.eyeAdd c, 0x10#8), (.eyeWait c, 0x11#8),
      (.eyeSet c, 0x12#8), (.propCall c, 0x20#8), (.stepBegin c, 0x30#8), (.stepEnd c, 0x31#8), (.intermission c, 0x32#8),
      (.resume c, 0x33#8)] → s.recorder.raised = [] →
    (s.isReady = false → ∃ u : State, exec i s = .next u ∧ u.out = { s.out with errors := s.out.errors + 1 }
      ∧ { u with out := s.out, rst := s.rst } = s)
    ∧ (s.isReady = true → s.asleep = true → s.power.waking.isSome = true →
      exec i s = .next { s with power := { s.power with heldReqs := s.power.heldReqs ++ [.cmd op c] } })
    ∧ (∀ (k : Ticket) (d : Completion), Arrives s → s.port.queue = [] → s.port.stalled = [] → s.seqHalt = false → s.queueHeld c.queue.val = false → s.mustWait (op, c) = false →
      s.port.window.find? (fun k => k.ticket == c.ticket) = some k → k.completion = some d →
      ∃ u : State, exec i s = .next u ∧ u.out.completions = s.out.completions ++ [{ d with queue := c.queue.val }]
        ∧ u.ledger = s.ledger ∧ u.tenants = s.tenants ∧ u.eyes = s.eyes ∧ u.security = s.security
        ∧ u.reg R.SHT_DUP_COUNT = s.reg R.SHT_DUP_COUNT + 1#32)

/-- EYE_ADD (R274): side 0 adds to count, and a d above a depth that is not 0 answers OVERFLOW with its record; side 1 adds
to target unless d would be negative, which answers UNDERFLOW with its record and changes nothing; an increment of 0 changes
nothing and answers OK. -/
def Obligations.EyeAddFollowsItsSide : Prop :=
  ∀ (c : Cmd) (s T : State) (e : Nat) (x y : Eyelet) (v p0 : Word), Takes s c → s.ctxHolds (s.tenantOf c) = false →
    cmdReserved 0x10 c = false → s.cmdEye c = some e → T = s.taken 0x10#8 c → x = s.eyelet e → v = c.args.setWidth 32 →
    y = (if c.flags.getLsbD 0 then { x with target := x.target + v } else { x with count := x.count + v }) →
    p0 = w32 (e + 2 ^ 12 * s.tenantOf c + 2 ^ 16 * AddSource.num .command) →
    (v = 0#32 → exec (.eyeAdd c) s
      = .next ((T.complete 0x10#8 c { status := 0, value := some (x.count - x.target) }).examine e).takeRaised)
    ∧ (v ≠ 0#32 → c.flags.getLsbD 0 = true → 0 ≤ y.d → exec (.eyeAdd c) s
      = .next (((T.setEyelet e y).complete 0x10#8 c { status := 0, value := some (y.count - y.target) }).examine e).takeRaised)
    ∧ (v ≠ 0#32 → c.flags.getLsbD 0 = true → y.d < 0 → exec (.eyeAdd c) s
      = .next ((((((T.bump R.EYE_UNDERFLOWS 1).report 0x0901 6 [p0, x.count, x.target, v] 0x19 0).pageError 0x19 p0 0).complete
        0x10#8 c { status := 0x23, value := some (x.count - x.target) }).examine e)).takeRaised)
    ∧ (v ≠ 0#32 → c.flags.getLsbD 0 = false → (y.depth = 0 ∨ y.d ≤ y.depth) → exec (.eyeAdd c) s
      = .next (((T.setEyelet e y).complete 0x10#8 c { status := 0, value := some (y.count - y.target) }).examine e).takeRaised)
    ∧ (v ≠ 0#32 → c.flags.getLsbD 0 = false → y.depth ≠ 0 → (y.depth : Int) < y.d → exec (.eyeAdd c) s
      = .next (((((((T.setEyelet e y).bump R.EYE_OVERFLOWS 1).report 0x0902 6 [p0, y.count, y.target, w32 y.depth] 0x19
        1).pageError 0x19 p0 0).complete 0x10#8 c { status := 0x25, value := some (y.count - y.target) }).examine
          e)).takeRaised)

/-- EYE_SET (R275): the selected parts are written in one step, without an overflow check; where d would be negative or the
new cfg holds a reserved bit, nothing changes and the command completes with BAD_ARG. -/
def Obligations.EyeSetWritesTheSelectedParts : Prop :=
  ∀ (c : Cmd) (s T : State) (e : Nat) (y : Eyelet), Takes s c → s.ctxHolds (s.tenantOf c) = false →
    cmdReserved 0x12 c = false → s.cmdEye c = some e → T = s.taken 0x12#8 c →
    y = { count := if c.flags.getLsbD 0 then c.args.setWidth 32 else (s.eyelet e).count
          target := if c.flags.getLsbD 1 then (c.args >>> 32).setWidth 32 else (s.eyelet e).target
          cfg := if c.flags.getLsbD 2 then w32 (leAt c.payload 0 4) else (s.eyelet e).cfg } →
    (y.d < 0 ∨ (c.flags.getLsbD 2 = true ∧ fld (w32 (leAt c.payload 0 4)).toNat 30 2 ≠ 0) →
      exec (.eyeSet c) s = .next (T.complete 0x12#8 c
        { status := 3, value := some ((s.eyelet e).count - (s.eyelet e).target) }).takeRaised)
    ∧ (0 ≤ y.d → (c.flags.getLsbD 2 = true → fld (w32 (leAt c.payload 0 4)).toNat 30 2 = 0) → exec (.eyeSet c) s
      = .next (((T.setEyelet e y).complete 0x12#8 c { status := 0, value := some (y.count - y.target) }).examine e).takeRaised)

/-- EYE_ADD (R274): the increment goes to count or target, and the completion's value is the new difference. EYE_SET (R275):
the flagged fields are written, the others stay. -/
def Obligations.EyeletCommandsLeaveTheRest : Prop :=
  (∀ (c : Cmd) (s : State) (e : Nat) (y : Eyelet), Takes s c → s.ctxHolds (s.tenantOf c) = false →
      cmdReserved 0x10 c = false → s.cmdEye c = some e → s.eyes.waits = [] → (∀ n, (s.wire n).state ≠ .hold) →
      y = (if c.flags.getLsbD 0 then { s.eyelet e with target := (s.eyelet e).target + c.args.setWidth 32 }
           else { s.eyelet e with count := (s.eyelet e).count + c.args.setWidth 32 }) →
      (if c.flags.getLsbD 0 then 0 ≤ y.d else y.depth = 0 ∨ y.d ≤ y.depth) →
      ∃ u : State, exec (.eyeAdd c) s = .next u
        ∧ u.eyelet e = y ∧ (∀ k, k ≠ e → u.eyelet k = s.eyelet k)
        ∧ Completes s u 0x10#8 c { status := 0, value := some (y.count - y.target) }
        ∧ { u with eyes := { u.eyes with eyes := s.eyes.eyes }, port := s.port, out := s.out, draws := s.draws } = s)
  ∧ (∀ (c : Cmd) (s : State) (e : Nat) (y : Eyelet), Takes s c → s.ctxHolds (s.tenantOf c) = false →
      cmdReserved 0x12 c = false → s.cmdEye c = some e → s.eyes.waits = [] → (∀ n, (s.wire n).state ≠ .hold) →
      y = { count := if c.flags.getLsbD 0 then c.args.setWidth 32 else (s.eyelet e).count
            target := if c.flags.getLsbD 1 then (c.args >>> 32).setWidth 32 else (s.eyelet e).target
            cfg := if c.flags.getLsbD 2 then w32 (leAt c.payload 0 4) else (s.eyelet e).cfg } →
      0 ≤ y.d → (c.flags.getLsbD 2 = true → fld (w32 (leAt c.payload 0 4)).toNat 30 2 = 0) →
      ∃ u : State, exec (.eyeSet c) s = .next u
        ∧ u.eyelet e = y ∧ (∀ k, k ≠ e → u.eyelet k = s.eyelet k)
        ∧ Completes s u 0x12#8 c { status := 0, value := some (y.count - y.target) }
        ∧ { u with eyes := { u.eyes with eyes := s.eyes.eyes }, port := s.port, out := s.out, draws := s.draws } = s)

/-- EYE_WAIT (R276): a wait that is met completes at once, and its consume flag advances the target by n; any other one is
put at the end of the table of waits and completes later. -/
def Obligations.EyeWaitCompletesOrWaits : Prop :=
  ∀ (c : Cmd) (s : State) (e : Nat), Takes s c → s.ctxHolds (s.tenantOf c) = false → cmdReserved 0x11 c = false →
    s.cmdEye c = some e → 1 ≤ waitN c → waitN c ≤ 0x7FFFFFFF → (∀ n, (s.wire n).state ≠ .hold) →
    ((waitN c : Int) ≤ (s.eyelet e).d →
      ∃ u y, exec (.eyeWait c) s = .next u
        ∧ y = (if c.flags.getLsbD 0 then { s.eyelet e with target := (s.eyelet e).target + w32 (waitN c) } else s.eyelet e)
        ∧ u.eyelet e = y ∧ (∀ k, k ≠ e → u.eyelet k = s.eyelet k)
        ∧ Completes s u 0x11#8 c { status := 0, result := some 0, value := some (y.count - y.target) }
        ∧ { u with eyes := { u.eyes with eyes := s.eyes.eyes }, port := s.port, out := s.out, draws := s.draws } = s)
    ∧ ((s.eyelet e).d < (waitN c : Int) → s.nativeWaits < 1024 → waitHint c = 0 →
      ∃ u w, exec (.eyeWait c) s = .next u ∧ u.eyes.waits = s.eyes.waits ++ [w]
        ∧ w.cmd = c ∧ w.eye = e ∧ w.n = waitN c ∧ w.tenant = s.tenantOf c ∧ w.consume = c.flags.getLsbD 0
        ∧ w.due = (if waitTimeout c = 0 then none else some (s.now + us (waitTimeout c)))
        ∧ { u with eyes := { u.eyes with waits := s.eyes.waits }, port := s.port } = s)

/-! ### The clicker -/

/-- The clicker (R66, R83, R107): it decides the slate at the head of its queue with the frame counter of the SEAL; the SEAL
completes with the outcome and the digest; then a waiting CALL and a frame that is reached act. A slate that was freed
meanwhile is passed over. -/
def Obligations.ClickerDecidesTheHeadOfItsQueue : Prop :=
  ∀ (s k : State) (u : Undecided) (rest : List Undecided), Runs s → s.clicker.queue = u :: rest →
    k = { s with clicker := { s.clicker with queue := rest } } →
    ((s.slate u.slate).gen = u.gen → (s.slate u.slate).state = .sealed →
      ∀ d z : State, d = k.decideSlate u.slate (u.n.getD (s.tenant (s.slate u.slate).tenant).frame) →
      (z = match u.cmd with
        | none => d
        | some c => d.complete 0x03#8 c { status := 0, slate := u.slate, gen := (d.slate u.slate).gen
                                          result := some (d.slate u.slate).outcome.num
                                          value := some (w32 (d.slate u.slate).digest) }) →
      exec .clickerDecision s = .next ((((if (z.slate u.slate).callPending then z.actOnCall u.slate else z).reachSlate
        u.slate).tendJobs.takeHalt).drain).takeRaised)
    ∧ ((s.slate u.slate).gen ≠ u.gen → s.seqHalt = true → s.dbg.halted = true → s.dbg.stepPending = false →
      exec .clickerDecision s = .next k)

/-- Without a forced placement, a pin or a reel, the clicker commits the feasible outcome of least cost, and of several the
first (R94); its list is in the order KEEP, SHELVE, SHIP to tier 2, SHIP to tier 4, STORE, RESHOOT. -/
def Obligations.TheFirstOfLeastCostIsTaken : Prop :=
  (∀ (l : List Choice) (o : Choice),
    cheapest l = some o ↔ ∃ a b, l = a ++ o :: b ∧ (∀ x ∈ a, o.cost < x.cost) ∧ (∀ x ∈ b, o.cost ≤ x.cost))
  ∧ (∀ (s : State) (timed withKeep : Bool) (t g n : Nat) (e : Entry),
    ((s.evaluate timed withKeep t g n e).map (fun x => (x.o, x.t))).Sublist
      [(.keep, 0), (.shelve, 1), (.ship, 2), (.ship, 4), (.store, 3), (.reshoot, 5)])
  ∧ (∀ (s : State) (i n t : Nat) (e : Entry) (l : List Choice), t = (s.slate i).tenant → e = (s.slate i).e →
    e.mustKeep = false → e.pinTier = false → (s.frozen t).pinDefault e.streamClass = 0 →
    l = s.evaluate true true t (s.slate i).coded n e →
    (∀ o : Choice, cheapest l = some o → ∃ score : Nat,
      s.decideFresh i n = s.commit i o.oe ⟨o.o, o.t, o.p, n, score, o.cost, false, false⟩)
    ∧ (l = [] → s.decideFresh i n = s.fallback i n false))

/-- The fallback (R96) is counted and takes, without the time conditions, the first outcome of least need, and where none
passes KEEP, which is charged without the room test. -/
def Obligations.TheFallbackTakesTheLeastNeed : Prop :=
  (∀ (l : List Choice) (o : Choice),
    leastNeed l = some o ↔ ∃ a b, l = a ++ o :: b ∧ (∀ x ∈ a, o.need < x.need) ∧ (∀ x ∈ b, o.need ≤ x.need))
  ∧ (∀ (s x : State) (i n t : Nat) (e : Entry) (forced : Bool), t = (s.slate i).tenant → e = (s.slate i).e →
    x = (s.bump R.CUT_FALLBACKS 1).modTenant t (fun y => { y with fallbacks := y.fallbacks + 1 }) →
    (∀ o : Choice, leastNeed (x.evaluate false true t (s.slate i).coded n e) = some o →
      s.fallback i n forced = x.commit i o.oe ⟨o.o, o.t, o.p, n, 0xFFFFFFFF, o.cost, true, forced⟩)
    ∧ (x.evaluate false true t (s.slate i).coded n e = [] → s.fallback i n forced
      = x.commit i 0 ⟨.keep, 0, (s.frozen t).backMin e.callFrame (s.frozen t).margin n, n, 0xFFFFFFFF, 0, true, forced⟩))

/-! ### Lanes, banks and reshoots -/

/-- TAP_BEAT, BLOCK_COMMIT and ENGINE_RESET (R19, R64, R69, R114, R132, R133, R158, R204, R235, R315): 64 beats make a block; one
of a live slate that is written already or lies outside it tears the slate, any other goes to the lane of its tap; while that
lane is busy the last beat of a block waits at the tap. A lane's block is committed, or waits for a vault unit; one whose verify
decoder disagrees is committed raw and counted; a GRAD block is metered; a job's output block is committed for its job. Then the
lanes take what waits at the taps. A reset engine's OPEN slates tear. -/
def Obligations.TapsFeedTheLanesThatCommit : Prop :=
  (∀ (tap : Fin 48) (slate : BitVec 16) (gen : BitVec 8) (block : BitVec 22) (data : List Byte) (s y : State) (b : TapBuf),
    Arrives s → y = s.bump64 R.STI_RAW_IN 64 →
    b = { (look s.stitcher.taps tap.val).getD ⟨slate.toNat, gen.toNat, block.toNat, 0, []⟩ with
      beats := ((look s.stitcher.taps tap.val).getD ⟨slate.toNat, gen.toNat, block.toNat, 0, []⟩).beats + 1
      data := ((look s.stitcher.taps tap.val).getD ⟨slate.toNat, gen.toNat, block.toNat, 0, []⟩).data ++ fitTo 64 data } →
    (s.offers tap.val ≠ [] ∨ s.tapBlocked tap.val = true →
      exec (.tapBeat tap slate gen block data) s = .next (s.setOffers tap.val (s.offers tap.val ++
        [⟨slate.toNat, gen.toNat, block.toNat, data⟩])).takeRaised)
    ∧ (s.offers tap.val = [] → s.tapBlocked tap.val = false →
      (b.beats ≠ 64 → exec (.tapBeat tap slate gen block data) s = .next (y.setTap tap.val (some b)).takeRaised)
      ∧ (b.beats = 64 → (s.slate b.slate).state = .opened → (s.slate b.slate).gen = b.gen →
        s.blockWritten b.slate b.block = true →
        exec (.tapBeat tap slate gen block data) s = .next ((y.setTap tap.val none).tear b.slate 2).takeRaised)
      ∧ (b.beats = 64 → (s.slate b.slate).state = .opened → (s.slate b.slate).gen = b.gen →
        s.blockWritten b.slate b.block = false → (s.slate b.slate).e.sizeBlocks ≤ b.block →
        exec (.tapBeat tap slate gen block data) s = .next ((y.setTap tap.val none).tear b.slate 3).takeRaised)
      ∧ (∀ lane, b.beats = 64 → ((s.slate b.slate).state ≠ .opened ∨ (s.slate b.slate).gen ≠ b.gen
          ∨ (s.blockWritten b.slate b.block = false ∧ b.block < (s.slate b.slate).e.sizeBlocks)) →
        s.laneOfTap tap.val = some lane →
        exec (.tapBeat tap slate gen block data) s = .next (((y.setTap tap.val none).handToLane lane
          ⟨b.slate, b.gen, b.block, b.data, tap.val, none, none⟩).noteTap lane tap.val).takeRaised)))
  ∧ (∀ (lane : Fin 8) (verify found : Option Word) (s : State) (j : LaneJob) (rest : List LaneJob), Runs s →
    s.laneJobs lane.val = j :: rest → found = (if j.waitsSince.isSome then j.found else verify) →
    ((s.slate j.slate).gen ≠ j.gen ∨ ((s.slate j.slate).state ≠ .opened ∧ (s.slate j.slate).state ≠ .reshooting) →
      exec (.blockCommit lane verify) s = .next (((s.setLaneJobs lane.val rest).countStall j.waitsSince).admitTaps.drain).takeRaised)
    ∧ ((s.slate j.slate).gen = j.gen → (s.slate j.slate).state = .opened → ∀ (c w : Coded) (i : Nat) (f : Option Word),
      i = j.slate → c = s.codeForward i j.block j.data → f = s.verifyFails (s.slate i).tenant c (crc32c j.data) found →
      w = (if f.isSome then rawBlock (s.slate i).e.format ⟨i, j.gen, j.block⟩ j.data else c) →
      (s.placeBlock i j.block w.image = none →
        exec (.blockCommit lane verify) s = .next ((s.setLaneJobs lane.val
          ({ j with waitsSince := some (j.waitsSince.getD s.now), found := f } :: rest)).admitTaps.drain).takeRaised)
      ∧ (∀ x z y : State, s.placeBlock i j.block w.image = some x →
        z = ((x.modSlate i (fun r => { r with blocksWritten := r.blocksWritten + 1
                                              rawFallback := r.rawFallback + b2n w.fallback })).countBlock w).logCheck
          i j.block (crc32c j.data) →
        y = (if (s.slate i).e.streamClass = 1 then z.meterBlock i j.block 1 j.data (z.bookOf (s.slate i).e.bookId) else z) →
        (f = none →
          exec (.blockCommit lane verify) s = .next (((y.popLane lane.val).countStall j.waitsSince).admitTaps.drain).takeRaised)
        ∧ (∀ v : Word, f = some v →
          exec (.blockCommit lane verify) s = .next ((((y.popLane lane.val).countStall j.waitsSince).verifyMismatch lane.val i
            j.block (crc32c j.data) v).admitTaps.drain).takeRaised)))
    ∧ ((s.slate j.slate).gen = j.gen → (s.slate j.slate).state = .reshooting → ∀ (slot k b : Nat) (job : Job) (c : Coded),
      s.jobOfSlate j.slate = some (slot, job) → s.engineOutput job j.block = some (k, b) → c = s.codeOutput job k b j.data →
      s.verifyFails job.tenant c (crc32c j.data) found = none →
      (s.commitOutput slot job k b j.data c 15 = none →
        exec (.blockCommit lane verify) s = .next ((s.setLaneJobs lane.val
          ({ j with waitsSince := some (j.waitsSince.getD s.now), found := none } :: rest)).admitTaps.drain).takeRaised)
      ∧ (∀ z : State, s.commitOutput slot job k b j.data c 15 = some z →
        exec (.blockCommit lane verify) s = .next (((z.popLane lane.val).countStall j.waitsSince).admitTaps.drain).takeRaised)))
  ∧ (∀ (e : Fin 48) (s y : State), Runs s →
    y = ((s.setTap e.val none).setOffers e.val []).modBank e.val (fun k => { k with reqs := [], elastic := [], offered := [] }) →
    exec (.engineReset e) s = .next (((s.liveSlates.filter (fun i => (s.slate i).state == .opened
      && bitAt (s.slate i).writerMask e.val)).foldl (fun z i => z.tear i 0) y).tendJobs).takeRaised)

/-- The operand banks (R29 to R34, R68, R136 to R139, R145, R417): a request is queued with the answer that its slate's
state decides, or waits at the port while the bank accepts none; a block of any mode leaves poisoned, good, or failed with its
event, its fresh fill or the decoders' self-test; one whose book is not at hand waits for it; a miss is served in bank order; a
self-test that ends maps the failing decoders out, lowest first; beat k of a block holds bytes 64k to 64k + 63 of each of its
eight sub-streams. -/
def Obligations.BanksAnswerTheirRequests : Prop :=
  (∀ (b : Fin 48) (slate : BitVec 16) (gen : BitVec 8) (block : BitVec 22) (s : State), Arrives s →
    ((s.bank b.val).selftest = none → (s.bank b.val).elastic.length < 3 → (s.bank b.val).offered = [] →
      exec (.operandRequest b slate gen block) s = .next ((s.modBank b.val (fun k => { k with reqs := k.reqs ++
        [⟨slate.toNat, gen.toNat, block.toNat, s.answersPoisoned b.val slate.toNat gen.toNat block.toNat,
          if s.dropsOnRead b.val slate.toNat then 10 else 8, none, none⟩] })).tendStall b.val).takeRaised)
    ∧ ((s.bank b.val).selftest.isSome = true ∨ 3 ≤ (s.bank b.val).elastic.length ∨ (s.bank b.val).offered ≠ [] →
      exec (.operandRequest b slate gen block) s = .next (s.modBank b.val (fun k => { k with
        offered := k.offered ++ [(slate.toNat, gen.toNat, block.toNat)] })).takeRaised))
  ∧ (∀ (b : Fin 48) (seen : Option (List Byte)) (used : BitVec 17) (drive : Bool) (s : State) (q : OpReq) (rest : List OpReq)
      (go : State → State), Runs s → (s.bank b.val).selftest = none → (s.bank b.val).reqs = q :: rest →
    go = (fun z => ((if drive then z.driveQueue b.val else z).drain).takeRaised) →
    ((q.poison = true ∨ s.answersPoisoned b.val q.slate q.gen q.block = true) →
      (drive = false → exec (.blockExpanded b ⟨seen, used, drive⟩) s = .next (go s))
      ∧ (∀ y : State, drive = true → y = s.driveQueue b.val →
        exec (.blockExpanded b ⟨seen, used, drive⟩) s = .next (go ((y.draw.popRequest b.val).deliver b.val
          ⟨b.val, q.slate, q.gen, q.block, List.replicate 8 true, beatsOf y.draws (List.replicate 8 true) [], 8⟩))))
    ∧ (q.poison = false → s.answersPoisoned b.val q.slate q.gen q.block = false →
      (look (s.bank b.val).lbuf (lbufKey q.slate q.block) = none →
        exec (.blockExpanded b ⟨seen, used, drive⟩) s = .next (go (s.tendStall b.val)))
      ∧ ∀ (img im : List Byte) (form : Nat × Nat), look (s.bank b.val).lbuf (lbufKey q.slate q.block) = some (q.gen, img) →
        im = seen.getD img → form = s.blockForm q.slate q.block im →
        (4 ≤ (s.bank b.val).elastic.length → exec (.blockExpanded b ⟨seen, used, drive⟩) s = .next (go (s.tendStall b.val)))
        ∧ ((s.bank b.val).elastic.length < 4 → 3 ≤ (parseHeader im).mode → (parseHeader im).mode ≤ 5 →
          (s.bank b.val).cache.contains form.2 = false →
          (q.missed = some form.2 → s.books.misses.any (fun m => m.1 == b.val && m.2.1 == form.2) = true →
            exec (.blockExpanded b ⟨seen, used, drive⟩) s = .next (go s))
          ∧ (q.missed ≠ some form.2 →
            exec (.blockExpanded b ⟨seen, used, drive⟩) s = .next (go (s.missBook b.val form.2))))
        ∧ (∀ x : State, (s.bank b.val).elastic.length < 4 →
          (3 ≤ (parseHeader im).mode → (parseHeader im).mode ≤ 5 → (s.bank b.val).cache.contains form.2 = true) →
          x = (if 3 ≤ (parseHeader im).mode ∧ (parseHeader im).mode ≤ 5 then s.useBook b.val form.2 else s) →
          (∀ raw, checkBlock form.1 form.2 (s.bookOf form.2) ⟨q.slate, q.gen, q.block⟩ (img.length / 32) im = .good raw →
            exec (.blockExpanded b ⟨seen, used, drive⟩) s = .next (go (x.queueBlock b.val q (List.replicate 8 false)
              (if x.dropsOnRead b.val q.slate then x.dropBlock q.slate q.block raw else raw))))
          ∧ (∀ st e f, checkBlock form.1 form.2 (s.bookOf form.2) ⟨q.slate, q.gen, q.block⟩ (img.length / 32) im = .bad st e f →
            ∃ driven : Nat, driven ≤ 7 ∧ (drive = false ∨ (s.bank b.val).elastic ≠ [] → driven = 0) ∧
              exec (.blockExpanded b ⟨seen, used, drive⟩) s = .next (go (((x.queueBlock b.val q
                ((List.range 8).map (fun k => decide (driven ≤ k))) (expand (s.bookOf form.2) im)).bankFail b.val q st e f).afterFail
                  b.val q st used.toNat))))))
  ∧ (∀ (s : State) (m : Nat × Nat × Nat), Runs s → s.nextMiss = some m →
    exec .bookCacheMissService s = .next ((({ s with books := { s.books with
        misses := (s.books.misses.erase m).map (fun x => (x.1, x.2.1, x.2.2 + 1)), lastServed := m.1 } } : State).useBook
      m.1 m.2.1).delayMiss m.1 m.2.1 (m.2.2 - 15)).takeRaised)
  ∧ (∀ (b : Fin 48) (failing : List (Fin 17)) (s : State) (mask : Nat), Runs s → (s.bank b.val).selftest = some mask →
    exec (.bankSelftestEnd b failing) s = .next ((((List.range 17).filter (fun d => bitAt mask d
      && failing.any (fun f => f.val == d))).foldl (fun z d => z.mapOutDecoder b.val d false)
      (s.modBank b.val (fun k => { k with selftest := none }))).acceptOffered b.val).takeRaised)
  ∧ (∀ (raw : List Byte) (k j i : Nat), raw.length = 4096 → k < 8 → j < 8 → i < 64 →
    (beatOf raw k)[64 * j + i]? = raw[512 * j + 64 * k + i]?)

/-- Reshoot jobs (R100, R103, R146, R149, R155, R158, R160, R161): the first waiting slate takes the lowest free slot; the
dispatcher sends the first job's next descriptor; a lane computes, codes and commits the block it holds, or the next one,
and is tested where a mismatch was counted; a block that finds no vault unit stays with its lane; a self-test that ends maps the
failing lanes out. -/
def Obligations.ReshootJobsRun : Prop :=
  (∀ (s : State) (w : JobWait) (slot : Nat), Runs s → firstWait s.retake.waiting = some w → s.freeSlot = some slot →
    exec .reshootJobStart s = .next (((({ s with retake := { s.retake with
      waiting := s.retake.waiting.filter (fun v => v.slate != w.slate) } } : State).startJob slot w.slate w.deadline)).drain).takeRaised)
  ∧ (∀ (s y : State) (slot : Nat) (j : Job) (x : ScriptStep) (d : Desc), Runs s →
    s.jobsInOrder.find? (fun p => s.canDispatch p.2) = some (slot, j) → s.jobStep j j.step = some x →
    s.nextDescriptor j = some d →
    y = (((s.fillOperands j x d.queue).setJob slot { j with
      descs := if d.resent then j.descs else j.descs ++ [d], unanswered := j.unanswered ++ [d], toResend := j.toResend.drop 1
      nextDesc := if j.toResend.isEmpty then j.nextDesc + d.count else j.nextDesc }).bump R.RTK_DISPATCHED 1) →
    exec .descriptorDispatch s = .next (({ y with retake := { y.retake with lastQueue := d.queue } } : State).outDescriptor d.queue
      (s.descBytes slot j x d)).takeRaised)
  ∧ (∀ (lane : Fin 16) (s : State) (w : LaneWork) (j k : Job) (x : ScriptStep) (raw : List Byte), Runs s →
    s.laneFree lane.val = true → (look s.retake.work lane.val = some w ∨ look s.retake.work lane.val = none ∧ s.nextWork = some w) →
    s.job w.slot = some j → j.stopped = false → s.jobStep j w.step = some x →
    raw = w.data.getD (s.laneRaw j w.step w.block x) →
    k = { j with nextOut := j.nextOut.set w.step (max (j.nextOut.getD w.step 0) (w.block + 1)) } →
    (∀ z : State, ((s.setWork lane.val none).setJob w.slot k).commitOutput w.slot k w.step w.block raw
        (s.codeOutput j w.step w.block raw) lane.val = some z →
      exec (.laneOutputBlock lane) s = .next
        ((if z.reg R.CNT_MISMATCH = s.reg R.CNT_MISMATCH then z else z.testLanes (2 ^ lane.val) 2).drain).takeRaised)
    ∧ (((s.setWork lane.val none).setJob w.slot k).commitOutput w.slot k w.step w.block raw
        (s.codeOutput j w.step w.block raw) lane.val = none →
      exec (.laneOutputBlock lane) s = .next (((s.setJob w.slot k).setWork lane.val (some { w with data := some raw })).drain).takeRaised))
  ∧ (∀ (failing : List (Fin 16)) (s : State) (cause : Nat), Runs s → s.retake.testing = some cause →
    exec (.laneSelftestEnd failing) s = .next ((((bitsOf s.retake.lanesTesting 16).filter (fun l =>
      (namedBelow failing).contains l && bitAt s.retake.lanes l)).foldl (fun z l => z.mapOutLane l cause)
      ({ s with retake := { s.retake with testing := none, lanesTesting := 0 } } : State)).tendJobs).takeRaised)

/-- Codebooks, scripts and self-tests (R128 to R130, R137, R149, R154): a load or an invalidate acts unless the number is 0 or
a sheet in place names it; a script is checked against the tenant's CONTROL regions and its own words; a self-test takes the
units it tests. -/
def Obligations.BooksScriptsAndTests : Prop :=
  (∀ (p : Port) (s z : State) (b : Nat), Writes s p R.CBK_CTRL 1#32 → z = s.accessed p R.CBK_CTRL →
    b = fld (z.reg R.CBK_SEL).toNat 0 12 →
    (b = 0 → exec (.bookLoad p) s = .next (z.bookResult 3).takeRaised)
    ∧ (b ≠ 0 → z.bookNamed b = true → exec (.bookLoad p) s = .next (z.bookResult 1).takeRaised)
    ∧ (b ≠ 0 → z.bookNamed b = false → bookValid z.bookWindow = false →
      exec (.bookLoad p) s = .next (z.bookResult 2).takeRaised)
    ∧ (b ≠ 0 → z.bookNamed b = false → bookValid z.bookWindow = true →
      exec (.bookLoad p) s = .next ((({ z with books := { z.books with
        store := put z.books.store b z.bookWindow } } : State).dropCached b).bookResult 0).takeRaised))
  ∧ (∀ (p : Port) (s z : State) (b : Nat), Writes s p R.CBK_CTRL 2#32 → z = s.accessed p R.CBK_CTRL →
    b = fld (z.reg R.CBK_SEL).toNat 0 12 →
    (b = 0 → exec (.bookInvalidate p) s = .next (z.bookResult 3).takeRaised)
    ∧ (b ≠ 0 → z.bookNamed b = true → exec (.bookInvalidate p) s = .next (z.bookResult 1).takeRaised)
    ∧ (b ≠ 0 → z.bookNamed b = false → exec (.bookInvalidate p) s = .next ((({ z with books := { z.books with
        store := del z.books.store b } } : State).dropCached b).bookResult 0).takeRaised))
  ∧ (∀ (p : Port) (t : Fin 8) (s y : State) (n : Nat), Writes s p R.RTK_CTRL (w32 (t.val + 256)) →
    y = (s.accessed p R.RTK_CTRL).putFields R.RTK_CTRL 7 (t.val + 256) → n = fld (y.reg R.RTK_SEL).toNat 0 12 →
    y.retake.loading = none →
    (n = 0 → exec (.scriptLoad p t) s = .next (y.scriptResult 3).takeRaised)
    ∧ (n ≠ 0 → y.scriptNamed n = true → exec (.scriptLoad p t) s = .next (y.scriptResult 1).takeRaised)
    ∧ (n ≠ 0 → y.scriptNamed n = false → exec (.scriptLoad p t) s = .next { y with retake := { y.retake with
        loading := some (n, fld (y.reg R.RTK_CTRL).toNat 0 3, y.reg64 R.RTK_SRC 0) } }))
  ∧ (∀ (ext : List Host.Cell) (s x y : State) (n t a : Nat) (b : List Byte), Runs s → x = s.external ext →
    x.retake.loading = some (n, t, a) → s.memOpen a = true → y = { x with retake := { x.retake with loading := none } } →
    b = y.unitRead a scriptBytes →
    (y.scriptNamed n = true → exec (.scriptLoadDone ext) s = .next (y.scriptResult 1).takeRaised)
    ∧ (y.scriptNamed n = false → y.controlRegion t a scriptBytes = none ∨ badScript b = true →
      exec (.scriptLoadDone ext) s = .next (y.scriptResult 2).takeRaised)
    ∧ (∀ g : Nat, y.scriptNamed n = false → y.controlRegion t a scriptBytes = some g → badScript b = false →
      exec (.scriptLoadDone ext) s = .next (({ y with retake := { y.retake with
        scripts := put y.retake.scripts n (parseScript t (some g) b) } } : State).scriptResult 0).takeRaised))
  ∧ (∀ (p : Port) (t : Fin 8) (s y : State) (n : Nat), Writes s p R.RTK_CTRL (w32 (t.val + 512)) →
    y = (s.accessed p R.RTK_CTRL).putFields R.RTK_CTRL 7 (t.val + 512) → n = fld (y.reg R.RTK_SEL).toNat 0 12 →
    (n = 0 → exec (.scriptInvalidate p t) s = .next (y.scriptResult 3).takeRaised)
    ∧ (n ≠ 0 → y.scriptNamed n = true → exec (.scriptInvalidate p t) s = .next (y.scriptResult 1).takeRaised)
    ∧ (n ≠ 0 → y.scriptNamed n = false → exec (.scriptInvalidate p t) s = .next (({ y with retake := { y.retake with
        scripts := del y.retake.scripts n } } : State).scriptResult 0).takeRaised))
  ∧ (∀ (p : Port) (b : Fin 48) (s : State) (a v : Nat), a = opxAddr R.OPX_BCTRL b.val → v = s.fieldsOf a ||| 256 →
    Writes s p a (w32 v) → exec (.bankSelftest p b) s = .next ((((s.accessed p a).putFields a 1 v).driveQueue b.val).modBank b.val
      (fun k => { k with
        selftest := some (mapMinus (2 ^ 17 - 1) (((s.accessed p a).putFields a 1 v).bank b.val).failed) })).takeRaised)
  ∧ (∀ (p : Port) (s y : State) (v : Nat), v = s.fieldsOf R.RTK_CTRL ||| 1024 → Writes s p R.RTK_CTRL (w32 v) →
    y = (s.accessed p R.RTK_CTRL).putFields R.RTK_CTRL 7 v →
    exec (.laneSelftest p) s = .next { y with retake := { y.retake with
      lanesTesting := y.retake.lanesTesting ||| y.retake.lanes, testing := some 1 } })

/-! ### Movers, tiers and the host -/

/-- TRANSACTION_ISSUE (R175 to R178, R191, R192, R212): within the bounds of R81 and R176 and in the order of R177 the read engine
reads the next run of the first channel that is ready; the write engine, once a write is due, writes the flag or the next staged
run of the first channel whose write is due; a channel that is not ready is passed over. Responses, timeouts and backoff (R175,
R182, R188, R194 to R196, R199, R205, R284): the data of a write lands, also for a transfer that has ended, and is acknowledged,
that of a read is staged; a failure, lost data, or 20 µs without an answer goes to the retry rules; the wait over, and with room,
the access is logged and issued again. -/
def Obligations.EnginesIssueAndAccessesEnd : Prop :=
  (∀ (s : State), Runs s →
      (∀ w : Bool, 4096 ≤ s.movers.txns.length → exec (.transactionIssue w) s = .next s)
      ∧ (8192 ≤ s.stagingUse → exec (.transactionIssue false) s = .next s)
      ∧ (s.movers.txns.length < 4096 → s.stagingUse < 8192 →
        ((∀ q ∈ s.issueOrder false, s.nextRead q.1 q.2.2 = none) → exec (.transactionIssue false) s = .next s)
        ∧ ∀ (a b : List (Nat × Nat × Transfer)) (c id : Nat) (x z : Transfer) (g n upTo : Nat) (y : State),
          s.issueOrder false = a ++ (c, id, x) :: b → (∀ q ∈ a, s.nextRead q.1 q.2.2 = none) → s.nextRead c x = some (g, n) →
          upTo = (if s.reachesStack c x false g = false then 0 else if g < x.readTo then x.readTo else g + s.batchRun) →
          z = { x with rdNext := g + n, readTo := upTo } →
          y = (s.setTransfer id z).served c x false (decide (g + n < min upTo x.total)) →
          exec (.transactionIssue false) s = .next ((if x.kind = .director then y.modChan c (fun h => { h with used := h.used + n })
            else y).issueAccess c id z false false g n 1).takeRaised)
      ∧ (s.movers.txns.length < 4096 →
        (((s.issueOrder true).filterMap s.writeAt).foldl optMin none = none → exec (.transactionIssue true) s = .next s)
        ∧ ∀ (t : Nat) (z : State) (a b : List (Nat × Nat × Transfer)) (c id : Nat) (x : Transfer),
          ((s.issueOrder true).filterMap s.writeAt).foldl optMin none = some t → z = s.advanceTo t →
          s.issueOrder true = a ++ (c, id, x) :: b →
          (∀ q ∈ a, z.flagReady q.1 q.2.1 q.2.2 = false ∧ ∀ g n, z.nextWrite q.1 q.2.2 = some (g, n) →
            z.now < z.batchAt q.1 q.2.2 g ∨ z.placeUnit q.2.2 g = none) →
          (z.flagReady c id x = true →
            exec (.transactionIssue true) s = .next ((z.served c x true false).issueAccess c id x true true 0 0 1).takeRaised)
          ∧ (∀ (g n : Nat) (p : State) (y : Transfer), z.flagReady c id x = false → z.nextWrite c x = some (g, n) →
            z.batchAt c x g ≤ z.now → z.placeUnit x g = some p → y = z.wrote c x g n →
            exec (.transactionIssue true) s = .next (((p.setTransfer id y).served c x true (decide (y.wrNext < y.runTo))).issueAccess
              c id y true false g n 1).takeRaised)))
  ∧ ((∀ (n k : Nat) (fail : Option Cause) (ext : List Host.Cell) (s x y : State) (t : Txn), Runs s → s.rst.isolating = false →
      look s.movers.txns n = some t → t.seq = none →
      x = (if fail = none ∧ t.flag = true ∧ s.inDoorbells (t.addr.getD (s.die.dbBase + 0x8000)) = true
        then (s.external ext).doorbell (t.addr.getD 0 - s.die.dbBase) 4 (w32 (leNat t.data)) else s.external ext) →
      look x.movers.txns n = some t →
      y = ({ x with movers := { x.movers with txns := del x.movers.txns n } } : State).countCorrected t k →
      (∀ cause : Cause, (fail = some cause ∨ fail = none ∧ y.touchesLost t = true ∧ cause = .uncorrectable) →
        (∀ v : Transfer, y.transfer t.transfer = some v → t.aborted = false →
          exec (.transactionResponse n ⟨fail, k⟩ ext) s = .next ((y.failAccess t.chan t.transfer v t.write t.flag t.first t.count t.attempt
            cause).drain).takeRaised)
        ∧ (y.transfer t.transfer = none ∨ t.aborted = true →
          exec (.transactionResponse n ⟨fail, k⟩ ext) s = .next (y.drain).takeRaised))
      ∧ (fail = none → y.touchesLost t = false → ∀ w : State, w = y.landWrite t →
        (w.transfer t.transfer = none ∨ t.aborted = true →
          exec (.transactionResponse n ⟨fail, k⟩ ext) s = .next (w.drain).takeRaised)
        ∧ (∀ v : Transfer, w.transfer t.transfer = some v → t.aborted = false →
          (t.write = true → exec (.transactionResponse n ⟨fail, k⟩ ext) s = .next ((w.writeDone t v).drain).takeRaised)
          ∧ (t.write = false → exec (.transactionResponse n ⟨fail, k⟩ ext) s = .next ((w.readDone t v
            (w.readBytes t.chan v t.first t.count)).drain).takeRaised))))
    ∧ (∀ (n : Nat) (s y : State) (t : Txn) (x : Transfer), Runs s → look s.movers.txns n = some t → t.seq = none →
      t.aborted = false → s.transfer t.transfer = some x →
      y = ({ s.advanceTo (t.issuedAt + 2000) with movers := { s.movers with txns := del s.movers.txns n } } : State).countCorrected t 0 →
      exec (.transactionTimeout n) s = .next ((y.failAccess t.chan t.transfer x t.write t.flag t.first t.count t.attempt
        .timeout).drain).takeRaised)
    ∧ (∀ (c : Fin 64) (s y : State) (q : Retry) (id : Nat) (x : Transfer) (runs : List (Nat × Nat)), Runs s →
      firstDue (s.chan c.val).retries = some q → (s.chan c.val).transfer = some id → s.transfer id = some x →
      y = s.advanceTo q.dueAt → runs = y.retryRuns c.val x q →
      (y.domainOpen x (y.accessDomain c.val x q.write q.flag q.first) = true → y.retryRoom q runs.length = true →
        exec (.backoffEnd c) s = .next (runs.foldl (fun z r => match z.transfer id with
            | none => z
            | some x => z.issueAccess c.val id x q.write q.flag r.1 r.2 (q.attempt + 1))
          (((y.draw.bump R.SPB_RETRIES 1).modChan c.val (fun h => { h with
              retries := h.retries.erase q, attempts := q.attempt })).log 0x0701 5
            (y.moverParams c.val x q.write q.flag q.first q.attempt q.cause))).takeRaised)
      ∧ (y.domainOpen x (y.accessDomain c.val x q.write q.flag q.first) = false ∨ y.retryRoom q runs.length = false →
        exec (.backoffEnd c) s = .next y)))

/-- Channels (R180, R184, R187, R190, R191): the lowest idle pool channel takes the head of the deadline queue; a
valid shadow set becomes active on an idle channel outside the pool and waits for its start source; a timer starts it one
period later, a frame start when its frame is the tenant's or an earlier one; a pacing period begins with a fresh quantum. -/
def Obligations.ChannelsTakePromoteAndStart : Prop :=
  (∀ (s : State) (c id : Nat) (x : Transfer) (rest : List Nat), Runs s → s.idlePool = c :: rest →
    s.headTransfer = some (id, x) →
    exec .channelTakesTransfer s = .next (s.modChan c (fun h =>
      { h with transfer := some id, state := .busy, started := true, retries := [] })))
  ∧ (∀ (c : Fin 64) (s y : State) (w : ChanRegs) (k : Nat), Runs s → (s.chan c.val).state = .idle →
    (s.chan c.val).shadowValid = true → (s.chan c.val).inPool = false → (s.chan c.val).transfer = none →
    w = (s.chan c.val).shadow → k = fld w.cfg.toNat 0 2 →
    y = (s.modChan c.val (fun h => { h with active := h.shadow, shadowValid := false, used := 0, periodAt := s.now })).loadActive c.val →
    ((y.chan c.val).active = w ∧ (y.chan c.val).done = 0 ∧ (y.chan c.val).transfer = some s.movers.nextTransfer)
    ∧ (k = 0 → exec (.shadowPromotion c) s = .next (y.modChan c.val (fun h => { h with state := .busy, started := true })))
    ∧ (k = 1 → exec (.shadowPromotion c) s = .next (y.modChan c.val (fun h =>
        { h with state := .wait, started := false, startAt := y.now + fld w.pace.toNat 0 16 })))
    ∧ (k = 2 → exec (.shadowPromotion c) s = .next (y.modChan c.val (fun h => { h with state := .wait, started := false })))
    ∧ (k = 3 → (s.tenant w.tenant).stepOpen = true → fld w.startFrame.toNat 0 24 ≤ (s.tenant w.tenant).frame →
      exec (.shadowPromotion c) s = .next (y.modChan c.val (fun h => { h with state := .busy, started := true })))
    ∧ (k = 3 → (s.tenant w.tenant).stepOpen = false ∨ (s.tenant w.tenant).frame < fld w.startFrame.toNat 0 24 →
      exec (.shadowPromotion c) s = .next (y.modChan c.val (fun h => { h with state := .wait, started := false }))))
  ∧ (∀ (c : Fin 64) (s : State), Runs s → (s.chan c.val).state = .wait → fld (s.chan c.val).active.cfg.toNat 0 2 = 1 →
    exec (.channelTimerStart c) s = .next ((s.advanceTo (s.chan c.val).startAt).modChan c.val (fun h =>
      { h with state := .busy, started := true })))
  ∧ (∀ (c t : Nat) (s : State), (s.chan c).state = .wait → fld (s.chan c).active.cfg.toNat 0 2 = 3 →
    (s.chan c).active.tenant = t → (s.tenant t).stepOpen = true →
    fld (s.chan c).active.startFrame.toNat 0 24 ≤ (s.tenant t).frame →
    (s.frameStarts t).chan c = { s.chan c with state := .busy, started := true })
  ∧ (∀ (c : Fin 64) (s : State) (p : Nat), Runs s → p = fld (s.chan c.val).active.pace.toNat 0 16 → p ≠ 0 →
    (s.chan c.val).inPool = false → (s.chan c.val).transfer.isSome = true →
    exec (.pacingPeriod c) s = .next ((s.advanceTo ((s.chan c.val).periodAt + p)).modChan c.val (fun h =>
      { h with periodAt := h.periodAt + p, used := 0 })))

/-- SPL_CTRL and SPB_POOL (R183, R184, R186, R194): an arm keeps the shadow set or marks a bad one, which
is not valid then, a stop and an abort make the
channel idle, a restart starts a halted one again; a pool write of fewer than 8 channels changes nothing, any other moves
the channels that are idle. -/
def Obligations.ChannelRegistersCommandTheirChannel : Prop :=
  (∀ (p : Port) (c : Fin 64) (s z : State), Writes s p (splCtrl c.val) 1#32 → z = s.accessed p (splCtrl c.val) →
    (((z.chan c.val).inPool || (z.chan c.val).shadow.bad c.val) = true →
      exec (.splArm p c) s = .next (z.modChan c.val (fun h => { h with badCfg := true, shadowValid := false })))
    ∧ (((z.chan c.val).inPool || (z.chan c.val).shadow.bad c.val) = false →
      exec (.splArm p c) s = .next (z.modChan c.val (fun h => { h with shadowValid := true }))))
  ∧ (∀ (p : Port) (c : Fin 64) (s z : State), Writes s p (splCtrl c.val) 2#32 → z = s.accessed p (splCtrl c.val) →
    ((z.chan c.val).state = .idle ∨ (z.chan c.val).state = .halted → exec (.splStop p c) s = .next z)
    ∧ ((z.chan c.val).state ≠ .idle → (z.chan c.val).state ≠ .halted → exec (.splStop p c) s = .next
        ((((if (z.chan c.val).inPool then z.requeue c.val else z).modChan c.val (fun h =>
          { h with state := .idle, started := false, retries := [] })).settle c.val)).takeRaised))
  ∧ (∀ (p : Port) (c : Fin 64) (s z y : State), Writes s p (splCtrl c.val) 4#32 → z = s.accessed p (splCtrl c.val) →
    y = (if (z.chan c.val).inPool then z.requeue c.val
      else (z.chan c.val).transfer.elim z (fun id => (z.abortTxns id (fun _ => true)).dropTransfer id)) →
    exec (.splAbort p c) s = .next (((y.modChan c.val (fun h =>
      { h with state := .idle, started := false, retries := [], transfer := none,
               active := if h.inPool then h.active else ChanRegs.zero })).settle c.val)).takeRaised)
  ∧ (∀ (p : Port) (c : Fin 64) (s z : State), Writes s p (splCtrl c.val) 8#32 → z = s.accessed p (splCtrl c.val) →
    ((z.chan c.val).state ≠ .halted → exec (.splRestart p c) s = .next z)
    ∧ ((z.chan c.val).state = .halted → (z.chan c.val).inPool = true → exec (.splRestart p c) s = .next
        (((z.modChan c.val (fun h =>
          { h with state := .idle, started := false, transfer := none, retries := [] })).settle c.val)).takeRaised)
    ∧ (∀ id : Nat, (z.chan c.val).state = .halted → (z.chan c.val).inPool = false → (z.chan c.val).transfer = some id →
      exec (.splRestart p c) s = .next (((z.rewind id).modChan c.val (fun h =>
        { h with state := .busy, started := true, retries := [] }))).takeRaised))
  ∧ (∀ (p : Port) (v : BitVec 64) (s x y z : State), Writes s p R.SPB_POOL (w32 (v.toNat % 2 ^ 32)) →
    x = s.accessed p R.SPB_POOL → y = x.setLatch p { x.latch p with wr := some (R.SPB_POOL, w32 (v.toNat % 2 ^ 32)) } →
    Writes y p (R.SPB_POOL + 4) (w32 (v.toNat / 2 ^ 32)) → z = y.accessed p (R.SPB_POOL + 4) →
    (popBits v.toNat 64 < 8 → exec (.spbPoolWrite p v) s = .next z)
    ∧ (8 ≤ popBits v.toNat 64 → exec (.spbPoolWrite p v) s = .next (((List.range 64).foldl (fun (s : State) c =>
        if (s.chan c).inPool = bitAt v.toNat c ∨ (s.chan c).state ≠ .idle then s
        else s.joinGroup c) (z.setReg64 R.SPB_POOL 0 v.toNat))).takeRaised))

/-- The margins of a slate (R33, R198, R248, R309): the soft one logs a slate that is not READY, once; the hard one poisons what
waits for it, notes one that is not READY, and ends its transfers: an outbound one takes its slate back to SEALED, a return
recomputes or loses it, a fill of a working stream and a move are only cancelled; a gather that still waits for a record is lost.
Space that was short (R60, R204, R208, R209, R215, R248): the writers that wait try again in order, as do tier allocations and
gathers; a discarded extent returns to its pool and its slate's record drops the address; a move that waited 1 ms for its extent
loses its copy. -/
def Obligations.MarginsAndShortSpace : Prop :=
  (∀ (t : Fin 8) (ei : Nat) (s : State) (e : Entry), Runs s → s.entryAt t.val ei = some e →
      (∀ (i : Nat) (y : State), s.slateOfEntry t.val ei = some i →
        y = s.advanceTo (s.frameAt t.val (s.slate i).e.callFrame + (s.frozen t.val).softLate) →
        ((s.slate i).state ≠ .ready → (s.slate i).state ≠ .inUse → (s.slate i).state ≠ .lost → (s.slate i).softLogged = false →
          (s.slate i).decided = true →
          exec (.slateLate t ei) s = .next ((((y.draw.modSlate i (fun r => { r with softLogged := true })).noteSlate i (fun x =>
            { x with soft := true })).log 0x0302 0 [s.slateWordOf i, w32 (s.slate i).e.tag,
              w32 ((s.slate i).e.callFrame + 2 ^ 24 * (s.slate i).state.num), w32 (fld (s.slate i).decP 0 24)])).takeRaised)
        ∧ ((s.slate i).state = .ready ∨ (s.slate i).state = .inUse ∨ (s.slate i).state = .lost ∨ (s.slate i).softLogged = true →
          exec (.slateLate t ei) s = .next y))
      ∧ ((s.tenant t.val).stepOpen = true → ∀ y z : State,
        y = s.advanceTo (s.frameAt t.val e.callFrame + (s.frozen t.val).hardLate) →
        ((s.slateOfEntry t.val ei = none ∧ z = y)
          ∨ (∃ i, s.slateOfEntry t.val ei = some i ∧ (s.slate i).pastHard = true ∧ z = y)
          ∨ (∃ i x, s.slateOfEntry t.val ei = some i ∧ (s.slate i).pastHard = false
            ∧ x = (y.modSlate i (fun r => { r with pastHard := true })).poisonWaiting i
            ∧ z = ((s.transfersOf i).map (·.1)).foldl (fun (z : State) id => z.hardOne id)
              (if (s.slate i).state = .ready ∨ (s.slate i).state = .inUse then x
               else x.noteSlate i (fun v => { v with hard := true })))) →
        (((z.tenant t.val).gathersWaiting.any (fun g => g.entry == ei)) = true →
          exec (.hardLimit t ei) s = .next ((z.logGatherLost t.val ei 8).drain).takeRaised)
        ∧ (((z.tenant t.val).gathersWaiting.any (fun g => g.entry == ei)) = false →
          exec (.hardLimit t ei) s = .next (z.drain).takeRaised)))
  ∧ (∀ (s z : State) (id i : Nat) (x : Transfer), s.transfer id = some x → i = x.slate →
      z = (s.bump R.SPB_CANCELS 1).cancelTransfer id → (z.slate i).gen = x.gen →
      (x.kind = .move → s.hardOne id = z)
      ∧ (x.kind = .out → (z.slate i).state = .movingOut → s.hardOne id = ((z.backToSealed i).reapJobs).tendJobs)
      ∧ (x.kind = .ret → x.operandOf = none → (z.slate i).state = .returning →
        s.hardOne id = ((z.recoverOrLose i 1 .reshooting).reapJobs).tendJobs)
      ∧ (x.kind = .fill → (z.slate i).state = .reshooting → s.hardOne id = (z.reapJobs).tendJobs)
      ∧ (x.kind = .prop → (z.slate i).state ≠ .free → s.hardOne id = ((z.gatherFailed i).reapJobs).tendJobs))
  ∧ (∀ (s : State), Runs s →
      exec .vaultSpaceRetry s = .next ((s.spaceWaiters.foldl State.retrySpace s).drain).takeRaised
      ∧ (∀ (id : Nat) (x : Transfer), s.unallocated = [(id, x)] →
        (s.allocTier x.slate x.tier = none → exec .tierAllocRetry s = .next s)
        ∧ (∀ (z : State) (a : Nat), s.allocTier x.slate x.tier = some (z, a) →
          (x.kind = .out → exec .tierAllocRetry s = .next (((z.setTransfer id { x with dst := a, allocated := true }).modSlate
            x.slate (fun r => { r with extentBase := a }))).takeRaised)
          ∧ (x.kind = .move → exec .tierAllocRetry s = .next ((z.setTransfer id { x with dst := a, allocated := true })).takeRaised)))
      ∧ (∀ (tier : Fin 5) (base : BitVec 64) (y : State), y = (({ s with tiers := { s.tiers with
          extents := s.tiers.extents.filter (fun x => !(x.lastUse && x.tier == tier.val && x.base == base.toNat)) } } : State).ackNotices) →
        exec (.lastUseAck ⟨tier, base⟩) s = .next ((s.tiers.extents.filter (fun x =>
          x.lastUse && x.tier == tier.val && x.base == base.toNat)).foldl (fun (z : State) x =>
            if (z.slate x.slate).gen = x.gen ∧ (z.slate x.slate).extentBase = base.toNat
            then z.modSlate x.slate (fun r => { r with extentBase := 0 }) else z) y).takeRaised)
      ∧ (∀ t : Fin 8, (s.tenant t.val).halted = false → exec (.gatherRetry t) s = .next
          (((s.tenant t.val).gathersWaiting.foldr insertGather []).foldl (fun z g => z.tryGather t.val g.entry g.again) s).takeRaised)
      ∧ (∀ (i : BitVec 16) (id : Nat) (x : Transfer),
        (s.transfersOf i.toNat).find? (fun p => p.2.kind == .move && !p.2.allocated) = some (id, x) →
        exec (.moveAllocTimeout i) s = .next (((s.advanceTo (x.allocAt + 100000)).endTransfer id 2).drain).takeRaised))

/-- Retirement (R205, R214 to R216): a notice of a row takes its unit out of allocation, moves or loses the PARKED slates that
rest on it and is recorded; a repaired unit returns; a retired shelf loses its KEPT slates and its tenant's capacity; a lost near
channel is one fewer. -/
def Obligations.RetirementNoticesAct : Prop :=
  ∀ (s : State), Runs s →
    (∀ (a : BitVec 64) (ex : Bool) (u : Nat) (y : State), u = a.toNat / 4096 * 4096 →
      y = { s.bump R.TIER_RETIRE 1 with tiers := { s.tiers with
        repairing := if ex then s.tiers.repairing else addOnce u s.tiers.repairing
        excluded := if ex then addOnce u s.tiers.excluded else s.tiers.excluded
        notices := addOnce u s.tiers.notices } } →
      exec (if ex then .retireExclude a else .retireEvacuate a) s = .next (((y.evacuate u).ackNotices).logRetired
        (if ex then 2 else 0) (((y.evacuate u).ackNotices).tierOf u) u (y.coverers u)).takeRaised)
    ∧ (∀ (a : BitVec 64) (u : Nat) (y z : State), u = a.toNat / 4096 * 4096 →
      y = { s.bump R.TIER_RETIRE 1 with tiers := { s.tiers with
        repairing := addOnce u s.tiers.repairing, lost := addOnce u s.tiers.lost } } →
      z = (y.coverers u).foldl (fun z i => if z.restsOn i u = true then z.recoverOrLose i 2 .dropped else z) y →
      exec (.retireLost a) s = .next (((z.logRetired 1 (z.tierOf u) u (y.coverers u)).tendJobs).drain).takeRaised)
    ∧ (∀ a : BitVec 64, exec (.softRepairDone a) s = .next { s with tiers := { s.tiers with
        repairing := s.tiers.repairing.filter (· != a.toNat / 4096 * 4096)
        lost := s.tiers.lost.filter (· != a.toNat / 4096 * 4096) } })
    ∧ (∀ (sh : Fin 112) (y z : State), bitAt s.vault.retired sh.val = false → s.shelfHolder sh.val = none →
      y = { s with vault := { s.vault with retired := setBit s.vault.retired sh.val true } } →
      z = (s.onShelfSlates sh.val).foldl (fun z i => if (z.slate i).state = .kept then z.recoverOrLose i 2 .dropped else z) y →
      exec (.shelfRetire sh) s = .next (((((z.logRetired 3 0 sh.val (s.onShelfSlates sh.val)).pageError 0x09 (w32 sh.val)
        0).raise 0x09 1).tendJobs).drain).takeRaised)
    ∧ (∀ (sh : Fin 112) (t : Nat) (y z : State), bitAt s.vault.retired sh.val = false → s.shelfHolder sh.val = some t →
      y = ({ s with vault := { s.vault with retired := setBit s.vault.retired sh.val true } } : State).modTenant t
        (fun x => { x with capLoss := x.capLoss + 32768 }) →
      z = (((((s.onShelfSlates sh.val).foldl (fun z i => if (z.slate i).state = .kept then z.recoverOrLose i 2 .dropped else z) y).logRetired
        3 0 sh.val (s.onShelfSlates sh.val)).pageError 0x09 (w32 sh.val) 0).raise 0x09 1) →
      exec (.shelfRetire sh) s = .next (((if (z.tenant t).stepOpen then z.recut t (z.tenant t).frame else z).tendJobs).drain).takeRaised)
    ∧ exec .nearChannelLost s = .next { s with tiers := { s.tiers with nearChans := s.tiers.nearChans - 1 } }

/-- The host channel (R225 to R229): a detach, a heartbeat that stays out and a lost link turn the host tier off in
every tenant, send each slate its own way, halt the channels that touch host memory and leave one record; an attach begins
the steps that waited; the heartbeat restarts its timer. -/
def Obligations.HostTierDetachesAndAttaches : Prop :=
  (∀ (p : Port) (s z : State), Writes s p R.TIER_HOST 1#32 → z = s.accessed p R.TIER_HOST →
    exec (.hostDetach p) s = .next (z.detachHost 0).takeRaised)
  ∧ (∀ s : State, Runs s → exec .hostLinkDown s = .next (s.detachHost 2).takeRaised)
  ∧ (∀ (s : State) (n : Nat), Runs s → n = fld (s.reg R.TIER_HB_LIMIT).toNat 0 24 → n ≠ 0 → s.tiers.host = .attached →
    exec .heartbeatExpiry s = .next ((s.advanceTo (s.tiers.hbAt + 100 * n)).detachHost 1).takeRaised)
  ∧ (∀ (p : Port) (v : Word) (s z : State), Writes s p R.TIER_HB v → z = s.accessed p R.TIER_HB →
    exec (.tierHb p v) s = .next { z with tiers := { z.tiers with hbAt := z.now } })
  ∧ (∀ (s x y z : State) (n a b c : Nat), s.tiers.host = .attached →
    x = (List.range 8).foldl (fun (s : State) t => s.modTenant t (fun x => { x with enHost := false }))
      { s with tiers := { s.tiers with host := .detached, detachedAt := s.now } } →
    (y, a, b, c) = x.liveSlates.foldl State.detachSlate (x, 0, 0, 0) →
    z = ((y.movers.chans.map (·.1)).foldl (fun (s : State) c => if (s.chan c).state = .busy ∧ !(s.chan c).inPool ∧ s.touchesHost c
      then s.linkHalt c else s) y).keepExtents (fun x => x.tier != 3) →
    s.detachHost n = ((z.log 0x0802 11 [w32 n, w32 a, w32 b, w32 c]).raise 0x08 1).tendJobs.drain)
  ∧ (∀ (p : Port) (s z x y : State) (held : List Nat), Writes s p R.TIER_HOST 2#32 → z = s.accessed p R.TIER_HOST →
    z.tiers.host ≠ .attached → held = (List.range 8).filter (fun t => (z.tenant t).held.isSome) →
    x = { z with tiers := { z.tiers with host := .attached } } →
    y = (x.log 0x0803 11 [w32 (min 0xFFFFFFFF ((z.now - z.tiers.detachedAt) / 100)), w32 (sumNat (held.map (2 ^ ·))), 0#32,
      0#32]).raise 0x08 2 →
    exec (.hostAttach p) s = .next (held.foldl (fun s t => ((s.tenant t).held.elim s (fun c =>
      (s.modTenant t (fun x => { x with held := none })).beginStep c))) y).takeRaised)

/-- The region table (R220, R221, R230): a select shows the entry; a commit puts the staged entry in place, or an empty one,
unless it is malformed, in use or overlaps another; an empty removes it unless it is in use. -/
def Obligations.RegionsAreSelectedCommittedAndEmptied : Prop :=
  (∀ (p : Port) (e : BitVec 6) (s z : State) (r : Region), Writes s p R.TIER_RGN_SEL (w32 e.toNat) →
    z = s.accessed p R.TIER_RGN_SEL → r = (look z.tiers.regions e.toNat).getD Region.none →
    exec (.regionSelect p e) s = .next ((((z.setReg R.TIER_RGN_SEL (w32 e.toNat)).setReg64 R.TIER_RGN_BASE 0 r.base).setReg64
      R.TIER_RGN_BYTES 0 r.len).setReg R.TIER_RGN_CFG (w32 r.cfg)))
  ∧ (∀ (p : Port) (s z : State) (e : Nat) (r : Region), Writes s p R.TIER_RGN_CTRL 1#32 → z = s.accessed p R.TIER_RGN_CTRL →
    e = fld (z.reg R.TIER_RGN_SEL).toNat 0 6 → r = z.stagedRegion →
    (z.regionBad e r = true → exec (.regionCommit p) s = .next ((z.regionResult 3).raise 0x08 8).takeRaised)
    ∧ (z.regionBad e r = false → z.regionBusy e = true →
      exec (.regionCommit p) s = .next ((z.regionResult 1).raise 0x08 8).takeRaised)
    ∧ (z.regionBad e r = false → z.regionBusy e = false → r.kind ≠ 0 → z.regionOverlap e r = true →
      exec (.regionCommit p) s = .next ((z.regionResult 2).raise 0x08 8).takeRaised)
    ∧ (z.regionBad e r = false → z.regionBusy e = false → r.kind ≠ 0 → z.regionOverlap e r = false →
      exec (.regionCommit p) s = .next { z with tiers := { z.tiers with regions := put z.tiers.regions e r, rgnResult := 0 } })
    ∧ (z.regionBad e r = false → z.regionBusy e = false → r.kind = 0 →
      exec (.regionCommit p) s = .next { z with tiers := { z.tiers with regions := del z.tiers.regions e, rgnResult := 0 } }))
  ∧ (∀ (p : Port) (s z : State) (e : Nat), Writes s p R.TIER_RGN_CTRL 2#32 → z = s.accessed p R.TIER_RGN_CTRL →
    e = fld (z.reg R.TIER_RGN_SEL).toNat 0 6 →
    (z.regionBusy e = true → exec (.regionEmpty p) s = .next (z.regionResult 1))
    ∧ (z.regionBusy e = false →
      exec (.regionEmpty p) s = .next { z with tiers := { z.tiers with regions := del z.tiers.regions e, rgnResult := 0 } }))

/-- Shooting sheets and the selectors (R48, R49, R51, R52, R61, R108, R415): a load takes the copies its checks compare with; the
end of the checks puts the sheet in place or refuses it with the first fault; an unload removes a sheet between steps; a
selector shows its record. -/
def Obligations.SheetsLoadAndSelectorsShow : Prop :=
  (∀ (p : Port) (t : Fin 8) (s y : State), Writes s p R.SHT_CTRL (w32 (t.val + 256)) →
    y = (s.accessed p R.SHT_CTRL).putFields R.SHT_CTRL 7 (t.val + 256) → (y.tenant t.val).check = none →
    exec (.sheetLoad p t) s = .next (y.modTenant t.val (fun x => { x with check := some {
      base := y.reg64 R.SHT_BASE 0, bytes := (y.reg R.SHT_BYTES).toNat, ftbBase := y.reg64 R.SHT_FTB_BASE t.val,
      stepOpen := (y.tenant t.val).stepOpen, shelves := y.shelfCount t.val, quota := (y.part t.val).quota,
      caps := [1, 2, 3, 4].map (y.tierCap t.val), ens := [1, 2, 3, 4].map (y.tierEnabled t.val),
      books := 0 :: y.books.store.map (·.1) } })))
  ∧ (∀ (t : Fin 8) (ext : List Host.Cell) (s y : State) (c : SheetCheck), Runs s → (s.tenant t.val).check = some c →
    s.memOpen c.base = true → y = { s with mem := Memory.apply s.mem ext } →
    (∀ r : SheetRefusal, y.sheetFault t.val c = some r → exec (.sheetLoadDone t ext) s = .next ((((y.modTenant t.val (fun x =>
        { x with check := none, refused := true, reason := r.reason, refuseEntry := w32 r.entry, refuseFrame := w32 r.frame,
                 refuseExcess := w32 r.excess })).log 0x0304 0 [w32 (r.reason + 2 ^ 8 * t.val), w32 r.entry, w32 r.frame,
        w32 r.excess]).pageError 0x06 (w32 (r.reason + 2 ^ 8 * t.val)) (r.entry + 2 ^ 32 * r.frame)).raise 0x06 1).takeRaised)
    ∧ (y.sheetFault t.val c = none → exec (.sheetLoadDone t ext) s = .next (y.passSheet t.val c).takeRaised))
  ∧ (∀ (p : Port) (t : Fin 8) (s y : State), Writes s p R.SHT_CTRL (w32 (t.val + 512)) →
    y = (s.accessed p R.SHT_CTRL).putFields R.SHT_CTRL 7 (t.val + 512) → (y.tenant t.val).stepOpen = false →
    (y.tenant t.val).check = none →
    exec (.sheetUnload p t) s = .next (y.setTenant t.val { y.tenant t.val with sheet := none, refused := false }))
  ∧ (∀ (p : Port) (i : BitVec 16) (s z : State), Writes s p R.SLT_SEL (w32 i.toNat) → z = s.accessed p R.SLT_SEL →
    exec (.sltSel p i) s = .next (((List.range 16).zip (z.slate i.toNat).words).foldl (fun (s : State) q =>
      s.setReg (R.SLT_REC + 4 * q.1) (w32 q.2)) (z.setReg R.SLT_SEL (w32 i.toNat))))
  ∧ (∀ (p : Port) (v : Word) (s z : State) (tier : Nat), Writes s p R.CUT_FC_SEL v → z = s.accessed p R.CUT_FC_SEL →
    tier = (if 4 < fld v.toNat 16 3 then 0 else fld v.toNat 16 3) →
    exec (.cutFcSel p v) s = .next (((z.setReg R.CUT_FC_SEL (v &&& 0x70703FF#32)).setReg64 R.CUT_FC_VAL 0
      ((z.tenant (fld v.toNat 24 3)).fcAt tier (fld v.toNat 0 10) % 2 ^ 40)).setReg64 R.CUT_FC_CAP 0
        ((z.frozen (fld v.toNat 24 3)).cap.getD tier 0 % 2 ^ 40)))

/-! ### Training services and synchronisation -/

/-- Meters, norms and exposure scales (R235 to R237, R240, R264 to R266): a select shows the meter or the entry; a clear empties every meter; a
norm round starts unless one runs, the leader sums the slots when all are there, a member takes a valid result of its round,
and 50 µs later an incomplete sum stands; a commit puts the staged exposure entry in place. -/
def Obligations.TrainingServicesAct : Prop :=
  (∀ (p : Port) (v : Word) (s z : State) (n : Nat) (m : Meter), Writes s p R.MTR_SEL v → z = s.accessed p R.MTR_SEL →
    n = legal R.MTR_SEL (v.toNat &&& 0x30FFF) → m = z.meter (meterKey (fld n 0 12) (fld n 16 2)) →
    exec (.mtrSel p v) s = .next ((((((List.range 10).foldl (fun (s : State) k => s.setReg (R.MTR_SUM + 4 * k)
      (w32 (m.sum / 2 ^ (32 * k)))) (z.setReg R.MTR_SEL (w32 n))).setReg R.MTR_MAX m.max).setReg R.MTR_UNDER
        (w32 m.under)).setReg R.MTR_NONFIN (w32 m.nonfin)).setReg R.MTR_FLAGS (w32 (b2n m.ovf))).takeRaised)
  ∧ (∀ (p : Port) (s y : State) (v : Nat), v = s.fieldsOf R.MTR_CTRL ||| 256 → Writes s p R.MTR_CTRL (w32 v) →
    y = (s.accessed p R.MTR_CTRL).putFields R.MTR_CTRL 0x207 v →
    exec (.mtrClear p) s = .next { y with services := { y.services with meters := [] } })
  ∧ (∀ (p : Port) (cls : BitVec 2) (s y : State) (k : Nat), Writes s p R.MTR_GN_CTRL (w32 (1 + 2 * cls.toNat)) →
    y = (s.accessed p R.MTR_GN_CTRL).putFields R.MTR_GN_CTRL 6 (1 + 2 * cls.toNat) →
    k = fld (y.reg R.MTR_GN_CTRL).toNat 1 2 →
    (y.gn.runs = true → exec (.gnStart p cls) s = .next (y.setGn { y.gn with rejected := true }))
    ∧ (∀ x : State, y.gn.runs = false → x = y.setGn
        { phase := .crew, startedAt := y.now, leads := y.gnCrew.head? == some y.die.die, written := false, own := y.gnPartial k,
          totals := y.gn.totals, incomplete := false, overflow := false, nonfinite := false, rejected := false, packages := 0, instances := 0 } →
      exec (.gnStart p cls) s = .next ((if x.gnCrew.contains x.die.die ∧ x.gnAreaOk
        then x.unitWrite (x.gnArea + 64 * x.die.die) (y.gnPartial k) else x)).takeRaised))
  ∧ (∀ (ext : List Host.Cell) (s x : State), Runs s → x = s.external ext → x.memOpen x.gnArea = true →
    (x.gn.phase = .packages → exec (.gnLeaderPoll ext) s = .next (x.gnFinish).takeRaised)
    ∧ (x.gnLeads = true → x.gn.phase = .crew → x.gn.written = false →
      (x.gnSlots.length < x.gnCrew.length → exec (.gnLeaderPoll ext) s = .next x)
      ∧ (x.gnCrew.length ≤ x.gnSlots.length → (x.gnTake x.gnSlots).gnCount ≤ 1 →
        exec (.gnLeaderPoll ext) s = .next (((x.gnTake x.gnSlots).gnWrite false)).takeRaised)
      ∧ (x.gnCrew.length ≤ x.gnSlots.length → 1 < (x.gnTake x.gnSlots).gnCount →
        exec (.gnLeaderPoll ext) s = .next ((x.gnTake x.gnSlots).gnFinish).takeRaised))
    ∧ (∀ r : List Byte, r = x.unitRead (x.gnArea + 0x1000) 128 → x.gn.runs = true → x.gnAreaOk = true →
      (recordValid r 128 84 x.gnRound = false → exec (.gnMemberPoll ext) s = .next x)
      ∧ (recordValid r 128 84 x.gnRound = true → x.gn.written = true → exec (.gnMemberPoll ext) s = .next
          ((x.draw.gnDone r (leAt r 61 1) (leAt x.gn.own 54 2) 0)).takeRaised)
      ∧ (recordValid r 128 84 x.gnRound = true → x.gn.written = false → leAt r 61 1 = 1 → exec (.gnMemberPoll ext) s = .next
          ((x.draw.gnDone r 1 (leAt r 62 2) 0)).takeRaised)))
  ∧ (∀ s y : State, Runs s → s.gn.runs = true → y = s.advanceTo s.gnDue →
    (y.gnLeads = true → y.gn.written = false → y.gn.phase = .crew →
      exec .gnTimeout s = .next ((((y.gnTake y.gnSlots).gnWrite true).raise 0x12 2)).takeRaised)
    ∧ (y.gnLeads = true → y.gn.written = false → y.gn.phase ≠ .crew →
      exec .gnTimeout s = .next (((y.gnWrite true).raise 0x12 2)).takeRaised)
    ∧ (y.gnLeads = false ∨ y.gn.written = true → exec .gnTimeout s = .next ((y.draw.gnDone (resultRecord
        (sumRecords [y.gn.own]) true 1 y.gnRound (Config.unstated y.draws)) 1 (leAt y.gn.own 54 2) 1)).takeRaised))
  ∧ (∀ (p : Port) (n : BitVec 11) (s z : State), Writes s p R.EXS_SEL (w32 n.toNat) → z = s.accessed p R.EXS_SEL →
    exec (.exsSel p n) s = .next ((((z.setReg R.EXS_SEL (w32 n.toNat)).setReg R.EXS_CFG (z.exposure n.toNat).cfg).setReg
      R.EXS_MARGIN (z.exposure n.toNat).margin).setReg R.EXS_SCALE (w32 (z.exposure n.toNat).scale)))
  ∧ (∀ (p : Port) (s z : State), Writes s p R.EXS_CTRL 1#32 → z = s.accessed p R.EXS_CTRL →
    exec (.exsCommit p) s = .next (z.setExposure (fld (z.reg R.EXS_SEL).toNat 0 11)
      { cfg := z.reg R.EXS_CFG, margin := z.reg R.EXS_MARGIN, scale := fld (z.reg R.EXS_SCALE).toNat 0 8, history := [], nonfinite := false }))
  ∧ (∀ (p : Port) (s z : State), Writes s p R.EXS_CTRL 2#32 → z = s.accessed p R.EXS_CTRL →
    exec (.exsEmptyHistory p) s = .next (z.setExposure (fld (z.reg R.EXS_SEL).toNat 0 11)
      { z.exposure (fld (z.reg R.EXS_SEL).toNat 0 11) with history := [], nonfinite := false }))

/-- The eyelet registers and tenant contexts (R277, R286, R293 to R295, R299): a select shows the eyelet; a write of its count, target or
configuration that the eyelet may hold takes effect and its waits are examined, any other changes nothing; a save ends the
tenant's waits and empties its eyelets, a restore fills them from a good image. -/
def Obligations.EyeletRegistersAndContexts : Prop :=
  (∀ (p : Port) (e : Fin 4096) (s z : State), Writes s p R.EYE_SEL (w32 e.val) → z = s.accessed p R.EYE_SEL →
    exec (.eyeSel p e) s = .next ((((z.setReg R.EYE_SEL (w32 e.val)).setReg R.EYE_COUNT (z.eyelet e.val).count).setReg
      R.EYE_TARGET (z.eyelet e.val).target).setReg R.EYE_CFG (z.eyelet e.val).cfg))
  ∧ (∀ (p : Port) (v : Word) (which : Fin 3) (s z : State) (a e : Nat) (y : Eyelet),
    a = (if which = 0 then R.EYE_COUNT else if which = 1 then R.EYE_TARGET else R.EYE_CFG) →
    Writes s p a v → z = s.accessed p a → e = fld (z.reg R.EYE_SEL).toNat 0 12 →
    y = (if which = 0 then { z.eyelet e with count := v } else if which = 1 then { z.eyelet e with target := v }
      else { z.eyelet e with cfg := v }) →
    (0 ≤ y.d → fld y.cfg.toNat 30 2 = 0 →
      exec (if which = 0 then .eyeCountWrite p v else if which = 1 then .eyeTargetWrite p v else .eyeCfgWrite p v) s
        = .next ((((z.setEyelet e y).showEye e).examine e).drain).takeRaised)
    ∧ (y.d < 0 ∨ fld y.cfg.toNat 30 2 ≠ 0 →
      exec (if which = 0 then .eyeCountWrite p v else if which = 1 then .eyeTargetWrite p v else .eyeCfgWrite p v) s
        = .next z))
  ∧ (∀ (p : Port) (t : Fin 8) (save : Bool) (s y : State) (v base : Nat), v = t.val + (if save then 256 else 512) →
    Writes s p R.EYE_CTRL (w32 v) → y = (s.accessed p R.EYE_CTRL).putFields R.EYE_CTRL 7 v →
    base = y.reg64 R.EYE_CTX_BASE t.val →
    (y.eyes.ctx.isSome = true → exec (if save then .contextSave p t else .contextRestore p t) s
      = .next ((({ y with eyes := { y.eyes with ctxResult := 2 } } : State)).drain).takeRaised)
    ∧ (y.eyes.ctx = none → y.controlRegion t.val base (y.ctxBytes t.val) = none →
      exec (if save then .contextSave p t else .contextRestore p t) s
        = .next ((({ y with eyes := { y.eyes with ctxResult := 3 } } : State)).drain).takeRaised)
    ∧ (∀ z : State, y.eyes.ctx = none → (y.controlRegion t.val base (y.ctxBytes t.val)).isSome = true →
      z = (if save then y.endWaits (fun w => w.tenant == t.val) 0x24 true else y) →
      exec (if save then .contextSave p t else .contextRestore p t) s = .next ((({ z with eyes := { z.eyes with
        ctx := some { tenant := t.val, save := save, base := base, loan := false,
                      ended := (y.eyes.waits.filter (fun w => w.tenant == t.val)).length } } } : State)).drain).takeRaised))
  ∧ (∀ (s y : State) (x : CtxOp), Runs s → s.eyes.ctx = some x → x.save = true →
    y = (((s.unitWrite x.base (s.ctxImage x)).fillEyes (s.part x.tenant).eyeBase
      (s.part x.tenant).eyeCount (fun _ => ⟨0#32, 0#32, 0#32⟩)).endCtx 0) →
    exec .contextSaveDone s = .next ((if x.loan then y.endLoan else y).drain).takeRaised)
  ∧ (∀ (ext : List Host.Cell) (s z : State) (x : CtxOp), Runs s → z = s.external ext → z.eyes.ctx = some x → x.save = false →
    (z.memOpen x.base = false → exec (.contextRestoreDone ext) s = .next z)
    ∧ (∀ y : State, z.memOpen x.base = true → z.ctxGood x = false → y = z.endCtx 1 →
      exec (.contextRestoreDone ext) s = .next ((if x.loan then y.endLoan else y).drain).takeRaised)
    ∧ (∀ (b : List Byte) (y w : State), z.memOpen x.base = true → z.ctxGood x = true →
      b = z.unitRead x.base (z.ctxBytes x.tenant) →
      y = z.fillEyes (z.part x.tenant).eyeBase (z.part x.tenant).eyeCount (fun k =>
        ⟨w32 (leAt b (64 + 16 * k) 4), w32 (leAt b (68 + 16 * k) 4), w32 (leAt b (72 + 16 * k) 4)⟩) →
      w = ((List.range (z.part x.tenant).eyeCount).foldl (fun s k =>
        s.examine ((z.part x.tenant).eyeBase + k)) y).endCtx 0 →
      exec (.contextRestoreDone ext) s = .next ((if x.loan then w.endLoan else w).drain).takeRaised))

/-- Doorbells, waits, core queues and clapper lines (R279, R281, R282, R284, R300): a doorbell write of 4 aligned
bytes adds to an enabled eyelet of its tenant and any other is dropped and counted; a wait that times out completes with
status 0x21, and of several of one ticket only the one that is due first; a core queue's reset ends its waits with status
0x26; a fired line is held low for the three cycles that follow. -/
def Obligations.DoorbellsWaitsAndClappers : Prop :=
  (∀ (o : BitVec 15) (n : Nat) (v : Word) (s : State), Arrives s →
    ((n ≠ 4 ∨ o.toNat % 4 ≠ 0) → exec (.doorbellWrite o n v) s = .next (s.bump R.EYE_DB_DROPS 1).drain.takeRaised)
    ∧ (∀ e : Nat, n = 4 → o.toNat % 4 = 0 → e = o.toNat % 0x4000 / 4 →
      (s.eyeTenant e = none → exec (.doorbellWrite o n v) s = .next (s.bump R.EYE_DB_DROPS 1).drain.takeRaised)
      ∧ (∀ t : Nat, s.eyeTenant e = some t → s.ctxHolds t = true → exec (.doorbellWrite o n v) s
        = .next ({ s with eyes := { s.eyes with
            heldSignals := s.eyes.heldSignals ++ [⟨decide (0x4000 ≤ o.toNat), e, v⟩] } } : State).drain.takeRaised)
      ∧ (∀ t : Nat, s.eyeTenant e = some t → s.ctxHolds t = false → bitAt (s.eyelet e).cfg.toNat 24 = false →
        exec (.doorbellWrite o n v) s = .next (s.bump R.EYE_DB_DROPS 1).drain.takeRaised)
      ∧ (∀ t : Nat, s.eyeTenant e = some t → s.ctxHolds t = false → bitAt (s.eyelet e).cfg.toNat 24 = true →
        exec (.doorbellWrite o n v) s
          = .next (((s.addEye e (decide (0x4000 ≤ o.toNat)) v .signal t).1.examine e)).drain.takeRaised)))
  ∧ (∀ (q : Fin 64) (k : BitVec 16) (s y : State) (w : Wait), Runs s →
    firstDueWait (s.eyes.waits.filter (fun w => w.cmd.queue.val == q.val && w.cmd.ticket == k && w.due.isSome)) = some w →
    y = s.advanceTo (w.due.getD 0) →
    exec (.eyeWaitTimeout q k) s = .next (((((y.setWaits (s.eyes.waits.erase w)).endWait w 0x21 none true).bump
      R.EYE_TIMEOUTS 1).raise 0x19 8).drain).takeRaised)
  ∧ (∀ (q : Fin 64) (s y : State), Runs s → y = s.endWaits (fun w => w.cmd.queue.val == q.val) 0x26 false →
    exec (.coreQueueReset q) s = .next ((((y.retake.jobs.map (·.1)).foldl (fun (s : State) k =>
      s.resendFor q.val k) y).tendJobs).drain).takeRaised)
  ∧ (∀ (p : Port) (v : BitVec 64) (s x y z : State), Writes s p R.CLAP_FIRE (w32 (v.toNat % 2 ^ 32)) →
    x = s.accessed p R.CLAP_FIRE → y = x.setLatch p { x.latch p with wr := some (R.CLAP_FIRE, w32 (v.toNat % 2 ^ 32)) } →
    Writes y p (R.CLAP_FIRE + 4) (w32 (v.toNat / 2 ^ 32)) → z = y.accessed p (R.CLAP_FIRE + 4) →
    exec (.clapFire p v) s = .next ((bitsOf v.toNat 64).foldl (fun (s : State) n => { s with lace := { s.lace with
      pulses := put s.lace.pulses n (((look s.lace.pulses n).elim (s.now + 1) (fun q =>
        if s.now + 1 ≤ q.2 then min q.1 (s.now + 1) else s.now + 1)), s.now + 4) } }) z).takeRaised)
  ∧ (∀ (n : Fin 64) (s : State) (a b : Nat), look s.lace.pulses n.val = some (a, b) → s.rst.powered = true →
    s.clockRuns = true → holding s.dbg.wir = false → (s.drivesLine n.val = true ↔ a ≤ s.now ∧ s.now < b))
  ∧ (∀ (n : Fin 64) (s y : State) (a due : Nat), AocRuns s → look s.lace.pulses n.val = some (a, due) → y = s.advanceTo due →
    exec (.clapperPulseEnd n) s = .next { y with lace := { y.lace with pulses := del y.lace.pulses n.val } })

/-- Lace wires (R287 to R292, R298, R300): enrolment comes from the control port alone and takes a wire from OFF to HOLD or back to OFF;
a wire's registers are written only while it is OFF; a release, at the earliest in the cycle after the arrival, adds to both
eyelets, counts, and opens the gap, after which the wire holds again; a die that is lost leaves every roll it is in. -/
def Obligations.LaceWiresFollowTheirPhases : Prop :=
  (∀ (p : Port) (v : BitVec 16) (s z : State), Writes s p R.LACE_CTRL (w32 v.toNat) → z = s.accessed p R.LACE_CTRL →
    (p = Port.control → exec (.laceEnrol p v) s = .next ((((List.range 16).foldl (fun (s : State) n =>
      if bitAt v.toNat n ∧ (s.wire n).state = .off then (s.setWire n { s.wire n with state := .hold }).sampleDone n false
      else if !bitAt v.toNat n ∧ (s.wire n).state ≠ .off then s.setWire n { s.wire n with state := .off }
      else s) (z.setReg R.LACE_CTRL (w32 v.toNat))).laceCheck)).takeRaised)
    ∧ (p ≠ Port.control → exec (.laceEnrol p v) s = .next z))
  ∧ (∀ (p : Port) (n : Fin 16) (arr : Bool) (v : Word) (s z : State) (a : Nat),
    a = (if arr then R.LACE_ARR else R.LACE_WIRE) + 4 * n.val → Writes s p a v → z = s.accessed p a →
    ((z.wire n.val).state ≠ .off → exec (.laceWireWrite p n arr v) s = .next z)
    ∧ ((z.wire n.val).state = .off → exec (.laceWireWrite p n arr v) s
      = .next ((z.setReg a (w32 (v.toNat % (if arr then 2 ^ 12 else 2 ^ 28)))).bindCheck n.val).takeRaised))
  ∧ (∀ (n : Fin 16) (s w x y : State), Runs s → (s.wire n.val).state = .arrived →
    w = s.advanceTo ((s.wire n.val).arrivedAt + 1) →
    x = ((w.addEye (s.wireArrival n.val) true (w32 (s.wireCount n.val)) .lace (s.wireTenant n.val)).1.addEye
      (s.wireRelease n.val) false (w32 (s.wireCount n.val)) .lace (s.wireTenant n.val)).1 →
    y = ((if x.wireRealign n.val then x.realign n.val else x).bump R.LACE_RELEASES 1).raise 0x1A 2 →
    exec (.laceRelease n) s = .next ((((({ y.setWire n.val { y.wire n.val with state := .gap, gapEnds := y.now + 9 } with
      lace := { (y.setWire n.val { y.wire n.val with state := .gap, gapEnds := y.now + 9 }).lace with
        done := setBit y.lace.done n.val true } } : State).examine (s.wireArrival n.val)).examine
          (s.wireRelease n.val)))).drain.takeRaised)
  ∧ (∀ (n : Fin 16) (s y : State), Stands s → (s.wire n.val).state = .gap →
    y = ((s.advanceTo (s.wire n.val).gapEnds).setWire n.val { s.wire n.val with state := .hold }).laceCheck →
    exec (.laceGapEnd n) s = .next ((if (y.wire n.val).state = .hold
      then { y with lace := { y.lace with done := setBit y.lace.done n.val false } } else y)).takeRaised)
  ∧ (∀ (d : Fin 64) (system : Bool) (s : State) (held act : List Nat), Runs s →
    held = (List.range 16).filter (fun n => bitAt (s.reg64 (R.LACE_ROLL + 8 * n) 0) d.val) →
    act = (List.range 16).filter (fun n => (s.wire n).state == .hold || (s.wire n).state == .arrived) →
    ((held.any (fun n => (s.wire n).state != .off)) = false → exec (.dieResetNotice d system) s = .next s)
    ∧ ((held.any (fun n => (s.wire n).state != .off)) = true → exec (.dieResetNotice d system) s = .next
        (((((held.foldl (fun s n => s.setReg64 (R.LACE_ROLL + 8 * n) 0 (setBit (s.reg64 (R.LACE_ROLL + 8 * n) 0) d.val false))
          s).bump R.LACE_LOST 1).report 0x0903 10 [w32 (d.val + 2 ^ 8 * b2n system), w32 (sumNat (held.map (2 ^ ·))),
            w32 (sumNat (act.map (2 ^ ·))), 0#32] 0x1A 0).pageError 0x1A (w32 (d.val + 2 ^ 8 * b2n system)) 0)).takeRaised))

/-- Peer operations (R310 to R314, R324, R413, R414): a stale sequence is only counted, one seen before is answered again, a fresh one is
applied once within the lent windows and answered, with its CRC, unless its memory's domain is in a power-down; a signal waits for
the earlier packets of its transfer and is not applied when one of them has failed; an acknowledgement finishes the operation it names, and the fourth resend
without one loses the peer; the lost bits clear by command; the partner changes only while nothing is held with it. -/
def Obligations.PeerOperationsApplyOnce : Prop :=
  (∀ (h : PeerHead) (a : BitVec 64) (d : List Byte) (g : Option Signal) (s : State), Arrives s →
    (s.seen h = .stale → exec (.peerShip h a d g) s = .next (s.bump R.PEER_STALE 1).takeRaised)
    ∧ (∀ e : Bool, s.seen h = .again e →
      exec (.peerShip h a d g) s = .next ((s.bump R.PEER_DUPS 1).answerPeer h e []).takeRaised)
    ∧ (s.seen h = .fresh → (s.checkLent h a.toNat d.length).2 = none → exec (.peerShip h a d g) s
      = .next ((((s.checkLent h a.toNat d.length).1.noteRx h true).packetDone h h.seq.toNat true).answerPeer h true
        []).drain.takeRaised)
    ∧ (∀ b : Nat, s.seen h = .fresh → (s.checkLent h a.toNat d.length).2 = some b → s.memOpen b = false →
      exec (.peerShip h a d g) s = .next s.takeRaised)
    ∧ (∀ (b : Nat) (y : State), s.seen h = .fresh → (s.checkLent h a.toNat d.length).2 = some b → s.memOpen b = true →
      y = (((((s.checkLent h a.toNat d.length).1.memWrite b d).outAccess ⟨true, b, d.length, s.lentHint .stream b⟩).bump64
        R.PEER_RX_BYTES d.length).bump R.PEER_LENT_OPS 1).noteRx h false →
      exec (.peerShip h a d g) s = .next (((g.elim y (y.noteSignal h)).packetDone h h.seq.toNat false).answerPeer h false
        []).drain.takeRaised))
  ∧ (∀ (h : PeerHead) (g : Signal) (s : State),
    ((∃ q ∈ g.earlier, s.rxStatus h q.toNat = some true) → s.noteSignal h g = s)
    ∧ (s.peer.signals = [] → (∀ q ∈ g.earlier, s.rxStatus h q.toNat = some false) →
      (s.noteSignal h g).packetDone h h.seq.toNat false =
        s.applySignal { target := false, eye := g.eyelet.val, add := g.add }))
  ∧ (∀ (h : PeerHead) (e : Bool) (d : List Byte) (s : State), s.answerPeer h e d =
    (if d = [] then s else s.bump64 R.PEER_TX_BYTES d.length).outAnswer ⟨h.package.val, h.die.val, h.seq.toNat, e, d,
      w32 (crc32c (Config.ackBytes h.seq.toNat e d))⟩)
  ∧ (∀ (h : PeerHead) (a : BitVec 64) (n : Nat) (fetch last : Bool) (s : State) (c : Instr) (k : Hint), Arrives s →
    c = (if fetch then .peerFetch h a n else .peerProp h a ⟨n, last⟩) →
    k = (if fetch || last then .lastUse else .keep) →
    (s.seen h = .stale → exec c s = .next (s.bump R.PEER_STALE 1).takeRaised)
    ∧ (∀ e : Bool, s.seen h = .again e → exec c s = .next ((s.bump R.PEER_DUPS 1).serveRead h a.toNat n false fetch k).takeRaised)
    ∧ (s.seen h = .fresh → (s.checkLent h a.toNat n).2 = none →
      exec c s = .next (((s.checkLent h a.toNat n).1.noteRx h true).answerPeer h true []).takeRaised)
    ∧ (∀ b : Nat, s.seen h = .fresh → (s.checkLent h a.toNat n).2 = some b → s.memOpen b = false →
      exec c s = .next s.takeRaised)
    ∧ (∀ (b : Nat) (y : State), s.seen h = .fresh → (s.checkLent h a.toNat n).2 = some b → s.memOpen b = true →
      y = ((s.checkLent h a.toNat n).1.noteRx h false).outAccess ⟨false, b, n,
        ((s.checkLent h a.toNat n).1.noteRx h false).lentHint k b⟩ →
      exec c s = .next ((if fetch then y.bump R.PEER_LENT_OPS 1 else y).answerPeer h false
        (Memory.read y.mem b n)).takeRaised))
  ∧ (∀ (h : PeerHead) (v : Partial) (s : State), Arrives s →
    (s.seen h = .stale → exec (.peerReduce h v) s = .next (s.bump R.PEER_STALE 1).takeRaised)
    ∧ (∀ e : Bool, s.seen h = .again e →
      exec (.peerReduce h v) s = .next ((s.bump R.PEER_DUPS 1).answerPeer h e []).takeRaised)
    ∧ (s.seen h = .fresh → s.areaOther h.tenant.val = true →
      exec (.peerReduce h v) s = .next (((s.rejectTenant).noteRx h true).answerPeer h true []).takeRaised)
    ∧ (∀ y : State, s.seen h = .fresh → s.areaOther h.tenant.val = false →
      y = (s.bump64 R.PEER_RX_BYTES v.length).noteRx h false →
      exec (.peerReduce h v) s = .next (((if v.length = 64 ∧ leAt v 60 4 = crc32c (v.take 60)
        then y.setGn { y.gn with totals := y.gn.totals ++ [(h.package.val, v)] } else y).answerPeer h false
          []).gnFinish).takeRaised))
  ∧ (∀ (k : Fin 64) (n : BitVec 32) (crc err : Bool) (d : List Byte) (s : State) (o : PeerOp), Runs s →
    s.rst.isolating = false → s.peerOp n.toNat = some o → o.package = k.val → s.lostPackage k.val = false →
    (crc = false → exec (.peerAck k n crc err d) s = .next (s.setOps (s.peer.ops.map (fun v =>
      if v.seq == n.toNat then { v with badCrc := true } else v))))
    ∧ (∀ y : State, crc = true → y = (s.setOps (s.peer.ops.filter (fun v => v.seq != n.toNat))).drainPeer k.val →
      (o.txn = none → exec (.peerAck k n crc err d) s = .next y.takeRaised)
      ∧ (∀ m : Nat, o.txn = some m → exec (.peerAck k n crc err d) s
        = .next ((((if err then y else y.bump64 R.PEER_RX_BYTES d.length).respond m
          (if err then some .errorResponse else none) d 0)).drain).takeRaised)))
  ∧ (∀ (n : BitVec 32) (s y : State) (o x : PeerOp), Runs s → s.peerOp n.toNat = some o →
    y = s.advanceTo (o.lastSend + 800) → x = { o with resends := o.resends + 1, lastSend := y.now, badCrc := false } →
    (o.resends < 4 → exec (.ackResend n) s = .next (((((((y.setOps (y.peer.ops.map (fun v =>
      if v.seq == n.toNat then x else v))).outPeerOp x).bump64 R.PEER_TX_BYTES o.data.length).bump R.PEER_RESENDS 1).report
        0x0C01 12 [w32 (o.who + 2 ^ 20 * (o.resends + 1) + 2 ^ 23 * b2n o.badCrc), w32 n.toNat, o.slateWord, 0#32] 0x1F
        1)).drain).takeRaised)
    ∧ (4 ≤ o.resends → exec (.ackResend n) s = .next ((y.losePeer o).drain).takeRaised))
  ∧ (∀ (up : Bool) (s : State), exec (if up then .peerLinksUp else .peerLinksDown) s
    = .next ({ s with peer := { s.peer with portUp := up } } : State).takeRaised)
  ∧ (∀ (p : Port) (k : Fin 64) (s y : State), Writes s p R.PEER_CTRL (w32 (1 + 2 ^ 8 * k.val)) →
    y = (s.accessed p R.PEER_CTRL).putFields R.PEER_CTRL 0xFF00 (1 + 2 ^ 8 * k.val) →
    exec (.peerClearLost p k) s = .next { y with peer := { y.peer with lost := setBit y.peer.lost k.val false } })
  ∧ (∀ (p : Port) (s y : State) (v : Nat), v = s.fieldsOf R.PEER_CTRL ||| 2 → Writes s p R.PEER_CTRL (w32 v) →
    y = (s.accessed p R.PEER_CTRL).putFields R.PEER_CTRL 0xFF00 v →
    exec (.peerClearAll p) s = .next { y with peer := { y.peer with lost := 0 } })
  ∧ (∀ (p : Port) (v : Word) (s z : State), Writes s p R.PEER_PARTNER v → z = s.accessed p R.PEER_PARTNER →
    (z.partnerFree = true → exec (.peerPartnerWrite p v) s = .next ((z.setReg R.PEER_PARTNER
      (w32 (legal R.PEER_PARTNER (v.toNat &&& 0x1FF) % 2 ^ 9))).setPeer (fun q => { q with partnerReject := false })))
    ∧ (z.partnerFree = false → exec (.peerPartnerWrite p v) s = .next (z.setPeer (fun q => { q with partnerReject := true }))))

/-! ### Register ports, locks and countersigns -/

/-- A write of a register of the register file (R9, R12, R406): the fields of the addressed copy take their bits, reserved
bits stay, a value that a field may not hold becomes its reset value; the low word of a 64-bit register is held until the
high word is written. On a page of the AOC domain the wake_at of an instance that sleeps follows (R356). The count of MTR_GN_PKG
stays 1 in a package without an index (R410). -/
def Obligations.RegisterWriteSetsTheFields : Prop :=
  (∀ (p : Port) (v : Word) (s z : State) (x : Nat), Writes s p R.MTR_GN_PKG v → z = s.accessed p R.MTR_GN_PKG →
    x = legal R.MTR_GN_PKG (mapMinus (z.reg R.MTR_GN_PKG).toNat 0xFFFF + (v.toNat &&& 0xFFFF)) →
    exec (.registerWrite p (BitVec.ofNat 20 R.MTR_GN_PKG) v) s = .next (z.setReg R.MTR_GN_PKG
      (if s.die.package = none then w32 (refield (w32 x).toNat 0 8 (· == 1) 1) else w32 x)))
  ∧ ∀ (p : Port) (a : BitVec 20) (v : Word) (r : RegAt) (s z : State) (k : Nat), Writes s p a.toNat v →
    z = s.accessed p a.toNat → a.toNat % 4 = 0 → 0x40 ≤ offsetOf a.toNat → regAt a.toNat = some r → r.plain →
    k = z.copyOf (r.desc.addr / 0x1000) r.desc.scope →
    (r.desc.wide = false →
      exec (.registerWrite p a v) s = .next ((z.setRegT a.toNat k
        (w32 (legal r.desc.addr (mapMinus (z.regT a.toNat k).toNat r.desc.mask + (v.toNat &&& r.desc.mask))))).servedFrom s
          a.toNat))
    ∧ (r.desc.wide = true → r.high = false →
      exec (.registerWrite p a v) s = .next ((z.setLatch p { z.latch p with wr := some (a.toNat, v) }).servedFrom s a.toNat))
    ∧ (∀ lo b, r.desc.wide = true → r.high = true → a.toNat = b + 4 → (s.latch p).wr = some (b, lo) →
      regAt b = some { r with high := false } →
      exec (.registerWrite p a v) s = .next ((z.setReg64 b k
        (mapMinus (z.reg64 b k) r.desc.mask + ((lo.toNat + v.toNat * 2 ^ 32) &&& r.desc.mask))).servedFrom s a.toNat))

/-- The RC counters (R9, R407): a read by the control or the security port answers what the port sees of the count and
clears it; the debug port's read answers it and leaves it. PWR_RESn, VLT_HWM and the two counts of waiting cycles restart by
rules of their own. A 64-bit register (R406): the read of its low word answers that word and holds the high word of the same
moment; the port's next read of the high word answers what is held. -/
def Obligations.ReadsClearAndHold : Prop :=
  (∀ (p : Port) (a : BitVec 20) (r : RegAt) (s z : State), Reads s p a.toNat → z = s.accessed p a.toNat →
      regAt a.toNat = some r → r.desc.acc = .rc → 0x40 ≤ offsetOf a.toNat →
      r.desc.addr ∉ [R.PWR_RES, R.VLT_HWM, R.OPX_STALL, R.VLT_STALL] →
      ∃ u : State, exec (.readClear p a) s = .next (u.servedFrom s a.toNat)
        ∧ u.out = { z.out with reads := z.out.reads ++ [(p, a.toNat, z.wordAt p a.toNat)] }
        ∧ u.reg a.toNat = (if p = Port.debug then z.reg a.toNat else 0#32)
        ∧ (∀ k, k ≠ a.toNat → u.regKey k = z.regKey k) ∧ { u with regs := z.regs, out := z.out } = z)
  ∧ (∀ (p : Port) (a : BitVec 20) (r : RegAt) (s z : State), z = s.accessed p a.toNat → 0x40 ≤ offsetOf a.toNat →
      a.toNat % 4 = 0 → regAt a.toNat = some r → r.desc.wide = true → s.recorder.raised = [] →
      s.fate p a.toNat false 0#32 = .done →
      (r.high = false → (s.latch p).rd = none →
        ∃ u : State, exec (.lowWordRead p a) s = .next (u.servedFrom s a.toNat)
          ∧ u.out = { z.out with reads := z.out.reads ++ [(p, a.toNat, z.wordAt p a.toNat)] }
          ∧ (u.latch p).rd = some (a.toNat + 4, z.wordAt p (a.toNat + 4))
          ∧ { u with latches := z.latches, out := z.out } = z)
      ∧ (∀ w, r.high = true → (s.latch p).rd = some (a.toNat, w) →
        ∃ u : State, exec (.lowWordRead p a) s = .next (u.servedFrom s a.toNat)
          ∧ u.out = { z.out with reads := z.out.reads ++ [(p, a.toNat, w)] }
          ∧ (u.latch p).rd = none ∧ { u with latches := z.latches, out := z.out } = z))

/-- IRQ_STAT, IRQ_FORCE and ERR_CLR (R403 to R405): a one clears a raw bit, a force sets the bits that the page has and
sends a message for each line that rises, and ERR_CLR clears the recorded error. -/
def Obligations.HeaderWritesActOnTheirPage : Prop :=
  ∀ (p : Port) (n : Fin 32) (v : Word) (s z : State),
    (Serves s p (headerAt n.val R.IRQ_STAT) v → z = s.accessed p (headerAt n.val R.IRQ_STAT) →
      ∃ u : State, exec (.irqStatWrite p n v) s = .next (u.servedFrom s (headerAt n.val R.IRQ_STAT))
        ∧ u.page n.val = { z.page n.val with raw := (z.page n.val).raw &&& ~~~v }
        ∧ (∀ m, m ≠ n.val → u.page m = z.page m) ∧ { u with pages := z.pages } = z)
    ∧ (Serves s p (headerAt n.val R.IRQ_FORCE) v → z = s.accessed p (headerAt n.val R.IRQ_FORCE) →
      ∃ u : State, exec (.irqForce p n v) s = .next (u.servedFrom s (headerAt n.val R.IRQ_FORCE))
        ∧ u.page n.val = { z.page n.val with raw := (z.page n.val).raw ||| (v &&& w32 (irqBits n.val)) }
        ∧ (∀ m, m ≠ n.val → u.page m = z.page m)
        ∧ u.out.irqMessages = z.out.irqMessages ++ (if u.irqLine 0 && !z.irqLine 0 then [0] else [])
            ++ (if u.irqLine 1 && !z.irqLine 1 then [1] else [])
        ∧ { u with pages := z.pages, out := { u.out with irqMessages := z.out.irqMessages } } = z)
    ∧ (Serves s p (headerAt n.val R.ERR_CLR) (w32 1) → z = s.accessed p (headerAt n.val R.ERR_CLR) →
      ∃ u : State, exec (.errClr p n) s = .next (u.servedFrom s (headerAt n.val R.ERR_CLR))
        ∧ u.page n.val = { z.page n.val with synd := 0#32, addr := 0#64, errValid := false }
        ∧ (∀ m, m ≠ n.val → u.page m = z.page m) ∧ { u with pages := z.pages } = z)

/-- LOCK and SHADOW_CTRL (R331 to R333): an acquire of a free page makes the port its owner with nothing staged; the owner's
write of a register is staged, not applied; a discard empties the staging; a release without overflow frees the page and
applies what was staged, values before actions; one with overflow applies nothing. -/
def Obligations.LocksStageAndCommit : Prop :=
  ∀ (p : Port) (n : Fin 32) (s z : State),
    (Serves s p (headerAt n.val R.LOCK) (w32 (2 ^ 8)) → z = s.accessed p (headerAt n.val R.LOCK) →
      (s.page n.val).owner = none →
      exec (.lockAcquire p n) s = .next ((z.setPage n.val { s.page n.val with
        owner := some p, staged := [], overflow := false, accessAt := s.now, lockedAt := s.now }).servedFrom s
          (headerAt n.val R.LOCK)))
    ∧ (∀ (a : BitVec 20) (v : Word) (r : RegAt), Serves s p a.toNat v → z = s.accessed p a.toNat → a.toNat % 4 = 0 →
      0x40 ≤ offsetOf a.toNat → pageOf a.toNat = n.val → (s.page n.val).owner = some p → regAt a.toNat = some r →
      r.desc.wide = false → r.high = false → r.desc.acc ≠ .ro → r.desc.acc ≠ .rc →
      exec (.registerWrite p a v) s = .next ((z.setPage n.val ((z.page n.val).stage a.toNat v)).servedFrom s a.toNat))
    ∧ (Serves s p (headerAt n.val R.SHADOW_CTRL) (w32 (2 ^ 8)) → z = s.accessed p (headerAt n.val R.SHADOW_CTRL) →
      exec (.shadowDiscard p n) s = .next ((z.setPage n.val { z.page n.val with staged := [], overflow := false }).servedFrom s
        (headerAt n.val R.SHADOW_CTRL)))
    ∧ (Serves s p (headerAt n.val R.LOCK) (w32 (2 ^ 9)) → z = s.accessed p (headerAt n.val R.LOCK) →
      (s.page n.val).owner = some p → (s.page n.val).overflow = true →
      exec (.lockRelease p n) s = .next ((z.setPage n.val { z.page n.val with
        owner := none, staged := [], overflow := false, lastResult := 2 }).servedFrom s (headerAt n.val R.LOCK)))
    ∧ (Serves s p (headerAt n.val R.LOCK) (w32 (2 ^ 9)) → z = s.accessed p (headerAt n.val R.LOCK) →
      (s.page n.val).owner = some p → (s.page n.val).overflow = false →
      exec (.lockRelease p n) s = .next (((z.setPage n.val { z.page n.val with
        owner := none, staged := [], overflow := false, lastResult := 1 }).applyPuts p (putsOf (s.page n.val).staged)
          cleanTest).servedFrom s (headerAt n.val R.LOCK)).takeRaised)

/-- BLK_MODE (R333, R335): it takes writes only under the lock of its page, and holds the staged value, field by field,
after the release. -/
def Obligations.ModeChangesUnderItsLock : Prop :=
  ∀ (p : Port) (v : Word) (s z : State),
    (Serves s p R.BLK_MODE v → z = s.accessed p R.BLK_MODE →
      (s.page 0).owner = some p ∧ exec (.blkModeWrite p v) s = .next (z.setPage 0 ((z.page 0).stage R.BLK_MODE v)))
    ∧ (s.fate p R.BLK_MODE true v = .rejected 0 → z = s.accessed p R.BLK_MODE →
      exec (.blkModeWrite p v) s = .next (z.turnAway p R.BLK_MODE 0 true v).takeRaised)
    ∧ (Serves s p (headerAt 0 R.LOCK) (w32 (2 ^ 9)) → (s.page 0).owner = some p → (s.page 0).overflow = false →
      (s.page 0).staged = [(R.BLK_MODE, v)] → s.power.state = .active → z = s.accessed p (headerAt 0 R.LOCK) →
      exec (.lockRelease p 0) s = .next ((z.setPage 0 { z.page 0 with
        owner := none, staged := [], overflow := false, lastResult := 1 }).setReg R.BLK_MODE
          (w32 (legal R.BLK_MODE (mapMinus (z.reg R.BLK_MODE).toNat 0x1FFF + (v.toNat &&& 0x1FFF))))))

/-- A lock breaks when its owner has made no access for the idle limit (R318, R334): the page is free, the staging is gone,
and LOCK_BROKEN is recorded with the owner, the number of staged writes and the time the lock was held (R303); outside the pages
of the AOC domain only while FCLK runs (R21). A port that is reset or detached (R318, R334, R340, R343) and holds no lock: its
latches are empty, a detach clears its bit, a reset of the security port clears the key staging, and a pending proposal ends
DISCARDED unless the port is the debug port. -/
def Obligations.LocksBreakAndPortsReset : Prop :=
  (∀ (n : Fin 32) (p : Port) (s t : State), AocRuns s → (s.page n.val).owner = some p → s.lockLimit ≠ 0 →
      t = { s with now := max s.now ((s.page n.val).accessAt + s.lockLimit) } →
      (s.clockRuns = true ∨ aocPage n.val = true → exec (.lockBroken n) s = .next ((((t.setPage n.val { s.page n.val with
        owner := none, staged := [], overflow := false, lastResult := 3 }).log 0x0A02 13
          [w32 (n.val + 2 ^ 8 * Port.num p + 2 ^ 12 * 2), w32 (s.page n.val).staged.length,
           w32 (min 0xFFFFFFFF ((t.now - (s.page n.val).lockedAt) / 100)), 0#32]).raise 0x04 2).movedFrom s).takeRaised)
      ∧ (s.clockRuns = false → aocPage n.val = false → exec (.lockBroken n) s = .next (s.movedFrom s)))
  ∧ (∀ (p : Port) (detach : Bool) (s a : State), AocRuns s → (∀ n, (s.page n).owner ≠ some p) →
      a = (match s.security.proposal with
        | some q => if p = Port.debug then s
            else (({ s with security := { s.security with
                proposal := none, applying := none, result := 7
                stage := if leAt q.bytes 0 1 = 2 then [] else s.security.stage } }.raise 0x03 1).pageError 0x03
                  (w32 ({ s with security := { s.security with
                proposal := none, applying := none, result := 7
                stage := if leAt q.bytes 0 1 = 2 then [] else s.security.stage } }.csStat)) 0).log 0x0A03 13
                  [w32 (Port.num q.proposer + 2 ^ 8 * leAt q.bytes 0 1), q.nonce, q.digest, w32 s.security.refused]
        | none => s) →
      exec (.portReset p detach) s = .next (({ a with
        security := { a.security with
          attached := if detach then setBit a.security.attached (Port.num p) false else a.security.attached
          stage := if p = Port.security ∧ !detach then [] else a.security.stage }
        latches := del a.latches (Port.num p) } : State).movedFrom s).takeRaised)

/-- SEC_PROPOSE (R339): with no proposal pending or being applied, and none that R341 refuses, the staged 128 bytes become
the pending proposal, with the nonce, the CRC-32C digest and a window of 1 ms; else the result is BUSY or BAD_PROPOSAL, and a
KEY_LOAD proposal so refused clears the key staging (R343). The window of a proposal ends while FCLK runs (R303, R339): the result
is TIMEOUT, and COUNTERSIGN_TIMEOUT is recorded. -/
def Obligations.ProposalsOpenAndTimeOut : Prop :=
  (∀ (p : Port) (s z : State) (b : List Byte), Writes s p R.SEC_PROPOSE (w32 1) → z = s.accessed p R.SEC_PROPOSE →
      b = z.proposalBytes →
      exec (.propose p) s =
        (if z.security.proposal.isSome ∨ z.security.applying.isSome then .next (z.csResult 6)
        else if z.badProposal b (z.reg R.SEC_NONCE) then .next (({ z with security := { z.security with
          stage := if leAt b 0 1 = 2 then [] else z.security.stage } } : State).csResult 3)
        else .next { z with security := { z.security with
          proposal := some ⟨p, b, z.reg R.SEC_NONCE, w32 (crc32c b), z.now + 100000⟩
          lastProposer := Port.num p, digest := w32 (crc32c b), refused := 0 } }))
  ∧ (∀ (s t a : State) (q : Proposal), AocRuns s → s.clockRuns = true → s.security.proposal = some q →
      t = { s with now := max s.now q.endsAt } →
      a = { t with security := { t.security with
            proposal := none, applying := none, result := 2
            stage := if leAt q.bytes 0 1 = 2 then [] else t.security.stage } } →
      exec .countersignTimeout s = .next (((a.raise 0x03 1).pageError 0x03 (w32 a.csStat) 0).log 0x0A03 13
        [w32 (Port.num q.proposer + 2 ^ 8 * leAt q.bytes 0 1), q.nonce, q.digest, w32 s.security.refused]).takeRaised)

/-- SEC_CS_DIGEST (R339 to R342): a countersign by the proposing port, or with another nonce or digest, is counted and
changes nothing else; one after the window ends the proposal with TIMEOUT; one that fits applies the proposal, or, where it takes
shelves from a tenant, starts the clearing of the shelves; a change that is IN_USE, or that a loan blocks, ends it with that
result. -/
def Obligations.CountersignAppliesTheProposal : Prop :=
  ∀ (p : Port) (d : Word) (s z : State) (q : Proposal), Writes s p R.SEC_CS_DIGEST d → z = s.accessed p R.SEC_CS_DIGEST →
    z.security.proposal = some q →
    (q.endsAt ≤ z.now → exec (.countersign p d) s = .next (((z.endProposal q).csResult 2).log 0x0A03 13
      [w32 (Port.num q.proposer + 2 ^ 8 * leAt q.bytes 0 1), q.nonce, q.digest, w32 z.security.refused]).takeRaised)
    ∧ (z.now < q.endsAt → p = q.proposer ∨ z.security.csNonce ≠ q.nonce ∨ d ≠ q.digest →
      exec (.countersign p d) s = .next { z with security := { z.security with
        refused := min 0xFFFF (z.security.refused + 1) } })
    ∧ (z.now < q.endsAt → p ≠ q.proposer → z.security.csNonce = q.nonce → d = q.digest →
      (z.proposalInUse q.bytes = true → exec (.countersign p d) s = .next ((z.endProposal q).csResult 4))
      ∧ (z.proposalInUse q.bytes = false → z.proposalLoan q.bytes = true →
        exec (.countersign p d) s = .next ((z.endProposal q).csResult 5))
      ∧ (z.proposalInUse q.bytes = false → z.proposalLoan q.bytes = false →
        exec (.countersign p d) s =
          if leAt q.bytes 0 1 = 1 ∧ z.removedShelves q.bytes ≠ 0 then
            .next { z with security := { z.security with proposal := none, applying := some q } }
          else .next (z.applyProposal q).takeRaised))

/-- The change of an applied proposal (R341 to R343), at its countersign or, for a TENANT proposal that takes shelves, at the end
of their clearing: a PRIVILEGE proposal sets the rights, the debug privilege and the views, a TENANT proposal the tenant's
partition, with the eyelets that change tenant zeroed, KEY_LOAD and KEY_ERASE a key slot, REC_ERASE discards the records; the
result is APPLIED, the nonce is kept against a replay, and the key staging is cleared. A key
staging word (R343): it is held, and the sixteenth of the words raises bit 1 of page SEC. -/
def Obligations.AppliedProposalsAndKeyWords : Prop :=
  (∀ (i : Instr) (s z : State) (q : Proposal),
    ((∃ p d, i = .countersign p d ∧ Writes s p R.SEC_CS_DIGEST d ∧ z = s.accessed p R.SEC_CS_DIGEST
        ∧ z.security.proposal = some q ∧ z.now < q.endsAt ∧ p ≠ q.proposer ∧ z.security.csNonce = q.nonce ∧ d = q.digest
        ∧ z.proposalInUse q.bytes = false ∧ z.proposalLoan q.bytes = false
        ∧ (leAt q.bytes 0 1 ≠ 1 ∨ z.removedShelves q.bytes = 0))
      ∨ (i = .shelfClearDone ∧ Runs s ∧ z = s ∧ s.security.applying = some q ∧ leAt q.bytes 0 1 = 1)) →
    z.port.queue = [] → z.port.stalled = [] →
    ∃ u : State, exec i s = .next u
      ∧ u.security.result = 1 ∧ u.security.applying = none ∧ u.security.proposal = none ∧ u.security.stage = []
      ∧ u.security.lastNonce = some q.nonce ∧ bitAt (u.page 3).raw.toNat 0 = true
      ∧ (leAt q.bytes 0 1 = 1 → u.security.parts = z.security.parts.set (tenantOfProposal q.bytes) (partOfProposal q.bytes)
          ∧ (∀ e, u.eyelet e = if e ∈ z.movedEyes q.bytes then ⟨0#32, 0#32, 0#32⟩ else z.eyelet e)
          ∧ u.security.privCtl = z.security.privCtl ∧ u.security.keys = z.security.keys)
      ∧ (leAt q.bytes 0 1 = 2 → u.security.keys = put z.security.keys (leAt q.bytes 1 1) ⟨z.stagedKey, w32 (leAt q.bytes 4 4)⟩
          ∧ u.security.parts = z.security.parts ∧ u.eyes = z.eyes)
      ∧ (leAt q.bytes 0 1 = 3 → u.security.keys = del z.security.keys (leAt q.bytes 1 1)
          ∧ u.security.parts = z.security.parts ∧ u.eyes = z.eyes)
      ∧ (leAt q.bytes 0 1 = 4 → u.security.privCtl.toNat = leAt q.bytes 8 8 ∧ u.security.privSec.toNat = leAt q.bytes 16 8
          ∧ u.security.privDbg.toNat = leAt q.bytes 24 8 ∧ u.security.dbgPriv = BitVec.ofNat 3 (leAt q.bytes 4 1)
          ∧ u.security.viewCtl = fld (leAt q.bytes 5 2) 0 3 ∧ u.security.viewSec = fld (leAt q.bytes 5 2) 4 3
          ∧ u.security.viewDbg = fld (leAt q.bytes 5 2) 8 3
          ∧ u.security.parts = z.security.parts ∧ u.security.keys = z.security.keys ∧ u.eyes = z.eyes)
      ∧ (leAt q.bytes 0 1 = 5 → u.recorder.tail = z.recorder.head ∧ u.recorder.eraseBelow = some z.recorder.head
          ∧ u.recorder.wrapped = false ∧ u.security.parts = z.security.parts ∧ u.security.keys = z.security.keys)
      ∧ (leAt q.bytes 0 1 ∈ [1, 2, 3, 4] → u.recorder = z.recorder))
  ∧ (∀ (n : Fin 16) (v : Word) (p : Port) (s z a : State), Writes s p (R.SEC_KEY_STAGE + 4 * n.val) v →
      z = s.accessed p (R.SEC_KEY_STAGE + 4 * n.val) →
      a = { z with security := { z.security with stage := put z.security.stage n.val v } } →
      exec (.keyStageWrite p n v) s = .next (if a.keyStaged ∧ !z.keyStaged then a.raise 0x03 2 else a))

/-! ### Power and resets -/

/-- POWER_STATE_CHOICE (R354, R356, R358, R361): of a quiescent instance under the automatic policy the state follows from the gap
E, whose bounds are 400 ns, 12 µs and 200 µs, under a fixed state it is that state; wake_at is the state's latency before the end of
the gap, or before the earliest event. NAP and DEEP lend the budget that they leave, which BUDGET_LENT and STATE_CHANGE record. Under
the performance policy, and while the instance is not quiescent, it is IDLE while no unit has work and else ACTIVE, which the
fixed state ACTIVE never leaves. -/
def Obligations.PowerStateFollowsTheGap : Prop :=
  ∀ (s : State), Stands s → s.clockRuns = true →
    (∀ (g e w : Nat) (st : Power) (z : State), s.policy ≠ 1 → s.quiescent = true →
      g = (match s.nextEvent with | some ev => min 0xFFFFFFFF (ev.2 - s.now) | none => 0xFFFFFFFF) →
      e = g - ceilDiv (g * fld (s.reg R.PWR_GUARD).toNat 0 6) 100 →
      st = (if s.policy = 2 then s.fixedState
        else if e < 40 then .idle else if e < 1200 then .doze else if e < 20000 then .nap else .deep) →
      w = (if s.policy = 2 then (match s.nextEvent with
          | some ev => max s.now (ev.2 - st.latency)
          | none => s.now + 0xFFFFFFFF)
        else s.now + e - st.latency) →
      z = { s with power := { s.power with
        gap := g, eff := e, src := (match s.nextEvent with | some ev => ev.1 | none => 0), chosen := st, state := st
        since := s.now, wakeAt := some w
        resid := s.power.resid.set (Power.num s.power.state)
          (s.power.resid.getD (Power.num s.power.state) 0 + (s.now - s.power.since)) } } →
      (st ≠ .nap → st ≠ .deep → exec .powerStateChoice s = .next z)
      ∧ (∀ mw d : Nat, st = .nap ∨ st = .deep → mw = s.power.budget - (if st = .nap then 900 else 600) →
        d = min 0xFFFFFFFF ((w - s.now) / 100) →
        exec .powerStateChoice s = .next (((({ z with
          out := { z.out with power := z.out.power ++ [BitVec.ofNat 64 (1 + 2 ^ 16 * mw + 2 ^ 32 * d)] }
          power := { z.power with lending := true, lent := mw, busUntil := max s.now s.power.busUntil + 1 } } : State).log
            0x0202 8 [w32 mw, w32 d, 0#32, 0#32]).log 0x0201 8
            [w32 (Power.num s.power.state + 2 ^ 3 * Power.num st), w32 g, 0#32, 0#32])).takeRaised))
    ∧ (s.policy = 1 ∨ s.quiescent = false →
      (s.noWork = true → ¬(s.policy = 2 ∧ s.fixedState = .active) → exec .powerStateChoice s = .next
        (if s.power.state = .idle then s else { s with power := { s.power with
          state := .idle, since := s.now, wakeAt := none
          resid := s.power.resid.set 0 (s.power.resid.getD 0 0 + (s.now - s.power.since)) } }))
      ∧ (s.noWork = false ∨ s.policy = 2 ∧ s.fixedState = .active → exec .powerStateChoice s = .next
        (if s.power.state = .idle then { s with power := { s.power with
          state := .active, since := s.now
          resid := s.power.resid.set 1 (s.power.resid.getD 1 0 + (s.now - s.power.since)) } } else s)))

/-- The wake (R283, R351, R352, R355 to R357, R361): at wake_at the timer begins it, or ends IDLE; an unplanned cause begins it at
once and is counted; a wait's timeout begins it as a source of the timer; it takes the latency of the state, and reclaims budget
that is lent; its end is ACTIVE, and what waited proceeds. A source that changes during the sleep moves wake_at, and one that is
then past wakes at once. -/
def Obligations.WakesTakeTheirLatency : Prop :=
  (∀ (s : State) (n : Nat), s.asleep = true → s.power.waking = none →
    s.beginWake n = (if s.power.lending = true then
        { s with
          out := { s.out with power := s.out.power ++ [BitVec.ofNat 64 (2 + 2 ^ 16 * s.power.lent)] }
          power := { s.power with
            lending := false, needAck := true, busUntil := max s.now s.power.busUntil + 1, trigger := n
            waking := some (s.now + s.power.state.latency) } }
      else { s with power := { s.power with trigger := n, waking := some (s.now + s.power.state.latency) } }))
  ∧ (∀ (s : State) (t : Nat), Stands s → s.power.wakeAt = some t →
    (s.asleep = true → s.power.waking = none → exec .nextEventTimer s = .next ((s.advanceTo t).beginWake 0))
    ∧ (s.power.state = .idle → exec .nextEventTimer s = .next ((s.advanceTo t).powerTo .active))
    ∧ (s.asleep = true → s.power.waking ≠ none → exec .nextEventTimer s = .next s))
  ∧ (∀ (s z : State) (c : WakeCause), Stands s → z = s.sample c →
    (s.wakeCauseHolds c = false → exec (.unplannedWake c) s = .next z)
    ∧ (s.wakeCauseHolds c = true →
      (s.asleep = true → s.power.waking = none →
        exec (.unplannedWake c) s = .next ((z.bump R.PWR_UNPLANNED 1).beginWake 1))
      ∧ (s.asleep = true → s.power.waking ≠ none → exec (.unplannedWake c) s = .next z)
      ∧ (s.power.state = .idle → exec (.unplannedWake c) s = .next ((z.bump R.PWR_UNPLANNED 1).powerTo .active))
      ∧ (s.power.state = .active → exec (.unplannedWake c) s = .next z)))
  ∧ (∀ (q : Fin 64) (k : BitVec 16) (s : State) (w : Wait), Stands s → s.asleep = true →
    firstDueWait (s.eyes.waits.filter (fun w => w.cmd.queue.val == q.val && w.cmd.ticket == k && w.due.isSome)) = some w →
    exec (.eyeWaitTimeout q k) s = .next ((({ s with power := { s.power with
      heldReqs := s.power.heldReqs ++ [.notice (.waitTimeout q.val k)] } } : State).advanceTo (w.due.getD 0)).beginWake 0))
  ∧ (∀ (s x : State) (t : Nat), Stands s → s.asleep = true → s.power.waking = some t →
    (s.power.needAck = true → exec .wakeComplete s = .next s)
    ∧ (s.power.needAck = false →
      x = { s with
        now := max s.now t
        power := { s.power with
          state := .active, since := max s.now t, waking := none
          resid := s.power.resid.set (Power.num s.power.state)
            (s.power.resid.getD (Power.num s.power.state) 0 + (max s.now t - s.power.since)) } } →
      exec .wakeComplete s = .next ((if s.power.state = .doze then x else x.log 0x0201 8
        [w32 (Power.num s.power.state), w32 s.power.gap, w32 s.power.trigger, 0#32]).proceedAll.drain).takeRaised))
  ∧ (∀ (s was z : State) (g e w : Nat), s.asleep = true → s.power.waking = none → s.events ≠ was.events →
    g = (match s.nextEvent with | some ev => min 0xFFFFFFFF (ev.2 - s.now) | none => 0xFFFFFFFF) →
    e = g - ceilDiv (g * fld (s.reg R.PWR_GUARD).toNat 0 6) 100 →
    w = (if s.policy = 2 then (match s.nextEvent with
        | some ev => max s.now (ev.2 - s.power.state.latency)
        | none => s.now + 0xFFFFFFFF)
      else s.now + e - s.power.state.latency) →
    z = { s with power := { s.power with
      gap := g, eff := e, src := (match s.nextEvent with | some ev => ev.1 | none => 0), wakeAt := some w } } →
    s.movedFrom was = (if (s.policy ≠ 2 ∧ e < s.power.state.latency) ∨ w ≤ s.now then z.beginWake 0 else z))

/-- PWR_CTRL (R359, R378): OFF is refused, and nothing else changes, while a step is open, a slate is live, a loan is in
force or the instance is not quiescent; else the counters are first persisted, and at the end of that write, acknowledged or not,
the instance is no longer ready and OFF_READY is posted. A wake written while the instance sleeps begins the wake, else the state
is chosen again. The removal of power leaves the NV slots, but for one that is being written. RECLAIM_ACK, BUDGET_SET and
PWR_HINT (R355, R360, R361, R362): the acknowledgement lets a wake end, a budget is held between 6,000 and 18,000 mW, and a hint
is a source of the next-event timer. That OFF waits for the write to end is the model's choice (log entry 103). -/
def Obligations.OffBudgetAndHint : Prop :=
  (∀ (p : Port) (s z : State), Writes s p R.PWR_CTRL (w32 1) → z = s.accessed p R.PWR_CTRL → z.power.offPending = false →
    (z.mayGoOff = false → exec (.pwrOff p) s =
      .next (((z.setPower (fun q => { q with offRefused := true })).raise 0x02 2).movedFrom s))
    ∧ (∀ (i g : Nat), z.mayGoOff = true → i = z.recorder.nvTarget →
      g = (match nvAt z.recorder.nv (1 - i) with | some x => (x.gen + 1) % 2 ^ 32 | none => 1) →
      exec (.pwrOff p) s = .next (({ z with
        power := { z.power with offPending := true, offRefused := false }
        recorder := { z.recorder with
          nvPending := some (i, z.now, NvSlot.bytes ⟨z.optime, z.recorder.pcycles, g⟩) } } : State).movedFrom s)))
  ∧ (∀ (s : State) (i t : Nat) (x : List Byte), AocRuns s → s.power.offPending = true → s.recorder.nvPending = some (i, t, x) →
    (∃ u : State, exec .nvWriteAck s = .next u ∧ u.power.state = .off ∧ u.isReady = false ∧ u.outputsLive = false
      ∧ u.power.offPending = false ∧ u.out.power = s.out.power ++ [5#64] ∧ u.recorder.nv = s.recorder.nv.set i x
      ∧ u.lace.wires = [] ∧ u.lace.pulses = []
      ∧ { u with power := s.power, out := s.out, regs := s.regs, pages := s.pages, recorder := s.recorder
                 draws := s.draws, lace := s.lace } = s)
    ∧ (∃ u : State, exec .nvWriteTimeout s = .next u ∧ u.power.state = .off ∧ u.isReady = false ∧ u.outputsLive = false
      ∧ u.power.offPending = false ∧ u.out.power = s.out.power ++ [5#64] ∧ u.now = max s.now (t + 1000000)
      ∧ u.lace.wires = [] ∧ u.lace.pulses = []
      ∧ { u with now := s.now, power := s.power, out := s.out, regs := s.regs, pages := s.pages, recorder := s.recorder
                 draws := s.draws, lace := s.lace } = s))
  ∧ (∀ (p : Port) (s z : State), Writes s p R.PWR_CTRL (w32 2) → z = s.accessed p R.PWR_CTRL → z.power.offPending = false →
    z.power.state ≠ .off →
    (z.asleep = true → exec (.pwrWake p) s = .next ((if z.power.waking = none
      then (z.bump R.PWR_UNPLANNED 1).beginWake 1 else z).movedFrom s))
    ∧ (z.asleep = false → exec (.pwrWake p) s = .next (((z.powerTo .active).choosePower).movedFrom s).takeRaised))
  ∧ (∀ s : State, ∃ u, exec .powerRemoved s = .next u ∧ u.rst.powered = false ∧ u.isReady = false
    ∧ u.mem = s.mem ∧ u.die = s.die ∧ u.out = s.out ∧ u.pending = s.pending ∧ u.ledger = [] ∧ u.tenants = []
    ∧ u.regs = [] ∧ u.recorder.ring = []
    ∧ (s.recorder.nvPending = none → u.recorder.nv = s.recorder.nv)
    ∧ (∀ (i t : Nat) (x : List Byte), s.recorder.nvPending = some (i, t, x) → ∃ y : List Byte,
      u.recorder.nv = s.recorder.nv.set i y ∧ y.length = 16
        ∧ ∀ k < 16, y[k]? = some (x.getD k 0#8) ∨ y[k]? = some ((s.recorder.nv.getD i []).getD k 0#8)))
  ∧ (∀ s : State, AocRuns s → exec .reclaimAck s = .next { s with power := { s.power with needAck := false } })
  ∧ (∀ (mw : BitVec 16) (s : State), AocRuns s →
    exec (.budgetSet mw) s = .next { s with power := { s.power with budget := max 6000 (min 18000 mw.toNat) } })
  ∧ (∀ (p : Port) (v : Word) (s z : State), Writes s p R.PWR_HINT v → z = s.accessed p R.PWR_HINT →
    exec (.pwrHintWrite p v) s = .next (({ z.setReg R.PWR_HINT v with power := { z.power with
      hintAt := if v = 0#32 then none else some (z.now + 100 * v.toNat) } } : State).movedFrom s))

/-- Power-down of another domain (R225, R303, R317, R363 to R365, R374): a request starts the drain, wakes the instance for the
host domain, and is granted at once to an instance that sleeps; the drain's end starts a deferral, which POWERDOWN_DEFERRED
records with the number of transfers in flight, while a transfer of R364 has its deadline within PD_DEFER_MAX, and else grants;
the end of a deferral grants. A grant drops what is in flight to the domain: an outbound transfer leaves its slate to be placed
again, a return, a move or a fetch waits for the domain, a director's channel halts, and POWERDOWN_ABORTED_XFER records them; that
of the host domain detaches the host. A request that falls ends the handling: the transfers, writes and operations that waited for
the domain proceed. -/
def Obligations.PowerDownDrainsDefersAndGrants : Prop :=
  (∀ (d : Fin 4) (s : State), Stands s → (s.pd d.val).req = false →
    (d.val = 0 → exec (.pdRequest d) s =
      .next ((((s.raise 0x02 1).setPd d.val ⟨true, .drain, s.now⟩).rouse).movedFrom s))
    ∧ (d.val ≠ 0 → s.asleep = false → exec (.pdRequest d) s = .next ((s.raise 0x02 1).setPd d.val ⟨true, .drain, s.now⟩))
    ∧ (d.val ≠ 0 → s.asleep = true → exec (.pdRequest d) s =
      .next ((((s.raise 0x02 1).setPd d.val ⟨true, .none, s.now⟩).grant d.val).movedFrom s).takeRaised))
  ∧ (∀ (d : Fin 4) (s : State), s.recorder.raised = [] → s.isReady = false →
    exec (.pdRequest d) s = .next (s.setPd d.val ⟨true, .none, s.now⟩))
  ∧ (∀ (d : Fin 4) (s t y : State), Stands s → (s.pd d.val).phase = .drain →
    t = (if s.domainTxns d.val ≠ [] ∨ d.val = 3 ∧ s.peer.ops ≠ [] then s.advanceTo ((s.pd d.val).since + s.drainLimit) else s) →
    y = t.setPd d.val { s.pd d.val with phase := .defer, since := t.now } →
    (∀ x, nearest (y.deferring d.val) = some x → exec (.pdDrainEnd d) s = .next ((y.log 0x0203 8
      [w32 d.val, w32 (s.deferMax / 100), slateWord x.slate x.gen x.tenant,
        w32 (once ((s.domainTxns d.val).map (·.transfer))).length]).movedFrom s).takeRaised)
    ∧ (nearest (y.deferring d.val) = none → exec (.pdDrainEnd d) s = .next ((t.grant d.val).movedFrom s).takeRaised))
  ∧ (∀ (d : Fin 4) (s t : State), Stands s → (s.pd d.val).phase = .defer →
    t = (if s.deferring d.val = [] then s else s.advanceTo ((s.pd d.val).since + s.deferMax)) →
    exec (.pdDeferEnd d) s = .next ((t.grant d.val).movedFrom s).takeRaised)
  ∧ (∀ (d : Nat) (s y w : State) (ids : List Nat) (r : State × List Nat × Nat),
    ids = once (((s.domainTxns d).filter (fun t => !t.aborted)).map (·.transfer)) →
    y = { s.setPd d { s.pd d with phase := .granted } with
      movers := { s.movers with txns := s.movers.txns.filter (fun p => p.2.domain != some d) }
      peer := { s.peer with ops := if d = 3 then [] else s.peer.ops } } →
    r = ids.foldl (State.abortFor d) (y, [], 0) →
    w = (if ids = [] then r.1 else r.1.log 0x0204 8 [w32 d, w32 ids.length, w32 r.2.1.length, w32 r.2.2]) →
    s.grant d = (if d = 0 then w.detachHost 3 else w).tendJobs.drain)
  ∧ (∀ (d id n : Nat) (s : State) (l : List Nat) (x : Transfer), s.transfer id = some x →
    (x.kind = .out → State.abortFor d (s, l, n) id = ((s.endTransfer id 0).modTenant x.tenant (fun t =>
        { t with enOff := if t.enOff.contains x.tier then t.enOff else t.enOff ++ [x.tier] }),
      (if l.contains x.slate then l else x.slate :: l), n))
    ∧ (x.kind = .ret →
      State.abortFor d (s, l, n) id = (((s.removeTransfer id).startReturn x.slate x.deadline x.operandOf).waitForPower d, l, n))
    ∧ (x.kind = .move →
      State.abortFor d (s, l, n) id = (((s.cancelTransfer id).startMove x.slate x.deadline).waitForPower d, l, n))
    ∧ (x.kind = .prop →
      State.abortFor d (s, l, n) id = (((s.removeTransfer id).queueTransfer (s.rewound x)).waitForPower d, l, n))
    ∧ (∀ c, x.kind = .director → s.channelOf id = some c → State.abortFor d (s, l, n) id = (s.linkHalt c, l, n + 1)))
  ∧ (∀ (d : Fin 4) (s y z : State), s.recorder.raised = [] →
    y = { s.setPd d.val ⟨false, .none, s.now⟩ with movers := { s.movers with transfers := s.movers.transfers.map (fun p =>
      (p.1, if p.2.powerWait = some d.val then { p.2 with powerWait := none } else p.2)) } } →
    z = (y.power.heldWrites.filter (fun w => y.memOpen w.1)).foldl (fun (s : State) w => s.memWrite w.1 w.2)
      { y with power := { y.power with heldWrites := y.power.heldWrites.filter (fun w => !y.memOpen w.1) } } →
    exec (.pdRequestWithdrawn d) s = .next ((if d.val = 3
      then (once (z.peer.waitingOps.map (·.package))).foldl State.drainPeer z else z).movedFrom s).takeRaised)

/-- A power-on reset that boots from ROM and whose self-tests find nothing (R366, R369, R371, R375, R387): the instance
becomes READY and ACTIVE with cause bit 0 alone and the sampled straps; every unit is as the reset state has it, memory
outside the block is untouched where no write was in flight, and the power-cycle count has gone up by one. -/
def Obligations.PowerOnResetBootsFromRom : Prop :=
  ∀ (m : BitVec 2) (s : State), s.movers.txns = [] →
    ∃ u : State, exec (.powerOnReset 0#2 m cleanTest) s = .next u
      ∧ u.isReady = true ∧ u.power.state = .active ∧ u.power.budget = 18000
      ∧ u.rst.cause = 1#32 ∧ u.rst.bootSrc = 0#2 ∧ u.rst.clkMode = m ∧ u.rst.bootResult = 0
      ∧ (s.recorder.nvPending = none → u.recorder.pcycles =
          ((nvTaken s.recorder.nv).map (fun x => min 0xFFFF (x.2.count + 1))).getD 1)
      ∧ u.mem = s.mem ∧ u.die = s.die ∧ u.pending = s.pending
      ∧ { u with now := 0, recorder := Recorder.init, regs := [], pages := [], out := Outputs.init, power := PowerUnit.init
                 rst := ResetUnit.init, mem := [], die := Die.init, draws := 0, pending := [] } = State.reset

/-- sys_rst_n (R316, R366, R367, R369, R376), with whatever other sources act in its cycle: with no write in flight the instance
clears and boots again, with cause bit 1 and those of the other sources added; the straps, the debug logic but for the sequencer's
halt, and the recorder's stored records stay. With writes in flight it waits for their responses first, not READY. The end of the wait
(R316, R376): the writes that are still unanswered are dropped, each of their lines old or new, nothing else in memory changes, and
the instance clears and boots. -/
def Obligations.SystemResetWaitsClearsAndBoots : Prop :=
  (∀ (s : State) (also : List ResetSource) (c : Word), Runs s → s.rst.isolating = false →
      c = (((ResetSource.system :: also).filter s.sourceActs).map s.sourceBit).foldl (fun c b => c ||| w32 (2 ^ b.1)) s.rst.cause
        ||| (if ResetSource.watchdog ∈ also ∧ s.wdogCounts = true ∧ s.wdogAgain = true then 0x100#32 else 0#32) →
      (s.rst.bootSrc = 0#2 → s.outstandingWrites = [] →
        ∃ u : State, exec (.systemReset { cleanTest with also := also }) s = .next u
          ∧ u.isReady = true ∧ u.power.state = .active ∧ u.rst.cause = c
          ∧ u.rst.bootSrc = s.rst.bootSrc ∧ u.rst.clkMode = s.rst.clkMode
          ∧ u.recorder.ring = s.recorder.ring ∧ u.recorder.head = s.recorder.head
          ∧ { u.dbg with halted := s.dbg.halted } = s.dbg ∧ u.mem = s.mem ∧ u.die = s.die ∧ u.pending = s.pending
          ∧ { u with now := 0, recorder := Recorder.init, regs := [], pages := [], out := Outputs.init
                     power := PowerUnit.init, rst := ResetUnit.init, dbg := Debug.init, mem := [], die := Die.init
                     draws := 0, pending := [], port := CmdPort.init, lace := { u.lace with pulses := [] } } = State.reset)
      ∧ (s.outstandingWrites ≠ [] →
        ∃ u : State, exec (.systemReset { cleanTest with also := also }) s = .next u ∧ u.isReady = false ∧ u.rst.isolating = true
          ∧ u.rst.cause = c ∧ u.rst.writes = s.outstandingWrites ∧ u.rst.releasedAt = s.now ∧ u.mem = s.mem
          ∧ u.ledger = [] ∧ u.tenants = []))
  ∧ (∀ (s : State), s.rst.isolating = true → s.rst.bootSrc = 0#2 → s.rst.powered = true →
      s.power.offPosted = false → s.dbg.test = false →
      ∃ u : State, exec (.isolationDrainEnd cleanTest) s = .next u ∧ u.isReady = true ∧ u.rst.isolating = false
        ∧ u.rst.writes = [] ∧ (s.rst.writes = [] → u.mem = s.mem)
        ∧ (s.rst.writes ≠ [] → s.rst.releasedAt + 200 ≤ u.now)
        ∧ (∀ x, (∀ w ∈ s.rst.writes, x < w.addr ∨ w.addr + w.data.length ≤ x) → Memory.get u.mem x = Memory.get s.mem x)
        ∧ { u with now := s.now, recorder := s.recorder, regs := s.regs, pages := s.pages, out := s.out, mem := s.mem
                   power := s.power, rst := s.rst, dbg := s.dbg, draws := s.draws } = s)

/-- core_rst_n, RST_CMD and the first watchdog expiry (R366 to R368, R370): of the sources of one AOC cycle every one sets its cause
bit, and where none reaches the system level there is one core reset: the clicker starts again with every SEALED slate in
ascending index, each against the frame counter of its moment; the reset is counted and recorded once, by its lowest cause bit, and
the sequencer goes on; the rest of the instance is kept. RST_CMD without its key, or from the debug port, does nothing, nor does a
watchdog that does not count. A second watchdog expiry within the escalation time, like RST_CMD's value 2, reaches the system
level, with cause bit 8 as well. During another reset the sources of its level only set their bits. -/
def Obligations.CoreResetsAndWatchdog : Prop :=
  (∀ (s : State) (t : BootTest),
    exec .coreReset s = .next (s.resetBy [.core] cleanTest).takeRaised
    ∧ exec (.watchdogExpiry t) s = .next (s.resetBy (.watchdog :: t.also) t).takeRaised
    ∧ exec (.systemReset t) s = .next (s.resetBy (.system :: t.also) t).takeRaised)
  ∧ (∀ (p : Port) (v : Word) (t : BootTest) (s z : State), Writes s p R.RST_CMD v → z = s.accessed p R.RST_CMD →
    (fld v.toNat 16 16 ≠ 0xA5C3 ∨ fld v.toNat 0 2 = 0 ∨ fld v.toNat 0 2 = 3 →
      exec (.resetCommand p v t) s = .next (z.movedFrom s))
    ∧ (fld v.toNat 16 16 = 0xA5C3 → fld v.toNat 0 2 = 1 ∨ fld v.toNat 0 2 = 2 → exec (.resetCommand p v t) s =
      .next ((z.resetBy (.command p (fld v.toNat 0 2 == 2) :: t.also) t).movedFrom s).takeRaised))
  ∧ (∀ (s x : State) (xs ys : List ResetSource) (bits deep : List Nat) (t : BootTest), s.rst.powered = true →
    s.power.state ≠ .off → ys = xs.filter (fun r => match r with
      | .watchdog => s.wdogCounts
      | .command p _ => p != Port.debug
      | _ => true) →
    bits = ys.map (fun r => match r with
      | .system => 1
      | .core => 2
      | .watchdog => 3
      | .command p _ => if p = Port.control then 4 else 5) →
    deep = (ys.filter (fun r => match r with
      | .system => true
      | .core => false
      | .watchdog => s.wdogAgain
      | .command _ d => d)).map (fun r => (s.sourceBit r).1) →
    x = { s with rst := { s.rst with cause := bits.foldl (fun c b => c ||| w32 (2 ^ b)) s.rst.cause
      ||| (if ResetSource.watchdog ∈ ys ∧ s.wdogAgain = true then 0x100#32 else 0#32) } } →
    (ys = [] → s.resetBy xs t = s)
    ∧ (s.rst.phase = .ready → s.rst.isolating = false → deep ≠ [] →
      s.resetBy xs t = (if s.outstandingWrites = []
        then (x.beginIsolation.systemClear deep s.decoding []).finishSystem t
        else x.beginIsolation.systemClear deep s.decoding s.outstandingWrites))
    ∧ (s.rst.phase ≠ .ready ∨ s.rst.isolating = true → deep ≠ [] → (s.rst.isolating = false ∨ s.now ≠ s.rst.releasedAt) →
      s.resetBy xs t = x)
    ∧ (∀ (w y : State) (q : List Undecided), s.isReady = true → s.rst.isolating = false → ys ≠ [] → deep = [] → w = x.rouse →
      q = (s.liveSlates.filter (fun i => (s.slate i).state == .sealed)).map (fun i =>
        ⟨i, (s.slate i).gen, none, (s.clicker.queue.find? (fun u => u.slate == i)).bind (·.cmd)⟩) →
      y = (({ w.setReg R.RST_CORE_RESETS (w.reg R.RST_CORE_RESETS + 1#32) with
          clicker := { s.clicker with queue := q } } : State).log
        (match bits.foldl min 8 with | 2 => 0x0103 | 3 => 0x0104 | _ => 0x0105) 9
        (match bits.foldl min 8 with
          | 2 => [x.rst.cause, w32 s.decoding, w32 s.clicker.queue.length, 0#32]
          | 3 => [x.rst.cause, 0#32, w32 s.decoding, 0#32]
          | 4 => [x.rst.cause, 1#32, 0#32, 0#32]
          | _ => [x.rst.cause, 2#32, 0#32, 0#32])).takeHalt.drain →
      s.resetBy xs t = (if ResetSource.watchdog ∈ ys then { y with rst := { y.rst with wdogCoreAt := some s.now } } else y)))

/-- Boot by strap (R372, R375): the vendor's go with a good image in memory boots it, with a bad one says so; a valid image
of the sibling boots, its absence boots from ROM with boot_result 1. -/
def Obligations.BootFollowsTheStrap : Prop :=
  ∀ (s : State), AocRuns s → s.rst.phase = .boot →
    (s.rst.bootSrc = 2#2 →
      (∃ u, exec .siblingImageReceived s = .next u ∧ u.rst.phase = .ready ∧ u.rst.bootResult = s.rst.bootResult
          ∧ u.mem = s.mem ∧ u.ledger = s.ledger)
      ∧ ∃ u, exec .siblingBootTimeout s = .next u ∧ u.rst.phase = .ready ∧ u.rst.bootResult = 1 ∧ u.mem = s.mem
          ∧ u.ledger = s.ledger)
    ∧ (∀ (p : Port) (ext : List Host.Cell) (x z : State) (img : List Byte), s.rst.bootSrc = 1#2 → x = s.external ext →
      Writes x p R.RST_BOOT_CTRL 1#32 → z = x.accessed p R.RST_BOOT_CTRL →
      img = Memory.read x.mem (z.reg64 R.RST_BOOT_ADDR 0) (fld (z.reg R.RST_BOOT_BYTES).toNat 0 24) →
      (bootImageGood img = true → ∃ u, exec (.bootGo p ext) s = .next u ∧ u.rst.phase = .ready ∧ u.rst.bootResult = 0
        ∧ u.mem = x.mem ∧ u.ledger = s.ledger)
      ∧ (bootImageGood img = false →
        exec (.bootGo p ext) s = .next (({ z with rst := { s.rst with bootResult := 2 } } : State).movedFrom x)))

/-! ### Recorder and debug -/

/-- RECORD_STORE (R381, R383): the oldest record of the write queue takes the slot of its sequence number, and REC_HEAD advances;
a full ring loses its oldest record, which is counted; events that waited are taken while the queue has room, and what waited for
them at the boundary goes on. -/
def Obligations.RecordStoreFillsItsSlot : Prop :=
  ∀ (s a b c : State) (x : Rec) (q : List Rec), AocRuns s → s.recorder.queue = x :: q →
    a = { s with recorder := { s.recorder with
          queue := q, ring := put s.recorder.ring (x.seq % 8192) x, head := (s.recorder.head + 1) % 2 ^ 32
          tail := if s.recorder.held = 8192 then (s.recorder.tail + 1) % 2 ^ 32 else s.recorder.tail
          wrapped := s.recorder.wrapped || s.recorder.held == 8192 } } →
    b = (if s.recorder.held = 8192 then (a.setReg R.REC_OVERWRITTEN (s.reg R.REC_OVERWRITTEN + 1#32)).raise 0x1B 2 else a) →
    c = (if s.recorder.held < s.watermark ∧ s.watermark ≤ a.recorder.held then b.raise 0x1B 1 else b) →
    (s.recorder.waiting = [] → exec .recordStore s = .next c)
    ∧ (s.recorder.waiting ≠ [] → exec .recordStore s = .next (if s.isReady = true ∧ s.clockRuns = true
        then (c.takeWaiting 16).proceedAll.drain else c.takeWaiting 16).takeRaised)
    ∧ (∀ (e : Event) (l : List Event) (n : Nat), c.recorder.waiting = e :: l →
      c.takeWaiting (n + 1) = (if c.recorder.queue.length < 16
        then (({ c with recorder := { c.recorder with waiting := l } } : State).takeRec (c.recordOf e)).takeWaiting n else c))

/-- REC_TAIL (R390) written by the control port moves the tail within the stored records, any other write sets tail_reject;
REC_CURSOR (R389) takes any value; the end of an erase clears the records below its point (R391). The time service (R385): a
message sets the calendar counter, which never goes back; after 10 ms without one the lock is lost. -/
def Obligations.RecorderRegistersEraseAndTime : Prop :=
  (∀ (p : Port) (v : Word) (s z : State), Writes s p R.REC_TAIL v → z = s.accessed p R.REC_TAIL →
    exec (.recTailWrite p v) s = .next (({ z with recorder := (
      if p = Port.control ∧ seqFrom s.recorder.tail v.toNat ≤ s.recorder.held
      then { s.recorder with tail := v.toNat, tailReject := false }
      else { s.recorder with tailReject := true }) } : State).movedFrom s))
  ∧ (∀ (p : Port) (v : Word) (s : State), Writes s p R.REC_CURSOR v →
    exec (.recCursorWrite p v) s = .next (((s.accessed p R.REC_CURSOR).setReg R.REC_CURSOR v).movedFrom s))
  ∧ (∀ (s : State) (h : Nat), AocRuns s → s.recorder.eraseBelow = some h →
    exec .recEraseEnd s = .next { s with recorder := { s.recorder with
      eraseBelow := none, ring := s.recorder.ring.filter (fun p => decide (seqFrom h p.2.seq < 2 ^ 31)) } })
  ∧ (∀ (ns : BitVec 64) (s : State), AocRuns s →
    exec (.timeMessage ns) s = .next { s with recorder := { s.recorder with
      calNs := max s.calendar ns.toNat, calAt := s.now, calRef := ns.toNat, calMsgAt := some s.now, timeLocked := true } })
  ∧ (∀ (s : State) (t : Nat), AocRuns s → s.recorder.timeLocked = true → s.recorder.calMsgAt = some t →
    exec .timeLockLost s = .next { s with now := max s.now (t + 1000000), recorder := { s.recorder with timeLocked := false } })

/-- The NV store (R386 to R388): a slot is 16 bytes, whose CRC a read checks; the counters go to the slot not taken or last written,
with the next generation; an acknowledged slot holds them; without an acknowledgement for 10 ms the write has failed, and each byte
of the slot is an old or a new one, which R388 leaves open. -/
def Obligations.PersistenceWritesTheOtherSlot : Prop :=
  (∀ x : NvSlot, x.bytes.length = 16
    ∧ (x.optime < 2 ^ 48 → x.count < 2 ^ 16 → x.gen < 2 ^ 32 → nvRead x.bytes = some x))
  ∧ (∀ (s z : State) (i g : Nat), AocRuns s → i = (if nvTaken s.recorder.nv = none then 0 else 1 - s.recorder.nvSlot) →
    g = (match nvAt s.recorder.nv (1 - i) with | some x => (x.gen + 1) % 2 ^ 32 | none => 1) →
    z = { s with now := max s.now s.persistAt } →
    exec .persistence s = .next (({ z with recorder := { s.recorder with
      nvPending := some (i, z.now, NvSlot.bytes ⟨z.optime, s.recorder.pcycles, g⟩) } } : State).movedFrom s))
  ∧ (∀ (s : State) (i t : Nat) (x : List Byte), AocRuns s → s.power.offPending = false → s.recorder.nvPending = some (i, t, x) →
    exec .nvWriteAck s = .next { s with recorder := { s.recorder with
      nv := s.recorder.nv.set i x, nvSlot := i, nvFail := false, nvPending := none } })
  ∧ (∀ (s : State) (i t : Nat) (x : List Byte), AocRuns s → s.power.offPending = false → s.recorder.nvPending = some (i, t, x) →
    ∃ y : List Byte, y.length = 16
      ∧ (∀ k < 16, y[k]? = some (x.getD k 0#8) ∨ y[k]? = some ((s.recorder.nv.getD i []).getD k 0#8))
      ∧ exec .nvWriteTimeout s = .next { s with now := max s.now (t + 1000000), draws := s.draws + 1, recorder := { s.recorder with
                nv := s.recorder.nv.set i y, nvFail := true, nvPending := none } })

/-- The debug unit (R394 to R397, R399, R411, R412): a halt waits for the clicker to be idle, a step decodes one command, or the next
one that can be decoded, a resume lets the queue drain; a test instruction takes the instance into test, and a scan under one loads
the register that it selects; a wrapper access runs as an access of the debug port; a loopback runs only where it is allowed, and its
end compares the CRC of the pattern with that of what arrived over its path. -/
def Obligations.DebugUnitHaltsTestsAndLoops : Prop :=
  (∀ (p : Port) (s y : State) (v : Nat), v = s.fieldsOf R.DBG_CTRL ||| 1 → Writes s p R.DBG_CTRL (w32 v) →
    y = (s.accessed p R.DBG_CTRL).putFields R.DBG_CTRL 0x101 v →
    (y.clicker.queue = [] → y.dbg.halted = false → exec (.seqHalt p) s
      = .next ((({ y with dbg := { y.dbg with halted := true } } : State)).raise 0x1E 2).takeRaised)
    ∧ (y.clicker.queue ≠ [] ∨ y.dbg.halted = true → exec (.seqHalt p) s = .next y))
  ∧ (∀ (p : Port) (s y z : State) (v : Nat), v = s.fieldsOf R.DBG_CTRL ||| 2 → Writes s p R.DBG_CTRL (w32 v) →
    bitAt v 0 = true → y = (s.accessed p R.DBG_CTRL).putFields R.DBG_CTRL 0x101 v → y.dbg.halted = true →
    z = { y with dbg := { y.dbg with stepPending := true } } → z.seqRuns = true →
    (z.decodeNext.2 = true → exec (.seqStep p) s = .next
      ({ z.decodeNext.1 with dbg := { z.decodeNext.1.dbg with stepPending := false } } : State).takeRaised)
    ∧ (z.decodeNext.2 = false → exec (.seqStep p) s = .next z.decodeNext.1.takeRaised))
  ∧ (∀ (p : Port) (s y : State) (v : Nat), v = (s.reg R.DBG_CTRL).toNat &&& 0xFFFFFFFE → Writes s p R.DBG_CTRL (w32 v) →
    y = (s.accessed p R.DBG_CTRL).putFields R.DBG_CTRL 0x101 v →
    exec (.seqResume p) s = .next ((({ y with dbg := { y.dbg with halted := false, stepPending := false } } : State)).drain).takeRaised)
  ∧ (∀ (v k : BitVec 4) (scan : Option (BitVec 1904)) (s y z : State),
    k = (if v = 6#4 ∨ v = 7#4 ∨ 10#4 ≤ v then 0#4 else v) →
    y = { s with dbg := { s.dbg with wir := k, lbBusy := s.dbg.lbBusy && k == 9#4 } } →
    z = { y with
      out := { y.out with irqMessages := y.out.irqMessages ++ (if y.irqLine 0 && !s.irqLine 0 then [0] else [])
        ++ (if y.irqLine 1 && !s.irqLine 1 then [1] else []) }
      dbg := (match scan with
        | none => y.dbg
        | some w => if k = 1#4 ∨ k = 2#4 ∨ k = 3#4 then { y.dbg with wbr := w }
          else if k = 8#4 then y.dbg else { y.dbg with wby := w.getLsbD 0 }) } →
    (holding k = true → s.dbg.test = false → exec (.wirUpdate ⟨v, scan⟩) s
      = .next ((((({ z with dbg := { z.dbg with test := true } } : State)).poisonInFlight).refuseHeld)).takeRaised)
    ∧ (holding k = false ∨ s.dbg.test = true → exec (.wirUpdate ⟨v, scan⟩) s = .next z.takeRaised))
  ∧ (∀ s y : State, y = { s with dbg := { s.dbg with wir := 0#4, lbBusy := false } } → exec .wrapperReset s = .next ({ y with
      out := { y.out with irqMessages := y.out.irqMessages ++ (if y.irqLine 0 && !s.irqLine 0 then [0] else [])
        ++ (if y.irqLine 1 && !s.irqLine 1 then [1] else []) } } : State).takeRaised)
  ∧ (∀ (a : BitVec 20) (w : Bool) (d : Word) (s : State),
    (s.dbg.wir = 8#4 → exec (.wraUpdate a w d) s = .next (({ s with dbg := { s.dbg with
      wraAddr := a, wraWrite := w } } : State).wraRun (a.toNat / 4 * 4) w d).takeRaised)
    ∧ (s.dbg.wir ≠ 8#4 → exec (.wraUpdate a w d) s = .next s.takeRaised))
  ∧ (∀ (p : Port) (v : Word) (s y : State), Writes s p R.DBG_LB_CTRL (v ||| 16#32) →
    y = (s.accessed p R.DBG_LB_CTRL).putFields R.DBG_LB_CTRL 0xFFF0F (v ||| 16#32).toNat →
    (y.lbAllowed = false → exec (.loopbackGo p v) s = .next { y with dbg := { y.dbg with lbNotAllowed := true } })
    ∧ (y.lbAllowed = true → (y.lbKind = 0 ∨ y.dbg.lbBusy = true) → exec (.loopbackGo p v) s = .next y)
    ∧ (y.lbAllowed = true → y.lbKind ≠ 0 → y.dbg.lbBusy = false → exec (.loopbackGo p v) s = .next { y with dbg :=
        { y.dbg with lbBusy := true, lbDone := false, lbPass := false, lbNotAllowed := false, lbFail := 0 } }))
  ∧ (∀ (r : LoopResult) (s : State) (want : Word) (got : Nat → Word) (banks bad : List Nat), s.dbg.lbBusy = true →
    want = w32 (patternCrc s.lbPattern (s.reg R.DBG_LB_SEED).toNat s.lbBlocks) →
    got = (fun b => w32 (loopCrc s.lbKind s.lbPattern (s.reg R.DBG_LB_SEED).toNat s.lbBlocks (loopSeen r b))) →
    banks = (if s.lbKind = 1 then bitsOf (s.reg64 R.DBG_LB_BANKS 0) 48 else [0]) →
    bad = banks.filter (fun b => got b != want) →
    exec (.loopbackDone r) s = .next ((({ s with dbg :=
      { s.dbg with lbBusy := false, lbDone := true, lbPass := bad.isEmpty && !(s.lbKind == 3 && r.ackFault), lbExp := want,
                     lbFound := (match bad, banks with | b :: _, _ => got b | [], b :: _ => got b | [], [] => want),
                     lbFail := if s.lbKind = 1 then sumNat (bad.map (2 ^ ·)) else 0,
                     lbCycles := r.cycles } } : State)).raise 0x1E 1).takeRaised)
end

