-- ==== Sys2Proof/Laws/Keeps.lean ====
section
/-! SUPPORT. The relation Keeps: it is a preorder, and the record updates that do not touch what it speaks of have it. -/

namespace Sys2Proof.Machine

theorem Outputs.Extends.refl (a : Outputs) : a.Extends a :=
  ⟨List.prefix_refl _, List.prefix_refl _, List.prefix_refl _, List.prefix_refl _, List.prefix_refl _,
   List.prefix_refl _, List.prefix_refl _, List.prefix_refl _, List.prefix_refl _, Nat.le_refl _, List.prefix_refl _⟩

theorem Outputs.Extends.trans {a b c : Outputs} (h : a.Extends b) (k : b.Extends c) : a.Extends c :=
  ⟨h.1.trans k.1, h.2.trans k.2, h.3.trans k.3, h.4.trans k.4, h.5.trans k.5, h.6.trans k.6, h.7.trans k.7,
   h.8.trans k.8, h.9.trans k.9, Nat.le_trans h.10 k.10, h.11.trans k.11⟩

theorem Keeps.refl (a : State) : Keeps a a := ⟨rfl, rfl, Outputs.Extends.refl _, Nat.le_refl _, id⟩

theorem Keeps.trans {a b c : State} (h : Keeps a b) (k : Keeps b c) : Keeps a c :=
  ⟨k.1.trans h.1, k.2.trans h.2, h.3.trans k.3, Nat.le_trans h.4 k.4, fun w => k.5 (h.5 w)⟩

/-- Keeps speaks of the last five fields only. -/
theorem Keeps.upd_iff {z x : State} (now tenants ledger vault stitcher books banks retake continuity movers tiers services eyes
    lace pages latches regs security port clicker peer power rst debug recorder) :
    Keeps z ⟨now, tenants, ledger, vault, stitcher, books, banks, retake, continuity, movers, tiers, services, eyes, lace,
      pages, latches, regs, security, port, clicker, peer, power, rst, debug, recorder, x.die, x.mem, x.out, x.draws,
      x.pending⟩ ↔ Keeps z x := ⟨fun h => ⟨h.1, h.2, h.3, h.4, h.5⟩, fun h => ⟨h.1, h.2, h.3, h.4, h.5⟩⟩

/-- The same, where the outputs go on. -/
theorem Keeps.updOut {z x y : State} (h : Keeps z x) (hd : y.die = x.die) (hm : y.mem = x.mem) (ho : x.out.Extends y.out)
    (hw : y.draws = x.draws) (hp : y.pending = x.pending) : Keeps z y :=
  ⟨hp.trans h.1, hd.trans h.2, h.3.trans ho, hw ▸ h.4, fun w => hm ▸ h.5 w⟩

/-- An operation that can find no room. -/
theorem Keeps.getD {z x : State} {o : Option State} (h : Keeps z x) (k : ∀ v, o = some v → Keeps z v) : Keeps z (o.getD x) := by
  cases o with
  | none => exact h
  | some v => exact k v rfl

/-- A loop of steps each of which keeps. -/
theorem Keeps.foldl {α : Type} {z : State} (f : State → α → State) (hf : ∀ s a, Keeps z s → Keeps z (f s a)) (l : List α)
    (s : State) (h : Keeps z s) : Keeps z (l.foldl f s) := by
  induction l generalizing s with
  | nil => exact h
  | cons a r ih => exact ih _ (hf s a h)

/-- A loop that carries a state and something beside it. -/
theorem Keeps.foldlFst {α β : Type} {z : State} (f : State × β → α → State × β)
    (hf : ∀ p a, Keeps z p.1 → Keeps z (f p a).1) (l : List α) (p : State × β) (h : Keeps z p.1) :
    Keeps z (l.foldl f p).1 := by
  induction l generalizing p with
  | nil => exact h
  | cons a r ih => exact ih _ (hf p a h)

end Sys2Proof.Machine
end

