-- ==== Sys2Proof/Laws/Stores.lean ====
section
/-! SUPPORT. The sparse stores and memory: reading after a write, and the canonical form of memory. -/

namespace Sys2Proof.Machine

/-! ### Reading after a write -/

@[simp] theorem look_nil {α : Type} (j : Nat) : look ([] : NMap α) j = none := rfl

@[simp] theorem look_put_same {α : Type} (m : NMap α) (j : Nat) (x : α) : look (put m j x) j = some x := by
  induction m with
  | nil => simp [put, look]
  | cons p r ih =>
    obtain ⟨k, v⟩ := p
    simp only [put]
    split
    · simp [look]
    · split
      · simp [look]
      · rename_i h1 h2; simp [look, h2, ih]

theorem look_put_other {α : Type} (m : NMap α) (j k : Nat) (x : α) (h : k ≠ j) : look (put m j x) k = look m k := by
  induction m with
  | nil => simp [put, look, h]
  | cons p r ih =>
    obtain ⟨a, v⟩ := p
    simp only [put]
    split
    · simp [look, h]
    · split
      · rename_i h1 h2
        subst h2
        simp [look, h]
      · simp [look, ih]

theorem look_put {α : Type} (m : NMap α) (j k : Nat) (x : α) :
    look (put m j x) k = if k = j then some x else look m k := by
  split
  · next h => subst h; exact look_put_same m k x
  · next h => exact look_put_other m j k x h

@[simp] theorem look_del_same {α : Type} (m : NMap α) (j : Nat) : look (del m j) j = none := by
  induction m with
  | nil => rfl
  | cons p r ih =>
    obtain ⟨k, v⟩ := p
    simp only [del]
    split
    · exact ih
    · next h => simp [look, h, ih]

theorem look_del_other {α : Type} (m : NMap α) (j k : Nat) (h : k ≠ j) : look (del m j) k = look m k := by
  induction m with
  | nil => rfl
  | cons p r ih =>
    obtain ⟨a, v⟩ := p
    simp only [del]
    split
    · next e => subst e; simp [look, h, ih]
    · simp [look, ih]

theorem look_putD {α : Type} [DecidableEq α] (d : α) (m : NMap α) (j k : Nat) (x : α) :
    (look (putD d m j x) k).getD d = if k = j then x else (look m k).getD d := by
  unfold putD
  by_cases hx : x = d
  · rw [if_pos hx]
    by_cases hk : k = j
    · rw [if_pos hk, hk, look_del_same, hx]; rfl
    · rw [if_neg hk, look_del_other _ _ _ hk]
  · rw [if_neg hx, look_put]
    split <;> rfl

/-! ### Memory outside the block -/

namespace Memory

theorem get_set_same (m : NMap Byte) (a : Nat) (b : Byte) : get (set m a b) a = b := by
  unfold get set putD
  split
  · next h => simp [h]
  · simp

theorem get_set_other (m : NMap Byte) (a c : Nat) (b : Byte) (h : c ≠ a) : get (set m a b) c = get m c := by
  unfold get set putD
  split
  · rw [look_del_other m a c h]
  · rw [look_put_other m a c b h]

/-- A write leaves every byte outside it alone. -/
theorem get_write_other (bs : List Byte) : ∀ (m : NMap Byte) (a c : Nat), c < a ∨ a + bs.length ≤ c →
    get (write m a bs) c = get m c := by
  induction bs with
  | nil => intro m a c _; rfl
  | cons b r ih =>
    intro m a c h
    simp only [List.length_cons] at h
    simp only [write]
    rw [ih _ _ _ (by omega), get_set_other _ _ _ _ (by omega)]

/-- A write is read back. -/
theorem get_write_same (bs : List Byte) : ∀ (m : NMap Byte) (a i : Nat) (h : i < bs.length),
    get (write m a bs) (a + i) = bs[i] := by
  induction bs with
  | nil => intro m a i h; exact absurd h (Nat.not_lt_zero _)
  | cons b r ih =>
    intro m a i h
    simp only [write]
    cases i with
    | zero =>
      rw [get_write_other r _ _ _ (by omega), Nat.add_zero, get_set_same]; rfl
    | succ n =>
      have h' : n < r.length := by simpa using h
      have e : a + (n + 1) = (a + 1) + n := by omega
      rw [e, ih _ _ n h']; rfl

/-- The canonical form, said without recursion. -/
theorem wf_iff (m : NMap Byte) : wf m = true ↔ (m.map (·.1)).Pairwise (· < ·) ∧ ∀ p ∈ m, p.2 ≠ blank := by
  induction m with
  | nil => simp [wf]
  | cons p r ih =>
    obtain ⟨a, b⟩ := p
    cases r with
    | nil => simp [wf]
    | cons q t =>
      obtain ⟨a', b'⟩ := q
      simp only [wf, Bool.and_eq_true, bne_iff_ne, decide_eq_true_eq, ih, List.map_cons, List.pairwise_cons,
        List.mem_cons, forall_eq_or_imp]
      constructor
      · rintro ⟨⟨h1, h2⟩, ⟨h3, h4⟩, h5⟩
        exact ⟨⟨⟨h2, fun x hx => Nat.lt_trans h2 (h3 x hx)⟩, h3, h4⟩, h1, h5⟩
      · rintro ⟨⟨⟨h2, _⟩, h3, h4⟩, h1, h5⟩
        exact ⟨⟨h1, h2⟩, ⟨h3, h4⟩, h5⟩

theorem mem_put {α : Type} (m : NMap α) (j : Nat) (x : α) (p : Nat × α) (h : p ∈ put m j x) : p = (j, x) ∨ p ∈ m := by
  induction m with
  | nil => simpa [put] using h
  | cons q r ih =>
    obtain ⟨a, v⟩ := q
    simp only [put] at h
    split at h
    · simpa using h
    · split at h
      · rcases List.mem_cons.1 h with h | h
        · exact .inl h
        · exact .inr (List.mem_cons_of_mem _ h)
      · rcases List.mem_cons.1 h with h | h
        · exact .inr (h ▸ List.mem_cons_self)
        · exact (ih h).imp_right (List.mem_cons_of_mem _)

theorem mem_del {α : Type} (m : NMap α) (j : Nat) (p : Nat × α) (h : p ∈ del m j) : p ∈ m := by
  induction m with
  | nil => exact h
  | cons q r ih =>
    obtain ⟨a, v⟩ := q
    simp only [del] at h
    split at h
    · exact List.mem_cons_of_mem _ (ih h)
    · rcases List.mem_cons.1 h with h | h
      · exact h ▸ List.mem_cons_self
      · exact List.mem_cons_of_mem _ (ih h)

theorem rising_put {α : Type} (m : NMap α) (j : Nat) (x : α) (h : (m.map (·.1)).Pairwise (· < ·)) :
    ((put m j x).map (·.1)).Pairwise (· < ·) := by
  induction m with
  | nil => simp [put]
  | cons q r ih =>
    obtain ⟨a, v⟩ := q
    simp only [List.map_cons, List.pairwise_cons] at h
    simp only [put]
    split
    · next l =>
      simp only [List.map_cons, List.pairwise_cons, List.mem_cons, forall_eq_or_imp]
      exact ⟨⟨l, fun y hy => Nat.lt_trans l (h.1 y hy)⟩, h⟩
    · split
      · next l e => subst e; simpa using h
      · next l e =>
        simp only [List.map_cons, List.pairwise_cons]
        refine ⟨fun y hy => ?_, ih h.2⟩
        obtain ⟨p, hp, rfl⟩ := List.mem_map.1 hy
        rcases mem_put r j x p hp with rfl | hp
        · show a < j
          have e' : j ≠ a := e
          omega
        · exact h.1 _ (List.mem_map_of_mem hp)

theorem rising_del {α : Type} (m : NMap α) (j : Nat) (h : (m.map (·.1)).Pairwise (· < ·)) :
    ((del m j).map (·.1)).Pairwise (· < ·) := by
  induction m with
  | nil => exact h
  | cons q r ih =>
    obtain ⟨a, v⟩ := q
    simp only [List.map_cons, List.pairwise_cons] at h
    simp only [del]
    split
    · exact ih h.2
    · simp only [List.map_cons, List.pairwise_cons]
      refine ⟨fun y hy => ?_, ih h.2⟩
      obtain ⟨p, hp, rfl⟩ := List.mem_map.1 hy
      exact h.1 _ (List.mem_map_of_mem (mem_del r j p hp))

/-- Writing one byte keeps the canonical form. -/
theorem wf_set (m : NMap Byte) (a : Nat) (b : Byte) (h : wf m = true) : wf (set m a b) = true := by
  rw [wf_iff] at h ⊢
  unfold set putD
  split
  · exact ⟨rising_del m a h.1, fun p hp => h.2 p (mem_del m a p hp)⟩
  · next hb =>
    refine ⟨rising_put m a b h.1, fun p hp => ?_⟩
    rcases mem_put m a b p hp with rfl | hp
    · exact hb
    · exact h.2 p hp

/-- Writing bytes keeps the canonical form. -/
theorem wf_write (bs : List Byte) : ∀ (m : NMap Byte) (a : Nat), wf m = true → wf (write m a bs) = true := by
  induction bs with
  | nil => intro m a h; exact h
  | cons b r ih => intro m a h; exact ih _ _ (wf_set m a b h)

/-- What other masters write keeps the canonical form. -/
theorem wf_apply (cs : List Host.Cell) : ∀ m : NMap Byte, wf m = true → wf (apply m cs) = true := by
  induction cs with
  | nil => intro m h; exact h
  | cons c r ih => intro m h; exact ih _ (wf_set m c.1 c.2 h)

end Memory

end Sys2Proof.Machine
end

