-- ==== Sys2Proof/Laws/KeepsOps.lean ====
section
/-! SUPPORT. Every operation of Ops, Flags keeps what Keeps speaks of. -/

set_option linter.unusedTactic false
set_option linter.unreachableTactic false
set_option linter.unusedSimpArgs false

namespace Sys2Proof.Machine

theorem State.memWrite_keeps {z₀ : State} (s : State) (a : Nat) (bs : List Byte) (h : Keeps z₀ s) :
    Keeps z₀ (s.memWrite a bs) := ⟨h.1, h.2, h.3, h.4, fun w => Memory.wf_write bs _ a (h.5 w)⟩

theorem State.external_keeps {z₀ : State} (s : State) (ext : List Host.Cell) (h : Keeps z₀ s) : Keeps z₀ (s.external ext) :=
  ⟨h.1, h.2, h.3, h.4, fun w => Memory.wf_apply ext _ (h.5 w)⟩

theorem State.setKey_keeps {z₀ : State} (s : State) (k : Nat) (v : Word) (hk : Keeps z₀ s) : Keeps z₀ (State.setKey s k v) := by
  unfold State.setKey
  try dsimp only
  repeat' first
    | with_reducible assumption
    | simp only [Keeps.upd_iff]
    | (with_reducible apply Keeps.foldl)
    | (with_reducible apply Keeps.foldlFst)
    | intro _ _ _
    | split

theorem State.setReg_keeps {z₀ : State} (s : State) (addr : Nat) (v : Word) (hk : Keeps z₀ s) : Keeps z₀ (State.setReg s addr v) := by
  unfold State.setReg
  try dsimp only
  repeat' first
    | with_reducible assumption
    | simp only [Keeps.upd_iff]
    | with_reducible apply State.setKey_keeps
    | (with_reducible apply Keeps.foldl)
    | (with_reducible apply Keeps.foldlFst)
    | intro _ _ _
    | split

theorem State.setRegT_keeps {z₀ : State} (s : State) (addr t : Nat) (v : Word) (hk : Keeps z₀ s) : Keeps z₀ (State.setRegT s addr t v) := by
  unfold State.setRegT
  try dsimp only
  repeat' first
    | with_reducible assumption
    | simp only [Keeps.upd_iff]
    | with_reducible apply State.setKey_keeps
    | (with_reducible apply Keeps.foldl)
    | (with_reducible apply Keeps.foldlFst)
    | intro _ _ _
    | split

theorem State.setReg64_keeps {z₀ : State} (s : State) (addr t : Nat) (v : Nat) (hk : Keeps z₀ s) : Keeps z₀ (State.setReg64 s addr t v) := by
  unfold State.setReg64
  try dsimp only
  repeat' first
    | with_reducible assumption
    | simp only [Keeps.upd_iff]
    | with_reducible apply State.setRegT_keeps
    | (with_reducible apply Keeps.foldl)
    | (with_reducible apply Keeps.foldlFst)
    | intro _ _ _
    | split

theorem State.bump_keeps {z₀ : State} (s : State) (addr n : Nat) (hk : Keeps z₀ s) : Keeps z₀ (State.bump s addr n) := by
  unfold State.bump
  try dsimp only
  repeat' first
    | with_reducible assumption
    | simp only [Keeps.upd_iff]
    | with_reducible apply State.setReg_keeps
    | (with_reducible apply Keeps.foldl)
    | (with_reducible apply Keeps.foldlFst)
    | intro _ _ _
    | split

theorem State.bumpSat_keeps {z₀ : State} (s : State) (addr n : Nat) (hk : Keeps z₀ s) : Keeps z₀ (State.bumpSat s addr n) := by
  unfold State.bumpSat
  try dsimp only
  repeat' first
    | with_reducible assumption
    | simp only [Keeps.upd_iff]
    | with_reducible apply State.setReg_keeps
    | (with_reducible apply Keeps.foldl)
    | (with_reducible apply Keeps.foldlFst)
    | intro _ _ _
    | split

theorem State.bump64_keeps {z₀ : State} (s : State) (addr n : Nat) (hk : Keeps z₀ s) : Keeps z₀ (State.bump64 s addr n) := by
  unfold State.bump64
  try dsimp only
  repeat' first
    | with_reducible assumption
    | simp only [Keeps.upd_iff]
    | with_reducible apply State.setReg64_keeps
    | (with_reducible apply Keeps.foldl)
    | (with_reducible apply Keeps.foldlFst)
    | intro _ _ _
    | split

theorem State.setTenant_keeps {z₀ : State} (s : State) (t : Nat) (x : Tenant) (hk : Keeps z₀ s) : Keeps z₀ (State.setTenant s t x) := by
  unfold State.setTenant
  try dsimp only
  repeat' first
    | with_reducible assumption
    | simp only [Keeps.upd_iff]
    | (with_reducible apply Keeps.foldl)
    | (with_reducible apply Keeps.foldlFst)
    | intro _ _ _
    | split

theorem State.modTenant_keeps {z₀ : State} (s : State) (t : Nat) (f : Tenant → Tenant) (hk : Keeps z₀ s) : Keeps z₀ (State.modTenant s t f) := by
  unfold State.modTenant
  try dsimp only
  repeat' first
    | with_reducible assumption
    | simp only [Keeps.upd_iff]
    | with_reducible apply State.setTenant_keeps
    | (with_reducible apply Keeps.foldl)
    | (with_reducible apply Keeps.foldlFst)
    | intro _ _ _
    | split

theorem State.setSlate_keeps {z₀ : State} (s : State) (i : Nat) (x : Slate) (hk : Keeps z₀ s) : Keeps z₀ (State.setSlate s i x) := by
  unfold State.setSlate
  try dsimp only
  repeat' first
    | with_reducible assumption
    | simp only [Keeps.upd_iff]
    | (with_reducible apply Keeps.foldl)
    | (with_reducible apply Keeps.foldlFst)
    | intro _ _ _
    | split

theorem State.modSlate_keeps {z₀ : State} (s : State) (i : Nat) (f : Slate → Slate) (hk : Keeps z₀ s) : Keeps z₀ (State.modSlate s i f) := by
  unfold State.modSlate
  try dsimp only
  repeat' first
    | with_reducible assumption
    | simp only [Keeps.upd_iff]
    | with_reducible apply State.setSlate_keeps
    | (with_reducible apply Keeps.foldl)
    | (with_reducible apply Keeps.foldlFst)
    | intro _ _ _
    | split

theorem State.setExtent_keeps {z₀ : State} (s : State) (i : Nat) (x : Extent) (hk : Keeps z₀ s) : Keeps z₀ (State.setExtent s i x) := by
  unfold State.setExtent
  try dsimp only
  repeat' first
    | with_reducible assumption
    | simp only [Keeps.upd_iff]
    | (with_reducible apply Keeps.foldl)
    | (with_reducible apply Keeps.foldlFst)
    | intro _ _ _
    | split

theorem State.modExtent_keeps {z₀ : State} (s : State) (i : Nat) (f : Extent → Extent) (hk : Keeps z₀ s) : Keeps z₀ (State.modExtent s i f) := by
  unfold State.modExtent
  try dsimp only
  repeat' first
    | with_reducible assumption
    | simp only [Keeps.upd_iff]
    | with_reducible apply State.setExtent_keeps
    | (with_reducible apply Keeps.foldl)
    | (with_reducible apply Keeps.foldlFst)
    | intro _ _ _
    | split

theorem State.dropExtent_keeps {z₀ : State} (s : State) (i : Nat) (hk : Keeps z₀ s) : Keeps z₀ (State.dropExtent s i) := by
  unfold State.dropExtent
  try dsimp only
  repeat' first
    | with_reducible assumption
    | simp only [Keeps.upd_iff]
    | (with_reducible apply Keeps.foldl)
    | (with_reducible apply Keeps.foldlFst)
    | intro _ _ _
    | split

theorem State.setBank_keeps {z₀ : State} (s : State) (b : Nat) (x : Bank) (hk : Keeps z₀ s) : Keeps z₀ (State.setBank s b x) := by
  unfold State.setBank
  try dsimp only
  repeat' first
    | with_reducible assumption
    | simp only [Keeps.upd_iff]
    | (with_reducible apply Keeps.foldl)
    | (with_reducible apply Keeps.foldlFst)
    | intro _ _ _
    | split

theorem State.modBank_keeps {z₀ : State} (s : State) (b : Nat) (f : Bank → Bank) (hk : Keeps z₀ s) : Keeps z₀ (State.modBank s b f) := by
  unfold State.modBank
  try dsimp only
  repeat' first
    | with_reducible assumption
    | simp only [Keeps.upd_iff]
    | with_reducible apply State.setBank_keeps
    | (with_reducible apply Keeps.foldl)
    | (with_reducible apply Keeps.foldlFst)
    | intro _ _ _
    | split

theorem State.setChan_keeps {z₀ : State} (s : State) (c : Nat) (x : Chan) (hk : Keeps z₀ s) : Keeps z₀ (State.setChan s c x) := by
  unfold State.setChan
  try dsimp only
  repeat' first
    | with_reducible assumption
    | simp only [Keeps.upd_iff]
    | (with_reducible apply Keeps.foldl)
    | (with_reducible apply Keeps.foldlFst)
    | intro _ _ _
    | split

theorem State.modChan_keeps {z₀ : State} (s : State) (c : Nat) (f : Chan → Chan) (hk : Keeps z₀ s) : Keeps z₀ (State.modChan s c f) := by
  unfold State.modChan
  try dsimp only
  repeat' first
    | with_reducible assumption
    | simp only [Keeps.upd_iff]
    | with_reducible apply State.setChan_keeps
    | (with_reducible apply Keeps.foldl)
    | (with_reducible apply Keeps.foldlFst)
    | intro _ _ _
    | split

theorem State.setPage_keeps {z₀ : State} (s : State) (p : Nat) (x : Page) (hk : Keeps z₀ s) : Keeps z₀ (State.setPage s p x) := by
  unfold State.setPage
  try dsimp only
  repeat' first
    | with_reducible assumption
    | simp only [Keeps.upd_iff]
    | (with_reducible apply Keeps.foldl)
    | (with_reducible apply Keeps.foldlFst)
    | intro _ _ _
    | split

theorem State.modPage_keeps {z₀ : State} (s : State) (p : Nat) (f : Page → Page) (hk : Keeps z₀ s) : Keeps z₀ (State.modPage s p f) := by
  unfold State.modPage
  try dsimp only
  repeat' first
    | with_reducible assumption
    | simp only [Keeps.upd_iff]
    | with_reducible apply State.setPage_keeps
    | (with_reducible apply Keeps.foldl)
    | (with_reducible apply Keeps.foldlFst)
    | intro _ _ _
    | split

theorem State.setEyelet_keeps {z₀ : State} (s : State) (e : Nat) (x : Eyelet) (hk : Keeps z₀ s) : Keeps z₀ (State.setEyelet s e x) := by
  unfold State.setEyelet
  try dsimp only
  repeat' first
    | with_reducible assumption
    | simp only [Keeps.upd_iff]
    | (with_reducible apply Keeps.foldl)
    | (with_reducible apply Keeps.foldlFst)
    | intro _ _ _
    | split

theorem State.setWire_keeps {z₀ : State} (s : State) (n : Nat) (x : Wire) (hk : Keeps z₀ s) : Keeps z₀ (State.setWire s n x) := by
  unfold State.setWire
  try dsimp only
  repeat' first
    | with_reducible assumption
    | simp only [Keeps.upd_iff]
    | (with_reducible apply Keeps.foldl)
    | (with_reducible apply Keeps.foldlFst)
    | intro _ _ _
    | split

theorem State.setMeter_keeps {z₀ : State} (s : State) (k : Nat) (x : Meter) (hk : Keeps z₀ s) : Keeps z₀ (State.setMeter s k x) := by
  unfold State.setMeter
  try dsimp only
  repeat' first
    | with_reducible assumption
    | simp only [Keeps.upd_iff]
    | (with_reducible apply Keeps.foldl)
    | (with_reducible apply Keeps.foldlFst)
    | intro _ _ _
    | split

theorem State.setExposure_keeps {z₀ : State} (s : State) (k : Nat) (x : Exposure) (hk : Keeps z₀ s) : Keeps z₀ (State.setExposure s k x) := by
  unfold State.setExposure
  try dsimp only
  repeat' first
    | with_reducible assumption
    | simp only [Keeps.upd_iff]
    | (with_reducible apply Keeps.foldl)
    | (with_reducible apply Keeps.foldlFst)
    | intro _ _ _
    | split

theorem State.setGn_keeps {z₀ : State} (s : State) (g : Gn) (hk : Keeps z₀ s) : Keeps z₀ (State.setGn s g) := by
  unfold State.setGn
  try dsimp only
  repeat' first
    | with_reducible assumption
    | simp only [Keeps.upd_iff]
    | (with_reducible apply Keeps.foldl)
    | (with_reducible apply Keeps.foldlFst)
    | intro _ _ _
    | split

theorem State.setPd_keeps {z₀ : State} (s : State) (d : Nat) (x : Pd) (hk : Keeps z₀ s) : Keeps z₀ (State.setPd s d x) := by
  unfold State.setPd
  try dsimp only
  repeat' first
    | with_reducible assumption
    | simp only [Keeps.upd_iff]
    | (with_reducible apply Keeps.foldl)
    | (with_reducible apply Keeps.foldlFst)
    | intro _ _ _
    | split

theorem State.setPart_keeps {z₀ : State} (s : State) (t : Nat) (x : Partition) (hk : Keeps z₀ s) : Keeps z₀ (State.setPart s t x) := by
  unfold State.setPart
  try dsimp only
  repeat' first
    | with_reducible assumption
    | simp only [Keeps.upd_iff]
    | (with_reducible apply Keeps.foldl)
    | (with_reducible apply Keeps.foldlFst)
    | intro _ _ _
    | split

theorem State.setTransfer_keeps {z₀ : State} (s : State) (i : Nat) (x : Transfer) (hk : Keeps z₀ s) : Keeps z₀ (State.setTransfer s i x) := by
  unfold State.setTransfer
  try dsimp only
  repeat' first
    | with_reducible assumption
    | simp only [Keeps.upd_iff]
    | (with_reducible apply Keeps.foldl)
    | (with_reducible apply Keeps.foldlFst)
    | intro _ _ _
    | split

theorem State.dropTransfer_keeps {z₀ : State} (s : State) (i : Nat) (hk : Keeps z₀ s) : Keeps z₀ (State.dropTransfer s i) := by
  unfold State.dropTransfer
  try dsimp only
  repeat' first
    | with_reducible assumption
    | simp only [Keeps.upd_iff]
    | (with_reducible apply Keeps.foldl)
    | (with_reducible apply Keeps.foldlFst)
    | intro _ _ _
    | split

theorem State.unitWrite_keeps {z₀ : State} (s : State) (a : Nat) (bs : List Byte) (hk : Keeps z₀ s) : Keeps z₀ (State.unitWrite s a bs) := by
  unfold State.unitWrite
  try dsimp only
  repeat' first
    | with_reducible assumption
    | simp only [Keeps.upd_iff]
    | with_reducible apply State.memWrite_keeps
    | (with_reducible apply Keeps.foldl)
    | (with_reducible apply Keeps.foldlFst)
    | intro _ _ _
    | split

theorem State.flushWrites_keeps {z₀ : State} (s : State) (hk : Keeps z₀ s) : Keeps z₀ (State.flushWrites s) := by
  unfold State.flushWrites
  try dsimp only
  repeat' first
    | with_reducible assumption
    | simp only [Keeps.upd_iff]
    | with_reducible apply State.memWrite_keeps
    | (with_reducible apply Keeps.foldl)
    | (with_reducible apply Keeps.foldlFst)
    | intro _ _ _
    | split

theorem State.advanceTo_keeps {z₀ : State} (s : State) (t : Nat) (hk : Keeps z₀ s) : Keeps z₀ (State.advanceTo s t) := by
  unfold State.advanceTo
  try dsimp only
  repeat' first
    | with_reducible assumption
    | simp only [Keeps.upd_iff]
    | (with_reducible apply Keeps.foldl)
    | (with_reducible apply Keeps.foldlFst)
    | intro _ _ _
    | split

theorem State.draw_keeps {z₀ : State} (s : State) (h : Keeps z₀ s) : Keeps z₀ s.draw :=
  ⟨h.1, h.2, h.3, Nat.le_succ_of_le h.4, h.5⟩

theorem State.outCompletion_keeps {z₀ : State} (s : State) (c : Completion) (h : Keeps z₀ s) : Keeps z₀ (s.outCompletion c) :=
  ⟨h.1, h.2, h.3.trans ⟨List.prefix_append _ _, List.prefix_refl _, List.prefix_refl _, List.prefix_refl _, List.prefix_refl _, List.prefix_refl _, List.prefix_refl _, List.prefix_refl _, List.prefix_refl _, Nat.le_refl _, List.prefix_refl _⟩, h.4, h.5⟩

theorem State.outBeats_keeps {z₀ : State} (s : State) (b : Beats) (h : Keeps z₀ s) : Keeps z₀ (s.outBeats b) :=
  ⟨h.1, h.2, h.3.trans ⟨List.prefix_refl _, List.prefix_append _ _, List.prefix_refl _, List.prefix_refl _, List.prefix_refl _, List.prefix_refl _, List.prefix_refl _, List.prefix_refl _, List.prefix_refl _, Nat.le_refl _, List.prefix_refl _⟩, h.4, h.5⟩

theorem State.outPower_keeps {z₀ : State} (s : State) (m : Nat) (h : Keeps z₀ s) : Keeps z₀ (s.outPower m) :=
  ⟨h.1, h.2, h.3.trans ⟨List.prefix_refl _, List.prefix_refl _, List.prefix_refl _, List.prefix_refl _, List.prefix_refl _, List.prefix_append _ _, List.prefix_refl _, List.prefix_refl _, List.prefix_refl _, Nat.le_refl _, List.prefix_refl _⟩, h.4, h.5⟩

theorem State.outRead_keeps {z₀ : State} (s : State) (p : Port) (a : Nat) (v : Word) (h : Keeps z₀ s) : Keeps z₀ (s.outRead p a v) :=
  ⟨h.1, h.2, h.3.trans ⟨List.prefix_refl _, List.prefix_refl _, List.prefix_refl _, List.prefix_refl _, List.prefix_refl _, List.prefix_refl _, List.prefix_refl _, List.prefix_append _ _, List.prefix_refl _, Nat.le_refl _, List.prefix_refl _⟩, h.4, h.5⟩

theorem State.outAnswer_keeps {z₀ : State} (s : State) (a : PeerAnswer) (h : Keeps z₀ s) : Keeps z₀ (s.outAnswer a) :=
  ⟨h.1, h.2, h.3.trans ⟨List.prefix_refl _, List.prefix_refl _, List.prefix_refl _, List.prefix_refl _, List.prefix_append _ _, List.prefix_refl _, List.prefix_refl _, List.prefix_refl _, List.prefix_refl _, Nat.le_refl _, List.prefix_refl _⟩, h.4, h.5⟩

theorem State.outDescriptor_keeps {z₀ : State} (s : State) (q : Nat) (bs : List Byte) (h : Keeps z₀ s) : Keeps z₀ (s.outDescriptor q bs) :=
  ⟨h.1, h.2, h.3.trans ⟨List.prefix_refl _, List.prefix_refl _, List.prefix_append _ _, List.prefix_refl _, List.prefix_refl _, List.prefix_refl _, List.prefix_refl _, List.prefix_refl _, List.prefix_refl _, Nat.le_refl _, List.prefix_refl _⟩, h.4, h.5⟩

theorem State.outAccess_keeps {z₀ : State} (s : State) (a : MemAccess) (h : Keeps z₀ s) : Keeps z₀ (s.outAccess a) :=
  ⟨h.1, h.2, h.3.trans ⟨List.prefix_refl _, List.prefix_refl _, List.prefix_refl _, List.prefix_refl _, List.prefix_refl _, List.prefix_refl _, List.prefix_refl _, List.prefix_refl _, List.prefix_refl _, Nat.le_refl _, List.prefix_append _ _⟩, h.4, h.5⟩

theorem State.outPeerOp_keeps {z₀ : State} (s : State) (o : PeerOp) (h : Keeps z₀ s) : Keeps z₀ (s.outPeerOp o) :=
  ⟨h.1, h.2, h.3.trans ⟨List.prefix_refl _, List.prefix_refl _, List.prefix_refl _, List.prefix_append _ _, List.prefix_refl _, List.prefix_refl _, List.prefix_refl _, List.prefix_refl _, List.prefix_refl _, Nat.le_refl _, List.prefix_refl _⟩, h.4, h.5⟩

theorem State.outErrors_keeps {z₀ : State} (s : State) (n : Nat) (h : Keeps z₀ s) : Keeps z₀ (s.outErrors n) :=
  ⟨h.1, h.2, h.3.trans ⟨List.prefix_refl _, List.prefix_refl _, List.prefix_refl _, List.prefix_refl _, List.prefix_refl _, List.prefix_refl _, List.prefix_refl _, List.prefix_refl _, List.prefix_refl _, Nat.le_add_right _ _, List.prefix_refl _⟩, h.4, h.5⟩

theorem State.outError_keeps {z₀ : State} (s : State) (hk : Keeps z₀ s) : Keeps z₀ (State.outError s) := by
  unfold State.outError
  try dsimp only
  repeat' first
    | with_reducible assumption
    | simp only [Keeps.upd_iff]
    | with_reducible apply State.outErrors_keeps
    | (with_reducible apply Keeps.foldl)
    | (with_reducible apply Keeps.foldlFst)
    | intro _ _ _
    | split

theorem State.outRetireAck_keeps {z₀ : State} (s : State) (a : Nat) (h : Keeps z₀ s) : Keeps z₀ (s.outRetireAck a) :=
  ⟨h.1, h.2, h.3.trans ⟨List.prefix_refl _, List.prefix_refl _, List.prefix_refl _, List.prefix_refl _, List.prefix_refl _, List.prefix_refl _, List.prefix_refl _, List.prefix_refl _, List.prefix_append _ _, Nat.le_refl _, List.prefix_refl _⟩, h.4, h.5⟩

theorem State.noteIrq_keeps {z₀ : State} (s : State) (was0 was1 : Bool) (h : Keeps z₀ s) : Keeps z₀ (s.noteIrq was0 was1) := by
  refine ⟨h.1, h.2, h.3.trans ?_, h.4, h.5⟩
  refine ⟨List.prefix_refl _, List.prefix_refl _, List.prefix_refl _, List.prefix_refl _, List.prefix_refl _,
    List.prefix_refl _, ?_, List.prefix_refl _, List.prefix_refl _, Nat.le_refl _, List.prefix_refl _⟩
  simp [State.noteIrq]

theorem State.irqPage_keeps {z₀ : State} (s : State) (p : Nat) (f : Page → Page) (hk : Keeps z₀ s) : Keeps z₀ (State.irqPage s p f) := by
  unfold State.irqPage
  try dsimp only
  repeat' first
    | with_reducible assumption
    | simp only [Keeps.upd_iff]
    | with_reducible apply State.modPage_keeps
    | with_reducible apply State.noteIrq_keeps
    | (with_reducible apply Keeps.foldl)
    | (with_reducible apply Keeps.foldlFst)
    | intro _ _ _
    | split

theorem State.raise_keeps {z₀ : State} (s : State) (p : Nat) (bits : Nat) (hk : Keeps z₀ s) : Keeps z₀ (State.raise s p bits) := by
  unfold State.raise
  try dsimp only
  repeat' first
    | with_reducible assumption
    | simp only [Keeps.upd_iff]
    | with_reducible apply State.irqPage_keeps
    | (with_reducible apply Keeps.foldl)
    | (with_reducible apply Keeps.foldlFst)
    | intro _ _ _
    | split

theorem State.pageError_keeps {z₀ : State} (s : State) (p : Nat) (synd : Word) (addr : Nat) (hk : Keeps z₀ s) : Keeps z₀ (State.pageError s p synd addr) := by
  unfold State.pageError
  try dsimp only
  repeat' first
    | with_reducible assumption
    | simp only [Keeps.upd_iff]
    | with_reducible apply State.modPage_keeps
    | (with_reducible apply Keeps.foldl)
    | (with_reducible apply Keeps.foldlFst)
    | intro _ _ _
    | split

theorem State.takeRec_keeps {z₀ : State} (s : State) (x : Rec) (hk : Keeps z₀ s) : Keeps z₀ (State.takeRec s x) := by
  unfold State.takeRec
  try dsimp only
  repeat' first
    | with_reducible assumption
    | simp only [Keeps.upd_iff]
    | with_reducible apply State.setReg_keeps
    | (with_reducible apply Keeps.foldl)
    | (with_reducible apply Keeps.foldlFst)
    | intro _ _ _
    | split

theorem State.offerRec_keeps {z₀ : State} (s : State) (x : Rec) (hk : Keeps z₀ s) : Keeps z₀ (State.offerRec s x) := by
  unfold State.offerRec
  try dsimp only
  repeat' first
    | with_reducible assumption
    | simp only [Keeps.upd_iff]
    | with_reducible apply State.takeRec_keeps
    | (with_reducible apply Keeps.foldl)
    | (with_reducible apply Keeps.foldlFst)
    | intro _ _ _
    | split

theorem State.takeRaised_keeps {z₀ : State} (s : State) (hk : Keeps z₀ s) : Keeps z₀ (State.takeRaised s) := by
  unfold State.takeRaised
  try dsimp only
  repeat' first
    | with_reducible assumption
    | simp only [Keeps.upd_iff]
    | with_reducible apply State.offerRec_keeps
    | (with_reducible apply Keeps.foldl)
    | (with_reducible apply Keeps.foldlFst)
    | intro _ _ _
    | split

theorem State.raiseEvent_keeps {z₀ : State} (s : State) (e : Event) (hk : Keeps z₀ s) : Keeps z₀ (State.raiseEvent s e) := by
  unfold State.raiseEvent
  try dsimp only
  repeat' first
    | with_reducible assumption
    | simp only [Keeps.upd_iff]
    | (with_reducible apply Keeps.foldl)
    | (with_reducible apply Keeps.foldlFst)
    | intro _ _ _
    | split

theorem State.log_keeps {z₀ : State} (s : State) (code source : Nat) (params : List Word) (hk : Keeps z₀ s) : Keeps z₀ (State.log s code source params) := by
  unfold State.log
  try dsimp only
  repeat' first
    | with_reducible assumption
    | simp only [Keeps.upd_iff]
    | with_reducible apply State.raiseEvent_keeps
    | with_reducible apply State.bumpSat_keeps
    | with_reducible apply State.pageError_keeps
    | with_reducible apply State.raise_keeps
    | (with_reducible apply Keeps.foldl)
    | (with_reducible apply Keeps.foldlFst)
    | intro _ _ _
    | split

end Sys2Proof.Machine
end

