-- ==== Sys2Proof/Laws/KeepsSlates.lean ====
section
/-! SUPPORT. Every operation of Vault, Transfers, Slates, Reel, Clicker, Meter, Exposure, Stitcher keeps what Keeps speaks of. -/

set_option linter.unusedTactic false
set_option linter.unreachableTactic false
set_option linter.unusedSimpArgs false

namespace Sys2Proof.Machine

theorem State.takeUnits_keeps {z₀ v : State} {s : State} {i t n : Nat} (e : s.takeUnits i t n = some v) (h : Keeps z₀ s) : Keeps z₀ v := by
  induction n generalizing s with
  | zero => cases e; exact h
  | succ n ih =>
    unfold State.takeUnits at e
    dsimp only at e
    split at e
    · cases e
    · exact ih e (State.draw_keeps _ (State.modExtent_keeps _ _ _ h))

theorem State.noteUnits_keeps {z₀ : State} (s : State) (t : Nat) (hk : Keeps z₀ s) : Keeps z₀ (State.noteUnits s t) := by
  unfold State.noteUnits
  try dsimp only
  repeat' first
    | with_reducible assumption
    | simp only [Keeps.upd_iff]
    | with_reducible apply State.setRegT_keeps
    | (with_reducible apply Keeps.foldl)
    | (with_reducible apply Keeps.foldlFst)
    | intro _ _ _
    | split

theorem State.fitUnits_keeps {z₀ v : State} {s : State} {i : Nat} (e : s.fitUnits i = some v) (h : Keeps z₀ s) : Keeps z₀ v := by
  unfold State.fitUnits at e
  dsimp only at e
  split at e
  · cases e; exact State.modExtent_keeps _ _ _ h
  · obtain ⟨w, hw, rfl⟩ := Option.map_eq_some_iff.1 e
    exact State.noteUnits_keeps _ _ (State.takeUnits_keeps hw h)

theorem State.placeBlock_keeps {z₀ v : State} {s : State} {i b : Nat} {img : List Byte} (e : s.placeBlock i b img = some v) (h : Keeps z₀ s) : Keeps z₀ v := by
  unfold State.placeBlock at e
  dsimp only at e
  split at e
  · split at e
    · cases e; exact State.setExtent_keeps _ _ _ h
    · exact State.fitUnits_keeps e (State.setExtent_keeps _ _ _ h)
  · exact State.fitUnits_keeps e (State.setExtent_keeps _ _ _ h)

theorem State.placeWork_keeps {z₀ v : State} {s : State} {i step b : Nat} {img : List Byte} (e : s.placeWork i step b img = some v) (h : Keeps z₀ s) : Keeps z₀ v := by
  exact State.fitUnits_keeps e (State.modExtent_keeps _ _ _ h)

theorem State.freeWork_keeps {z₀ : State} (s : State) (i : Nat) (f : Nat → Bool) (hk : Keeps z₀ s) : Keeps z₀ (State.freeWork s i f) := by
  unfold State.freeWork
  try dsimp only
  repeat' first
    | with_reducible assumption
    | simp only [Keeps.upd_iff]
    | with_reducible apply State.modExtent_keeps
    | refine State.fitUnits_keeps (by with_reducible assumption) ?_
    | with_reducible apply Keeps.getD
    | (intro v e; refine State.fitUnits_keeps e ?_)
    | (with_reducible apply Keeps.foldl)
    | (with_reducible apply Keeps.foldlFst)
    | intro _ _ _
    | split

theorem State.allocTier_keeps {z₀ v : State} {s : State} {i tier a : Nat} (e : s.allocTier i tier = some (v, a)) (h : Keeps z₀ s) :
    Keeps z₀ v := by
  unfold State.allocTier at e
  dsimp only at e
  split at e
  · cases e
  · split at e
    · cases e
    · cases e; exact Keeps.upd_iff .. |>.2 h

theorem State.ackNotices_keeps {z₀ : State} (s : State) (hk : Keeps z₀ s) : Keeps z₀ (State.ackNotices s) := by
  unfold State.ackNotices
  try dsimp only
  repeat' first
    | with_reducible assumption
    | simp only [Keeps.upd_iff]
    | with_reducible apply State.outRetireAck_keeps
    | (with_reducible apply Keeps.foldl)
    | (with_reducible apply Keeps.foldlFst)
    | intro _ _ _
    | split

theorem State.keepExtents_keeps {z₀ : State} (s : State) (f : TierExtent → Bool) (hk : Keeps z₀ s) : Keeps z₀ (State.keepExtents s f) := by
  unfold State.keepExtents
  try dsimp only
  repeat' first
    | with_reducible assumption
    | simp only [Keeps.upd_iff]
    | with_reducible apply State.ackNotices_keeps
    | (with_reducible apply Keeps.foldl)
    | (with_reducible apply Keeps.foldlFst)
    | intro _ _ _
    | split

theorem State.freeTierExtent_keeps {z₀ : State} (s : State) (tier base : Nat) (hk : Keeps z₀ s) : Keeps z₀ (State.freeTierExtent s tier base) := by
  unfold State.freeTierExtent
  try dsimp only
  repeat' first
    | with_reducible assumption
    | simp only [Keeps.upd_iff]
    | with_reducible apply State.keepExtents_keeps
    | (with_reducible apply Keeps.foldl)
    | (with_reducible apply Keeps.foldlFst)
    | intro _ _ _
    | split

theorem State.releaseExtents_keeps {z₀ : State} (s : State) (f : TierExtent → Bool) (hk : Keeps z₀ s) : Keeps z₀ (State.releaseExtents s f) := by
  unfold State.releaseExtents
  try dsimp only
  repeat' first
    | with_reducible assumption
    | simp only [Keeps.upd_iff]
    | with_reducible apply State.ackNotices_keeps
    | (with_reducible apply Keeps.foldl)
    | (with_reducible apply Keeps.foldlFst)
    | intro _ _ _
    | split

theorem State.retireTierExtent_keeps {z₀ : State} (s : State) (tier base : Nat) (hk : Keeps z₀ s) : Keeps z₀ (State.retireTierExtent s tier base) := by
  unfold State.retireTierExtent
  try dsimp only
  repeat' first
    | with_reducible assumption
    | simp only [Keeps.upd_iff]
    | with_reducible apply State.releaseExtents_keeps
    | (with_reducible apply Keeps.foldl)
    | (with_reducible apply Keeps.foldlFst)
    | intro _ _ _
    | split

theorem State.readLastUse_keeps {z₀ : State} (s : State) (tier base : Nat) (hk : Keeps z₀ s) : Keeps z₀ (State.readLastUse s tier base) := by
  unfold State.readLastUse
  try dsimp only
  repeat' first
    | with_reducible assumption
    | simp only [Keeps.upd_iff]
    | (with_reducible apply Keeps.foldl)
    | (with_reducible apply Keeps.foldlFst)
    | intro _ _ _
    | split

theorem State.queueTransfer_keeps {z₀ : State} (s : State) (x : Transfer) (hk : Keeps z₀ s) : Keeps z₀ (State.queueTransfer s x) := by
  unfold State.queueTransfer
  try dsimp only
  repeat' first
    | with_reducible assumption
    | simp only [Keeps.upd_iff]
    | (with_reducible apply Keeps.foldl)
    | (with_reducible apply Keeps.foldlFst)
    | intro _ _ _
    | split

theorem State.withExtent_keeps {z₀ : State} (s : State) (x : Transfer) (hk : Keeps z₀ s) : Keeps z₀ (State.withExtent s x).1 := by
  unfold State.withExtent
  try dsimp only
  repeat' first
    | with_reducible assumption
    | simp only [Keeps.upd_iff]
    | with_reducible apply State.bumpSat_keeps
    | refine State.allocTier_keeps (by with_reducible assumption) ?_
    | with_reducible apply Keeps.getD
    | (intro v e; refine State.allocTier_keeps e ?_)
    | (with_reducible apply Keeps.foldl)
    | (with_reducible apply Keeps.foldlFst)
    | intro _ _ _
    | split

theorem State.startOut_keeps {z₀ : State} (s : State) (i tier deadline : Nat) (hk : Keeps z₀ s) : Keeps z₀ (State.startOut s i tier deadline) := by
  unfold State.startOut
  try dsimp only
  repeat' first
    | with_reducible assumption
    | simp only [Keeps.upd_iff]
    | with_reducible apply State.blank_keeps
    | with_reducible apply State.withExtent_keeps
    | with_reducible apply State.modSlate_keeps
    | with_reducible apply State.queueTransfer_keeps
    | (with_reducible apply Keeps.foldl)
    | (with_reducible apply Keeps.foldlFst)
    | intro _ _ _
    | split

theorem State.startReturn_keeps {z₀ : State} (s : State) (i deadline : Nat) (operandOf : Option Nat) (hk : Keeps z₀ s) : Keeps z₀ (State.startReturn s i deadline operandOf) := by
  unfold State.startReturn
  try dsimp only
  repeat' first
    | with_reducible assumption
    | simp only [Keeps.upd_iff]
    | with_reducible apply State.blank_keeps
    | with_reducible apply State.modSlate_keeps
    | with_reducible apply State.setExtent_keeps
    | with_reducible apply State.queueTransfer_keeps
    | (with_reducible apply Keeps.foldl)
    | (with_reducible apply Keeps.foldlFst)
    | intro _ _ _
    | split

theorem State.startFill_keeps {z₀ : State} (s : State) (i : Nat) (fills : List (Nat × Nat)) (deadline : Nat) (step : Nat := 0) (hk : Keeps z₀ s) : Keeps z₀ (State.startFill s i fills deadline step) := by
  unfold State.startFill
  try dsimp only
  repeat' first
    | with_reducible assumption
    | simp only [Keeps.upd_iff]
    | with_reducible apply State.queueTransfer_keeps
    | with_reducible apply State.blank_keeps
    | (with_reducible apply Keeps.foldl)
    | (with_reducible apply Keeps.foldlFst)
    | intro _ _ _
    | split

theorem State.startMove_keeps {z₀ : State} (s : State) (i deadline : Nat) (hk : Keeps z₀ s) : Keeps z₀ (State.startMove s i deadline) := by
  unfold State.startMove
  try dsimp only
  repeat' first
    | with_reducible assumption
    | simp only [Keeps.upd_iff]
    | with_reducible apply State.blank_keeps
    | with_reducible apply State.withExtent_keeps
    | with_reducible apply State.queueTransfer_keeps
    | (with_reducible apply Keeps.foldl)
    | (with_reducible apply Keeps.foldlFst)
    | intro _ _ _
    | split

theorem State.abortTxns_keeps {z₀ : State} (s : State) (id : Nat) (f : Txn → Bool) (hk : Keeps z₀ s) : Keeps z₀ (State.abortTxns s id f) := by
  unfold State.abortTxns
  try dsimp only
  repeat' first
    | with_reducible assumption
    | simp only [Keeps.upd_iff]
    | (with_reducible apply Keeps.foldl)
    | (with_reducible apply Keeps.foldlFst)
    | intro _ _ _
    | split

theorem State.releaseChannel_keeps {z₀ : State} (s : State) (c : Nat) (hk : Keeps z₀ s) : Keeps z₀ (State.releaseChannel s c) := by
  unfold State.releaseChannel
  try dsimp only
  repeat' first
    | with_reducible assumption
    | simp only [Keeps.upd_iff]
    | with_reducible apply State.modChan_keeps
    | (with_reducible apply Keeps.foldl)
    | (with_reducible apply Keeps.foldlFst)
    | intro _ _ _
    | split

theorem State.removeTransfer_keeps {z₀ : State} (s : State) (id : Nat) (hk : Keeps z₀ s) : Keeps z₀ (State.removeTransfer s id) := by
  unfold State.removeTransfer
  try dsimp only
  repeat' first
    | with_reducible assumption
    | simp only [Keeps.upd_iff]
    | with_reducible apply State.abortTxns_keeps
    | with_reducible apply State.dropTransfer_keeps
    | with_reducible apply State.releaseChannel_keeps
    | (with_reducible apply Keeps.foldl)
    | (with_reducible apply Keeps.foldlFst)
    | intro _ _ _
    | split

theorem State.cancelTransfer_keeps {z₀ : State} (s : State) (id : Nat) (hk : Keeps z₀ s) : Keeps z₀ (State.cancelTransfer s id) := by
  unfold State.cancelTransfer
  try dsimp only
  repeat' first
    | with_reducible assumption
    | simp only [Keeps.upd_iff]
    | with_reducible apply State.removeTransfer_keeps
    | with_reducible apply State.freeTierExtent_keeps
    | (with_reducible apply Keeps.foldl)
    | (with_reducible apply Keeps.foldlFst)
    | intro _ _ _
    | split

theorem State.cancelSlate_keeps {z₀ : State} (s : State) (i : Nat) (hk : Keeps z₀ s) : Keeps z₀ (State.cancelSlate s i) := by
  unfold State.cancelSlate
  try dsimp only
  repeat' first
    | with_reducible assumption
    | simp only [Keeps.upd_iff]
    | with_reducible apply State.cancelTransfer_keeps
    | (with_reducible apply Keeps.foldl)
    | (with_reducible apply Keeps.foldlFst)
    | intro _ _ _
    | split

theorem State.report_keeps {z₀ : State} (s : State) (code source : Nat) (params : List Word) (page bit : Nat) (hk : Keeps z₀ s) : Keeps z₀ (State.report s code source params page bit) := by
  unfold State.report
  try dsimp only
  repeat' first
    | with_reducible assumption
    | simp only [Keeps.upd_iff]
    | with_reducible apply State.log_keeps
    | with_reducible apply State.raise_keeps
    | (with_reducible apply Keeps.foldl)
    | (with_reducible apply Keeps.foldlFst)
    | intro _ _ _
    | split

theorem State.portReject_keeps {z₀ : State} (s : State) (p0 p1 : Nat) (v : Word) (hk : Keeps z₀ s) : Keeps z₀ (State.portReject s p0 p1 v) := by
  unfold State.portReject
  try dsimp only
  repeat' first
    | with_reducible assumption
    | simp only [Keeps.upd_iff]
    | with_reducible apply State.bump_keeps
    | with_reducible apply State.report_keeps
    | with_reducible apply State.pageError_keeps
    | (with_reducible apply Keeps.foldl)
    | (with_reducible apply Keeps.foldlFst)
    | intro _ _ _
    | split

theorem State.logDup_keeps {z₀ : State} (s : State) (k : Ticket) (d : Completion) (hk : Keeps z₀ s) : Keeps z₀ (State.logDup s k d) := by
  unfold State.logDup
  try dsimp only
  repeat' first
    | with_reducible assumption
    | simp only [Keeps.upd_iff]
    | with_reducible apply State.bump_keeps
    | with_reducible apply State.log_keeps
    | (with_reducible apply Keeps.foldl)
    | (with_reducible apply Keeps.foldlFst)
    | intro _ _ _
    | split

theorem State.answerCopy_keeps {z₀ : State} (s : State) (k : Ticket) (d : Completion) (hk : Keeps z₀ s) : Keeps z₀ (State.answerCopy s k d) := by
  unfold State.answerCopy
  try dsimp only
  repeat' first
    | with_reducible assumption
    | simp only [Keeps.upd_iff]
    | with_reducible apply State.outCompletion_keeps
    | with_reducible apply State.logDup_keeps
    | (with_reducible apply Keeps.foldl)
    | (with_reducible apply Keeps.foldlFst)
    | intro _ _ _
    | split

theorem State.complete_keeps {z₀ : State} (s : State) (op : BitVec 8) (c : Cmd) (a : Answer) (hk : Keeps z₀ s) : Keeps z₀ (State.complete s op c a) := by
  unfold State.complete
  try dsimp only
  repeat' first
    | with_reducible assumption
    | simp only [Keeps.upd_iff]
    | with_reducible apply State.draw_keeps
    | with_reducible apply State.outCompletion_keeps
    | with_reducible apply State.answerCopy_keeps
    | (with_reducible apply Keeps.foldl)
    | (with_reducible apply Keeps.foldlFst)
    | intro _ _ _
    | split

theorem State.charge_keeps {z₀ : State} (s : State) (t tier g : Nat) (ranges : List (Nat × Nat)) (hk : Keeps z₀ s) : Keeps z₀ (State.charge s t tier g ranges) := by
  unfold State.charge
  try dsimp only
  repeat' first
    | with_reducible assumption
    | simp only [Keeps.upd_iff]
    | with_reducible apply State.modTenant_keeps
    | (with_reducible apply Keeps.foldl)
    | (with_reducible apply Keeps.foldlFst)
    | intro _ _ _
    | split

theorem State.uncharge_keeps {z₀ : State} (s : State) (t tier g : Nat) (ranges : List (Nat × Nat)) (fromBucket : Nat) (hk : Keeps z₀ s) : Keeps z₀ (State.uncharge s t tier g ranges fromBucket) := by
  unfold State.uncharge
  try dsimp only
  repeat' first
    | with_reducible assumption
    | simp only [Keeps.upd_iff]
    | with_reducible apply State.modTenant_keeps
    | (with_reducible apply Keeps.foldl)
    | (with_reducible apply Keeps.foldlFst)
    | intro _ _ _
    | split

theorem State.chargeSpans_keeps {z₀ : State} (s : State) (t tier g : Nat) (sp : List (Nat × Nat) × List (Nat × Nat)) (hk : Keeps z₀ s) : Keeps z₀ (State.chargeSpans s t tier g sp) := by
  unfold State.chargeSpans
  try dsimp only
  repeat' first
    | with_reducible assumption
    | simp only [Keeps.upd_iff]
    | with_reducible apply State.charge_keeps
    | (with_reducible apply Keeps.foldl)
    | (with_reducible apply Keeps.foldlFst)
    | intro _ _ _
    | split

theorem State.unchargeSlate_keeps {z₀ : State} (s : State) (i n : Nat) (hk : Keeps z₀ s) : Keeps z₀ (State.unchargeSlate s i n) := by
  unfold State.unchargeSlate
  try dsimp only
  repeat' first
    | with_reducible assumption
    | simp only [Keeps.upd_iff]
    | with_reducible apply State.uncharge_keeps
    | (with_reducible apply Keeps.foldl)
    | (with_reducible apply Keeps.foldlFst)
    | intro _ _ _
    | split

theorem State.note_keeps {z₀ : State} (s : State) (t e : Nat) (f : Trace → Trace) (hk : Keeps z₀ s) : Keeps z₀ (State.note s t e f) := by
  unfold State.note
  try dsimp only
  repeat' first
    | with_reducible assumption
    | simp only [Keeps.upd_iff]
    | with_reducible apply State.modTenant_keeps
    | (with_reducible apply Keeps.foldl)
    | (with_reducible apply Keeps.foldlFst)
    | intro _ _ _
    | split

theorem State.noteSlate_keeps {z₀ : State} (s : State) (i : Nat) (f : Trace → Trace) (hk : Keeps z₀ s) : Keeps z₀ (State.noteSlate s i f) := by
  unfold State.noteSlate
  try dsimp only
  repeat' first
    | with_reducible assumption
    | simp only [Keeps.upd_iff]
    | with_reducible apply State.note_keeps
    | (with_reducible apply Keeps.foldl)
    | (with_reducible apply Keeps.foldlFst)
    | intro _ _ _
    | split

theorem State.poisonReqs_keeps {z₀ : State} (s : State) (i : Nat) (hk : Keeps z₀ s) : Keeps z₀ (State.poisonReqs s i) := by
  unfold State.poisonReqs
  try dsimp only
  repeat' first
    | with_reducible assumption
    | simp only [Keeps.upd_iff]
    | (with_reducible apply Keeps.foldl)
    | (with_reducible apply Keeps.foldlFst)
    | intro _ _ _
    | split

theorem State.answerCalls_keeps {z₀ : State} (s : State) (i status result : Nat) (hk : Keeps z₀ s) : Keeps z₀ (State.answerCalls s i status result) := by
  unfold State.answerCalls
  try dsimp only
  repeat' first
    | with_reducible assumption
    | simp only [Keeps.upd_iff]
    | with_reducible apply State.modSlate_keeps
    | with_reducible apply State.complete_keeps
    | (with_reducible apply Keeps.foldl)
    | (with_reducible apply Keeps.foldlFst)
    | intro _ _ _
    | split

theorem State.freeSlate_keeps {z₀ : State} (s : State) (i : Nat) (hk : Keeps z₀ s) : Keeps z₀ (State.freeSlate s i) := by
  unfold State.freeSlate
  try dsimp only
  repeat' first
    | with_reducible assumption
    | simp only [Keeps.upd_iff]
    | with_reducible apply State.cancelSlate_keeps
    | with_reducible apply State.poisonReqs_keeps
    | with_reducible apply State.answerCalls_keeps
    | with_reducible apply State.poison_keeps
    | with_reducible apply State.releaseExtents_keeps
    | with_reducible apply State.complete_keeps
    | with_reducible apply State.dropExtent_keeps
    | with_reducible apply State.setSlate_keeps
    | (with_reducible apply Keeps.foldl)
    | (with_reducible apply Keeps.foldlFst)
    | intro _ _ _
    | split

theorem State.haltStep_keeps {z₀ : State} (s : State) (t : Nat) (hk : Keeps z₀ s) : Keeps z₀ (State.haltStep s t) := by
  unfold State.haltStep
  try dsimp only
  repeat' first
    | with_reducible assumption
    | simp only [Keeps.upd_iff]
    | with_reducible apply State.modTenant_keeps
    | (with_reducible apply Keeps.foldl)
    | (with_reducible apply Keeps.foldlFst)
    | intro _ _ _
    | split

theorem State.logLost_keeps {z₀ : State} (s : State) (slate t tag cause before tier : Nat) (hk : Keeps z₀ s) : Keeps z₀ (State.logLost s slate t tag cause before tier) := by
  unfold State.logLost
  try dsimp only
  repeat' first
    | with_reducible assumption
    | simp only [Keeps.upd_iff]
    | with_reducible apply State.bump_keeps
    | with_reducible apply State.log_keeps
    | with_reducible apply State.haltStep_keeps
    | (with_reducible apply Keeps.foldl)
    | (with_reducible apply Keeps.foldlFst)
    | intro _ _ _
    | split

theorem State.stopJob_keeps {z₀ : State} (s : State) (i : Nat) (hk : Keeps z₀ s) : Keeps z₀ (State.stopJob s i) := by
  unfold State.stopJob
  try dsimp only
  repeat' first
    | with_reducible assumption
    | simp only [Keeps.upd_iff]
    | (with_reducible apply Keeps.foldl)
    | (with_reducible apply Keeps.foldlFst)
    | intro _ _ _
    | split

theorem State.reapJobs_keeps {z₀ : State} (s : State) (hk : Keeps z₀ s) : Keeps z₀ (State.reapJobs s) := by
  unfold State.reapJobs
  try dsimp only
  repeat' first
    | with_reducible assumption
    | simp only [Keeps.upd_iff]
    | with_reducible apply State.freeSlate_keeps
    | (with_reducible apply Keeps.foldl)
    | (with_reducible apply Keeps.foldlFst)
    | intro _ _ _
    | split

theorem State.enterLost_keeps {z₀ : State} (s : State) (i cause : Nat) (hk : Keeps z₀ s) : Keeps z₀ (State.enterLost s i cause) := by
  unfold State.enterLost
  try dsimp only
  repeat' first
    | with_reducible assumption
    | simp only [Keeps.upd_iff]
    | with_reducible apply State.cancelSlate_keeps
    | with_reducible apply State.stopJob_keeps
    | with_reducible apply State.dropExtent_keeps
    | with_reducible apply State.reapJobs_keeps
    | with_reducible apply State.modSlate_keeps
    | with_reducible apply State.noteSlate_keeps
    | with_reducible apply State.poisonReqs_keeps
    | with_reducible apply State.logLost_keeps
    | with_reducible apply State.answerCalls_keeps
    | (with_reducible apply Keeps.foldl)
    | (with_reducible apply Keeps.foldlFst)
    | intro _ _ _
    | split

theorem State.wantJob_keeps {z₀ : State} (s : State) (i deadline : Nat) (hk : Keeps z₀ s) : Keeps z₀ (State.wantJob s i deadline) := by
  unfold State.wantJob
  try dsimp only
  repeat' first
    | with_reducible assumption
    | simp only [Keeps.upd_iff]
    | (with_reducible apply Keeps.foldl)
    | (with_reducible apply Keeps.foldlFst)
    | intro _ _ _
    | split

theorem State.recoverOrLose_keeps {z₀ : State} (s : State) (i cause : Nat) (next : SlateState) (hk : Keeps z₀ s) : Keeps z₀ (State.recoverOrLose s i cause next) := by
  unfold State.recoverOrLose
  try dsimp only
  repeat' first
    | with_reducible assumption
    | simp only [Keeps.upd_iff]
    | with_reducible apply State.enterLost_keeps
    | with_reducible apply State.cancelSlate_keeps
    | with_reducible apply State.dropExtent_keeps
    | with_reducible apply State.modSlate_keeps
    | with_reducible apply State.releaseExtents_keeps
    | with_reducible apply State.wantJob_keeps
    | (with_reducible apply Keeps.foldl)
    | (with_reducible apply Keeps.foldlFst)
    | intro _ _ _
    | split

theorem State.beginReturn_keeps {z₀ : State} (s : State) (i deadline : Nat) (operandOf : Option Nat) (hk : Keeps z₀ s) : Keeps z₀ (State.beginReturn s i deadline operandOf) := by
  unfold State.beginReturn
  try dsimp only
  repeat' first
    | with_reducible assumption
    | simp only [Keeps.upd_iff]
    | with_reducible apply State.modSlate_keeps
    | with_reducible apply State.setExtent_keeps
    | with_reducible apply State.recoverOrLose_keeps
    | with_reducible apply State.startReturn_keeps
    | (with_reducible apply Keeps.foldl)
    | (with_reducible apply Keeps.foldlFst)
    | intro _ _ _
    | split

theorem State.wantBook_keeps {z₀ : State} (s : State) (bank book : Nat) (hk : Keeps z₀ s) : Keeps z₀ (State.wantBook s bank book) := by
  unfold State.wantBook
  try dsimp only
  repeat' first
    | with_reducible assumption
    | simp only [Keeps.upd_iff]
    | (with_reducible apply Keeps.foldl)
    | (with_reducible apply Keeps.foldlFst)
    | intro _ _ _
    | split

theorem State.serveEngines_keeps {z₀ : State} (s : State) (i mask : Nat) (dor : Bool) (hk : Keeps z₀ s) : Keeps z₀ (State.serveEngines s i mask dor) := by
  unfold State.serveEngines
  try dsimp only
  repeat' first
    | with_reducible assumption
    | simp only [Keeps.upd_iff]
    | with_reducible apply State.wantBook_keeps
    | with_reducible apply State.startFill_keeps
    | with_reducible apply State.modSlate_keeps
    | (with_reducible apply Keeps.foldl)
    | (with_reducible apply Keeps.foldlFst)
    | intro _ _ _
    | split

theorem State.takePending_keeps {z₀ : State} (s : State) (i : Nat) (hk : Keeps z₀ s) : Keeps z₀ (State.takePending s i) := by
  unfold State.takePending
  try dsimp only
  repeat' first
    | with_reducible assumption
    | simp only [Keeps.upd_iff]
    | with_reducible apply State.modSlate_keeps
    | with_reducible apply State.serveEngines_keeps
    | with_reducible apply State.answerCalls_keeps
    | (with_reducible apply Keeps.foldl)
    | (with_reducible apply Keeps.foldlFst)
    | intro _ _ _
    | split

theorem State.enterReady_keeps {z₀ : State} (s : State) (i : Nat) (hk : Keeps z₀ s) : Keeps z₀ (State.enterReady s i) := by
  unfold State.enterReady
  try dsimp only
  repeat' first
    | with_reducible assumption
    | simp only [Keeps.upd_iff]
    | with_reducible apply State.modSlate_keeps
    | with_reducible apply State.noteSlate_keeps
    | with_reducible apply State.takePending_keeps
    | (with_reducible apply Keeps.foldl)
    | (with_reducible apply Keeps.foldlFst)
    | intro _ _ _
    | split

theorem State.moveBack_keeps {z₀ : State} (s : State) (i : Nat) (hk : Keeps z₀ s) : Keeps z₀ (State.moveBack s i) := by
  unfold State.moveBack
  try dsimp only
  repeat' first
    | with_reducible assumption
    | simp only [Keeps.upd_iff]
    | with_reducible apply State.cancelSlate_keeps
    | with_reducible apply State.enterReady_keeps
    | (with_reducible apply Keeps.foldl)
    | (with_reducible apply Keeps.foldlFst)
    | intro _ _ _
    | split

theorem State.backToSealed_keeps {z₀ : State} (s : State) (i : Nat) (hk : Keeps z₀ s) : Keeps z₀ (State.backToSealed s i) := by
  unfold State.backToSealed
  try dsimp only
  repeat' first
    | with_reducible assumption
    | simp only [Keeps.upd_iff]
    | with_reducible apply State.cancelSlate_keeps
    | with_reducible apply State.unchargeSlate_keeps
    | with_reducible apply State.modSlate_keeps
    | (with_reducible apply Keeps.foldl)
    | (with_reducible apply Keeps.foldlFst)
    | intro _ _ _
    | split

theorem State.tear_keeps {z₀ : State} (s : State) (i cause : Nat) (hk : Keeps z₀ s) : Keeps z₀ (State.tear s i cause) := by
  unfold State.tear
  try dsimp only
  repeat' first
    | with_reducible assumption
    | simp only [Keeps.upd_iff]
    | with_reducible apply State.noteSlate_keeps
    | with_reducible apply State.log_keeps
    | with_reducible apply State.freeSlate_keeps
    | (with_reducible apply Keeps.foldl)
    | (with_reducible apply Keeps.foldlFst)
    | intro _ _ _
    | split

theorem State.openRecord_keeps {z₀ : State} (s : State) (t e : Nat) (x : Entry) (inline : Bool) (mask : Nat) (hk : Keeps z₀ s) : Keeps z₀ (State.openRecord s t e x inline mask).1 := by
  unfold State.openRecord
  try dsimp only
  repeat' first
    | with_reducible assumption
    | simp only [Keeps.upd_iff]
    | with_reducible apply State.setSlate_keeps
    | with_reducible apply State.setExtent_keeps
    | with_reducible apply State.modTenant_keeps
    | (with_reducible apply Keeps.foldl)
    | (with_reducible apply Keeps.foldlFst)
    | intro _ _ _
    | split

theorem State.closeExtent_keeps {z₀ : State} (s : State) (i : Nat) (hk : Keeps z₀ s) : Keeps z₀ (State.closeExtent s i) := by
  unfold State.closeExtent
  try dsimp only
  repeat' first
    | with_reducible assumption
    | simp only [Keeps.upd_iff]
    | with_reducible apply State.modSlate_keeps
    | with_reducible apply State.bump64_keeps
    | (with_reducible apply Keeps.foldl)
    | (with_reducible apply Keeps.foldlFst)
    | intro _ _ _
    | split

theorem State.meterValues_keeps {z₀ : State} (s : State) (tag cls : Nat) (vs : List (Option (Nat × Int))) (hk : Keeps z₀ s) : Keeps z₀ (State.meterValues s tag cls vs) := by
  unfold State.meterValues
  try dsimp only
  repeat' first
    | with_reducible assumption
    | simp only [Keeps.upd_iff]
    | with_reducible apply State.setMeter_keeps
    | (with_reducible apply Keeps.foldl)
    | (with_reducible apply Keeps.foldlFst)
    | intro _ _ _
    | split

theorem State.meterBlock_keeps {z₀ : State} (s : State) (i b cls : Nat) (raw : List Byte) (book : List Byte) (hk : Keeps z₀ s) : Keeps z₀ (State.meterBlock s i b cls raw book) := by
  unfold State.meterBlock
  try dsimp only
  repeat' first
    | with_reducible assumption
    | simp only [Keeps.upd_iff]
    | with_reducible apply State.meterValues_keeps
    | (with_reducible apply Keeps.foldl)
    | (with_reducible apply Keeps.foldlFst)
    | intro _ _ _
    | split

theorem State.meterGranule_keeps {z₀ : State} (s : State) (c t : Nat) (bytes : List Byte) (hk : Keeps z₀ s) : Keeps z₀ (State.meterGranule s c t bytes) := by
  unfold State.meterGranule
  try dsimp only
  repeat' first
    | with_reducible assumption
    | simp only [Keeps.upd_iff]
    | with_reducible apply State.meterValues_keeps
    | (with_reducible apply Keeps.foldl)
    | (with_reducible apply Keeps.foldlFst)
    | intro _ _ _
    | split

theorem State.clearMeter_keeps {z₀ : State} (s : State) (hk : Keeps z₀ s) : Keeps z₀ (State.clearMeter s) := by
  unfold State.clearMeter
  try dsimp only
  repeat' first
    | with_reducible assumption
    | simp only [Keeps.upd_iff]
    | (with_reducible apply Keeps.foldl)
    | (with_reducible apply Keeps.foldlFst)
    | intro _ _ _
    | split

theorem State.setLaneJobs_keeps {z₀ : State} (s : State) (lane : Nat) (l : List LaneJob) (hk : Keeps z₀ s) : Keeps z₀ (State.setLaneJobs s lane l) := by
  unfold State.setLaneJobs
  try dsimp only
  repeat' first
    | with_reducible assumption
    | simp only [Keeps.upd_iff]
    | (with_reducible apply Keeps.foldl)
    | (with_reducible apply Keeps.foldlFst)
    | intro _ _ _
    | split

theorem State.handToLane_keeps {z₀ : State} (s : State) (lane : Nat) (j : LaneJob) (hk : Keeps z₀ s) : Keeps z₀ (State.handToLane s lane j) := by
  unfold State.handToLane
  try dsimp only
  repeat' first
    | with_reducible assumption
    | simp only [Keeps.upd_iff]
    | with_reducible apply State.setLaneJobs_keeps
    | (with_reducible apply Keeps.foldl)
    | (with_reducible apply Keeps.foldlFst)
    | intro _ _ _
    | split

theorem State.mapOutStitcher_keeps {z₀ : State} (s : State) (lane cause : Nat) (hk : Keeps z₀ s) : Keeps z₀ (State.mapOutStitcher s lane cause) := by
  unfold State.mapOutStitcher
  try dsimp only
  repeat' first
    | with_reducible assumption
    | simp only [Keeps.upd_iff]
    | with_reducible apply State.setLaneJobs_keeps
    | with_reducible apply State.report_keeps
    | with_reducible apply State.handToLane_keeps
    | (with_reducible apply Keeps.foldl)
    | (with_reducible apply Keeps.foldlFst)
    | intro _ _ _
    | split

theorem State.setTap_keeps {z₀ : State} (s : State) (tap : Nat) (b : Option TapBuf) (hk : Keeps z₀ s) : Keeps z₀ (State.setTap s tap b) := by
  unfold State.setTap
  try dsimp only
  repeat' first
    | with_reducible assumption
    | simp only [Keeps.upd_iff]
    | (with_reducible apply Keeps.foldl)
    | (with_reducible apply Keeps.foldlFst)
    | intro _ _ _
    | split

theorem State.noteTap_keeps {z₀ : State} (s : State) (lane tap : Nat) (hk : Keeps z₀ s) : Keeps z₀ (State.noteTap s lane tap) := by
  unfold State.noteTap
  try dsimp only
  repeat' first
    | with_reducible assumption
    | simp only [Keeps.upd_iff]
    | (with_reducible apply Keeps.foldl)
    | (with_reducible apply Keeps.foldlFst)
    | intro _ _ _
    | split

theorem State.tapBlock_keeps {z₀ : State} (s : State) (tap : Nat) (b : TapBuf) (hk : Keeps z₀ s) : Keeps z₀ (State.tapBlock s tap b) := by
  unfold State.tapBlock
  try dsimp only
  repeat' first
    | with_reducible assumption
    | simp only [Keeps.upd_iff]
    | with_reducible apply State.tear_keeps
    | with_reducible apply State.setTap_keeps
    | with_reducible apply State.handToLane_keeps
    | with_reducible apply State.noteTap_keeps
    | (with_reducible apply Keeps.foldl)
    | (with_reducible apply Keeps.foldlFst)
    | intro _ _ _
    | split

theorem State.acceptBeat_keeps {z₀ : State} (s : State) (tap slate gen block : Nat) (data : List Byte) (hk : Keeps z₀ s) : Keeps z₀ (State.acceptBeat s tap slate gen block data) := by
  unfold State.acceptBeat
  try dsimp only
  repeat' first
    | with_reducible assumption
    | simp only [Keeps.upd_iff]
    | with_reducible apply State.bump64_keeps
    | with_reducible apply State.setTap_keeps
    | with_reducible apply State.tapBlock_keeps
    | (with_reducible apply Keeps.foldl)
    | (with_reducible apply Keeps.foldlFst)
    | intro _ _ _
    | split

theorem State.setOffers_keeps {z₀ : State} (s : State) (tap : Nat) (l : List TapOffer) (hk : Keeps z₀ s) : Keeps z₀ (State.setOffers s tap l) := by
  unfold State.setOffers
  try dsimp only
  repeat' first
    | with_reducible assumption
    | simp only [Keeps.upd_iff]
    | (with_reducible apply Keeps.foldl)
    | (with_reducible apply Keeps.foldlFst)
    | intro _ _ _
    | split

theorem State.tapBeat_keeps {z₀ : State} (s : State) (tap slate gen block : Nat) (data : List Byte) (hk : Keeps z₀ s) : Keeps z₀ (State.tapBeat s tap slate gen block data) := by
  unfold State.tapBeat
  try dsimp only
  repeat' first
    | with_reducible assumption
    | simp only [Keeps.upd_iff]
    | with_reducible apply State.acceptBeat_keeps
    | with_reducible apply State.setOffers_keeps
    | (with_reducible apply Keeps.foldl)
    | (with_reducible apply Keeps.foldlFst)
    | intro _ _ _
    | split

theorem State.admitBeats_keeps {z₀ : State} (tap : Nat) (l : List TapOffer) :
    ∀ s : State, Keeps z₀ s → Keeps z₀ (s.admitBeats tap l) := by
  induction l with
  | nil => intro s h; exact State.setOffers_keeps _ _ _ h
  | cons o r ih =>
    intro s h
    unfold State.admitBeats
    split
    · exact State.setOffers_keeps _ _ _ h
    · exact ih _ (State.acceptBeat_keeps _ _ _ _ _ _ h)

theorem State.admitTaps_keeps {z₀ : State} (s : State) (hk : Keeps z₀ s) : Keeps z₀ (State.admitTaps s) := by
  unfold State.admitTaps
  try dsimp only
  repeat' first
    | with_reducible assumption
    | simp only [Keeps.upd_iff]
    | with_reducible apply State.admitBeats_keeps
    | (with_reducible apply Keeps.foldl)
    | (with_reducible apply Keeps.foldlFst)
    | intro _ _ _
    | split

theorem State.logCheck_keeps {z₀ : State} (s : State) (i block raw : Nat) (hk : Keeps z₀ s) : Keeps z₀ (State.logCheck s i block raw) := by
  unfold State.logCheck
  try dsimp only
  repeat' first
    | with_reducible assumption
    | simp only [Keeps.upd_iff]
    | with_reducible apply State.unitWrite_keeps
    | (with_reducible apply Keeps.foldl)
    | (with_reducible apply Keeps.foldlFst)
    | intro _ _ _
    | split

theorem State.poison_keeps {z₀ : State} (s : State) (i block : Nat) (hk : Keeps z₀ s) : Keeps z₀ (State.poison s i block) := by
  unfold State.poison
  try dsimp only
  repeat' first
    | with_reducible assumption
    | simp only [Keeps.upd_iff]
    | (with_reducible apply Keeps.foldl)
    | (with_reducible apply Keeps.foldlFst)
    | intro _ _ _
    | split

theorem State.mismatchPolicy_keeps {z₀ : State} (s : State) (i block : Nat) (hk : Keeps z₀ s) : Keeps z₀ (State.mismatchPolicy s i block) := by
  unfold State.mismatchPolicy
  try dsimp only
  repeat' first
    | with_reducible assumption
    | simp only [Keeps.upd_iff]
    | with_reducible apply State.enterLost_keeps
    | with_reducible apply State.haltStep_keeps
    | with_reducible apply State.poison_keeps
    | with_reducible apply State.modTenant_keeps
    | with_reducible apply State.raise_keeps
    | (with_reducible apply Keeps.foldl)
    | (with_reducible apply Keeps.foldlFst)
    | intro _ _ _
    | split

theorem State.compareCheck_keeps {z₀ : State} (s : State) (i block raw off : Nat) (ret : Bool) (lane : Nat) (hk : Keeps z₀ s) : Keeps z₀ (State.compareCheck s i block raw off ret lane) := by
  unfold State.compareCheck
  try dsimp only
  repeat' first
    | with_reducible assumption
    | simp only [Keeps.upd_iff]
    | with_reducible apply State.bump_keeps
    | with_reducible apply State.report_keeps
    | with_reducible apply State.pageError_keeps
    | with_reducible apply State.mismatchPolicy_keeps
    | (with_reducible apply Keeps.foldl)
    | (with_reducible apply Keeps.foldlFst)
    | intro _ _ _
    | split

theorem State.logBlockFail_keeps {z₀ : State} (s : State) (source i block stage bank expected computed : Nat) (hk : Keeps z₀ s) : Keeps z₀ (State.logBlockFail s source i block stage bank expected computed) := by
  unfold State.logBlockFail
  try dsimp only
  repeat' first
    | with_reducible assumption
    | simp only [Keeps.upd_iff]
    | with_reducible apply State.log_keeps
    | (with_reducible apply Keeps.foldl)
    | (with_reducible apply Keeps.foldlFst)
    | intro _ _ _
    | split

theorem State.verifyMismatch_keeps {z₀ : State} (s : State) (lane i block raw : Nat) (found : Word) (hk : Keeps z₀ s) : Keeps z₀ (State.verifyMismatch s lane i block raw found) := by
  unfold State.verifyMismatch
  try dsimp only
  repeat' first
    | with_reducible assumption
    | simp only [Keeps.upd_iff]
    | with_reducible apply State.bump_keeps
    | with_reducible apply State.logBlockFail_keeps
    | with_reducible apply State.raise_keeps
    | with_reducible apply State.mapOutStitcher_keeps
    | (with_reducible apply Keeps.foldl)
    | (with_reducible apply Keeps.foldlFst)
    | intro _ _ _
    | split

theorem State.countBlock_keeps {z₀ : State} (s : State) (c : Coded) (hk : Keeps z₀ s) : Keeps z₀ (State.countBlock s c) := by
  unfold State.countBlock
  try dsimp only
  repeat' first
    | with_reducible assumption
    | simp only [Keeps.upd_iff]
    | with_reducible apply State.bump_keeps
    | with_reducible apply State.bump64_keeps
    | with_reducible apply State.fallback_keeps
    | (with_reducible apply Keeps.foldl)
    | (with_reducible apply Keeps.foldlFst)
    | intro _ _ _
    | split

theorem State.commitForward_keeps {z₀ v : State} {s : State} {i block : Nat} {raw : List Byte} {c : Coded} (e : s.commitForward i block raw c = some v) (h : Keeps z₀ s) : Keeps z₀ v := by
  unfold State.commitForward at e
  obtain ⟨w, hw, rfl⟩ := Option.map_eq_some_iff.1 e
  have k := State.logCheck_keeps _ i block (crc32c raw) (State.countBlock_keeps _ c (State.modSlate_keeps _ i
    (fun r => { r with blocksWritten := r.blocksWritten + 1, rawFallback := r.rawFallback + b2n c.fallback })
    (State.placeBlock_keeps hw h)))
  dsimp only
  split
  · exact State.meterBlock_keeps _ _ _ _ _ _ k
  · exact k

theorem State.countStall_keeps {z₀ : State} (s : State) (since : Option Nat) (hk : Keeps z₀ s) : Keeps z₀ (State.countStall s since) := by
  unfold State.countStall
  try dsimp only
  repeat' first
    | with_reducible assumption
    | simp only [Keeps.upd_iff]
    | with_reducible apply State.bumpSat_keeps
    | (with_reducible apply Keeps.foldl)
    | (with_reducible apply Keeps.foldlFst)
    | intro _ _ _
    | split

theorem State.tallyLanes_keeps {z₀ : State} (s : State) (hk : Keeps z₀ s) : Keeps z₀ (State.tallyLanes s) := by
  unfold State.tallyLanes
  try dsimp only
  repeat' first
    | with_reducible assumption
    | simp only [Keeps.upd_iff]
    | with_reducible apply State.countStall_keeps
    | with_reducible apply State.setLaneJobs_keeps
    | (with_reducible apply Keeps.foldl)
    | (with_reducible apply Keeps.foldlFst)
    | intro _ _ _
    | split

theorem State.setInline_keeps {z₀ : State} (s : State) (i : Nat) (bs : List Byte) (hk : Keeps z₀ s) : Keeps z₀ (State.setInline s i bs) := by
  unfold State.setInline
  try dsimp only
  repeat' first
    | with_reducible assumption
    | simp only [Keeps.upd_iff]
    | (with_reducible apply Keeps.foldl)
    | (with_reducible apply Keeps.foldlFst)
    | intro _ _ _
    | split

theorem State.handInline_keeps {z₀ : State} (s : State) (i : Nat) (hk : Keeps z₀ s) : Keeps z₀ (State.handInline s i) := by
  unfold State.handInline
  try dsimp only
  repeat' first
    | with_reducible assumption
    | simp only [Keeps.upd_iff]
    | with_reducible apply State.modSlate_keeps
    | with_reducible apply State.handToLane_keeps
    | with_reducible apply State.bump64_keeps
    | (with_reducible apply Keeps.foldl)
    | (with_reducible apply Keeps.foldlFst)
    | intro _ _ _
    | split

theorem State.setReel_keeps {z₀ : State} (s : State) (t : Nat) (f : Reel → Reel) (hk : Keeps z₀ s) : Keeps z₀ (State.setReel s t f) := by
  unfold State.setReel
  try dsimp only
  repeat' first
    | with_reducible assumption
    | simp only [Keeps.upd_iff]
    | with_reducible apply State.modTenant_keeps
    | (with_reducible apply Keeps.foldl)
    | (with_reducible apply Keeps.foldlFst)
    | intro _ _ _
    | split

theorem State.writeReel_keeps {z₀ : State} (s : State) (t : Nat) (rec : List Byte) (last : Bool) (hk : Keeps z₀ s) : Keeps z₀ (State.writeReel s t rec last) := by
  unfold State.writeReel
  try dsimp only
  repeat' first
    | with_reducible assumption
    | simp only [Keeps.upd_iff]
    | with_reducible apply State.unitWrite_keeps
    | with_reducible apply State.setReel_keeps
    | with_reducible apply State.bump_keeps
    | with_reducible apply State.raise_keeps
    | (with_reducible apply Keeps.foldl)
    | (with_reducible apply Keeps.foldlFst)
    | intro _ _ _
    | split

theorem State.reelDecision_keeps {z₀ : State} (s : State) (t entry coded : Nat) (d : Decision) (hk : Keeps z₀ s) : Keeps z₀ (State.reelDecision s t entry coded d) := by
  unfold State.reelDecision
  try dsimp only
  repeat' first
    | with_reducible assumption
    | simp only [Keeps.upd_iff]
    | with_reducible apply State.writeReel_keeps
    | with_reducible apply State.fallback_keeps
    | (with_reducible apply Keeps.foldl)
    | (with_reducible apply Keeps.foldlFst)
    | intro _ _ _
    | split

theorem State.reelDemotion_keeps {z₀ : State} (s : State) (t entry bucket : Nat) (d : Decision) (hk : Keeps z₀ s) : Keeps z₀ (State.reelDemotion s t entry bucket d) := by
  unfold State.reelDemotion
  try dsimp only
  repeat' first
    | with_reducible assumption
    | simp only [Keeps.upd_iff]
    | with_reducible apply State.writeReel_keeps
    | (with_reducible apply Keeps.foldl)
    | (with_reducible apply Keeps.foldlFst)
    | intro _ _ _
    | split

theorem State.reelCheck_keeps {z₀ : State} (s : State) (i : Nat) (hk : Keeps z₀ s) : Keeps z₀ (State.reelCheck s i) := by
  unfold State.reelCheck
  try dsimp only
  repeat' first
    | with_reducible assumption
    | simp only [Keeps.upd_iff]
    | with_reducible apply State.writeReel_keeps
    | (with_reducible apply Keeps.foldl)
    | (with_reducible apply Keeps.foldlFst)
    | intro _ _ _
    | split

theorem State.advanceReel_keeps {z₀ : State} (s : State) (t : Nat) (hk : Keeps z₀ s) : Keeps z₀ (State.advanceReel s t) := by
  unfold State.advanceReel
  try dsimp only
  repeat' first
    | with_reducible assumption
    | simp only [Keeps.upd_iff]
    | with_reducible apply State.setReel_keeps
    | (with_reducible apply Keeps.foldl)
    | (with_reducible apply Keeps.foldlFst)
    | intro _ _ _
    | split

theorem State.replayMiss_keeps {z₀ : State} (s : State) (t : Nat) (hk : Keeps z₀ s) : Keeps z₀ (State.replayMiss s t) := by
  unfold State.replayMiss
  try dsimp only
  repeat' first
    | with_reducible assumption
    | simp only [Keeps.upd_iff]
    | with_reducible apply State.modTenant_keeps
    | with_reducible apply State.raise_keeps
    | (with_reducible apply Keeps.foldl)
    | (with_reducible apply Keeps.foldlFst)
    | intro _ _ _
    | split

theorem State.endPlay_keeps {z₀ : State} (s : State) (t : Nat) (hk : Keeps z₀ s) : Keeps z₀ (State.endPlay s t) := by
  unfold State.endPlay
  try dsimp only
  repeat' first
    | with_reducible assumption
    | simp only [Keeps.upd_iff]
    | with_reducible apply State.setReel_keeps
    | (with_reducible apply Keeps.foldl)
    | (with_reducible apply Keeps.foldlFst)
    | intro _ _ _
    | split

theorem State.playCheck_keeps {z₀ : State} (s : State) (i : Nat) (hk : Keeps z₀ s) : Keeps z₀ (State.playCheck s i) := by
  unfold State.playCheck
  try dsimp only
  repeat' first
    | with_reducible assumption
    | simp only [Keeps.upd_iff]
    | with_reducible apply State.draw_keeps
    | with_reducible apply State.setReel_keeps
    | with_reducible apply State.setReg_keeps
    | with_reducible apply State.pageError_keeps
    | with_reducible apply State.raise_keeps
    | (with_reducible apply Keeps.foldl)
    | (with_reducible apply Keeps.foldlFst)
    | intro _ _ _
    | split

theorem State.enterOutcome_keeps {z₀ : State} (s : State) (i : Nat) (d : Decision) (hk : Keeps z₀ s) : Keeps z₀ (State.enterOutcome s i d) := by
  unfold State.enterOutcome
  try dsimp only
  repeat' first
    | with_reducible assumption
    | simp only [Keeps.upd_iff]
    | with_reducible apply State.modSlate_keeps
    | with_reducible apply State.dropExtent_keeps
    | with_reducible apply State.startOut_keeps
    | (with_reducible apply Keeps.foldl)
    | (with_reducible apply Keeps.foldlFst)
    | intro _ _ _
    | split

theorem State.noteDecision_keeps {z₀ : State} (s : State) (i oe : Nat) (d : Decision) (hk : Keeps z₀ s) : Keeps z₀ (State.noteDecision s i oe d) := by
  unfold State.noteDecision
  try dsimp only
  repeat' first
    | with_reducible assumption
    | simp only [Keeps.upd_iff]
    | with_reducible apply State.modSlate_keeps
    | with_reducible apply State.noteSlate_keeps
    | with_reducible apply State.fallback_keeps
    | (with_reducible apply Keeps.foldl)
    | (with_reducible apply Keeps.foldlFst)
    | intro _ _ _
    | split

theorem State.commit_keeps {z₀ : State} (s : State) (i oe : Nat) (d : Decision) (hk : Keeps z₀ s) : Keeps z₀ (State.commit s i oe d) := by
  unfold State.commit
  try dsimp only
  repeat' first
    | with_reducible assumption
    | simp only [Keeps.upd_iff]
    | with_reducible apply State.chargeSpans_keeps
    | with_reducible apply State.noteDecision_keeps
    | with_reducible apply State.enterOutcome_keeps
    | with_reducible apply State.reelDecision_keeps
    | with_reducible apply State.fallback_keeps
    | (with_reducible apply Keeps.foldl)
    | (with_reducible apply Keeps.foldlFst)
    | intro _ _ _
    | split

theorem State.fallback_keeps {z₀ : State} (s : State) (i n : Nat) (forced : Bool) (hk : Keeps z₀ s) : Keeps z₀ (State.fallback s i n forced) := by
  unfold State.fallback
  try dsimp only
  repeat' first
    | with_reducible assumption
    | simp only [Keeps.upd_iff]
    | with_reducible apply State.bump_keeps
    | with_reducible apply State.modTenant_keeps
    | with_reducible apply State.commit_keeps
    | (with_reducible apply Keeps.foldl)
    | (with_reducible apply Keeps.foldlFst)
    | intro _ _ _
    | split

theorem State.demote_keeps {z₀ : State} (s : State) (i b : Nat) (oe : Nat) (d : Decision) (hk : Keeps z₀ s) : Keeps z₀ (State.demote s i b oe d) := by
  unfold State.demote
  try dsimp only
  repeat' first
    | with_reducible assumption
    | simp only [Keeps.upd_iff]
    | with_reducible apply State.unchargeSlate_keeps
    | with_reducible apply State.chargeSpans_keeps
    | with_reducible apply State.noteDecision_keeps
    | with_reducible apply State.enterOutcome_keeps
    | with_reducible apply State.noteSlate_keeps
    | with_reducible apply State.bump_keeps
    | with_reducible apply State.modTenant_keeps
    | with_reducible apply State.log_keeps
    | with_reducible apply State.pageError_keeps
    | with_reducible apply State.reelDemotion_keeps
    | (with_reducible apply Keeps.foldl)
    | (with_reducible apply Keeps.foldlFst)
    | intro _ _ _
    | split

theorem State.demoteFirst_keeps {z₀ v : State} {s : State} {t n b : Nat} {l : List Nat} (e : s.demoteFirst t n b l = some v) (h : Keeps z₀ s) : Keeps z₀ v := by
  induction l with
  | nil => cases e
  | cons i r ih =>
    unfold State.demoteFirst at e
    split at e
    · cases e; exact State.demote_keeps _ _ _ _ _ h
    · exact ih e

set_option maxRecDepth 20000 in
theorem State.recutLoop_keeps {z₀ : State} (t n : Nat) (fuel : Nat) : ∀ s : State, Keeps z₀ s → Keeps z₀ (s.recutLoop t n fuel) := by
  induction fuel with
  | zero => intro s h; exact h
  | succ fuel ih =>
    intro s h
    show Keeps z₀ (match s.overflowing t n with
      | none => s
      | some b => match s.demoteFirst t n b (s.recutCandidates t b) with
        | none => s
        | some s => s.recutLoop t n fuel)
    split
    · exact h
    · split
      · exact h
      · next hd => exact ih _ (State.demoteFirst_keeps hd h)

theorem State.noteOverflow_keeps {z₀ : State} (s : State) (t n : Nat) (hk : Keeps z₀ s) : Keeps z₀ (State.noteOverflow s t n) := by
  unfold State.noteOverflow
  try dsimp only
  repeat' first
    | with_reducible assumption
    | simp only [Keeps.upd_iff]
    | with_reducible apply State.modTenant_keeps
    | (with_reducible apply Keeps.foldl)
    | (with_reducible apply Keeps.foldlFst)
    | intro _ _ _
    | split

theorem State.recut_keeps {z₀ : State} (s : State) (t n : Nat) (hk : Keeps z₀ s) : Keeps z₀ (State.recut s t n) := by
  unfold State.recut
  try dsimp only
  repeat' first
    | with_reducible assumption
    | simp only [Keeps.upd_iff]
    | with_reducible apply State.recutLoop_keeps
    | with_reducible apply State.noteOverflow_keeps
    | with_reducible apply State.raise_keeps
    | (with_reducible apply Keeps.foldl)
    | (with_reducible apply Keeps.foldlFst)
    | intro _ _ _
    | split

theorem State.applyDemotions_keeps {z₀ : State} (t n : Nat) (l : List (List Byte)) :
    ∀ s : State, Keeps z₀ s → Keeps z₀ (s.applyDemotions t n l) := by
  induction l with
  | nil => intro s h; exact h
  | cons b r ih =>
    intro s h
    unfold State.applyDemotions
    dsimp only
    split
    · exact ih _ h
    · split
      · exact ih _ (State.demote_keeps _ _ _ _ _ (State.draw_keeps _ h))
      · exact ih _ (State.draw_keeps _ h)

theorem State.dropReservation_keeps {z₀ : State} (s : State) (i : Nat) (hk : Keeps z₀ s) : Keeps z₀ (State.dropReservation s i) := by
  unfold State.dropReservation
  try dsimp only
  repeat' first
    | with_reducible assumption
    | simp only [Keeps.upd_iff]
    | with_reducible apply State.uncharge_keeps
    | with_reducible apply State.modTenant_keeps
    | (with_reducible apply Keeps.foldl)
    | (with_reducible apply Keeps.foldlFst)
    | intro _ _ _
    | split

theorem State.decideFresh_keeps {z₀ : State} (s : State) (i n : Nat) (hk : Keeps z₀ s) : Keeps z₀ (State.decideFresh s i n) := by
  unfold State.decideFresh
  try dsimp only
  repeat' first
    | with_reducible assumption
    | simp only [Keeps.upd_iff]
    | with_reducible apply State.dropReservation_keeps
    | with_reducible apply State.commit_keeps
    | with_reducible apply State.fallback_keeps
    | (with_reducible apply Keeps.foldl)
    | (with_reducible apply Keeps.foldlFst)
    | intro _ _ _
    | split

theorem State.decideByReel_keeps {z₀ : State} (s : State) (i n : Nat) (b : List Byte) (dem : List (List Byte)) (hk : Keeps z₀ s) : Keeps z₀ (State.decideByReel s i n b dem) := by
  unfold State.decideByReel
  try dsimp only
  repeat' first
    | with_reducible assumption
    | simp only [Keeps.upd_iff]
    | with_reducible apply State.draw_keeps
    | with_reducible apply State.dropReservation_keeps
    | with_reducible apply State.advanceReel_keeps
    | with_reducible apply State.commit_keeps
    | with_reducible apply State.applyDemotions_keeps
    | (with_reducible apply Keeps.foldl)
    | (with_reducible apply Keeps.foldlFst)
    | intro _ _ _
    | split

theorem State.decideSlate_keeps {z₀ : State} (s : State) (i n : Nat) (hk : Keeps z₀ s) : Keeps z₀ (State.decideSlate s i n) := by
  unfold State.decideSlate
  try dsimp only
  repeat' first
    | with_reducible assumption
    | simp only [Keeps.upd_iff]
    | with_reducible apply State.bump_keeps
    | with_reducible apply State.decideFresh_keeps
    | with_reducible apply State.endPlay_keeps
    | with_reducible apply State.replayMiss_keeps
    | with_reducible apply State.advanceReel_keeps
    | with_reducible apply State.decideByReel_keeps
    | with_reducible apply State.recut_keeps
    | (with_reducible apply Keeps.foldl)
    | (with_reducible apply Keeps.foldlFst)
    | intro _ _ _
    | split

theorem State.updateExposures_keeps {z₀ : State} (s : State) (t : Nat) (hk : Keeps z₀ s) : Keeps z₀ (State.updateExposures s t) := by
  unfold State.updateExposures
  try dsimp only
  repeat' first
    | with_reducible assumption
    | simp only [Keeps.upd_iff]
    | with_reducible apply State.draw_keeps
    | with_reducible apply State.setExposure_keeps
    | with_reducible apply State.bump_keeps
    | with_reducible apply State.raise_keeps
    | (with_reducible apply Keeps.foldl)
    | (with_reducible apply Keeps.foldlFst)
    | intro _ _ _
    | split

theorem State.writeScales_keeps {z₀ : State} (s : State) (t : Nat) (stepId : Word) (hk : Keeps z₀ s) : Keeps z₀ (State.writeScales s t stepId) := by
  unfold State.writeScales
  try dsimp only
  repeat' first
    | with_reducible assumption
    | simp only [Keeps.upd_iff]
    | with_reducible apply State.unitWrite_keeps
    | (with_reducible apply Keeps.foldl)
    | (with_reducible apply Keeps.foldlFst)
    | intro _ _ _
    | split

end Sys2Proof.Machine
end

