-- ==== Sys2Proof/Laws/KeepsUnits.lean ====
section
/-! SUPPORT. Every operation of Reshoot, Gather, PeerPort, Movers, Frames, Eyelets, Sheets keeps what Keeps speaks of. -/

set_option linter.unusedTactic false
set_option linter.unreachableTactic false
set_option linter.unusedSimpArgs false

namespace Sys2Proof.Machine

theorem State.setJob_keeps {z₀ : State} (s : State) (slot : Nat) (j : Job) (hk : Keeps z₀ s) : Keeps z₀ (State.setJob s slot j) := by
  unfold State.setJob
  try dsimp only
  repeat' first
    | with_reducible assumption
    | simp only [Keeps.upd_iff]
    | (with_reducible apply Keeps.foldl)
    | (with_reducible apply Keeps.foldlFst)
    | intro _ _ _
    | split

theorem State.failJob_keeps {z₀ : State} (s : State) (slot : Nat) (hk : Keeps z₀ s) : Keeps z₀ (State.failJob s slot) := by
  unfold State.failJob
  try dsimp only
  repeat' first
    | with_reducible assumption
    | simp only [Keeps.upd_iff]
    | with_reducible apply State.enterLost_keeps
    | (with_reducible apply Keeps.foldl)
    | (with_reducible apply Keeps.foldlFst)
    | intro _ _ _
    | split

theorem State.bringOperand_keeps {z₀ : State} (s : State) (slot : Nat) (j : Job) (p : Nat × Nat) (hk : Keeps z₀ s) : Keeps z₀ (State.bringOperand s slot j p) := by
  unfold State.bringOperand
  try dsimp only
  repeat' first
    | with_reducible assumption
    | simp only [Keeps.upd_iff]
    | with_reducible apply State.beginReturn_keeps
    | with_reducible apply State.failJob_keeps
    | with_reducible apply State.wantJob_keeps
    | (with_reducible apply Keeps.foldl)
    | (with_reducible apply Keeps.foldlFst)
    | intro _ _ _
    | split

theorem State.failDoomed_keeps {z₀ : State}  (fuel : Nat) : ∀ s : State, Keeps z₀ s → Keeps z₀ (State.failDoomed s  fuel) := by
  induction fuel with
  | zero => intro s h; exact h
  | succ fuel ih =>
    intro s h
    unfold State.failDoomed
    try dsimp only
    repeat' first
      | with_reducible assumption
      | simp only [Keeps.upd_iff]
      | (with_reducible apply ih)
      | with_reducible apply State.failJob_keeps
      | (with_reducible apply Keeps.foldl)
      | (with_reducible apply Keeps.foldlFst)
      | intro _ _ _
      | split

theorem State.tendJobs_keeps {z₀ : State} (s : State) (hk : Keeps z₀ s) : Keeps z₀ (State.tendJobs s) := by
  unfold State.tendJobs
  try dsimp only
  repeat' first
    | with_reducible assumption
    | simp only [Keeps.upd_iff]
    | with_reducible apply State.failDoomed_keeps
    | with_reducible apply State.bringOperand_keeps
    | (with_reducible apply Keeps.foldl)
    | (with_reducible apply Keeps.foldlFst)
    | intro _ _ _
    | split

theorem State.startJob_keeps {z₀ : State} (s : State) (slot i deadline : Nat) (hk : Keeps z₀ s) : Keeps z₀ (State.startJob s slot i deadline) := by
  unfold State.startJob
  try dsimp only
  repeat' first
    | with_reducible assumption
    | simp only [Keeps.upd_iff]
    | with_reducible apply State.modSlate_keeps
    | with_reducible apply State.setExtent_keeps
    | with_reducible apply State.setJob_keeps
    | with_reducible apply State.tendJobs_keeps
    | refine State.fitUnits_keeps (by with_reducible assumption) ?_
    | with_reducible apply Keeps.getD
    | (intro v e; refine State.fitUnits_keeps e ?_)
    | (with_reducible apply Keeps.foldl)
    | (with_reducible apply Keeps.foldlFst)
    | intro _ _ _
    | split

theorem State.startWait_keeps {z₀ : State} (s : State) (w : JobWait) (hk : Keeps z₀ s) : Keeps z₀ (State.startWait s w) := by
  unfold State.startWait
  try dsimp only
  repeat' first
    | with_reducible assumption
    | simp only [Keeps.upd_iff]
    | with_reducible apply State.startJob_keeps
    | (with_reducible apply Keeps.foldl)
    | (with_reducible apply Keeps.foldlFst)
    | intro _ _ _
    | split

theorem State.startNow_keeps {z₀ : State} (s : State) (i : Nat) (hk : Keeps z₀ s) : Keeps z₀ (State.startNow s i) := by
  unfold State.startNow
  try dsimp only
  repeat' first
    | with_reducible assumption
    | simp only [Keeps.upd_iff]
    | with_reducible apply State.startWait_keeps
    | (with_reducible apply Keeps.foldl)
    | (with_reducible apply Keeps.foldlFst)
    | intro _ _ _
    | split

theorem State.startWaiting_keeps {z₀ : State} (s : State) (hk : Keeps z₀ s) : Keeps z₀ (State.startWaiting s) := by
  unfold State.startWaiting
  try dsimp only
  repeat' first
    | with_reducible assumption
    | simp only [Keeps.upd_iff]
    | with_reducible apply State.startWait_keeps
    | (with_reducible apply Keeps.foldl)
    | (with_reducible apply Keeps.foldlFst)
    | intro _ _ _
    | split

theorem State.finishJob_keeps {z₀ : State} (s : State) (slot : Nat) (j : Job) (hk : Keeps z₀ s) : Keeps z₀ (State.finishJob s slot j) := by
  unfold State.finishJob
  try dsimp only
  repeat' first
    | with_reducible assumption
    | simp only [Keeps.upd_iff]
    | with_reducible apply State.freeWork_keeps
    | with_reducible apply State.closeExtent_keeps
    | with_reducible apply State.releaseExtents_keeps
    | with_reducible apply State.bump_keeps
    | with_reducible apply State.enterReady_keeps
    | (with_reducible apply Keeps.foldl)
    | (with_reducible apply Keeps.foldlFst)
    | intro _ _ _
    | split

theorem State.jobProgress_keeps {z₀ : State} (slot : Nat) (fuel : Nat) : ∀ s : State, Keeps z₀ s → Keeps z₀ (State.jobProgress s slot fuel) := by
  induction fuel with
  | zero => intro s h; exact h
  | succ fuel ih =>
    intro s h
    unfold State.jobProgress
    try dsimp only
    repeat' first
      | with_reducible assumption
      | simp only [Keeps.upd_iff]
      | (with_reducible apply ih)
      | with_reducible apply State.finishJob_keeps
      | with_reducible apply State.freeWork_keeps
      | with_reducible apply State.setJob_keeps
      | (with_reducible apply Keeps.foldl)
      | (with_reducible apply Keeps.foldlFst)
      | intro _ _ _
      | split

theorem State.compareTarget_keeps {z₀ : State} (s : State) (j : Job) (b raw lane : Nat) (hk : Keeps z₀ s) : Keeps z₀ (State.compareTarget s j b raw lane) := by
  unfold State.compareTarget
  try dsimp only
  repeat' first
    | with_reducible assumption
    | simp only [Keeps.upd_iff]
    | with_reducible apply State.compareCheck_keeps
    | with_reducible apply State.bump_keeps
    | (with_reducible apply Keeps.foldl)
    | (with_reducible apply Keeps.foldlFst)
    | intro _ _ _
    | split

theorem State.freeConsumed_keeps {z₀ : State} (s : State) (slot k : Nat) (hk : Keeps z₀ s) : Keeps z₀ (State.freeConsumed s slot k) := by
  unfold State.freeConsumed
  try dsimp only
  repeat' first
    | with_reducible assumption
    | simp only [Keeps.upd_iff]
    | with_reducible apply State.freeWork_keeps
    | (with_reducible apply Keeps.foldl)
    | (with_reducible apply Keeps.foldlFst)
    | intro _ _ _
    | split

theorem State.commitOutput_keeps {z₀ v : State} {s : State} {slot : Nat} {j : Job} {k b : Nat} {raw : List Byte} {c : Coded} {lane : Nat} (e : s.commitOutput slot j k b raw c lane = some v) (h : Keeps z₀ s) : Keeps z₀ v := by
  unfold State.commitOutput at e
  dsimp only at e
  obtain ⟨w, hw, rfl⟩ := Option.map_eq_some_iff.1 e
  have hv : Keeps z₀ w := by
    split at hw
    · exact State.placeBlock_keeps hw h
    · exact State.placeWork_keeps hw h
  clear hw e
  have h1 := State.countBlock_keeps w c hv
  refine State.tendJobs_keeps _ (State.reapJobs_keeps _ (State.jobProgress_keeps _ _ _ (State.freeConsumed_keeps _ _ _ ?_)))
  repeat' first
    | with_reducible assumption
    | with_reducible apply State.compareTarget_keeps
    | with_reducible apply State.setJob_keeps
    | with_reducible apply State.modSlate_keeps
    | split

theorem State.setWork_keeps {z₀ : State} (s : State) (lane : Nat) (w : Option LaneWork) (hk : Keeps z₀ s) : Keeps z₀ (State.setWork s lane w) := by
  unfold State.setWork
  try dsimp only
  repeat' first
    | with_reducible assumption
    | simp only [Keeps.upd_iff]
    | (with_reducible apply Keeps.foldl)
    | (with_reducible apply Keeps.foldlFst)
    | intro _ _ _
    | split

theorem State.testLanes_keeps {z₀ : State} (s : State) (mask cause : Nat) (hk : Keeps z₀ s) : Keeps z₀ (State.testLanes s mask cause) := by
  unfold State.testLanes
  try dsimp only
  repeat' first
    | with_reducible assumption
    | simp only [Keeps.upd_iff]
    | (with_reducible apply Keeps.foldl)
    | (with_reducible apply Keeps.foldlFst)
    | intro _ _ _
    | split

theorem State.mapOutLane_keeps {z₀ : State} (s : State) (lane cause : Nat) (hk : Keeps z₀ s) : Keeps z₀ (State.mapOutLane s lane cause) := by
  unfold State.mapOutLane
  try dsimp only
  repeat' first
    | with_reducible assumption
    | simp only [Keeps.upd_iff]
    | with_reducible apply State.setWork_keeps
    | with_reducible apply State.setJob_keeps
    | with_reducible apply State.report_keeps
    | with_reducible apply State.pageError_keeps
    | (with_reducible apply Keeps.foldl)
    | (with_reducible apply Keeps.foldlFst)
    | intro _ _ _
    | split

theorem State.laneOutput_keeps {z₀ : State} (s : State) (lane : Nat) (hk : Keeps z₀ s) : Keeps z₀ (State.laneOutput s lane) := by
  unfold State.laneOutput
  try dsimp only
  repeat' first
    | with_reducible assumption
    | simp only [Keeps.upd_iff]
    | with_reducible apply State.setWork_keeps
    | with_reducible apply State.reapJobs_keeps
    | with_reducible apply State.setJob_keeps
    | with_reducible apply State.testLanes_keeps
    | refine State.commitOutput_keeps (by with_reducible assumption) ?_
    | with_reducible apply Keeps.getD
    | (intro v e; refine State.commitOutput_keeps e ?_)
    | (with_reducible apply Keeps.foldl)
    | (with_reducible apply Keeps.foldlFst)
    | intro _ _ _
    | split

theorem State.fillOperands_keeps {z₀ : State} (s : State) (j : Job) (x : ScriptStep) (q : Nat) (hk : Keeps z₀ s) : Keeps z₀ (State.fillOperands s j x q) := by
  unfold State.fillOperands
  try dsimp only
  repeat' first
    | with_reducible assumption
    | simp only [Keeps.upd_iff]
    | with_reducible apply State.startFill_keeps
    | (with_reducible apply Keeps.foldl)
    | (with_reducible apply Keeps.foldlFst)
    | intro _ _ _
    | split

theorem State.dispatch_keeps {z₀ : State} (s : State) (hk : Keeps z₀ s) : Keeps z₀ (State.dispatch s) := by
  unfold State.dispatch
  try dsimp only
  repeat' first
    | with_reducible assumption
    | simp only [Keeps.upd_iff]
    | with_reducible apply State.fillOperands_keeps
    | with_reducible apply State.setJob_keeps
    | with_reducible apply State.bump_keeps
    | with_reducible apply State.outDescriptor_keeps
    | (with_reducible apply Keeps.foldl)
    | (with_reducible apply Keeps.foldlFst)
    | intro _ _ _
    | split

theorem State.stepFailed_keeps {z₀ : State} (s : State) (slot : Nat) (j : Job) (hk : Keeps z₀ s) : Keeps z₀ (State.stepFailed s slot j) := by
  unfold State.stepFailed
  try dsimp only
  repeat' first
    | with_reducible assumption
    | simp only [Keeps.upd_iff]
    | with_reducible apply State.setJob_keeps
    | with_reducible apply State.reapJobs_keeps
    | with_reducible apply State.failJob_keeps
    | (with_reducible apply Keeps.foldl)
    | (with_reducible apply Keeps.foldlFst)
    | intro _ _ _
    | split

theorem State.queuePieces_keeps {z₀ : State} (i deadline : Nat) (l : List Piece) :
    ∀ (k first : Nat) (s : State), Keeps z₀ s → Keeps z₀ (s.queuePieces i deadline k first l) := by
  induction l with
  | nil => intro k first s h; exact h
  | cons p r ih =>
    intro k first s h
    unfold State.queuePieces
    dsimp only
    refine ih _ _ _ ?_
    split
    · exact h
    · exact State.queueTransfer_keeps _ _ h

theorem State.dropPropReservation_keeps {z₀ : State} (s : State) (t : Nat) (e : Entry) (hk : Keeps z₀ s) : Keeps z₀ (State.dropPropReservation s t e) := by
  unfold State.dropPropReservation
  try dsimp only
  repeat' first
    | with_reducible assumption
    | simp only [Keeps.upd_iff]
    | with_reducible apply State.uncharge_keeps
    | (with_reducible apply Keeps.foldl)
    | (with_reducible apply Keeps.foldlFst)
    | intro _ _ _
    | split

theorem State.startGather_keeps {z₀ : State} (s : State) (t ei : Nat) (e : Entry) (d : PropDesc) (hk : Keeps z₀ s) : Keeps z₀ (State.startGather s t ei e d).1 := by
  unfold State.startGather
  try dsimp only
  repeat' first
    | with_reducible assumption
    | simp only [Keeps.upd_iff]
    | with_reducible apply State.openRecord_keeps
    | with_reducible apply State.dropPropReservation_keeps
    | with_reducible apply State.charge_keeps
    | with_reducible apply State.modTenant_keeps
    | with_reducible apply State.reelDecision_keeps
    | with_reducible apply State.bump_keeps
    | with_reducible apply State.endPlay_keeps
    | with_reducible apply State.replayMiss_keeps
    | with_reducible apply State.advanceReel_keeps
    | with_reducible apply State.applyDemotions_keeps
    | with_reducible apply State.recut_keeps
    | with_reducible apply State.queuePieces_keeps
    | (with_reducible apply Keeps.foldl)
    | (with_reducible apply Keeps.foldlFst)
    | intro _ _ _
    | split

theorem State.tryGather_keeps {z₀ : State} (s : State) (t ei : Nat) (again : Bool) (hk : Keeps z₀ s) : Keeps z₀ (State.tryGather s t ei again) := by
  unfold State.tryGather
  try dsimp only
  repeat' first
    | with_reducible assumption
    | simp only [Keeps.upd_iff]
    | with_reducible apply State.startGather_keeps
    | with_reducible apply State.modTenant_keeps
    | (with_reducible apply Keeps.foldl)
    | (with_reducible apply Keeps.foldlFst)
    | intro _ _ _
    | split

theorem State.retryGathers_keeps {z₀ : State} (s : State) (t : Nat) (hk : Keeps z₀ s) : Keeps z₀ (State.retryGathers s t) := by
  unfold State.retryGathers
  try dsimp only
  repeat' first
    | with_reducible assumption
    | simp only [Keeps.upd_iff]
    | with_reducible apply State.tryGather_keeps
    | (with_reducible apply Keeps.foldl)
    | (with_reducible apply Keeps.foldlFst)
    | intro _ _ _
    | split

theorem State.autoGathers_keeps {z₀ : State} (s : State) (t : Nat) (hk : Keeps z₀ s) : Keeps z₀ (State.autoGathers s t) := by
  unfold State.autoGathers
  try dsimp only
  repeat' first
    | with_reducible assumption
    | simp only [Keeps.upd_iff]
    | with_reducible apply State.tryGather_keeps
    | (with_reducible apply Keeps.foldl)
    | (with_reducible apply Keeps.foldlFst)
    | intro _ _ _
    | split

theorem State.sealGather_keeps {z₀ : State} (s : State) (i : Nat) (hk : Keeps z₀ s) : Keeps z₀ (State.sealGather s i) := by
  unfold State.sealGather
  try dsimp only
  repeat' first
    | with_reducible assumption
    | simp only [Keeps.upd_iff]
    | with_reducible apply State.closeExtent_keeps
    | with_reducible apply State.noteDecision_keeps
    | with_reducible apply State.modSlate_keeps
    | (with_reducible apply Keeps.foldl)
    | (with_reducible apply Keeps.foldlFst)
    | intro _ _ _
    | split

theorem State.logGatherLost_keeps {z₀ : State} (s : State) (t ei cause : Nat) (hk : Keeps z₀ s) : Keeps z₀ (State.logGatherLost s t ei cause) := by
  unfold State.logGatherLost
  try dsimp only
  repeat' first
    | with_reducible assumption
    | simp only [Keeps.upd_iff]
    | with_reducible apply State.note_keeps
    | with_reducible apply State.modTenant_keeps
    | with_reducible apply State.draw_keeps
    | with_reducible apply State.logLost_keeps
    | (with_reducible apply Keeps.foldl)
    | (with_reducible apply Keeps.foldlFst)
    | intro _ _ _
    | split

theorem State.gatherFailed_keeps {z₀ : State} (s : State) (i : Nat) (hk : Keeps z₀ s) : Keeps z₀ (State.gatherFailed s i) := by
  unfold State.gatherFailed
  try dsimp only
  repeat' first
    | with_reducible assumption
    | simp only [Keeps.upd_iff]
    | with_reducible apply State.tear_keeps
    | with_reducible apply State.bump_keeps
    | with_reducible apply State.logGatherLost_keeps
    | with_reducible apply State.modTenant_keeps
    | with_reducible apply State.tryGather_keeps
    | (with_reducible apply Keeps.foldl)
    | (with_reducible apply Keeps.foldlFst)
    | intro _ _ _
    | split

theorem State.emitPeer_keeps {z₀ : State} (s : State) (o : PeerOp) (hk : Keeps z₀ s) : Keeps z₀ (State.emitPeer s o) := by
  unfold State.emitPeer
  try dsimp only
  repeat' first
    | with_reducible assumption
    | simp only [Keeps.upd_iff]
    | with_reducible apply State.outPeerOp_keeps
    | with_reducible apply State.bump64_keeps
    | (with_reducible apply Keeps.foldl)
    | (with_reducible apply Keeps.foldlFst)
    | intro _ _ _
    | split

theorem State.sendPeer_keeps {z₀ : State} (s : State) (o : PeerOp) (hk : Keeps z₀ s) : Keeps z₀ (State.sendPeer s o) := by
  unfold State.sendPeer
  try dsimp only
  repeat' first
    | with_reducible assumption
    | simp only [Keeps.upd_iff]
    | with_reducible apply State.emitPeer_keeps
    | (with_reducible apply Keeps.foldl)
    | (with_reducible apply Keeps.foldlFst)
    | intro _ _ _
    | split

theorem State.drainPeer_keeps {z₀ : State} (s : State) (package : Nat) (hk : Keeps z₀ s) : Keeps z₀ (State.drainPeer s package) := by
  unfold State.drainPeer
  try dsimp only
  repeat' first
    | with_reducible assumption
    | simp only [Keeps.upd_iff]
    | with_reducible apply State.emitPeer_keeps
    | (with_reducible apply Keeps.foldl)
    | (with_reducible apply Keeps.foldlFst)
    | intro _ _ _
    | split

theorem State.haltChannel_keeps {z₀ : State} (s : State) (c : Nat) (x : Transfer) (write flag : Bool) (first attempt : Nat) (cause : Cause) (hk : Keeps z₀ s) : Keeps z₀ (State.haltChannel s c x write flag first attempt cause) := by
  unfold State.haltChannel
  try dsimp only
  repeat' first
    | with_reducible assumption
    | simp only [Keeps.upd_iff]
    | with_reducible apply State.draw_keeps
    | with_reducible apply State.modChan_keeps
    | with_reducible apply State.bump_keeps
    | with_reducible apply State.report_keeps
    | with_reducible apply State.pageError_keeps
    | (with_reducible apply Keeps.foldl)
    | (with_reducible apply Keeps.foldlFst)
    | intro _ _ _
    | split

theorem State.endedWithout_keeps {z₀ : State} (s : State) (x : Transfer) (cause : Nat) (hk : Keeps z₀ s) : Keeps z₀ (State.endedWithout s x cause) := by
  unfold State.endedWithout
  try dsimp only
  repeat' first
    | with_reducible assumption
    | simp only [Keeps.upd_iff]
    | with_reducible apply State.backToSealed_keeps
    | with_reducible apply State.recoverOrLose_keeps
    | with_reducible apply State.failJob_keeps
    | with_reducible apply State.startFill_keeps
    | with_reducible apply State.gatherFailed_keeps
    | (with_reducible apply Keeps.foldl)
    | (with_reducible apply Keeps.foldlFst)
    | intro _ _ _
    | split

theorem State.endTransfer_keeps {z₀ : State} (s : State) (id cause : Nat) (hk : Keeps z₀ s) : Keeps z₀ (State.endTransfer s id cause) := by
  unfold State.endTransfer
  try dsimp only
  repeat' first
    | with_reducible assumption
    | simp only [Keeps.upd_iff]
    | with_reducible apply State.cancelTransfer_keeps
    | with_reducible apply State.endedWithout_keeps
    | with_reducible apply State.reapJobs_keeps
    | with_reducible apply State.tendJobs_keeps
    | (with_reducible apply Keeps.foldl)
    | (with_reducible apply Keeps.foldlFst)
    | intro _ _ _
    | split

theorem State.hardEnd_keeps {z₀ : State} (s : State) (id : Nat) (hk : Keeps z₀ s) : Keeps z₀ (State.hardEnd s id) := by
  unfold State.hardEnd
  try dsimp only
  repeat' first
    | with_reducible assumption
    | simp only [Keeps.upd_iff]
    | with_reducible apply State.bump_keeps
    | with_reducible apply State.endTransfer_keeps
    | (with_reducible apply Keeps.foldl)
    | (with_reducible apply Keeps.foldlFst)
    | intro _ _ _
    | split

theorem State.failAccess_keeps {z₀ : State} (s : State) (c id : Nat) (x : Transfer) (write flag : Bool) (first count a : Nat) (cause : Cause) (hk : Keeps z₀ s) : Keeps z₀ (State.failAccess s c id x write flag first count a cause) := by
  unfold State.failAccess
  try dsimp only
  repeat' first
    | with_reducible assumption
    | simp only [Keeps.upd_iff]
    | with_reducible apply State.setTransfer_keeps
    | with_reducible apply State.abortTxns_keeps
    | with_reducible apply State.haltChannel_keeps
    | with_reducible apply State.endTransfer_keeps
    | with_reducible apply State.hardEnd_keeps
    | with_reducible apply State.modChan_keeps
    | (with_reducible apply Keeps.foldl)
    | (with_reducible apply Keeps.foldlFst)
    | intro _ _ _
    | split

theorem State.showAccess_keeps {z₀ : State} (s : State) (x : Transfer) (t : Txn) (bytes : Nat) (hk : Keeps z₀ s) : Keeps z₀ (State.showAccess s x t bytes) := by
  unfold State.showAccess
  try dsimp only
  repeat' first
    | with_reducible assumption
    | simp only [Keeps.upd_iff]
    | with_reducible apply State.outAccess_keeps
    | with_reducible apply State.readLastUse_keeps
    | (with_reducible apply Keeps.foldl)
    | (with_reducible apply Keeps.foldlFst)
    | intro _ _ _
    | split

theorem State.enterTxn_keeps {z₀ : State} (s : State) (c id : Nat) (x : Transfer) (write flag : Bool) (first count a : Nat) (data : List Byte) (hk : Keeps z₀ s) : Keeps z₀ (State.enterTxn s c id x write flag first count a data) := by
  unfold State.enterTxn
  try dsimp only
  repeat' first
    | with_reducible assumption
    | simp only [Keeps.upd_iff]
    | with_reducible apply State.showAccess_keeps
    | with_reducible apply State.sendPeer_keeps
    | (with_reducible apply Keeps.foldl)
    | (with_reducible apply Keeps.foldlFst)
    | intro _ _ _
    | split

theorem State.issueAccess_keeps {z₀ : State} (s : State) (c id : Nat) (x : Transfer) (write flag : Bool) (first count a : Nat) (hk : Keeps z₀ s) : Keeps z₀ (State.issueAccess s c id x write flag first count a) := by
  unfold State.issueAccess
  try dsimp only
  repeat' first
    | with_reducible assumption
    | simp only [Keeps.upd_iff]
    | with_reducible apply State.failAccess_keeps
    | with_reducible apply State.endTransfer_keeps
    | with_reducible apply State.enterTxn_keeps
    | (with_reducible apply Keeps.foldl)
    | (with_reducible apply Keeps.foldlFst)
    | intro _ _ _
    | split

theorem State.placeUnit_keeps {z₀ v : State} {s : State} {x : Transfer} {g : Nat} (e : s.placeUnit x g = some v) (h : Keeps z₀ s) : Keeps z₀ v := by
  unfold State.placeUnit at e
  split at e
  · cases e; exact h
  · split at e
    · cases e; exact h
    · split at e
      · cases e; exact h
      · split at e
        · obtain ⟨w, hw, rfl⟩ := Option.map_eq_some_iff.1 e
          have k := State.placeBlock_keeps hw h
          split
          · exact State.modExtent_keeps _ _ _ k
          · exact k
        · cases e; exact h

theorem State.served_keeps {z₀ : State} (s : State) (c : Nat) (x : Transfer) (write goesOn : Bool) (hk : Keeps z₀ s) : Keeps z₀ (State.served s c x write goesOn) := by
  unfold State.served
  try dsimp only
  repeat' first
    | with_reducible assumption
    | simp only [Keeps.upd_iff]
    | (with_reducible apply Keeps.foldl)
    | (with_reducible apply Keeps.foldlFst)
    | intro _ _ _
    | split

theorem State.issueRead_keeps {z₀ : State} (s : State) (l : List (Nat × Nat × Transfer)) (h : Keeps z₀ s) : Keeps z₀ (State.issueRead s l) := by
  induction l with
  | nil => exact h
  | cons p r ih =>
    obtain ⟨c, id, x⟩ := p
    unfold State.issueRead
    try dsimp only
    split
    · exact ih
    · refine State.issueAccess_keeps _ _ _ _ _ _ _ _ _ ?_
      split
      · exact State.modChan_keeps _ _ _ (State.served_keeps _ _ _ _ _ (State.setTransfer_keeps _ _ _ h))
      · exact State.served_keeps _ _ _ _ _ (State.setTransfer_keeps _ _ _ h)

theorem State.issueWrite_keeps {z₀ : State} (s : State) (l : List (Nat × Nat × Transfer)) (h : Keeps z₀ s) : Keeps z₀ (State.issueWrite s l) := by
  induction l with
  | nil => exact h
  | cons p r ih =>
    obtain ⟨c, id, x⟩ := p
    unfold State.issueWrite
    try dsimp only
    split
    · exact State.issueAccess_keeps _ _ _ _ _ _ _ _ _ (State.served_keeps _ _ _ _ _ h)
    · split
      · exact ih
      · split
        · exact ih
        · split
          · exact ih
          · next hp =>
            exact State.issueAccess_keeps _ _ _ _ _ _ _ _ _
              (State.served_keeps _ _ _ _ _ (State.setTransfer_keeps _ _ _ (State.placeUnit_keeps hp h)))

theorem State.writeTurn_keeps {z₀ : State} (s : State) (l : List (Nat × Nat × Transfer)) (hk : Keeps z₀ s) : Keeps z₀ (State.writeTurn s l) := by
  unfold State.writeTurn
  try dsimp only
  repeat' first
    | with_reducible assumption
    | simp only [Keeps.upd_iff]
    | with_reducible apply State.advanceTo_keeps
    | with_reducible apply State.issueWrite_keeps
    | (with_reducible apply Keeps.foldl)
    | (with_reducible apply Keeps.foldlFst)
    | intro _ _ _
    | split

theorem State.issue_keeps {z₀ : State} (s : State) (write : Bool) (hk : Keeps z₀ s) : Keeps z₀ (State.issue s write) := by
  unfold State.issue
  try dsimp only
  repeat' first
    | with_reducible assumption
    | simp only [Keeps.upd_iff]
    | with_reducible apply State.writeTurn_keeps
    | with_reducible apply State.issueRead_keeps
    | (with_reducible apply Keeps.foldl)
    | (with_reducible apply Keeps.foldlFst)
    | intro _ _ _
    | split

theorem State.loadActive_keeps {z₀ : State} (s : State) (c : Nat) (hk : Keeps z₀ s) : Keeps z₀ (State.loadActive s c) := by
  unfold State.loadActive
  try dsimp only
  repeat' first
    | with_reducible assumption
    | simp only [Keeps.upd_iff]
    | with_reducible apply State.queueTransfer_keeps
    | with_reducible apply State.modChan_keeps
    | (with_reducible apply Keeps.foldl)
    | (with_reducible apply Keeps.foldlFst)
    | intro _ _ _
    | split

theorem State.armStart_keeps {z₀ : State} (s : State) (c : Nat) (hk : Keeps z₀ s) : Keeps z₀ (State.armStart s c) := by
  unfold State.armStart
  try dsimp only
  repeat' first
    | with_reducible assumption
    | simp only [Keeps.upd_iff]
    | with_reducible apply State.modChan_keeps
    | (with_reducible apply Keeps.foldl)
    | (with_reducible apply Keeps.foldlFst)
    | intro _ _ _
    | split

theorem State.promote_keeps {z₀ : State} (s : State) (c : Nat) (hk : Keeps z₀ s) : Keeps z₀ (State.promote s c) := by
  unfold State.promote
  try dsimp only
  repeat' first
    | with_reducible assumption
    | simp only [Keeps.upd_iff]
    | with_reducible apply State.removeTransfer_keeps
    | with_reducible apply State.modChan_keeps
    | with_reducible apply State.loadActive_keeps
    | with_reducible apply State.armStart_keeps
    | (with_reducible apply Keeps.foldl)
    | (with_reducible apply Keeps.foldlFst)
    | intro _ _ _
    | split

theorem State.frameStarts_keeps {z₀ : State} (s : State) (t : Nat) (hk : Keeps z₀ s) : Keeps z₀ (State.frameStarts s t) := by
  unfold State.frameStarts
  try dsimp only
  repeat' first
    | with_reducible assumption
    | simp only [Keeps.upd_iff]
    | with_reducible apply State.modChan_keeps
    | (with_reducible apply Keeps.foldl)
    | (with_reducible apply Keeps.foldlFst)
    | intro _ _ _
    | split

theorem State.joinGroup_keeps {z₀ : State} (s : State) (c : Nat) (hk : Keeps z₀ s) : Keeps z₀ (State.joinGroup s c) := by
  unfold State.joinGroup
  try dsimp only
  repeat' first
    | with_reducible assumption
    | simp only [Keeps.upd_iff]
    | with_reducible apply State.abortTxns_keeps
    | with_reducible apply State.dropTransfer_keeps
    | with_reducible apply State.modChan_keeps
    | (with_reducible apply Keeps.foldl)
    | (with_reducible apply Keeps.foldlFst)
    | intro _ _ _
    | split

theorem State.settle_keeps {z₀ : State} (s : State) (c : Nat) (hk : Keeps z₀ s) : Keeps z₀ (State.settle s c) := by
  unfold State.settle
  try dsimp only
  repeat' first
    | with_reducible assumption
    | simp only [Keeps.upd_iff]
    | with_reducible apply State.joinGroup_keeps
    | (with_reducible apply Keeps.foldl)
    | (with_reducible apply Keeps.foldlFst)
    | intro _ _ _
    | split

theorem State.chanEvent_keeps {z₀ : State} (s : State) (c : Nat) (full : Bool) (hk : Keeps z₀ s) : Keeps z₀ (State.chanEvent s c full) := by
  unfold State.chanEvent
  try dsimp only
  repeat' first
    | with_reducible assumption
    | simp only [Keeps.upd_iff]
    | with_reducible apply State.modChan_keeps
    | with_reducible apply State.raise_keeps
    | (with_reducible apply Keeps.foldl)
    | (with_reducible apply Keeps.foldlFst)
    | intro _ _ _
    | split

theorem State.countTransfer_keeps {z₀ : State} (s : State) (c : Nat) (hk : Keeps z₀ s) : Keeps z₀ (State.countTransfer s c) := by
  unfold State.countTransfer
  try dsimp only
  repeat' first
    | with_reducible assumption
    | simp only [Keeps.upd_iff]
    | with_reducible apply State.modChan_keeps
    | (with_reducible apply Keeps.foldl)
    | (with_reducible apply Keeps.foldlFst)
    | intro _ _ _
    | split

theorem State.fullEvent_keeps {z₀ : State} (s : State) (c id : Nat) (hk : Keeps z₀ s) : Keeps z₀ (State.fullEvent s c id) := by
  unfold State.fullEvent
  try dsimp only
  repeat' first
    | with_reducible assumption
    | simp only [Keeps.upd_iff]
    | with_reducible apply State.chanEvent_keeps
    | with_reducible apply State.countTransfer_keeps
    | with_reducible apply State.modChan_keeps
    | with_reducible apply State.abortTxns_keeps
    | with_reducible apply State.dropTransfer_keeps
    | with_reducible apply State.loadActive_keeps
    | with_reducible apply State.settle_keeps
    | (with_reducible apply Keeps.foldl)
    | (with_reducible apply Keeps.foldlFst)
    | intro _ _ _
    | split

theorem State.indexStaged_keeps {z₀ : State} (s : State) (c id : Nat) (x : Transfer) (ig a : Nat) (hk : Keeps z₀ s) : Keeps z₀ (State.indexStaged s c id x ig a) := by
  unfold State.indexStaged
  try dsimp only
  repeat' first
    | with_reducible assumption
    | simp only [Keeps.upd_iff]
    | with_reducible apply State.setTransfer_keeps
    | with_reducible apply State.draw_keeps
    | with_reducible apply State.logBlockFail_keeps
    | with_reducible apply State.failAccess_keeps
    | (with_reducible apply Keeps.foldl)
    | (with_reducible apply Keeps.foldlFst)
    | intro _ _ _
    | split

theorem State.blockStaged_keeps {z₀ : State} (s : State) (c id : Nat) (x : Transfer) (u : Span) (b a : Nat) (hk : Keeps z₀ s) : Keeps z₀ (State.blockStaged s c id x u b a) := by
  unfold State.blockStaged
  try dsimp only
  repeat' first
    | with_reducible assumption
    | simp only [Keeps.upd_iff]
    | with_reducible apply State.logBlockFail_keeps
    | with_reducible apply State.failAccess_keeps
    | with_reducible apply State.setTransfer_keeps
    | with_reducible apply State.compareCheck_keeps
    | (with_reducible apply Keeps.foldl)
    | (with_reducible apply Keeps.foldlFst)
    | intro _ _ _
    | split

theorem State.propStaged_keeps {z₀ : State} (s : State) (id : Nat) (x : Transfer) (k : Nat) (hk : Keeps z₀ s) : Keeps z₀ (State.propStaged s id x k) := by
  unfold State.propStaged
  try dsimp only
  repeat' first
    | with_reducible assumption
    | simp only [Keeps.upd_iff]
    | with_reducible apply State.setTransfer_keeps
    | (with_reducible apply Keeps.foldl)
    | (with_reducible apply Keeps.foldlFst)
    | intro _ _ _
    | split

theorem State.readDone_keeps {z₀ : State} (s : State) (t : Txn) (x : Transfer) (data : List Byte) (hk : Keeps z₀ s) : Keeps z₀ (State.readDone s t x data) := by
  unfold State.readDone
  try dsimp only
  repeat' first
    | with_reducible assumption
    | simp only [Keeps.upd_iff]
    | with_reducible apply State.bump64_keeps
    | with_reducible apply State.setTransfer_keeps
    | with_reducible apply State.indexStaged_keeps
    | with_reducible apply State.blockStaged_keeps
    | with_reducible apply State.propStaged_keeps
    | (with_reducible apply Keeps.foldl)
    | (with_reducible apply Keeps.foldlFst)
    | intro _ _ _
    | split

theorem State.tendStall_keeps {z₀ : State} (s : State) (b : Nat) (hk : Keeps z₀ s) : Keeps z₀ (State.tendStall s b) := by
  unfold State.tendStall
  try dsimp only
  repeat' first
    | with_reducible assumption
    | simp only [Keeps.upd_iff]
    | with_reducible apply State.bumpSat_keeps
    | with_reducible apply State.setBank_keeps
    | (with_reducible apply Keeps.foldl)
    | (with_reducible apply Keeps.foldlFst)
    | intro _ _ _
    | split

theorem State.unitDone_keeps {z₀ : State} (s : State) (x : Transfer) (u : Span) (hk : Keeps z₀ s) : Keeps z₀ (State.unitDone s x u) := by
  unfold State.unitDone
  try dsimp only
  repeat' first
    | with_reducible assumption
    | simp only [Keeps.upd_iff]
    | with_reducible apply State.modBank_keeps
    | with_reducible apply State.tendStall_keeps
    | with_reducible apply State.modSlate_keeps
    | with_reducible apply State.modExtent_keeps
    | with_reducible apply State.meterBlock_keeps
    | (with_reducible apply Keeps.foldl)
    | (with_reducible apply Keeps.foldlFst)
    | intro _ _ _
    | split

theorem State.finish_keeps {z₀ : State} (s : State) (id : Nat) (x : Transfer) (hk : Keeps z₀ s) : Keeps z₀ (State.finish s id x) := by
  unfold State.finish
  try dsimp only
  repeat' first
    | with_reducible assumption
    | simp only [Keeps.upd_iff]
    | with_reducible apply State.countTransfer_keeps
    | with_reducible apply State.removeTransfer_keeps
    | with_reducible apply State.dropExtent_keeps
    | with_reducible apply State.modSlate_keeps
    | with_reducible apply State.startMove_keeps
    | with_reducible apply State.retireTierExtent_keeps
    | with_reducible apply State.enterReady_keeps
    | with_reducible apply State.setTransfer_keeps
    | with_reducible apply State.sealGather_keeps
    | (with_reducible apply Keeps.foldl)
    | (with_reducible apply Keeps.foldlFst)
    | intro _ _ _
    | split

theorem State.meterRun_keeps {z₀ : State} (s : State) (c : Nat) (x : Transfer) (a z : Nat) (hk : Keeps z₀ s) : Keeps z₀ (State.meterRun s c x a z) := by
  unfold State.meterRun
  try dsimp only
  repeat' first
    | with_reducible assumption
    | simp only [Keeps.upd_iff]
    | with_reducible apply State.meterGranule_keeps
    | (with_reducible apply Keeps.foldl)
    | (with_reducible apply Keeps.foldlFst)
    | intro _ _ _
    | split

theorem State.advanceDone_keeps {z₀ : State} (s : State) (c : Nat) (x : Transfer) (done : Nat) (hk : Keeps z₀ s) : Keeps z₀ (State.advanceDone s c x done) := by
  unfold State.advanceDone
  try dsimp only
  repeat' first
    | with_reducible assumption
    | simp only [Keeps.upd_iff]
    | with_reducible apply State.meterRun_keeps
    | with_reducible apply State.modChan_keeps
    | with_reducible apply State.chanEvent_keeps
    | (with_reducible apply Keeps.foldl)
    | (with_reducible apply Keeps.foldlFst)
    | intro _ _ _
    | split

theorem State.writeDone_keeps {z₀ : State} (s : State) (t : Txn) (x : Transfer) (hk : Keeps z₀ s) : Keeps z₀ (State.writeDone s t x) := by
  unfold State.writeDone
  try dsimp only
  repeat' first
    | with_reducible assumption
    | simp only [Keeps.upd_iff]
    | with_reducible apply State.bump64_keeps
    | with_reducible apply State.fullEvent_keeps
    | with_reducible apply State.unitDone_keeps
    | with_reducible apply State.setTransfer_keeps
    | with_reducible apply State.advanceDone_keeps
    | with_reducible apply State.finish_keeps
    | with_reducible apply State.reapJobs_keeps
    | with_reducible apply State.tendJobs_keeps
    | (with_reducible apply Keeps.foldl)
    | (with_reducible apply Keeps.foldlFst)
    | intro _ _ _
    | split

theorem State.landWrite_keeps {z₀ : State} (s : State) (t : Txn) (hk : Keeps z₀ s) : Keeps z₀ (State.landWrite s t) := by
  unfold State.landWrite
  try dsimp only
  repeat' first
    | with_reducible assumption
    | simp only [Keeps.upd_iff]
    | with_reducible apply State.memWrite_keeps
    | (with_reducible apply Keeps.foldl)
    | (with_reducible apply Keeps.foldlFst)
    | intro _ _ _
    | split

theorem State.countCorrected_keeps {z₀ : State} (s : State) (t : Txn) (n : Nat) (hk : Keeps z₀ s) : Keeps z₀ (State.countCorrected s t n) := by
  unfold State.countCorrected
  try dsimp only
  repeat' first
    | with_reducible assumption
    | simp only [Keeps.upd_iff]
    | with_reducible apply State.bumpSat_keeps
    | (with_reducible apply Keeps.foldl)
    | (with_reducible apply Keeps.foldlFst)
    | intro _ _ _
    | split

theorem State.respond_keeps {z₀ : State} (s : State) (n : Nat) (fail : Option Cause) (data : List Byte) (corrected : Nat) (hk : Keeps z₀ s) : Keeps z₀ (State.respond s n fail data corrected) := by
  unfold State.respond
  try dsimp only
  repeat' first
    | with_reducible assumption
    | simp only [Keeps.upd_iff]
    | with_reducible apply State.countCorrected_keeps
    | with_reducible apply State.failAccess_keeps
    | with_reducible apply State.landWrite_keeps
    | with_reducible apply State.writeDone_keeps
    | with_reducible apply State.readDone_keeps
    | (with_reducible apply Keeps.foldl)
    | (with_reducible apply Keeps.foldlFst)
    | intro _ _ _
    | split

theorem State.reissueOne_keeps {z₀ : State} (c id : Nat) (q : Retry) (s : State) (r : Nat × Nat) (hk : Keeps z₀ s) :
    Keeps z₀ (State.reissueOne c id q s r) := by
  unfold State.reissueOne
  split
  · exact hk
  · exact State.issueAccess_keeps _ _ _ _ _ _ _ _ _ hk

theorem State.reissue_keeps {z₀ : State} (s : State) (c : Nat) (h : Keeps z₀ s) : Keeps z₀ (s.reissue c) := by
  unfold State.reissue
  dsimp only
  repeat' first
    | with_reducible assumption
    | with_reducible apply State.issueAccess_keeps
    | with_reducible apply State.log_keeps
    | with_reducible apply State.modChan_keeps
    | with_reducible apply State.bump_keeps
    | with_reducible apply State.draw_keeps
    | with_reducible apply State.advanceTo_keeps
    | (with_reducible apply Keeps.foldl)
    | with_reducible apply State.reissueOne_keeps
    | intro _ _ _
    | split

theorem State.writeStarts_keeps {z₀ : State} (s : State) (t : Nat) (copy : Bool) (hk : Keeps z₀ s) : Keeps z₀ (State.writeStarts s t copy) := by
  unfold State.writeStarts
  try dsimp only
  repeat' first
    | with_reducible assumption
    | simp only [Keeps.upd_iff]
    | with_reducible apply State.unitWrite_keeps
    | (with_reducible apply Keeps.foldl)
    | (with_reducible apply Keeps.foldlFst)
    | intro _ _ _
    | split

theorem State.measure_keeps {z₀ : State} (s : State) (t f m : Nat) (hk : Keeps z₀ s) : Keeps z₀ (State.measure s t f m) := by
  unfold State.measure
  try dsimp only
  repeat' first
    | with_reducible assumption
    | simp only [Keeps.upd_iff]
    | with_reducible apply State.unitWrite_keeps
    | with_reducible apply State.modTenant_keeps
    | (with_reducible apply Keeps.foldl)
    | (with_reducible apply Keeps.foldlFst)
    | intro _ _ _
    | split

theorem State.endTable_keeps {z₀ : State} (s : State) (t : Nat) (hk : Keeps z₀ s) : Keeps z₀ (State.endTable s t) := by
  unfold State.endTable
  try dsimp only
  repeat' first
    | with_reducible assumption
    | simp only [Keeps.upd_iff]
    | with_reducible apply State.unitWrite_keeps
    | with_reducible apply State.writeStarts_keeps
    | (with_reducible apply Keeps.foldl)
    | (with_reducible apply Keeps.foldlFst)
    | intro _ _ _
    | split

theorem State.initTable_keeps {z₀ : State} (s : State) (t d : Nat) (hk : Keeps z₀ s) : Keeps z₀ (State.initTable s t d) := by
  unfold State.initTable
  try dsimp only
  repeat' first
    | with_reducible assumption
    | simp only [Keeps.upd_iff]
    | with_reducible apply State.unitWrite_keeps
    | with_reducible apply State.writeStarts_keeps
    | (with_reducible apply Keeps.foldl)
    | (with_reducible apply Keeps.foldlFst)
    | intro _ _ _
    | split

theorem State.reachSlate_keeps {z₀ : State} (s : State) (i : Nat) (hk : Keeps z₀ s) : Keeps z₀ (State.reachSlate s i) := by
  unfold State.reachSlate
  try dsimp only
  repeat' first
    | with_reducible assumption
    | simp only [Keeps.upd_iff]
    | with_reducible apply State.enterReady_keeps
    | with_reducible apply State.moveBack_keeps
    | with_reducible apply State.beginReturn_keeps
    | with_reducible apply State.wantJob_keeps
    | (with_reducible apply Keeps.foldl)
    | (with_reducible apply Keeps.foldlFst)
    | intro _ _ _
    | split

theorem State.reachFrame_keeps {z₀ : State} (s : State) (t : Nat) (hk : Keeps z₀ s) : Keeps z₀ (State.reachFrame s t) := by
  unfold State.reachFrame
  try dsimp only
  repeat' first
    | with_reducible assumption
    | simp only [Keeps.upd_iff]
    | with_reducible apply State.reachSlate_keeps
    | with_reducible apply State.autoGathers_keeps
    | with_reducible apply State.frameStarts_keeps
    | with_reducible apply State.tendJobs_keeps
    | (with_reducible apply Keeps.foldl)
    | (with_reducible apply Keeps.foldlFst)
    | intro _ _ _
    | split

theorem State.closeFrames_keeps {z₀ : State} (s : State) (t f : Nat) (hk : Keeps z₀ s) : Keeps z₀ (State.closeFrames s t f) := by
  unfold State.closeFrames
  try dsimp only
  repeat' first
    | with_reducible assumption
    | simp only [Keeps.upd_iff]
    | with_reducible apply State.measure_keeps
    | with_reducible apply State.modTenant_keeps
    | (with_reducible apply Keeps.foldl)
    | (with_reducible apply Keeps.foldlFst)
    | intro _ _ _
    | split

theorem State.reserve_keeps {z₀ : State} (s : State) (t : Nat) (e : Entry) (hk : Keeps z₀ s) : Keeps z₀ (State.reserve s t e) := by
  unfold State.reserve
  try dsimp only
  repeat' first
    | with_reducible assumption
    | simp only [Keeps.upd_iff]
    | with_reducible apply State.charge_keeps
    | (with_reducible apply Keeps.foldl)
    | (with_reducible apply Keeps.foldlFst)
    | intro _ _ _
    | split

theorem State.reelBegin_keeps {z₀ : State} (s : State) (t : Nat) (hk : Keeps z₀ s) : Keeps z₀ (State.reelBegin s t) := by
  unfold State.reelBegin
  try dsimp only
  repeat' first
    | with_reducible assumption
    | simp only [Keeps.upd_iff]
    | with_reducible apply State.writeReel_keeps
    | (with_reducible apply Keeps.foldl)
    | (with_reducible apply Keeps.foldlFst)
    | intro _ _ _
    | split

theorem State.playBegin_keeps {z₀ : State} (s : State) (t : Nat) (hk : Keeps z₀ s) : Keeps z₀ (State.playBegin s t) := by
  unfold State.playBegin
  try dsimp only
  repeat' first
    | with_reducible assumption
    | simp only [Keeps.upd_iff]
    | with_reducible apply State.modTenant_keeps
    | with_reducible apply State.setExposure_keeps
    | (with_reducible apply Keeps.foldl)
    | (with_reducible apply Keeps.foldlFst)
    | intro _ _ _
    | split

theorem State.openStep_keeps {z₀ : State} (s : State) (t : Nat) (id : Word) (hk : Keeps z₀ s) : Keeps z₀ (State.openStep s t id) := by
  unfold State.openStep
  try dsimp only
  repeat' first
    | with_reducible assumption
    | simp only [Keeps.upd_iff]
    | with_reducible apply State.modTenant_keeps
    | with_reducible apply State.reserve_keeps
    | with_reducible apply State.clearMeter_keeps
    | with_reducible apply State.playBegin_keeps
    | with_reducible apply State.reelBegin_keeps
    | with_reducible apply State.reachFrame_keeps
    | (with_reducible apply Keeps.foldl)
    | (with_reducible apply Keeps.foldlFst)
    | intro _ _ _
    | split

theorem State.writeWrap_keeps {z₀ : State} (s : State) (t : Nat) (abandoned : Bool) (hk : Keeps z₀ s) : Keeps z₀ (State.writeWrap s t abandoned) := by
  unfold State.writeWrap
  try dsimp only
  repeat' first
    | with_reducible assumption
    | simp only [Keeps.upd_iff]
    | with_reducible apply State.setReel_keeps
    | with_reducible apply State.unitWrite_keeps
    | with_reducible apply State.draw_keeps
    | (with_reducible apply Keeps.foldl)
    | (with_reducible apply Keeps.foldlFst)
    | intro _ _ _
    | split

theorem State.releaseSlate_keeps {z₀ : State} (s : State) (i : Nat) (hk : Keeps z₀ s) : Keeps z₀ (State.releaseSlate s i) := by
  unfold State.releaseSlate
  try dsimp only
  repeat' first
    | with_reducible assumption
    | simp only [Keeps.upd_iff]
    | with_reducible apply State.modSlate_keeps
    | with_reducible apply State.cancelSlate_keeps
    | with_reducible apply State.stopJob_keeps
    | with_reducible apply State.reapJobs_keeps
    | with_reducible apply State.freeSlate_keeps
    | with_reducible apply State.tendJobs_keeps
    | (with_reducible apply Keeps.foldl)
    | (with_reducible apply Keeps.foldlFst)
    | intro _ _ _
    | split

theorem State.abandon_keeps {z₀ : State} (s : State) (t : Nat) (hk : Keeps z₀ s) : Keeps z₀ (State.abandon s t) := by
  unfold State.abandon
  try dsimp only
  repeat' first
    | with_reducible assumption
    | simp only [Keeps.upd_iff]
    | with_reducible apply State.stopJob_keeps
    | with_reducible apply State.releaseSlate_keeps
    | (with_reducible apply Keeps.foldl)
    | (with_reducible apply Keeps.foldlFst)
    | intro _ _ _
    | split

theorem State.closeStep_keeps {z₀ : State} (s : State) (t : Nat) (abandoned : Bool) (hk : Keeps z₀ s) : Keeps z₀ (State.closeStep s t abandoned) := by
  unfold State.closeStep
  try dsimp only
  repeat' first
    | with_reducible assumption
    | simp only [Keeps.upd_iff]
    | with_reducible apply State.updateExposures_keeps
    | with_reducible apply State.writeScales_keeps
    | with_reducible apply State.endTable_keeps
    | with_reducible apply State.writeWrap_keeps
    | with_reducible apply State.writeReel_keeps
    | with_reducible apply State.modTenant_keeps
    | (with_reducible apply Keeps.foldl)
    | (with_reducible apply Keeps.foldlFst)
    | intro _ _ _
    | split

theorem State.addEye_keeps {z₀ : State} (s : State) (e : Nat) (target : Bool) (v : Word) (src : AddSource) (t : Nat) (hk : Keeps z₀ s) : Keeps z₀ (State.addEye s e target v src t).1 := by
  unfold State.addEye
  try dsimp only
  repeat' first
    | with_reducible assumption
    | simp only [Keeps.upd_iff]
    | with_reducible apply State.bump_keeps
    | with_reducible apply State.report_keeps
    | with_reducible apply State.pageError_keeps
    | with_reducible apply State.setEyelet_keeps
    | (with_reducible apply Keeps.foldl)
    | (with_reducible apply Keeps.foldlFst)
    | intro _ _ _
    | split

theorem State.pulse_keeps {z₀ : State} (s : State) (line : Nat) (hk : Keeps z₀ s) : Keeps z₀ (State.pulse s line) := by
  unfold State.pulse
  try dsimp only
  repeat' first
    | with_reducible assumption
    | simp only [Keeps.upd_iff]
    | (with_reducible apply Keeps.foldl)
    | (with_reducible apply Keeps.foldlFst)
    | intro _ _ _
    | split

theorem State.pulseQueue_keeps {z₀ : State} (s : State) (q : Nat) (hk : Keeps z₀ s) : Keeps z₀ (State.pulseQueue s q) := by
  unfold State.pulseQueue
  try dsimp only
  repeat' first
    | with_reducible assumption
    | simp only [Keeps.upd_iff]
    | with_reducible apply State.pulse_keeps
    | (with_reducible apply Keeps.foldl)
    | (with_reducible apply Keeps.foldlFst)
    | intro _ _ _
    | split

theorem State.endWait_keeps {z₀ : State} (s : State) (w : Wait) (status : Nat) (result : Option Nat) (clap : Bool) (hk : Keeps z₀ s) : Keeps z₀ (State.endWait s w status result clap) := by
  unfold State.endWait
  try dsimp only
  repeat' first
    | with_reducible assumption
    | simp only [Keeps.upd_iff]
    | with_reducible apply State.complete_keeps
    | with_reducible apply State.outPower_keeps
    | with_reducible apply State.pulseQueue_keeps
    | (with_reducible apply Keeps.foldl)
    | (with_reducible apply Keeps.foldlFst)
    | intro _ _ _
    | split

theorem State.setWaits_keeps {z₀ : State} (s : State) (l : List Wait) (hk : Keeps z₀ s) : Keeps z₀ (State.setWaits s l) := by
  unfold State.setWaits
  try dsimp only
  repeat' first
    | with_reducible assumption
    | simp only [Keeps.upd_iff]
    | (with_reducible apply Keeps.foldl)
    | (with_reducible apply Keeps.foldlFst)
    | intro _ _ _
    | split

theorem State.examineList_keeps {z₀ : State} (e : Nat) (l : List Wait) :
    ∀ (kept : List Wait) (s : State), Keeps z₀ s → Keeps z₀ (s.examineList e kept l) := by
  induction l with
  | nil => intro kept s h; exact State.setWaits_keeps _ _ h
  | cons w r ih =>
    intro kept s h
    unfold State.examineList
    dsimp only
    split
    · refine ih _ _ (State.endWait_keeps _ _ _ _ _ ?_)
      split
      · exact State.setEyelet_keeps _ _ _ h
      · exact h
    · exact ih _ _ h

theorem State.sampleDone_keeps {z₀ : State} (s : State) (n : Nat) (v : Bool) (hk : Keeps z₀ s) : Keeps z₀ (State.sampleDone s n v) := by
  unfold State.sampleDone
  try dsimp only
  repeat' first
    | with_reducible assumption
    | simp only [Keeps.upd_iff]
    | (with_reducible apply Keeps.foldl)
    | (with_reducible apply Keeps.foldlFst)
    | intro _ _ _
    | split

theorem State.holdWire_keeps {z₀ : State} (s : State) (n : Nat) (hk : Keeps z₀ s) : Keeps z₀ (State.holdWire s n) := by
  unfold State.holdWire
  try dsimp only
  repeat' first
    | with_reducible assumption
    | simp only [Keeps.upd_iff]
    | with_reducible apply State.setWire_keeps
    | with_reducible apply State.hold_keeps
    | with_reducible apply State.sampleDone_keeps
    | (with_reducible apply Keeps.foldl)
    | (with_reducible apply Keeps.foldlFst)
    | intro _ _ _
    | split

theorem State.laceCheck_keeps {z₀ : State} (s : State) (hk : Keeps z₀ s) : Keeps z₀ (State.laceCheck s) := by
  unfold State.laceCheck
  try dsimp only
  repeat' first
    | with_reducible assumption
    | simp only [Keeps.upd_iff]
    | with_reducible apply State.setWire_keeps
    | (with_reducible apply Keeps.foldl)
    | (with_reducible apply Keeps.foldlFst)
    | intro _ _ _
    | split

theorem State.examine_keeps {z₀ : State} (s : State) (e : Nat) (hk : Keeps z₀ s) : Keeps z₀ (State.examine s e) := by
  unfold State.examine
  try dsimp only
  repeat' first
    | with_reducible assumption
    | simp only [Keeps.upd_iff]
    | with_reducible apply State.examineList_keeps
    | with_reducible apply State.laceCheck_keeps
    | (with_reducible apply Keeps.foldl)
    | (with_reducible apply Keeps.foldlFst)
    | intro _ _ _
    | split

theorem State.refuseEye_keeps {z₀ : State} (s : State) (op : BitVec 8) (c : Cmd) (hk : Keeps z₀ s) : Keeps z₀ (State.refuseEye s op c) := by
  unfold State.refuseEye
  try dsimp only
  repeat' first
    | with_reducible assumption
    | simp only [Keeps.upd_iff]
    | with_reducible apply State.complete_keeps
    | (with_reducible apply Keeps.foldl)
    | (with_reducible apply Keeps.foldlFst)
    | intro _ _ _
    | split

theorem State.runEyeAdd_keeps {z₀ : State} (s : State) (c : Cmd) (hk : Keeps z₀ s) : Keeps z₀ (State.runEyeAdd s c) := by
  unfold State.runEyeAdd
  try dsimp only
  repeat' first
    | with_reducible assumption
    | simp only [Keeps.upd_iff]
    | with_reducible apply State.complete_keeps
    | with_reducible apply State.addEye_keeps
    | with_reducible apply State.command_keeps
    | with_reducible apply State.examine_keeps
    | (with_reducible apply Keeps.foldl)
    | (with_reducible apply Keeps.foldlFst)
    | intro _ _ _
    | split

theorem State.registerWait_keeps {z₀ : State} (s : State) (c : Cmd) (t e : Nat) (hk : Keeps z₀ s) : Keeps z₀ (State.registerWait s c t e) := by
  unfold State.registerWait
  try dsimp only
  repeat' first
    | with_reducible assumption
    | simp only [Keeps.upd_iff]
    | with_reducible apply State.complete_keeps
    | with_reducible apply State.setWaits_keeps
    | with_reducible apply State.outPower_keeps
    | with_reducible apply State.log_keeps
    | (with_reducible apply Keeps.foldl)
    | (with_reducible apply Keeps.foldlFst)
    | intro _ _ _
    | split

theorem State.runEyeWait_keeps {z₀ : State} (s : State) (c : Cmd) (hk : Keeps z₀ s) : Keeps z₀ (State.runEyeWait s c) := by
  unfold State.runEyeWait
  try dsimp only
  repeat' first
    | with_reducible assumption
    | simp only [Keeps.upd_iff]
    | with_reducible apply State.complete_keeps
    | with_reducible apply State.setEyelet_keeps
    | with_reducible apply State.laceCheck_keeps
    | with_reducible apply State.registerWait_keeps
    | (with_reducible apply Keeps.foldl)
    | (with_reducible apply Keeps.foldlFst)
    | intro _ _ _
    | split

theorem State.runEyeSet_keeps {z₀ : State} (s : State) (c : Cmd) (hk : Keeps z₀ s) : Keeps z₀ (State.runEyeSet s c) := by
  unfold State.runEyeSet
  try dsimp only
  repeat' first
    | with_reducible assumption
    | simp only [Keeps.upd_iff]
    | with_reducible apply State.complete_keeps
    | with_reducible apply State.setEyelet_keeps
    | with_reducible apply State.examine_keeps
    | (with_reducible apply Keeps.foldl)
    | (with_reducible apply Keeps.foldlFst)
    | intro _ _ _
    | split

theorem State.ctxRefuse_keeps {z₀ : State} (s : State) (r : Nat) (hk : Keeps z₀ s) : Keeps z₀ (State.ctxRefuse s r) := by
  unfold State.ctxRefuse
  try dsimp only
  repeat' first
    | with_reducible assumption
    | simp only [Keeps.upd_iff]
    | (with_reducible apply Keeps.foldl)
    | (with_reducible apply Keeps.foldlFst)
    | intro _ _ _
    | split

theorem State.endWaits_keeps {z₀ : State} (s : State) (f : Wait → Bool) (status : Nat) (clap : Bool) (hk : Keeps z₀ s) : Keeps z₀ (State.endWaits s f status clap) := by
  unfold State.endWaits
  try dsimp only
  repeat' first
    | with_reducible assumption
    | simp only [Keeps.upd_iff]
    | with_reducible apply State.endWait_keeps
    | with_reducible apply State.setWaits_keeps
    | (with_reducible apply Keeps.foldl)
    | (with_reducible apply Keeps.foldlFst)
    | intro _ _ _
    | split

theorem State.startCtx_keeps {z₀ : State} (s : State) (t base : Nat) (save loan : Bool) (hk : Keeps z₀ s) : Keeps z₀ (State.startCtx s t base save loan) := by
  unfold State.startCtx
  try dsimp only
  repeat' first
    | with_reducible assumption
    | simp only [Keeps.upd_iff]
    | with_reducible apply State.ctxRefuse_keeps
    | with_reducible apply State.endWaits_keeps
    | (with_reducible apply Keeps.foldl)
    | (with_reducible apply Keeps.foldlFst)
    | intro _ _ _
    | split

theorem State.applySignal_keeps {z₀ : State} (s : State) (h : HeldSignal) (hk : Keeps z₀ s) : Keeps z₀ (State.applySignal s h) := by
  unfold State.applySignal
  try dsimp only
  repeat' first
    | with_reducible assumption
    | simp only [Keeps.upd_iff]
    | with_reducible apply State.bump_keeps
    | with_reducible apply State.addEye_keeps
    | with_reducible apply State.examine_keeps
    | (with_reducible apply Keeps.foldl)
    | (with_reducible apply Keeps.foldlFst)
    | intro _ _ _
    | split

theorem State.endCtx_keeps {z₀ : State} (s : State) (r : Nat) (hk : Keeps z₀ s) : Keeps z₀ (State.endCtx s r) := by
  unfold State.endCtx
  try dsimp only
  repeat' first
    | with_reducible assumption
    | simp only [Keeps.upd_iff]
    | with_reducible apply State.applySignal_keeps
    | with_reducible apply State.raise_keeps
    | (with_reducible apply Keeps.foldl)
    | (with_reducible apply Keeps.foldlFst)
    | intro _ _ _
    | split

theorem State.fillEyes_keeps {z₀ : State} (s : State) (base n : Nat) (f : Nat → Eyelet) (hk : Keeps z₀ s) : Keeps z₀ (State.fillEyes s base n f) := by
  unfold State.fillEyes
  try dsimp only
  repeat' first
    | with_reducible assumption
    | simp only [Keeps.upd_iff]
    | with_reducible apply State.setEyelet_keeps
    | (with_reducible apply Keeps.foldl)
    | (with_reducible apply Keeps.foldlFst)
    | intro _ _ _
    | split

theorem State.finishSave_keeps {z₀ : State} (s : State) (x : CtxOp) (hk : Keeps z₀ s) : Keeps z₀ (State.finishSave s x) := by
  unfold State.finishSave
  try dsimp only
  repeat' first
    | with_reducible assumption
    | simp only [Keeps.upd_iff]
    | with_reducible apply State.unitWrite_keeps
    | with_reducible apply State.fillEyes_keeps
    | with_reducible apply State.endCtx_keeps
    | (with_reducible apply Keeps.foldl)
    | (with_reducible apply Keeps.foldlFst)
    | intro _ _ _
    | split

theorem State.finishRestore_keeps {z₀ : State} (s : State) (x : CtxOp) (hk : Keeps z₀ s) : Keeps z₀ (State.finishRestore s x) := by
  unfold State.finishRestore
  try dsimp only
  repeat' first
    | with_reducible assumption
    | simp only [Keeps.upd_iff]
    | with_reducible apply State.fillEyes_keeps
    | with_reducible apply State.examine_keeps
    | with_reducible apply State.endCtx_keeps
    | (with_reducible apply Keeps.foldl)
    | (with_reducible apply Keeps.foldlFst)
    | intro _ _ _
    | split

theorem State.bindCheck_keeps {z₀ : State} (s : State) (n : Nat) (hk : Keeps z₀ s) : Keeps z₀ (State.bindCheck s n) := by
  unfold State.bindCheck
  try dsimp only
  repeat' first
    | with_reducible assumption
    | simp only [Keeps.upd_iff]
    | with_reducible apply State.setWire_keeps
    | (with_reducible apply Keeps.foldl)
    | (with_reducible apply Keeps.foldlFst)
    | intro _ _ _
    | split

theorem State.realign_keeps {z₀ : State} (s : State) (n : Nat) (hk : Keeps z₀ s) : Keeps z₀ (State.realign s n) := by
  unfold State.realign
  try dsimp only
  repeat' first
    | with_reducible assumption
    | simp only [Keeps.upd_iff]
    | with_reducible apply State.setEyelet_keeps
    | with_reducible apply State.log_keeps
    | with_reducible apply State.examineList_keeps
    | (with_reducible apply Keeps.foldl)
    | (with_reducible apply Keeps.foldlFst)
    | intro _ _ _
    | split

theorem State.releaseWire_keeps {z₀ : State} (s : State) (n : Nat) (hk : Keeps z₀ s) : Keeps z₀ (State.releaseWire s n) := by
  unfold State.releaseWire
  try dsimp only
  repeat' first
    | with_reducible assumption
    | simp only [Keeps.upd_iff]
    | with_reducible apply State.addEye_keeps
    | with_reducible apply State.realign_keeps
    | with_reducible apply State.bump_keeps
    | with_reducible apply State.raise_keeps
    | with_reducible apply State.setWire_keeps
    | with_reducible apply State.sampleDone_keeps
    | with_reducible apply State.examine_keeps
    | (with_reducible apply Keeps.foldl)
    | (with_reducible apply Keeps.foldlFst)
    | intro _ _ _
    | split

theorem State.loseDie_keeps {z₀ : State} (s : State) (die : Nat) (system : Bool) (hk : Keeps z₀ s) : Keeps z₀ (State.loseDie s die system) := by
  unfold State.loseDie
  try dsimp only
  repeat' first
    | with_reducible assumption
    | simp only [Keeps.upd_iff]
    | with_reducible apply State.hold_keeps
    | with_reducible apply State.setReg64_keeps
    | with_reducible apply State.bump_keeps
    | with_reducible apply State.report_keeps
    | with_reducible apply State.pageError_keeps
    | (with_reducible apply Keeps.foldl)
    | (with_reducible apply Keeps.foldlFst)
    | intro _ _ _
    | split

theorem State.endGap_keeps {z₀ : State} (s : State) (n : Nat) (hk : Keeps z₀ s) : Keeps z₀ (State.endGap s n) := by
  unfold State.endGap
  try dsimp only
  repeat' first
    | with_reducible assumption
    | simp only [Keeps.upd_iff]
    | with_reducible apply State.advanceTo_keeps
    | with_reducible apply State.setWire_keeps
    | with_reducible apply State.hold_keeps
    | with_reducible apply State.laceCheck_keeps
    | with_reducible apply State.sampleDone_keeps
    | (with_reducible apply Keeps.foldl)
    | (with_reducible apply Keeps.foldlFst)
    | intro _ _ _
    | split

theorem State.sheetLoad_keeps {z₀ : State} (s : State) (t : Nat) (hk : Keeps z₀ s) : Keeps z₀ (State.sheetLoad s t) := by
  unfold State.sheetLoad
  try dsimp only
  repeat' first
    | with_reducible assumption
    | simp only [Keeps.upd_iff]
    | with_reducible apply State.modTenant_keeps
    | (with_reducible apply Keeps.foldl)
    | (with_reducible apply Keeps.foldlFst)
    | intro _ _ _
    | split

theorem State.writeOffsets_keeps {z₀ : State} (s : State) (t : Nat) (cover : List (Option Nat)) (hk : Keeps z₀ s) : Keeps z₀ (State.writeOffsets s t cover) := by
  unfold State.writeOffsets
  try dsimp only
  repeat' first
    | with_reducible assumption
    | simp only [Keeps.upd_iff]
    | with_reducible apply State.unitWrite_keeps
    | (with_reducible apply Keeps.foldl)
    | (with_reducible apply Keeps.foldlFst)
    | intro _ _ _
    | split

theorem State.refuseSheet_keeps {z₀ : State} (s : State) (t : Nat) (r : SheetRefusal) (hk : Keeps z₀ s) : Keeps z₀ (State.refuseSheet s t r) := by
  unfold State.refuseSheet
  try dsimp only
  repeat' first
    | with_reducible assumption
    | simp only [Keeps.upd_iff]
    | with_reducible apply State.modTenant_keeps
    | with_reducible apply State.log_keeps
    | with_reducible apply State.pageError_keeps
    | with_reducible apply State.raise_keeps
    | (with_reducible apply Keeps.foldl)
    | (with_reducible apply Keeps.foldlFst)
    | intro _ _ _
    | split

theorem State.passSheet_keeps {z₀ : State} (s : State) (t : Nat) (c : SheetCheck) (hk : Keeps z₀ s) : Keeps z₀ (State.passSheet s t c) := by
  unfold State.passSheet
  try dsimp only
  repeat' first
    | with_reducible assumption
    | simp only [Keeps.upd_iff]
    | with_reducible apply State.modTenant_keeps
    | with_reducible apply State.initTable_keeps
    | with_reducible apply State.writeOffsets_keeps
    | with_reducible apply State.setRegT_keeps
    | with_reducible apply State.raise_keeps
    | (with_reducible apply Keeps.foldl)
    | (with_reducible apply Keeps.foldlFst)
    | intro _ _ _
    | split

theorem State.sheetDone_keeps {z₀ : State} (s : State) (t : Nat) (hk : Keeps z₀ s) : Keeps z₀ (State.sheetDone s t) := by
  unfold State.sheetDone
  try dsimp only
  repeat' first
    | with_reducible assumption
    | simp only [Keeps.upd_iff]
    | with_reducible apply State.refuseSheet_keeps
    | with_reducible apply State.passSheet_keeps
    | (with_reducible apply Keeps.foldl)
    | (with_reducible apply Keeps.foldlFst)
    | intro _ _ _
    | split

theorem State.sheetUnload_keeps {z₀ : State} (s : State) (t : Nat) (hk : Keeps z₀ s) : Keeps z₀ (State.sheetUnload s t) := by
  unfold State.sheetUnload
  try dsimp only
  repeat' first
    | with_reducible assumption
    | simp only [Keeps.upd_iff]
    | with_reducible apply State.setTenant_keeps
    | (with_reducible apply Keeps.foldl)
    | (with_reducible apply Keeps.foldlFst)
    | intro _ _ _
    | split

end Sys2Proof.Machine
end

