-- ==== Sys2Proof/Laws/KeepsPort.lean ====
section
/-! SUPPORT. Every operation of Commands, Banks, Channels, HostTier, Norm, PeerOps, Sync, Guard keeps what Keeps speaks of. -/

set_option linter.unusedTactic false
set_option linter.unreachableTactic false
set_option linter.unusedSimpArgs false

namespace Sys2Proof.Machine

theorem State.refuse_keeps {z₀ : State} (s : State) (op : BitVec 8) (c : Cmd) (st : Nat) (hk : Keeps z₀ s) : Keeps z₀ (State.refuse s op c st) := by
  unfold State.refuse
  try dsimp only
  repeat' first
    | with_reducible assumption
    | simp only [Keeps.upd_iff]
    | with_reducible apply State.complete_keeps
    | (with_reducible apply Keeps.foldl)
    | (with_reducible apply Keeps.foldlFst)
    | intro _ _ _
    | split

theorem State.runOpen_keeps {z₀ : State} (s : State) (c : Cmd) (hk : Keeps z₀ s) : Keeps z₀ (State.runOpen s c) := by
  unfold State.runOpen
  try dsimp only
  repeat' first
    | with_reducible assumption
    | simp only [Keeps.upd_iff]
    | with_reducible apply State.refuse_keeps
    | with_reducible apply State.bump_keeps
    | with_reducible apply State.openRecord_keeps
    | with_reducible apply State.complete_keeps
    | (with_reducible apply Keeps.foldl)
    | (with_reducible apply Keeps.foldlFst)
    | intro _ _ _
    | split

theorem State.runInline_keeps {z₀ : State} (s : State) (c : Cmd) (hk : Keeps z₀ s) : Keeps z₀ (State.runInline s c) := by
  unfold State.runInline
  try dsimp only
  repeat' first
    | with_reducible assumption
    | simp only [Keeps.upd_iff]
    | with_reducible apply State.refuse_keeps
    | with_reducible apply State.complete_keeps
    | with_reducible apply State.setInline_keeps
    | (with_reducible apply Keeps.foldl)
    | (with_reducible apply Keeps.foldlFst)
    | intro _ _ _
    | split

theorem State.fallbackRate_keeps {z₀ : State} (s : State) (i : Nat) (hk : Keeps z₀ s) : Keeps z₀ (State.fallbackRate s i) := by
  unfold State.fallbackRate
  try dsimp only
  repeat' first
    | with_reducible assumption
    | simp only [Keeps.upd_iff]
    | with_reducible apply State.report_keeps
    | with_reducible apply State.pageError_keeps
    | (with_reducible apply Keeps.foldl)
    | (with_reducible apply Keeps.foldlFst)
    | intro _ _ _
    | split

theorem State.applySeal_keeps {z₀ : State} (s : State) (c : Cmd) (i : Nat) (hk : Keeps z₀ s) : Keeps z₀ (State.applySeal s c i) := by
  unfold State.applySeal
  try dsimp only
  repeat' first
    | with_reducible assumption
    | simp only [Keeps.upd_iff]
    | with_reducible apply State.tear_keeps
    | with_reducible apply State.complete_keeps
    | with_reducible apply State.closeExtent_keeps
    | with_reducible apply State.modSlate_keeps
    | with_reducible apply State.fallbackRate_keeps
    | with_reducible apply State.reelCheck_keeps
    | with_reducible apply State.playCheck_keeps
    | (with_reducible apply Keeps.foldl)
    | (with_reducible apply Keeps.foldlFst)
    | intro _ _ _
    | split

theorem State.runSeal_keeps {z₀ : State} (s : State) (c : Cmd) (hk : Keeps z₀ s) : Keeps z₀ (State.runSeal s c) := by
  unfold State.runSeal
  try dsimp only
  repeat' first
    | with_reducible assumption
    | simp only [Keeps.upd_iff]
    | with_reducible apply State.refuse_keeps
    | with_reducible apply State.applySeal_keeps
    | with_reducible apply State.complete_keeps
    | (with_reducible apply Keeps.foldl)
    | (with_reducible apply Keeps.foldlFst)
    | intro _ _ _
    | split

theorem State.beginSeal_keeps {z₀ : State} (s : State) (i : Nat) (hk : Keeps z₀ s) : Keeps z₀ (State.beginSeal s i) := by
  unfold State.beginSeal
  try dsimp only
  repeat' first
    | with_reducible assumption
    | simp only [Keeps.upd_iff]
    | with_reducible apply State.handInline_keeps
    | (with_reducible apply Keeps.foldl)
    | (with_reducible apply Keeps.foldlFst)
    | intro _ _ _
    | split

theorem State.addCall_keeps {z₀ : State} (s : State) (i : Nat) (c : Cmd) (hk : Keeps z₀ s) : Keeps z₀ (State.addCall s i c) := by
  unfold State.addCall
  try dsimp only
  repeat' first
    | with_reducible assumption
    | simp only [Keeps.upd_iff]
    | with_reducible apply State.modSlate_keeps
    | (with_reducible apply Keeps.foldl)
    | (with_reducible apply Keeps.foldlFst)
    | intro _ _ _
    | split

theorem State.actOnCall_keeps {z₀ : State} (s : State) (i : Nat) (hk : Keeps z₀ s) : Keeps z₀ (State.actOnCall s i) := by
  unfold State.actOnCall
  try dsimp only
  repeat' first
    | with_reducible assumption
    | simp only [Keeps.upd_iff]
    | with_reducible apply State.takePending_keeps
    | with_reducible apply State.enterReady_keeps
    | with_reducible apply State.moveBack_keeps
    | with_reducible apply State.beginReturn_keeps
    | with_reducible apply State.wantJob_keeps
    | with_reducible apply State.startNow_keeps
    | (with_reducible apply Keeps.foldl)
    | (with_reducible apply Keeps.foldlFst)
    | intro _ _ _
    | split

theorem State.runCall_keeps {z₀ : State} (s : State) (c : Cmd) (hk : Keeps z₀ s) : Keeps z₀ (State.runCall s c) := by
  unfold State.runCall
  try dsimp only
  repeat' first
    | with_reducible assumption
    | simp only [Keeps.upd_iff]
    | with_reducible apply State.refuse_keeps
    | with_reducible apply State.complete_keeps
    | with_reducible apply State.serveEngines_keeps
    | with_reducible apply State.addCall_keeps
    | with_reducible apply State.actOnCall_keeps
    | with_reducible apply State.tendJobs_keeps
    | (with_reducible apply Keeps.foldl)
    | (with_reducible apply Keeps.foldlFst)
    | intro _ _ _
    | split

theorem State.runRelease_keeps {z₀ : State} (s : State) (c : Cmd) (hk : Keeps z₀ s) : Keeps z₀ (State.runRelease s c) := by
  unfold State.runRelease
  try dsimp only
  repeat' first
    | with_reducible assumption
    | simp only [Keeps.upd_iff]
    | with_reducible apply State.refuse_keeps
    | with_reducible apply State.releaseSlate_keeps
    | with_reducible apply State.complete_keeps
    | (with_reducible apply Keeps.foldl)
    | (with_reducible apply Keeps.foldlFst)
    | intro _ _ _
    | split

theorem State.runFrame_keeps {z₀ : State} (s : State) (c : Cmd) (hk : Keeps z₀ s) : Keeps z₀ (State.runFrame s c) := by
  unfold State.runFrame
  try dsimp only
  repeat' first
    | with_reducible assumption
    | simp only [Keeps.upd_iff]
    | with_reducible apply State.refuse_keeps
    | with_reducible apply State.complete_keeps
    | with_reducible apply State.closeFrames_keeps
    | with_reducible apply State.reachFrame_keeps
    | (with_reducible apply Keeps.foldl)
    | (with_reducible apply Keeps.foldlFst)
    | intro _ _ _
    | split

theorem State.stepAnswered_keeps {z₀ : State} (s : State) (slot : Nat) (j : Job) (q : Nat) (hk : Keeps z₀ s) : Keeps z₀ (State.stepAnswered s slot j q) := by
  unfold State.stepAnswered
  try dsimp only
  repeat' first
    | with_reducible assumption
    | simp only [Keeps.upd_iff]
    | with_reducible apply State.setJob_keeps
    | with_reducible apply State.jobProgress_keeps
    | with_reducible apply State.reapJobs_keeps
    | with_reducible apply State.tendJobs_keeps
    | (with_reducible apply Keeps.foldl)
    | (with_reducible apply Keeps.foldlFst)
    | intro _ _ _
    | split

theorem State.runDone_keeps {z₀ : State} (s : State) (c : Cmd) (hk : Keeps z₀ s) : Keeps z₀ (State.runDone s c) := by
  unfold State.runDone
  try dsimp only
  repeat' first
    | with_reducible assumption
    | simp only [Keeps.upd_iff]
    | with_reducible apply State.refuse_keeps
    | with_reducible apply State.complete_keeps
    | with_reducible apply State.stepAnswered_keeps
    | with_reducible apply State.bump_keeps
    | with_reducible apply State.stepFailed_keeps
    | with_reducible apply State.tendJobs_keeps
    | (with_reducible apply Keeps.foldl)
    | (with_reducible apply Keeps.foldlFst)
    | intro _ _ _
    | split

theorem State.beginStep_keeps {z₀ : State} (s : State) (c : Cmd) (hk : Keeps z₀ s) : Keeps z₀ (State.beginStep s c) := by
  unfold State.beginStep
  try dsimp only
  repeat' first
    | with_reducible assumption
    | simp only [Keeps.upd_iff]
    | with_reducible apply State.refuse_keeps
    | with_reducible apply State.openStep_keeps
    | with_reducible apply State.complete_keeps
    | (with_reducible apply Keeps.foldl)
    | (with_reducible apply Keeps.foldlFst)
    | intro _ _ _
    | split

theorem State.runBegin_keeps {z₀ : State} (s : State) (c : Cmd) (hk : Keeps z₀ s) : Keeps z₀ (State.runBegin s c) := by
  unfold State.runBegin
  try dsimp only
  repeat' first
    | with_reducible assumption
    | simp only [Keeps.upd_iff]
    | with_reducible apply State.refuse_keeps
    | with_reducible apply State.modTenant_keeps
    | with_reducible apply State.raise_keeps
    | with_reducible apply State.beginStep_keeps
    | (with_reducible apply Keeps.foldl)
    | (with_reducible apply Keeps.foldlFst)
    | intro _ _ _
    | split

theorem State.runEnd_keeps {z₀ : State} (s : State) (c : Cmd) (hk : Keeps z₀ s) : Keeps z₀ (State.runEnd s c) := by
  unfold State.runEnd
  try dsimp only
  repeat' first
    | with_reducible assumption
    | simp only [Keeps.upd_iff]
    | with_reducible apply State.refuse_keeps
    | with_reducible apply State.abandon_keeps
    | with_reducible apply State.closeStep_keeps
    | with_reducible apply State.complete_keeps
    | (with_reducible apply Keeps.foldl)
    | (with_reducible apply Keeps.foldlFst)
    | intro _ _ _
    | split

theorem State.runProp_keeps {z₀ : State} (s : State) (c : Cmd) (hk : Keeps z₀ s) : Keeps z₀ (State.runProp s c) := by
  unfold State.runProp
  try dsimp only
  repeat' first
    | with_reducible assumption
    | simp only [Keeps.upd_iff]
    | with_reducible apply State.refuse_keeps
    | with_reducible apply State.startGather_keeps
    | with_reducible apply State.complete_keeps
    | (with_reducible apply Keeps.foldl)
    | (with_reducible apply Keeps.foldlFst)
    | intro _ _ _
    | split

theorem State.runLend_keeps {z₀ : State} (s : State) (c : Cmd) (hk : Keeps z₀ s) : Keeps z₀ (State.runLend s c) := by
  unfold State.runLend
  try dsimp only
  repeat' first
    | with_reducible assumption
    | simp only [Keeps.upd_iff]
    | with_reducible apply State.refuse_keeps
    | (with_reducible apply Keeps.foldl)
    | (with_reducible apply Keeps.foldlFst)
    | intro _ _ _
    | split

theorem State.runResume_keeps {z₀ : State} (s : State) (c : Cmd) (hk : Keeps z₀ s) : Keeps z₀ (State.runResume s c) := by
  unfold State.runResume
  try dsimp only
  repeat' first
    | with_reducible assumption
    | simp only [Keeps.upd_iff]
    | with_reducible apply State.refuse_keeps
    | (with_reducible apply Keeps.foldl)
    | (with_reducible apply Keeps.foldlFst)
    | intro _ _ _
    | split

theorem State.endLoan_keeps {z₀ : State} (s : State) (hk : Keeps z₀ s) : Keeps z₀ (State.endLoan s) := by
  unfold State.endLoan
  try dsimp only
  repeat' first
    | with_reducible assumption
    | simp only [Keeps.upd_iff]
    | with_reducible apply State.complete_keeps
    | (with_reducible apply Keeps.foldl)
    | (with_reducible apply Keeps.foldlFst)
    | intro _ _ _
    | split

theorem State.shelvesCleared_keeps {z₀ : State} (s : State) (hk : Keeps z₀ s) : Keeps z₀ (State.shelvesCleared s) := by
  unfold State.shelvesCleared
  try dsimp only
  repeat' first
    | with_reducible assumption
    | simp only [Keeps.upd_iff]
    | with_reducible apply State.startCtx_keeps
    | with_reducible apply State.endLoan_keeps
    | (with_reducible apply Keeps.foldl)
    | (with_reducible apply Keeps.foldlFst)
    | intro _ _ _
    | split

theorem State.runCmd_keeps {z₀ : State} (s : State) (op : BitVec 8) (c : Cmd) (hk : Keeps z₀ s) : Keeps z₀ (State.runCmd s op c) := by
  unfold State.runCmd
  try dsimp only
  repeat' first
    | with_reducible assumption
    | simp only [Keeps.upd_iff]
    | with_reducible apply State.runOpen_keeps
    | with_reducible apply State.runInline_keeps
    | with_reducible apply State.runSeal_keeps
    | with_reducible apply State.runCall_keeps
    | with_reducible apply State.runRelease_keeps
    | with_reducible apply State.runFrame_keeps
    | with_reducible apply State.runDone_keeps
    | with_reducible apply State.refuseEye_keeps
    | with_reducible apply State.runEyeAdd_keeps
    | with_reducible apply State.runEyeWait_keeps
    | with_reducible apply State.runEyeSet_keeps
    | with_reducible apply State.runProp_keeps
    | with_reducible apply State.runBegin_keeps
    | with_reducible apply State.runEnd_keeps
    | with_reducible apply State.runLend_keeps
    | with_reducible apply State.runResume_keeps
    | with_reducible apply State.refuse_keeps
    | (with_reducible apply Keeps.foldl)
    | (with_reducible apply Keeps.foldlFst)
    | intro _ _ _
    | split

theorem State.enterTicket_keeps {z₀ : State} (s : State) (k : Ticket) (hk : Keeps z₀ s) : Keeps z₀ (State.enterTicket s k) := by
  unfold State.enterTicket
  try dsimp only
  repeat' first
    | with_reducible assumption
    | simp only [Keeps.upd_iff]
    | (with_reducible apply Keeps.foldl)
    | (with_reducible apply Keeps.foldlFst)
    | intro _ _ _
    | split

theorem State.beginCmd_keeps {z₀ : State} (s : State) (op : BitVec 8) (c : Cmd) (hk : Keeps z₀ s) : Keeps z₀ (State.beginCmd s op c) := by
  unfold State.beginCmd
  try dsimp only
  repeat' first
    | with_reducible assumption
    | simp only [Keeps.upd_iff]
    | with_reducible apply State.enterTicket_keeps
    | (with_reducible apply Keeps.foldl)
    | (with_reducible apply Keeps.foldlFst)
    | intro _ _ _
    | split

theorem State.awaitOriginal_keeps {z₀ : State} (s : State) (k : Ticket) (hk : Keeps z₀ s) : Keeps z₀ (State.awaitOriginal s k) := by
  unfold State.awaitOriginal
  try dsimp only
  repeat' first
    | with_reducible assumption
    | simp only [Keeps.upd_iff]
    | (with_reducible apply Keeps.foldl)
    | (with_reducible apply Keeps.foldlFst)
    | intro _ _ _
    | split

theorem State.decode_keeps {z₀ : State} (s : State) (op : BitVec 8) (c : Cmd) (hk : Keeps z₀ s) : Keeps z₀ (State.decode s op c) := by
  unfold State.decode
  try dsimp only
  repeat' first
    | with_reducible assumption
    | simp only [Keeps.upd_iff]
    | with_reducible apply State.enterTicket_keeps
    | with_reducible apply State.answerCopy_keeps
    | with_reducible apply State.awaitOriginal_keeps
    | with_reducible apply State.beginCmd_keeps
    | with_reducible apply State.runCmd_keeps
    | (with_reducible apply Keeps.foldl)
    | (with_reducible apply Keeps.foldlFst)
    | intro _ _ _
    | split

theorem State.prepare_keeps {z₀ : State} (s : State) (p : BitVec 8 × Cmd) (hk : Keeps z₀ s) : Keeps z₀ (State.prepare s p) := by
  unfold State.prepare
  try dsimp only
  repeat' first
    | with_reducible assumption
    | simp only [Keeps.upd_iff]
    | with_reducible apply State.beginSeal_keeps
    | (with_reducible apply Keeps.foldl)
    | (with_reducible apply Keeps.foldlFst)
    | intro _ _ _
    | split

theorem State.admitCmds_keeps {z₀ : State} (s : State) (hk : Keeps z₀ s) : Keeps z₀ (State.admitCmds s) := by
  unfold State.admitCmds
  try dsimp only
  repeat' first
    | with_reducible assumption
    | simp only [Keeps.upd_iff]
    | (with_reducible apply Keeps.foldl)
    | (with_reducible apply Keeps.foldlFst)
    | intro _ _ _
    | split

theorem State.decodeNext_keeps {z₀ : State} (s : State) (hk : Keeps z₀ s) : Keeps z₀ (State.decodeNext s).1 := by
  unfold State.decodeNext
  try dsimp only
  repeat' first
    | with_reducible assumption
    | simp only [Keeps.upd_iff]
    | with_reducible apply State.prepare_keeps
    | with_reducible apply State.admitCmds_keeps
    | with_reducible apply State.decode_keeps
    | with_reducible apply State.takeRaised_keeps
    | (with_reducible apply Keeps.foldl)
    | (with_reducible apply Keeps.foldlFst)
    | intro _ _ _
    | split

theorem State.takeHalt_keeps {z₀ : State} (s : State) (hk : Keeps z₀ s) : Keeps z₀ (State.takeHalt s) := by
  unfold State.takeHalt
  try dsimp only
  repeat' first
    | with_reducible assumption
    | simp only [Keeps.upd_iff]
    | with_reducible apply State.raise_keeps
    | (with_reducible apply Keeps.foldl)
    | (with_reducible apply Keeps.foldlFst)
    | intro _ _ _
    | split

theorem State.drainCmds_keeps {z₀ : State}  (fuel : Nat) : ∀ s : State, Keeps z₀ s → Keeps z₀ (State.drainCmds s  fuel) := by
  induction fuel with
  | zero => intro s h; exact h
  | succ fuel ih =>
    intro s h
    unfold State.drainCmds
    try dsimp only
    repeat' first
      | with_reducible assumption
      | simp only [Keeps.upd_iff]
      | (with_reducible apply ih)
      | with_reducible apply State.decodeNext_keeps
      | (with_reducible apply Keeps.foldl)
      | (with_reducible apply Keeps.foldlFst)
      | intro _ _ _
      | split

theorem State.drain_keeps {z₀ : State} (s : State) (hk : Keeps z₀ s) : Keeps z₀ (State.drain s) := by
  unfold State.drain
  try dsimp only
  repeat' first
    | with_reducible assumption
    | simp only [Keeps.upd_iff]
    | with_reducible apply State.drainCmds_keeps
    | (with_reducible apply Keeps.foldl)
    | (with_reducible apply Keeps.foldlFst)
    | intro _ _ _
    | split

theorem State.acceptCmd_keeps {z₀ : State} (s : State) (op : BitVec 8) (c : Cmd) (hk : Keeps z₀ s) : Keeps z₀ (State.acceptCmd s op c) := by
  unfold State.acceptCmd
  try dsimp only
  repeat' first
    | with_reducible assumption
    | simp only [Keeps.upd_iff]
    | with_reducible apply State.admitCmds_keeps
    | with_reducible apply State.drain_keeps
    | (with_reducible apply Keeps.foldl)
    | (with_reducible apply Keeps.foldlFst)
    | intro _ _ _
    | split

theorem State.completeSeal_keeps {z₀ : State} (s : State) (u : Undecided) (hk : Keeps z₀ s) : Keeps z₀ (State.completeSeal s u) := by
  unfold State.completeSeal
  try dsimp only
  repeat' first
    | with_reducible assumption
    | simp only [Keeps.upd_iff]
    | with_reducible apply State.complete_keeps
    | (with_reducible apply Keeps.foldl)
    | (with_reducible apply Keeps.foldlFst)
    | intro _ _ _
    | split

theorem State.decideOne_keeps {z₀ : State} (s : State) (u : Undecided) (hk : Keeps z₀ s) : Keeps z₀ (State.decideOne s u) := by
  unfold State.decideOne
  try dsimp only
  repeat' first
    | with_reducible assumption
    | simp only [Keeps.upd_iff]
    | with_reducible apply State.decideSlate_keeps
    | with_reducible apply State.completeSeal_keeps
    | with_reducible apply State.actOnCall_keeps
    | with_reducible apply State.reachSlate_keeps
    | with_reducible apply State.tendJobs_keeps
    | (with_reducible apply Keeps.foldl)
    | (with_reducible apply Keeps.foldlFst)
    | intro _ _ _
    | split

theorem State.clickerDecision_keeps {z₀ : State} (s : State) (hk : Keeps z₀ s) : Keeps z₀ (State.clickerDecision s) := by
  unfold State.clickerDecision
  try dsimp only
  repeat' first
    | with_reducible assumption
    | simp only [Keeps.upd_iff]
    | with_reducible apply State.decideOne_keeps
    | with_reducible apply State.takeHalt_keeps
    | with_reducible apply State.drain_keeps
    | (with_reducible apply Keeps.foldl)
    | (with_reducible apply Keeps.foldlFst)
    | intro _ _ _
    | split

theorem State.mapOutDecoder_keeps {z₀ : State} (s : State) (b d : Nat) (boot : Bool) (hk : Keeps z₀ s) : Keeps z₀ (State.mapOutDecoder s b d boot) := by
  unfold State.mapOutDecoder
  try dsimp only
  repeat' first
    | with_reducible assumption
    | simp only [Keeps.upd_iff]
    | with_reducible apply State.setBank_keeps
    | with_reducible apply State.report_keeps
    | (with_reducible apply Keeps.foldl)
    | (with_reducible apply Keeps.foldlFst)
    | intro _ _ _
    | split

theorem State.useBook_keeps {z₀ : State} (s : State) (b book : Nat) (hk : Keeps z₀ s) : Keeps z₀ (State.useBook s b book) := by
  unfold State.useBook
  try dsimp only
  repeat' first
    | with_reducible assumption
    | simp only [Keeps.upd_iff]
    | with_reducible apply State.modBank_keeps
    | (with_reducible apply Keeps.foldl)
    | (with_reducible apply Keeps.foldlFst)
    | intro _ _ _
    | split

theorem State.missBook_keeps {z₀ : State} (s : State) (b book : Nat) (hk : Keeps z₀ s) : Keeps z₀ (State.missBook s b book) := by
  unfold State.missBook
  try dsimp only
  repeat' first
    | with_reducible assumption
    | simp only [Keeps.upd_iff]
    | with_reducible apply State.bump_keeps
    | with_reducible apply State.wantBook_keeps
    | with_reducible apply State.modBank_keeps
    | (with_reducible apply Keeps.foldl)
    | (with_reducible apply Keeps.foldlFst)
    | intro _ _ _
    | split

theorem State.delayMiss_keeps {z₀ : State} (s : State) (b book n : Nat) (hk : Keeps z₀ s) : Keeps z₀ (State.delayMiss s b book n) := by
  unfold State.delayMiss
  try dsimp only
  repeat' first
    | with_reducible assumption
    | simp only [Keeps.upd_iff]
    | with_reducible apply State.modBank_keeps
    | (with_reducible apply Keeps.foldl)
    | (with_reducible apply Keeps.foldlFst)
    | intro _ _ _
    | split

theorem State.serveMiss_keeps {z₀ : State} (s : State) (hk : Keeps z₀ s) : Keeps z₀ (State.serveMiss s) := by
  unfold State.serveMiss
  try dsimp only
  repeat' first
    | with_reducible assumption
    | simp only [Keeps.upd_iff]
    | with_reducible apply State.useBook_keeps
    | with_reducible apply State.delayMiss_keeps
    | (with_reducible apply Keeps.foldl)
    | (with_reducible apply Keeps.foldlFst)
    | intro _ _ _
    | split

theorem State.acceptRequest_keeps {z₀ : State} (s : State) (b slate gen block : Nat) (hk : Keeps z₀ s) : Keeps z₀ (State.acceptRequest s b slate gen block) := by
  unfold State.acceptRequest
  try dsimp only
  repeat' first
    | with_reducible assumption
    | simp only [Keeps.upd_iff]
    | with_reducible apply State.modBank_keeps
    | with_reducible apply State.tendStall_keeps
    | (with_reducible apply Keeps.foldl)
    | (with_reducible apply Keeps.foldlFst)
    | intro _ _ _
    | split

theorem State.acceptOffered_keeps {z₀ : State} (s : State) (b : Nat) (hk : Keeps z₀ s) : Keeps z₀ (State.acceptOffered s b) := by
  unfold State.acceptOffered
  try dsimp only
  repeat' first
    | with_reducible assumption
    | simp only [Keeps.upd_iff]
    | with_reducible apply State.acceptRequest_keeps
    | with_reducible apply State.setBank_keeps
    | (with_reducible apply Keeps.foldl)
    | (with_reducible apply Keeps.foldlFst)
    | intro _ _ _
    | split

theorem State.operandRequest_keeps {z₀ : State} (s : State) (b slate gen block : Nat) (hk : Keeps z₀ s) : Keeps z₀ (State.operandRequest s b slate gen block) := by
  unfold State.operandRequest
  try dsimp only
  repeat' first
    | with_reducible assumption
    | simp only [Keeps.upd_iff]
    | with_reducible apply State.acceptRequest_keeps
    | with_reducible apply State.modBank_keeps
    | (with_reducible apply Keeps.foldl)
    | (with_reducible apply Keeps.foldlFst)
    | intro _ _ _
    | split

theorem State.popRequest_keeps {z₀ : State} (s : State) (b : Nat) (hk : Keeps z₀ s) : Keeps z₀ (State.popRequest s b) := by
  unfold State.popRequest
  try dsimp only
  repeat' first
    | with_reducible assumption
    | simp only [Keeps.upd_iff]
    | with_reducible apply State.modBank_keeps
    | with_reducible apply State.tendStall_keeps
    | (with_reducible apply Keeps.foldl)
    | (with_reducible apply Keeps.foldlFst)
    | intro _ _ _
    | split

theorem State.queueBlock_keeps {z₀ : State} (s : State) (b : Nat) (q : OpReq) (poison : List Bool) (raw : List Byte) (hk : Keeps z₀ s) : Keeps z₀ (State.queueBlock s b q poison raw) := by
  unfold State.queueBlock
  try dsimp only
  repeat' first
    | with_reducible assumption
    | simp only [Keeps.upd_iff]
    | with_reducible apply State.draw_keeps
    | with_reducible apply State.modBank_keeps
    | with_reducible apply State.popRequest_keeps
    | (with_reducible apply Keeps.foldl)
    | (with_reducible apply Keeps.foldlFst)
    | intro _ _ _
    | split

theorem State.deliver_keeps {z₀ : State} (s : State) (b : Nat) (x : Beats) (hk : Keeps z₀ s) : Keeps z₀ (State.deliver s b x) := by
  unfold State.deliver
  try dsimp only
  repeat' first
    | with_reducible assumption
    | simp only [Keeps.upd_iff]
    | with_reducible apply State.bump_keeps
    | with_reducible apply State.poison_keeps
    | with_reducible apply State.outBeats_keeps
    | (with_reducible apply Keeps.foldl)
    | (with_reducible apply Keeps.foldlFst)
    | intro _ _ _
    | split

theorem State.driveQueue_keeps {z₀ : State} (s : State) (b : Nat) (hk : Keeps z₀ s) : Keeps z₀ (State.driveQueue s b) := by
  unfold State.driveQueue
  try dsimp only
  repeat' first
    | with_reducible assumption
    | simp only [Keeps.upd_iff]
    | with_reducible apply State.deliver_keeps
    | with_reducible apply State.modBank_keeps
    | with_reducible apply State.acceptOffered_keeps
    | (with_reducible apply Keeps.foldl)
    | (with_reducible apply Keeps.foldlFst)
    | intro _ _ _
    | split

theorem State.answerPoisoned_keeps {z₀ : State} (s : State) (b : Nat) (q : OpReq) (hk : Keeps z₀ s) : Keeps z₀ (State.answerPoisoned s b q) := by
  unfold State.answerPoisoned
  try dsimp only
  repeat' first
    | with_reducible assumption
    | simp only [Keeps.upd_iff]
    | with_reducible apply State.driveQueue_keeps
    | with_reducible apply State.draw_keeps
    | with_reducible apply State.popRequest_keeps
    | with_reducible apply State.deliver_keeps
    | (with_reducible apply Keeps.foldl)
    | (with_reducible apply Keeps.foldlFst)
    | intro _ _ _
    | split

theorem State.startSelftest_keeps {z₀ : State} (s : State) (b mask : Nat) (hk : Keeps z₀ s) : Keeps z₀ (State.startSelftest s b mask) := by
  unfold State.startSelftest
  try dsimp only
  repeat' first
    | with_reducible assumption
    | simp only [Keeps.upd_iff]
    | with_reducible apply State.driveQueue_keeps
    | with_reducible apply State.modBank_keeps
    | (with_reducible apply Keeps.foldl)
    | (with_reducible apply Keeps.foldlFst)
    | intro _ _ _
    | split

theorem State.endSelftest_keeps {z₀ : State} (s : State) (b : Nat) (failing : List (Fin 17)) (hk : Keeps z₀ s) : Keeps z₀ (State.endSelftest s b failing) := by
  unfold State.endSelftest
  try dsimp only
  repeat' first
    | with_reducible assumption
    | simp only [Keeps.upd_iff]
    | with_reducible apply State.mapOutDecoder_keeps
    | with_reducible apply State.modBank_keeps
    | with_reducible apply State.acceptOffered_keeps
    | (with_reducible apply Keeps.foldl)
    | (with_reducible apply Keeps.foldlFst)
    | intro _ _ _
    | split

theorem State.bankFail_keeps {z₀ : State} (s : State) (b : Nat) (q : OpReq) (stage e f : Nat) (hk : Keeps z₀ s) : Keeps z₀ (State.bankFail s b q stage e f) := by
  unfold State.bankFail
  try dsimp only
  repeat' first
    | with_reducible assumption
    | simp only [Keeps.upd_iff]
    | with_reducible apply State.logBlockFail_keeps
    | with_reducible apply State.pageError_keeps
    | with_reducible apply State.raise_keeps
    | (with_reducible apply Keeps.foldl)
    | (with_reducible apply Keeps.foldlFst)
    | intro _ _ _
    | split

theorem State.afterFail_keeps {z₀ : State} (s : State) (b : Nat) (q : OpReq) (stage used : Nat) (hk : Keeps z₀ s) : Keeps z₀ (State.afterFail s b q stage used) := by
  unfold State.afterFail
  try dsimp only
  repeat' first
    | with_reducible assumption
    | simp only [Keeps.upd_iff]
    | with_reducible apply State.startSelftest_keeps
    | with_reducible apply State.modBank_keeps
    | with_reducible apply State.startFill_keeps
    | (with_reducible apply Keeps.foldl)
    | (with_reducible apply Keeps.foldlFst)
    | intro _ _ _
    | split

theorem State.expandBlock_keeps {z₀ : State} (s : State) (b : Nat) (q : OpReq) (img : List Byte) (seen : Option (List Byte)) (used : Nat) (drive : Bool) (hk : Keeps z₀ s) : Keeps z₀ (State.expandBlock s b q img seen used drive) := by
  unfold State.expandBlock
  try dsimp only
  repeat' first
    | with_reducible assumption
    | simp only [Keeps.upd_iff]
    | with_reducible apply State.missBook_keeps
    | with_reducible apply State.useBook_keeps
    | with_reducible apply State.queueBlock_keeps
    | with_reducible apply State.bankFail_keeps
    | with_reducible apply State.afterFail_keeps
    | (with_reducible apply Keeps.foldl)
    | (with_reducible apply Keeps.foldlFst)
    | intro _ _ _
    | split

theorem State.expandFirst_keeps {z₀ : State} (s : State) (b : Nat) (seen : Option (List Byte)) (used : Nat) (drive : Bool) (hk : Keeps z₀ s) : Keeps z₀ (State.expandFirst s b seen used drive) := by
  unfold State.expandFirst
  try dsimp only
  repeat' first
    | with_reducible assumption
    | simp only [Keeps.upd_iff]
    | with_reducible apply State.poison_keeps
    | with_reducible apply State.answerPoisoned_keeps
    | with_reducible apply State.expandBlock_keeps
    | with_reducible apply State.tendStall_keeps
    | (with_reducible apply Keeps.foldl)
    | (with_reducible apply Keeps.foldlFst)
    | intro _ _ _
    | split

theorem State.blockExpanded_keeps {z₀ : State} (s : State) (b : Nat) (seen : Option (List Byte)) (used : Nat) (drive : Bool) (hk : Keeps z₀ s) : Keeps z₀ (State.blockExpanded s b seen used drive) := by
  unfold State.blockExpanded
  try dsimp only
  repeat' first
    | with_reducible assumption
    | simp only [Keeps.upd_iff]
    | with_reducible apply State.expandFirst_keeps
    | with_reducible apply State.driveQueue_keeps
    | (with_reducible apply Keeps.foldl)
    | (with_reducible apply Keeps.foldlFst)
    | intro _ _ _
    | split

theorem State.poisonWaiting_keeps {z₀ : State} (s : State) (i : Nat) (hk : Keeps z₀ s) : Keeps z₀ (State.poisonWaiting s i) := by
  unfold State.poisonWaiting
  try dsimp only
  repeat' first
    | with_reducible assumption
    | simp only [Keeps.upd_iff]
    | with_reducible apply State.modBank_keeps
    | with_reducible apply State.tendStall_keeps
    | (with_reducible apply Keeps.foldl)
    | (with_reducible apply Keeps.foldlFst)
    | intro _ _ _
    | split

theorem State.engineReset_keeps {z₀ : State} (s : State) (e : Nat) (hk : Keeps z₀ s) : Keeps z₀ (State.engineReset s e) := by
  unfold State.engineReset
  try dsimp only
  repeat' first
    | with_reducible assumption
    | simp only [Keeps.upd_iff]
    | with_reducible apply State.setTap_keeps
    | with_reducible apply State.setOffers_keeps
    | with_reducible apply State.modBank_keeps
    | with_reducible apply State.tear_keeps
    | with_reducible apply State.tendJobs_keeps
    | (with_reducible apply Keeps.foldl)
    | (with_reducible apply Keeps.foldlFst)
    | intro _ _ _
    | split

theorem State.popLane_keeps {z₀ : State} (s : State) (lane : Nat) (hk : Keeps z₀ s) : Keeps z₀ (State.popLane s lane) := by
  unfold State.popLane
  try dsimp only
  repeat' first
    | with_reducible assumption
    | simp only [Keeps.upd_iff]
    | with_reducible apply State.setLaneJobs_keeps
    | (with_reducible apply Keeps.foldl)
    | (with_reducible apply Keeps.foldlFst)
    | intro _ _ _
    | split

theorem State.holdLane_keeps {z₀ : State} (s : State) (lane : Nat) (j : LaneJob) (fails : Option Word) (hk : Keeps z₀ s) : Keeps z₀ (State.holdLane s lane j fails) := by
  unfold State.holdLane
  try dsimp only
  repeat' first
    | with_reducible assumption
    | simp only [Keeps.upd_iff]
    | with_reducible apply State.setLaneJobs_keeps
    | (with_reducible apply Keeps.foldl)
    | (with_reducible apply Keeps.foldlFst)
    | intro _ _ _
    | split

theorem State.commitOpen_keeps {z₀ : State} (s : State) (lane : Nat) (j : LaneJob) (verify : Option Word) (hk : Keeps z₀ s) : Keeps z₀ (State.commitOpen s lane j verify) := by
  unfold State.commitOpen
  try dsimp only
  repeat' first
    | with_reducible assumption
    | simp only [Keeps.upd_iff]
    | with_reducible apply State.holdLane_keeps
    | with_reducible apply State.popLane_keeps
    | with_reducible apply State.countStall_keeps
    | with_reducible apply State.verifyMismatch_keeps
    | refine State.commitForward_keeps (by with_reducible assumption) ?_
    | with_reducible apply Keeps.getD
    | (intro v e; refine State.commitForward_keeps e ?_)
    | (with_reducible apply Keeps.foldl)
    | (with_reducible apply Keeps.foldlFst)
    | intro _ _ _
    | split

theorem State.commitEngine_keeps {z₀ : State} (s : State) (lane : Nat) (j : LaneJob) (slot : Nat) (job : Job) (k b : Nat) (verify : Option Word) (hk : Keeps z₀ s) : Keeps z₀ (State.commitEngine s lane j slot job k b verify) := by
  unfold State.commitEngine
  try dsimp only
  repeat' first
    | with_reducible assumption
    | simp only [Keeps.upd_iff]
    | with_reducible apply State.holdLane_keeps
    | with_reducible apply State.popLane_keeps
    | with_reducible apply State.countStall_keeps
    | with_reducible apply State.verifyMismatch_keeps
    | refine State.commitOutput_keeps (by with_reducible assumption) ?_
    | with_reducible apply Keeps.getD
    | (intro v e; refine State.commitOutput_keeps e ?_)
    | (with_reducible apply Keeps.foldl)
    | (with_reducible apply Keeps.foldlFst)
    | intro _ _ _
    | split

theorem State.blockCommit_keeps {z₀ : State} (s : State) (lane : Nat) (verify : Option Word) (hk : Keeps z₀ s) : Keeps z₀ (State.blockCommit s lane verify) := by
  unfold State.blockCommit
  try dsimp only
  repeat' first
    | with_reducible assumption
    | simp only [Keeps.upd_iff]
    | with_reducible apply State.popLane_keeps
    | with_reducible apply State.countStall_keeps
    | with_reducible apply State.commitOpen_keeps
    | with_reducible apply State.commitEngine_keeps
    | with_reducible apply State.admitTaps_keeps
    | with_reducible apply State.drain_keeps
    | (with_reducible apply Keeps.foldl)
    | (with_reducible apply Keeps.foldlFst)
    | intro _ _ _
    | split

theorem State.bookResult_keeps {z₀ : State} (s : State) (r : Nat) (hk : Keeps z₀ s) : Keeps z₀ (State.bookResult s r) := by
  unfold State.bookResult
  try dsimp only
  repeat' first
    | with_reducible assumption
    | simp only [Keeps.upd_iff]
    | with_reducible apply State.raise_keeps
    | (with_reducible apply Keeps.foldl)
    | (with_reducible apply Keeps.foldlFst)
    | intro _ _ _
    | split

theorem State.dropCached_keeps {z₀ : State} (s : State) (b : Nat) (hk : Keeps z₀ s) : Keeps z₀ (State.dropCached s b) := by
  unfold State.dropCached
  try dsimp only
  repeat' first
    | with_reducible assumption
    | simp only [Keeps.upd_iff]
    | (with_reducible apply Keeps.foldl)
    | (with_reducible apply Keeps.foldlFst)
    | intro _ _ _
    | split

theorem State.bookLoad_keeps {z₀ : State} (s : State) (hk : Keeps z₀ s) : Keeps z₀ (State.bookLoad s) := by
  unfold State.bookLoad
  try dsimp only
  repeat' first
    | with_reducible assumption
    | simp only [Keeps.upd_iff]
    | with_reducible apply State.bookResult_keeps
    | with_reducible apply State.dropCached_keeps
    | (with_reducible apply Keeps.foldl)
    | (with_reducible apply Keeps.foldlFst)
    | intro _ _ _
    | split

theorem State.bookInvalidate_keeps {z₀ : State} (s : State) (hk : Keeps z₀ s) : Keeps z₀ (State.bookInvalidate s) := by
  unfold State.bookInvalidate
  try dsimp only
  repeat' first
    | with_reducible assumption
    | simp only [Keeps.upd_iff]
    | with_reducible apply State.bookResult_keeps
    | with_reducible apply State.dropCached_keeps
    | (with_reducible apply Keeps.foldl)
    | (with_reducible apply Keeps.foldlFst)
    | intro _ _ _
    | split

theorem State.doorbell_keeps {z₀ : State} (s : State) (offset size : Nat) (v : Word) (hk : Keeps z₀ s) : Keeps z₀ (State.doorbell s offset size v) := by
  unfold State.doorbell
  try dsimp only
  repeat' first
    | with_reducible assumption
    | simp only [Keeps.upd_iff]
    | with_reducible apply State.bump_keeps
    | with_reducible apply State.applySignal_keeps
    | (with_reducible apply Keeps.foldl)
    | (with_reducible apply Keeps.foldlFst)
    | intro _ _ _
    | split

theorem State.ringFlag_keeps {z₀ : State} (s : State) (t : Txn) (hk : Keeps z₀ s) : Keeps z₀ (State.ringFlag s t) := by
  unfold State.ringFlag
  try dsimp only
  repeat' first
    | with_reducible assumption
    | simp only [Keeps.upd_iff]
    | with_reducible apply State.doorbell_keeps
    | (with_reducible apply Keeps.foldl)
    | (with_reducible apply Keeps.foldlFst)
    | intro _ _ _
    | split

theorem State.txnResponse_keeps {z₀ : State} (s : State) (n : Nat) (fail : Option Cause) (corrected : Nat) (hk : Keeps z₀ s) : Keeps z₀ (State.txnResponse s n fail corrected) := by
  unfold State.txnResponse
  try dsimp only
  repeat' first
    | with_reducible assumption
    | simp only [Keeps.upd_iff]
    | with_reducible apply State.ringFlag_keeps
    | with_reducible apply State.respond_keeps
    | with_reducible apply State.drain_keeps
    | (with_reducible apply Keeps.foldl)
    | (with_reducible apply Keeps.foldlFst)
    | intro _ _ _
    | split

theorem State.txnTimeout_keeps {z₀ : State} (s : State) (n : Nat) (hk : Keeps z₀ s) : Keeps z₀ (State.txnTimeout s n) := by
  unfold State.txnTimeout
  try dsimp only
  repeat' first
    | with_reducible assumption
    | simp only [Keeps.upd_iff]
    | with_reducible apply State.advanceTo_keeps
    | with_reducible apply State.respond_keeps
    | with_reducible apply State.drain_keeps
    | (with_reducible apply Keeps.foldl)
    | (with_reducible apply Keeps.foldlFst)
    | intro _ _ _
    | split

theorem State.takeTransfer_keeps {z₀ : State} (s : State) (hk : Keeps z₀ s) : Keeps z₀ (State.takeTransfer s) := by
  unfold State.takeTransfer
  try dsimp only
  repeat' first
    | with_reducible assumption
    | simp only [Keeps.upd_iff]
    | with_reducible apply State.modChan_keeps
    | (with_reducible apply Keeps.foldl)
    | (with_reducible apply Keeps.foldlFst)
    | intro _ _ _
    | split

theorem State.writePool_keeps {z₀ : State} (s : State) (v : Nat) (hk : Keeps z₀ s) : Keeps z₀ (State.writePool s v) := by
  unfold State.writePool
  try dsimp only
  repeat' first
    | with_reducible assumption
    | simp only [Keeps.upd_iff]
    | with_reducible apply State.joinGroup_keeps
    | with_reducible apply State.setReg64_keeps
    | (with_reducible apply Keeps.foldl)
    | (with_reducible apply Keeps.foldlFst)
    | intro _ _ _
    | split

theorem State.armChannel_keeps {z₀ : State} (s : State) (c : Nat) (hk : Keeps z₀ s) : Keeps z₀ (State.armChannel s c) := by
  unfold State.armChannel
  try dsimp only
  repeat' first
    | with_reducible assumption
    | simp only [Keeps.upd_iff]
    | with_reducible apply State.modChan_keeps
    | (with_reducible apply Keeps.foldl)
    | (with_reducible apply Keeps.foldlFst)
    | intro _ _ _
    | split

theorem State.rewind_keeps {z₀ : State} (s : State) (id : Nat) (hk : Keeps z₀ s) : Keeps z₀ (State.rewind s id) := by
  unfold State.rewind
  try dsimp only
  repeat' first
    | with_reducible assumption
    | simp only [Keeps.upd_iff]
    | with_reducible apply State.abortTxns_keeps
    | with_reducible apply State.setTransfer_keeps
    | (with_reducible apply Keeps.foldl)
    | (with_reducible apply Keeps.foldlFst)
    | intro _ _ _
    | split

theorem State.requeue_keeps {z₀ : State} (s : State) (c : Nat) (hk : Keeps z₀ s) : Keeps z₀ (State.requeue s c) := by
  unfold State.requeue
  try dsimp only
  repeat' first
    | with_reducible assumption
    | simp only [Keeps.upd_iff]
    | with_reducible apply State.rewind_keeps
    | with_reducible apply State.modChan_keeps
    | (with_reducible apply Keeps.foldl)
    | (with_reducible apply Keeps.foldlFst)
    | intro _ _ _
    | split

theorem State.stopChannel_keeps {z₀ : State} (s : State) (c : Nat) (hk : Keeps z₀ s) : Keeps z₀ (State.stopChannel s c) := by
  unfold State.stopChannel
  try dsimp only
  repeat' first
    | with_reducible assumption
    | simp only [Keeps.upd_iff]
    | with_reducible apply State.requeue_keeps
    | with_reducible apply State.modChan_keeps
    | with_reducible apply State.settle_keeps
    | (with_reducible apply Keeps.foldl)
    | (with_reducible apply Keeps.foldlFst)
    | intro _ _ _
    | split

theorem State.abortChannel_keeps {z₀ : State} (s : State) (c : Nat) (hk : Keeps z₀ s) : Keeps z₀ (State.abortChannel s c) := by
  unfold State.abortChannel
  try dsimp only
  repeat' first
    | with_reducible assumption
    | simp only [Keeps.upd_iff]
    | with_reducible apply State.requeue_keeps
    | with_reducible apply State.abortTxns_keeps
    | with_reducible apply State.dropTransfer_keeps
    | with_reducible apply State.modChan_keeps
    | with_reducible apply State.settle_keeps
    | (with_reducible apply Keeps.foldl)
    | (with_reducible apply Keeps.foldlFst)
    | intro _ _ _
    | split

theorem State.restartChannel_keeps {z₀ : State} (s : State) (c : Nat) (hk : Keeps z₀ s) : Keeps z₀ (State.restartChannel s c) := by
  unfold State.restartChannel
  try dsimp only
  repeat' first
    | with_reducible assumption
    | simp only [Keeps.upd_iff]
    | with_reducible apply State.modChan_keeps
    | with_reducible apply State.settle_keeps
    | with_reducible apply State.rewind_keeps
    | (with_reducible apply Keeps.foldl)
    | (with_reducible apply Keeps.foldlFst)
    | intro _ _ _
    | split

theorem State.timerStart_keeps {z₀ : State} (s : State) (c : Nat) (hk : Keeps z₀ s) : Keeps z₀ (State.timerStart s c) := by
  unfold State.timerStart
  try dsimp only
  repeat' first
    | with_reducible assumption
    | simp only [Keeps.upd_iff]
    | with_reducible apply State.advanceTo_keeps
    | with_reducible apply State.modChan_keeps
    | (with_reducible apply Keeps.foldl)
    | (with_reducible apply Keeps.foldlFst)
    | intro _ _ _
    | split

theorem State.newPeriod_keeps {z₀ : State} (s : State) (c : Nat) (hk : Keeps z₀ s) : Keeps z₀ (State.newPeriod s c) := by
  unfold State.newPeriod
  try dsimp only
  repeat' first
    | with_reducible assumption
    | simp only [Keeps.upd_iff]
    | with_reducible apply State.advanceTo_keeps
    | with_reducible apply State.modChan_keeps
    | (with_reducible apply Keeps.foldl)
    | (with_reducible apply Keeps.foldlFst)
    | intro _ _ _
    | split

theorem State.slateLate_keeps {z₀ : State} (s : State) (t ei : Nat) (hk : Keeps z₀ s) : Keeps z₀ (State.slateLate s t ei) := by
  unfold State.slateLate
  try dsimp only
  repeat' first
    | with_reducible assumption
    | simp only [Keeps.upd_iff]
    | with_reducible apply State.advanceTo_keeps
    | with_reducible apply State.draw_keeps
    | with_reducible apply State.modSlate_keeps
    | with_reducible apply State.noteSlate_keeps
    | with_reducible apply State.log_keeps
    | (with_reducible apply Keeps.foldl)
    | (with_reducible apply Keeps.foldlFst)
    | intro _ _ _
    | split

theorem State.hardOne_keeps {z₀ : State} (s : State) (id : Nat) (hk : Keeps z₀ s) : Keeps z₀ (State.hardOne s id) := by
  unfold State.hardOne
  try dsimp only
  repeat' first
    | with_reducible assumption
    | simp only [Keeps.upd_iff]
    | with_reducible apply State.bump_keeps
    | with_reducible apply State.cancelTransfer_keeps
    | with_reducible apply State.hardEnd_keeps
    | (with_reducible apply Keeps.foldl)
    | (with_reducible apply Keeps.foldlFst)
    | intro _ _ _
    | split

theorem State.hardLimit_keeps {z₀ : State} (s : State) (t ei : Nat) (hk : Keeps z₀ s) : Keeps z₀ (State.hardLimit s t ei) := by
  unfold State.hardLimit
  try dsimp only
  repeat' first
    | with_reducible assumption
    | simp only [Keeps.upd_iff]
    | with_reducible apply State.advanceTo_keeps
    | with_reducible apply State.modSlate_keeps
    | with_reducible apply State.poisonWaiting_keeps
    | with_reducible apply State.noteSlate_keeps
    | with_reducible apply State.hardOne_keeps
    | with_reducible apply State.logGatherLost_keeps
    | with_reducible apply State.drain_keeps
    | (with_reducible apply Keeps.foldl)
    | (with_reducible apply Keeps.foldlFst)
    | intro _ _ _
    | split

theorem State.retrySpace_keeps {z₀ : State} (s : State) (w : SpaceWaiter) (hk : Keeps z₀ s) : Keeps z₀ (State.retrySpace s w) := by
  unfold State.retrySpace
  try dsimp only
  repeat' first
    | with_reducible assumption
    | simp only [Keeps.upd_iff]
    | with_reducible apply State.laneOutput_keeps
    | with_reducible apply State.blockCommit_keeps
    | with_reducible apply State.issueWrite_keeps
    | (with_reducible apply Keeps.foldl)
    | (with_reducible apply Keeps.foldlFst)
    | intro _ _ _
    | split

theorem State.vaultRetry_keeps {z₀ : State} (s : State) (hk : Keeps z₀ s) : Keeps z₀ (State.vaultRetry s) := by
  unfold State.vaultRetry
  try dsimp only
  repeat' first
    | with_reducible assumption
    | simp only [Keeps.upd_iff]
    | with_reducible apply State.retrySpace_keeps
    | with_reducible apply State.drain_keeps
    | (with_reducible apply Keeps.foldl)
    | (with_reducible apply Keeps.foldlFst)
    | intro _ _ _
    | split

theorem State.retryAllocs_keeps {z₀ : State} (k : Nat) : ∀ (l : List (Nat × Transfer)) (s : State), Keeps z₀ s →
    Keeps z₀ (s.retryAllocs k l) := by
  induction k with
  | zero => intro l s h; exact h
  | succ k ih =>
    intro l s h
    unfold State.retryAllocs
    dsimp only
    split
    · exact h
    · refine ih _ _ ?_
      split
      · exact h
      · next ha =>
        split
        · exact State.modSlate_keeps _ _ _ (State.setTransfer_keeps _ _ _ (State.allocTier_keeps ha h))
        · exact State.setTransfer_keeps _ _ _ (State.allocTier_keeps ha h)

theorem State.allocRetry_keeps {z₀ : State} (s : State) (hk : Keeps z₀ s) : Keeps z₀ (State.allocRetry s) := by
  unfold State.allocRetry
  try dsimp only
  repeat' first
    | with_reducible assumption
    | simp only [Keeps.upd_iff]
    | with_reducible apply State.retryAllocs_keeps
    | (with_reducible apply Keeps.foldl)
    | (with_reducible apply Keeps.foldlFst)
    | intro _ _ _
    | split

theorem State.lastUseAck_keeps {z₀ : State} (s : State) (tier base : Nat) (hk : Keeps z₀ s) : Keeps z₀ (State.lastUseAck s tier base) := by
  unfold State.lastUseAck
  try dsimp only
  repeat' first
    | with_reducible assumption
    | simp only [Keeps.upd_iff]
    | with_reducible apply State.modSlate_keeps
    | with_reducible apply State.keepExtents_keeps
    | (with_reducible apply Keeps.foldl)
    | (with_reducible apply Keeps.foldlFst)
    | intro _ _ _
    | split

theorem State.moveTimeout_keeps {z₀ : State} (s : State) (i : Nat) (hk : Keeps z₀ s) : Keeps z₀ (State.moveTimeout s i) := by
  unfold State.moveTimeout
  try dsimp only
  repeat' first
    | with_reducible assumption
    | simp only [Keeps.upd_iff]
    | with_reducible apply State.advanceTo_keeps
    | with_reducible apply State.endTransfer_keeps
    | with_reducible apply State.drain_keeps
    | (with_reducible apply Keeps.foldl)
    | (with_reducible apply Keeps.foldlFst)
    | intro _ _ _
    | split

theorem State.logRetired_keeps {z₀ : State} (s : State) (kind tier a : Nat) (slates : List Nat) (hk : Keeps z₀ s) : Keeps z₀ (State.logRetired s kind tier a slates) := by
  unfold State.logRetired
  try dsimp only
  repeat' first
    | with_reducible assumption
    | simp only [Keeps.upd_iff]
    | with_reducible apply State.log_keeps
    | with_reducible apply State.pageError_keeps
    | with_reducible apply State.raise_keeps
    | (with_reducible apply Keeps.foldl)
    | (with_reducible apply Keeps.foldlFst)
    | intro _ _ _
    | split

theorem State.evacuate_keeps {z₀ : State} (s : State) (u : Nat) (hk : Keeps z₀ s) : Keeps z₀ (State.evacuate s u) := by
  unfold State.evacuate
  try dsimp only
  repeat' first
    | with_reducible assumption
    | simp only [Keeps.upd_iff]
    | with_reducible apply State.startMove_keeps
    | (with_reducible apply Keeps.foldl)
    | (with_reducible apply Keeps.foldlFst)
    | intro _ _ _
    | split

theorem State.retireUnit_keeps {z₀ : State} (s : State) (a : Nat) (exclude : Bool) (hk : Keeps z₀ s) : Keeps z₀ (State.retireUnit s a exclude) := by
  unfold State.retireUnit
  try dsimp only
  repeat' first
    | with_reducible assumption
    | simp only [Keeps.upd_iff]
    | with_reducible apply State.bump_keeps
    | with_reducible apply State.evacuate_keeps
    | with_reducible apply State.ackNotices_keeps
    | with_reducible apply State.logRetired_keeps
    | (with_reducible apply Keeps.foldl)
    | (with_reducible apply Keeps.foldlFst)
    | intro _ _ _
    | split

theorem State.loseUnit_keeps {z₀ : State} (s : State) (a : Nat) (hk : Keeps z₀ s) : Keeps z₀ (State.loseUnit s a) := by
  unfold State.loseUnit
  try dsimp only
  repeat' first
    | with_reducible assumption
    | simp only [Keeps.upd_iff]
    | with_reducible apply State.bump_keeps
    | with_reducible apply State.recoverOrLose_keeps
    | with_reducible apply State.logRetired_keeps
    | with_reducible apply State.tendJobs_keeps
    | (with_reducible apply Keeps.foldl)
    | (with_reducible apply Keeps.foldlFst)
    | intro _ _ _
    | split

theorem State.repairDone_keeps {z₀ : State} (s : State) (a : Nat) (hk : Keeps z₀ s) : Keeps z₀ (State.repairDone s a) := by
  unfold State.repairDone
  try dsimp only
  repeat' first
    | with_reducible assumption
    | simp only [Keeps.upd_iff]
    | (with_reducible apply Keeps.foldl)
    | (with_reducible apply Keeps.foldlFst)
    | intro _ _ _
    | split

theorem State.retireShelf_keeps {z₀ : State} (s : State) (sh : Nat) (hk : Keeps z₀ s) : Keeps z₀ (State.retireShelf s sh) := by
  unfold State.retireShelf
  try dsimp only
  repeat' first
    | with_reducible assumption
    | simp only [Keeps.upd_iff]
    | with_reducible apply State.modTenant_keeps
    | with_reducible apply State.recoverOrLose_keeps
    | with_reducible apply State.logRetired_keeps
    | with_reducible apply State.pageError_keeps
    | with_reducible apply State.raise_keeps
    | with_reducible apply State.recut_keeps
    | with_reducible apply State.tendJobs_keeps
    | (with_reducible apply Keeps.foldl)
    | (with_reducible apply Keeps.foldlFst)
    | intro _ _ _
    | split

theorem State.linkHalt_keeps {z₀ : State} (s : State) (c : Nat) (hk : Keeps z₀ s) : Keeps z₀ (State.linkHalt s c) := by
  unfold State.linkHalt
  try dsimp only
  repeat' first
    | with_reducible assumption
    | simp only [Keeps.upd_iff]
    | with_reducible apply State.haltChannel_keeps
    | (with_reducible apply Keeps.foldl)
    | (with_reducible apply Keeps.foldlFst)
    | intro _ _ _
    | split

theorem State.detachSlate_keeps {z₀ : State} (p : State × Nat × Nat × Nat) (i : Nat) (hk : Keeps z₀ p.1) : Keeps z₀ (State.detachSlate p i).1 := by
  unfold State.detachSlate
  try dsimp only
  repeat' first
    | with_reducible assumption
    | simp only [Keeps.upd_iff]
    | with_reducible apply State.recoverOrLose_keeps
    | with_reducible apply State.endTransfer_keeps
    | (with_reducible apply Keeps.foldl)
    | (with_reducible apply Keeps.foldlFst)
    | intro _ _ _
    | split

theorem State.detachHost_keeps {z₀ : State} (s : State) (cause : Nat) (hk : Keeps z₀ s) : Keeps z₀ (State.detachHost s cause) := by
  unfold State.detachHost
  try dsimp only
  repeat' first
    | with_reducible assumption
    | simp only [Keeps.upd_iff]
    | with_reducible apply State.modTenant_keeps
    | with_reducible apply State.detachSlate_keeps
    | with_reducible apply State.linkHalt_keeps
    | with_reducible apply State.keepExtents_keeps
    | with_reducible apply State.log_keeps
    | with_reducible apply State.raise_keeps
    | with_reducible apply State.tendJobs_keeps
    | with_reducible apply State.drain_keeps
    | (with_reducible apply Keeps.foldl)
    | (with_reducible apply Keeps.foldlFst)
    | intro _ _ _
    | split

theorem State.attachHost_keeps {z₀ : State} (s : State) (hk : Keeps z₀ s) : Keeps z₀ (State.attachHost s) := by
  unfold State.attachHost
  try dsimp only
  repeat' first
    | with_reducible assumption
    | simp only [Keeps.upd_iff]
    | with_reducible apply State.log_keeps
    | with_reducible apply State.raise_keeps
    | with_reducible apply State.modTenant_keeps
    | with_reducible apply State.beginStep_keeps
    | (with_reducible apply Keeps.foldl)
    | (with_reducible apply Keeps.foldlFst)
    | intro _ _ _
    | split

theorem State.writeHost_keeps {z₀ : State} (s : State) (v : Nat) (hk : Keeps z₀ s) : Keeps z₀ (State.writeHost s v) := by
  unfold State.writeHost
  try dsimp only
  repeat' first
    | with_reducible assumption
    | simp only [Keeps.upd_iff]
    | with_reducible apply State.detachHost_keeps
    | with_reducible apply State.attachHost_keeps
    | (with_reducible apply Keeps.foldl)
    | (with_reducible apply Keeps.foldlFst)
    | intro _ _ _
    | split

theorem State.heartbeatLost_keeps {z₀ : State} (s : State) (hk : Keeps z₀ s) : Keeps z₀ (State.heartbeatLost s) := by
  unfold State.heartbeatLost
  try dsimp only
  repeat' first
    | with_reducible assumption
    | simp only [Keeps.upd_iff]
    | with_reducible apply State.advanceTo_keeps
    | with_reducible apply State.detachHost_keeps
    | (with_reducible apply Keeps.foldl)
    | (with_reducible apply Keeps.foldlFst)
    | intro _ _ _
    | split

theorem State.selectRegion_keeps {z₀ : State} (s : State) (e : Nat) (hk : Keeps z₀ s) : Keeps z₀ (State.selectRegion s e) := by
  unfold State.selectRegion
  try dsimp only
  repeat' first
    | with_reducible assumption
    | simp only [Keeps.upd_iff]
    | with_reducible apply State.setReg_keeps
    | with_reducible apply State.setReg64_keeps
    | (with_reducible apply Keeps.foldl)
    | (with_reducible apply Keeps.foldlFst)
    | intro _ _ _
    | split

theorem State.regionResult_keeps {z₀ : State} (s : State) (n : Nat) (hk : Keeps z₀ s) : Keeps z₀ (State.regionResult s n) := by
  unfold State.regionResult
  try dsimp only
  repeat' first
    | with_reducible assumption
    | simp only [Keeps.upd_iff]
    | (with_reducible apply Keeps.foldl)
    | (with_reducible apply Keeps.foldlFst)
    | intro _ _ _
    | split

theorem State.commitRegion_keeps {z₀ : State} (s : State) (hk : Keeps z₀ s) : Keeps z₀ (State.commitRegion s) := by
  unfold State.commitRegion
  try dsimp only
  repeat' first
    | with_reducible assumption
    | simp only [Keeps.upd_iff]
    | with_reducible apply State.regionResult_keeps
    | with_reducible apply State.raise_keeps
    | (with_reducible apply Keeps.foldl)
    | (with_reducible apply Keeps.foldlFst)
    | intro _ _ _
    | split

theorem State.emptyRegion_keeps {z₀ : State} (s : State) (hk : Keeps z₀ s) : Keeps z₀ (State.emptyRegion s) := by
  unfold State.emptyRegion
  try dsimp only
  repeat' first
    | with_reducible assumption
    | simp only [Keeps.upd_iff]
    | with_reducible apply State.regionResult_keeps
    | (with_reducible apply Keeps.foldl)
    | (with_reducible apply Keeps.foldlFst)
    | intro _ _ _
    | split

theorem State.gnStart_keeps {z₀ : State} (s : State) (cls : Nat) (hk : Keeps z₀ s) : Keeps z₀ (State.gnStart s cls) := by
  unfold State.gnStart
  try dsimp only
  repeat' first
    | with_reducible assumption
    | simp only [Keeps.upd_iff]
    | with_reducible apply State.setGn_keeps
    | with_reducible apply State.unitWrite_keeps
    | (with_reducible apply Keeps.foldl)
    | (with_reducible apply Keeps.foldlFst)
    | intro _ _ _
    | split

theorem State.gnReduce_keeps {z₀ : State} (s : State) (total : List Byte) (hk : Keeps z₀ s) : Keeps z₀ (State.gnReduce s total) := by
  unfold State.gnReduce
  try dsimp only
  repeat' first
    | with_reducible assumption
    | simp only [Keeps.upd_iff]
    | with_reducible apply State.sendPeer_keeps
    | (with_reducible apply Keeps.foldl)
    | (with_reducible apply Keeps.foldlFst)
    | intro _ _ _
    | split

theorem State.gnWrite_keeps {z₀ : State} (s : State) (incomplete : Bool) (hk : Keeps z₀ s) : Keeps z₀ (State.gnWrite s incomplete) := by
  unfold State.gnWrite
  try dsimp only
  repeat' first
    | with_reducible assumption
    | simp only [Keeps.upd_iff]
    | with_reducible apply State.draw_keeps
    | with_reducible apply State.setGn_keeps
    | with_reducible apply State.unitWrite_keeps
    | (with_reducible apply Keeps.foldl)
    | (with_reducible apply Keeps.foldlFst)
    | intro _ _ _
    | split

theorem State.gnFinish_keeps {z₀ : State} (s : State) (hk : Keeps z₀ s) : Keeps z₀ (State.gnFinish s) := by
  unfold State.gnFinish
  try dsimp only
  repeat' first
    | with_reducible assumption
    | simp only [Keeps.upd_iff]
    | with_reducible apply State.gnWrite_keeps
    | (with_reducible apply Keeps.foldl)
    | (with_reducible apply Keeps.foldlFst)
    | intro _ _ _
    | split

theorem State.gnTake_keeps {z₀ : State} (s : State) (slots : List (List Byte)) (hk : Keeps z₀ s) : Keeps z₀ (State.gnTake s slots) := by
  unfold State.gnTake
  try dsimp only
  repeat' first
    | with_reducible assumption
    | simp only [Keeps.upd_iff]
    | with_reducible apply State.setGn_keeps
    | with_reducible apply State.gnReduce_keeps
    | (with_reducible apply Keeps.foldl)
    | (with_reducible apply Keeps.foldlFst)
    | intro _ _ _
    | split

theorem State.gnLeaderPoll_keeps {z₀ : State} (s : State) (hk : Keeps z₀ s) : Keeps z₀ (State.gnLeaderPoll s) := by
  unfold State.gnLeaderPoll
  try dsimp only
  repeat' first
    | with_reducible assumption
    | simp only [Keeps.upd_iff]
    | with_reducible apply State.gnFinish_keeps
    | with_reducible apply State.gnTake_keeps
    | with_reducible apply State.gnWrite_keeps
    | (with_reducible apply Keeps.foldl)
    | (with_reducible apply Keeps.foldlFst)
    | intro _ _ _
    | split

theorem State.gnDone_keeps {z₀ : State} (s : State) (r : List Byte) (packages insts bit : Nat) (hk : Keeps z₀ s) : Keeps z₀ (State.gnDone s r packages insts bit) := by
  unfold State.gnDone
  try dsimp only
  repeat' first
    | with_reducible assumption
    | simp only [Keeps.upd_iff]
    | with_reducible apply State.setReg_keeps
    | with_reducible apply State.unitWrite_keeps
    | with_reducible apply State.setGn_keeps
    | with_reducible apply State.raise_keeps
    | (with_reducible apply Keeps.foldl)
    | (with_reducible apply Keeps.foldlFst)
    | intro _ _ _
    | split

theorem State.gnMemberPoll_keeps {z₀ : State} (s : State) (hk : Keeps z₀ s) : Keeps z₀ (State.gnMemberPoll s) := by
  unfold State.gnMemberPoll
  try dsimp only
  repeat' first
    | with_reducible assumption
    | simp only [Keeps.upd_iff]
    | with_reducible apply State.draw_keeps
    | with_reducible apply State.gnDone_keeps
    | (with_reducible apply Keeps.foldl)
    | (with_reducible apply Keeps.foldlFst)
    | intro _ _ _
    | split

theorem State.gnTimeout_keeps {z₀ : State} (s : State) (hk : Keeps z₀ s) : Keeps z₀ (State.gnTimeout s) := by
  unfold State.gnTimeout
  try dsimp only
  repeat' first
    | with_reducible assumption
    | simp only [Keeps.upd_iff]
    | with_reducible apply State.advanceTo_keeps
    | with_reducible apply State.gnTake_keeps
    | with_reducible apply State.gnWrite_keeps
    | with_reducible apply State.raise_keeps
    | with_reducible apply State.draw_keeps
    | with_reducible apply State.gnDone_keeps
    | (with_reducible apply Keeps.foldl)
    | (with_reducible apply Keeps.foldlFst)
    | intro _ _ _
    | split

theorem State.noteRx_keeps {z₀ : State} (s : State) (h : PeerHead) (error : Bool) (hk : Keeps z₀ s) : Keeps z₀ (State.noteRx s h error) := by
  unfold State.noteRx
  try dsimp only
  repeat' first
    | with_reducible assumption
    | simp only [Keeps.upd_iff]
    | with_reducible apply State.note_keeps
    | (with_reducible apply Keeps.foldl)
    | (with_reducible apply Keeps.foldlFst)
    | intro _ _ _
    | split

theorem State.answerPeer_keeps {z₀ : State} (s : State) (h : PeerHead) (error : Bool) (data : List Byte) (hk : Keeps z₀ s) : Keeps z₀ (State.answerPeer s h error data) := by
  unfold State.answerPeer
  try dsimp only
  repeat' first
    | with_reducible assumption
    | simp only [Keeps.upd_iff]
    | with_reducible apply State.bump64_keeps
    | with_reducible apply State.outAnswer_keeps
    | (with_reducible apply Keeps.foldl)
    | (with_reducible apply Keeps.foldlFst)
    | intro _ _ _
    | split

theorem State.rejectTenant_keeps {z₀ : State} (s : State) (hk : Keeps z₀ s) : Keeps z₀ (State.rejectTenant s) := by
  unfold State.rejectTenant
  try dsimp only
  repeat' first
    | with_reducible assumption
    | simp only [Keeps.upd_iff]
    | with_reducible apply State.bump_keeps
    | with_reducible apply State.portReject_keeps
    | (with_reducible apply Keeps.foldl)
    | (with_reducible apply Keeps.foldlFst)
    | intro _ _ _
    | split

theorem State.checkLent_keeps {z₀ : State} (s : State) (h : PeerHead) (addr n : Nat) (hk : Keeps z₀ s) : Keeps z₀ (State.checkLent s h addr n).1 := by
  unfold State.checkLent
  try dsimp only
  repeat' first
    | with_reducible assumption
    | simp only [Keeps.upd_iff]
    | with_reducible apply State.rejectTenant_keeps
    | (with_reducible apply Keeps.foldl)
    | (with_reducible apply Keeps.foldlFst)
    | intro _ _ _
    | split

theorem State.stale_keeps {z₀ : State} (s : State) (hk : Keeps z₀ s) : Keeps z₀ (State.stale s) := by
  unfold State.stale
  try dsimp only
  repeat' first
    | with_reducible assumption
    | simp only [Keeps.upd_iff]
    | with_reducible apply State.bump_keeps
    | (with_reducible apply Keeps.foldl)
    | (with_reducible apply Keeps.foldlFst)
    | intro _ _ _
    | split

theorem State.noteSignal_keeps {z₀ : State} (s : State) (h : PeerHead) (g : Signal) (hk : Keeps z₀ s) : Keeps z₀ (State.noteSignal s h g) := by
  unfold State.noteSignal
  try dsimp only
  repeat' first
    | with_reducible assumption
    | simp only [Keeps.upd_iff]
    | (with_reducible apply Keeps.foldl)
    | (with_reducible apply Keeps.foldlFst)
    | intro _ _ _
    | split

theorem State.packetDone_keeps {z₀ : State} (s : State) (h : PeerHead) (seq : Nat) (error : Bool) (hk : Keeps z₀ s) : Keeps z₀ (State.packetDone s h seq error) := by
  unfold State.packetDone
  try dsimp only
  repeat' first
    | with_reducible assumption
    | simp only [Keeps.upd_iff]
    | with_reducible apply State.applySignal_keeps
    | (with_reducible apply Keeps.foldl)
    | (with_reducible apply Keeps.foldlFst)
    | intro _ _ _
    | split

theorem State.recvShip_keeps {z₀ : State} (s : State) (h : PeerHead) (addr : Nat) (data : List Byte) (sig : Option Signal) (hk : Keeps z₀ s) : Keeps z₀ (State.recvShip s h addr data sig) := by
  unfold State.recvShip
  try dsimp only
  repeat' first
    | with_reducible assumption
    | simp only [Keeps.upd_iff]
    | with_reducible apply State.stale_keeps
    | with_reducible apply State.bump_keeps
    | with_reducible apply State.answerPeer_keeps
    | with_reducible apply State.checkLent_keeps
    | with_reducible apply State.noteRx_keeps
    | with_reducible apply State.packetDone_keeps
    | with_reducible apply State.drain_keeps
    | with_reducible apply State.memWrite_keeps
    | with_reducible apply State.outAccess_keeps
    | with_reducible apply State.bump64_keeps
    | with_reducible apply State.noteSignal_keeps
    | (with_reducible apply Keeps.foldl)
    | (with_reducible apply Keeps.foldlFst)
    | intro _ _ _
    | split

theorem State.serveRead_keeps {z₀ : State} (s : State) (h : PeerHead) (addr len : Nat) (first fetch : Bool) (hint : Hint) (hk : Keeps z₀ s) : Keeps z₀ (State.serveRead s h addr len first fetch hint) := by
  unfold State.serveRead
  try dsimp only
  repeat' first
    | with_reducible assumption
    | simp only [Keeps.upd_iff]
    | with_reducible apply State.checkLent_keeps
    | with_reducible apply State.noteRx_keeps
    | with_reducible apply State.answerPeer_keeps
    | with_reducible apply State.outAccess_keeps
    | with_reducible apply State.bump_keeps
    | (with_reducible apply Keeps.foldl)
    | (with_reducible apply Keeps.foldlFst)
    | intro _ _ _
    | split

theorem State.recvRead_keeps {z₀ : State} (s : State) (h : PeerHead) (addr len : Nat) (fetch lastUse : Bool) (hk : Keeps z₀ s) : Keeps z₀ (State.recvRead s h addr len fetch lastUse) := by
  unfold State.recvRead
  try dsimp only
  repeat' first
    | with_reducible assumption
    | simp only [Keeps.upd_iff]
    | with_reducible apply State.stale_keeps
    | with_reducible apply State.bump_keeps
    | with_reducible apply State.serveRead_keeps
    | (with_reducible apply Keeps.foldl)
    | (with_reducible apply Keeps.foldlFst)
    | intro _ _ _
    | split

theorem State.recvReduce_keeps {z₀ : State} (s : State) (h : PeerHead) (total : List Byte) (hk : Keeps z₀ s) : Keeps z₀ (State.recvReduce s h total) := by
  unfold State.recvReduce
  try dsimp only
  repeat' first
    | with_reducible assumption
    | simp only [Keeps.upd_iff]
    | with_reducible apply State.stale_keeps
    | with_reducible apply State.bump_keeps
    | with_reducible apply State.answerPeer_keeps
    | with_reducible apply State.rejectTenant_keeps
    | with_reducible apply State.noteRx_keeps
    | with_reducible apply State.bump64_keeps
    | with_reducible apply State.setGn_keeps
    | with_reducible apply State.gnFinish_keeps
    | (with_reducible apply Keeps.foldl)
    | (with_reducible apply Keeps.foldlFst)
    | intro _ _ _
    | split

theorem State.setOps_keeps {z₀ : State} (s : State) (l : List PeerOp) (hk : Keeps z₀ s) : Keeps z₀ (State.setOps s l) := by
  unfold State.setOps
  try dsimp only
  repeat' first
    | with_reducible assumption
    | simp only [Keeps.upd_iff]
    | (with_reducible apply Keeps.foldl)
    | (with_reducible apply Keeps.foldlFst)
    | intro _ _ _
    | split

theorem State.peerAck_keeps {z₀ : State} (s : State) (package seq : Nat) (crcOk error : Bool) (data : List Byte) (hk : Keeps z₀ s) : Keeps z₀ (State.peerAck s package seq crcOk error data) := by
  unfold State.peerAck
  try dsimp only
  repeat' first
    | with_reducible assumption
    | simp only [Keeps.upd_iff]
    | with_reducible apply State.setOps_keeps
    | with_reducible apply State.drainPeer_keeps
    | with_reducible apply State.bump64_keeps
    | with_reducible apply State.respond_keeps
    | with_reducible apply State.drain_keeps
    | (with_reducible apply Keeps.foldl)
    | (with_reducible apply Keeps.foldlFst)
    | intro _ _ _
    | split

theorem State.losePeer_keeps {z₀ : State} (s : State) (o : PeerOp) (hk : Keeps z₀ s) : Keeps z₀ (State.losePeer s o) := by
  unfold State.losePeer
  try dsimp only
  repeat' first
    | with_reducible assumption
    | simp only [Keeps.upd_iff]
    | with_reducible apply State.modTenant_keeps
    | with_reducible apply State.report_keeps
    | with_reducible apply State.pageError_keeps
    | with_reducible apply State.endTransfer_keeps
    | with_reducible apply State.drain_keeps
    | (with_reducible apply Keeps.foldl)
    | (with_reducible apply Keeps.foldlFst)
    | intro _ _ _
    | split

theorem State.ackResend_keeps {z₀ : State} (s : State) (seq : Nat) (hk : Keeps z₀ s) : Keeps z₀ (State.ackResend s seq) := by
  unfold State.ackResend
  try dsimp only
  repeat' first
    | with_reducible assumption
    | simp only [Keeps.upd_iff]
    | with_reducible apply State.advanceTo_keeps
    | with_reducible apply State.setOps_keeps
    | with_reducible apply State.outPeerOp_keeps
    | with_reducible apply State.bump64_keeps
    | with_reducible apply State.bump_keeps
    | with_reducible apply State.report_keeps
    | with_reducible apply State.losePeer_keeps
    | (with_reducible apply Keeps.foldl)
    | (with_reducible apply Keeps.foldlFst)
    | intro _ _ _
    | split

theorem State.clearLost_keeps {z₀ : State} (s : State) (package : Nat) (hk : Keeps z₀ s) : Keeps z₀ (State.clearLost s package) := by
  unfold State.clearLost
  try dsimp only
  repeat' first
    | with_reducible assumption
    | simp only [Keeps.upd_iff]
    | (with_reducible apply Keeps.foldl)
    | (with_reducible apply Keeps.foldlFst)
    | intro _ _ _
    | split

theorem State.clearAllLost_keeps {z₀ : State} (s : State) (hk : Keeps z₀ s) : Keeps z₀ (State.clearAllLost s) := by
  unfold State.clearAllLost
  try dsimp only
  repeat' first
    | with_reducible assumption
    | simp only [Keeps.upd_iff]
    | (with_reducible apply Keeps.foldl)
    | (with_reducible apply Keeps.foldlFst)
    | intro _ _ _
    | split

theorem State.setPeer_keeps {z₀ : State} (s : State) (f : Peer → Peer) (hk : Keeps z₀ s) : Keeps z₀ (State.setPeer s f) := by
  unfold State.setPeer
  try dsimp only
  repeat' first
    | with_reducible assumption
    | simp only [Keeps.upd_iff]
    | (with_reducible apply Keeps.foldl)
    | (with_reducible apply Keeps.foldlFst)
    | intro _ _ _
    | split

theorem State.writePartner_keeps {z₀ : State} (s : State) (v : Nat) (hk : Keeps z₀ s) : Keeps z₀ (State.writePartner s v) := by
  unfold State.writePartner
  try dsimp only
  repeat' first
    | with_reducible assumption
    | simp only [Keeps.upd_iff]
    | with_reducible apply State.setReg_keeps
    | with_reducible apply State.setPeer_keeps
    | (with_reducible apply Keeps.foldl)
    | (with_reducible apply Keeps.foldlFst)
    | intro _ _ _
    | split

theorem State.setLinks_keeps {z₀ : State} (s : State) (up : Bool) (hk : Keeps z₀ s) : Keeps z₀ (State.setLinks s up) := by
  unfold State.setLinks
  try dsimp only
  repeat' first
    | with_reducible assumption
    | simp only [Keeps.upd_iff]
    | (with_reducible apply Keeps.foldl)
    | (with_reducible apply Keeps.foldlFst)
    | intro _ _ _
    | split

theorem State.showEye_keeps {z₀ : State} (s : State) (e : Nat) (hk : Keeps z₀ s) : Keeps z₀ (State.showEye s e) := by
  unfold State.showEye
  try dsimp only
  repeat' first
    | with_reducible assumption
    | simp only [Keeps.upd_iff]
    | with_reducible apply State.setReg_keeps
    | (with_reducible apply Keeps.foldl)
    | (with_reducible apply Keeps.foldlFst)
    | intro _ _ _
    | split

theorem State.selectEye_keeps {z₀ : State} (s : State) (e : Nat) (hk : Keeps z₀ s) : Keeps z₀ (State.selectEye s e) := by
  unfold State.selectEye
  try dsimp only
  repeat' first
    | with_reducible assumption
    | simp only [Keeps.upd_iff]
    | with_reducible apply State.setReg_keeps
    | with_reducible apply State.showEye_keeps
    | (with_reducible apply Keeps.foldl)
    | (with_reducible apply Keeps.foldlFst)
    | intro _ _ _
    | split

theorem State.setLiveEye_keeps {z₀ : State} (s : State) (f : Eyelet → Eyelet) (hk : Keeps z₀ s) : Keeps z₀ (State.setLiveEye s f) := by
  unfold State.setLiveEye
  try dsimp only
  repeat' first
    | with_reducible assumption
    | simp only [Keeps.upd_iff]
    | with_reducible apply State.setEyelet_keeps
    | with_reducible apply State.showEye_keeps
    | with_reducible apply State.examine_keeps
    | with_reducible apply State.drain_keeps
    | (with_reducible apply Keeps.foldl)
    | (with_reducible apply Keeps.foldlFst)
    | intro _ _ _
    | split

theorem State.enrolWire_keeps {z₀ : State} (s : State) (on : Bool) (n : Nat) (hk : Keeps z₀ s) : Keeps z₀ (State.enrolWire s on n) := by
  unfold State.enrolWire
  try dsimp only
  repeat' first
    | with_reducible assumption
    | simp only [Keeps.upd_iff]
    | with_reducible apply State.holdWire_keeps
    | with_reducible apply State.setWire_keeps
    | (with_reducible apply Keeps.foldl)
    | (with_reducible apply Keeps.foldlFst)
    | intro _ _ _
    | split

theorem State.writeEnrol_keeps {z₀ : State} (s : State) (v : Nat) (hk : Keeps z₀ s) : Keeps z₀ (State.writeEnrol s v) := by
  unfold State.writeEnrol
  try dsimp only
  repeat' first
    | with_reducible assumption
    | simp only [Keeps.upd_iff]
    | with_reducible apply State.enrolWire_keeps
    | with_reducible apply State.setReg_keeps
    | with_reducible apply State.laceCheck_keeps
    | (with_reducible apply Keeps.foldl)
    | (with_reducible apply Keeps.foldlFst)
    | intro _ _ _
    | split

theorem State.writeWire_keeps {z₀ : State} (s : State) (n : Nat) (arr : Bool) (v : Nat) (hk : Keeps z₀ s) : Keeps z₀ (State.writeWire s n arr v) := by
  unfold State.writeWire
  try dsimp only
  repeat' first
    | with_reducible assumption
    | simp only [Keeps.upd_iff]
    | with_reducible apply State.setReg_keeps
    | with_reducible apply State.bindCheck_keeps
    | (with_reducible apply Keeps.foldl)
    | (with_reducible apply Keeps.foldlFst)
    | intro _ _ _
    | split

theorem State.laceReleased_keeps {z₀ : State} (s : State) (n : Nat) (hk : Keeps z₀ s) : Keeps z₀ (State.laceReleased s n) := by
  unfold State.laceReleased
  try dsimp only
  repeat' first
    | with_reducible assumption
    | simp only [Keeps.upd_iff]
    | with_reducible apply State.advanceTo_keeps
    | with_reducible apply State.releaseWire_keeps
    | with_reducible apply State.drain_keeps
    | (with_reducible apply Keeps.foldl)
    | (with_reducible apply Keeps.foldlFst)
    | intro _ _ _
    | split

theorem State.fireLines_keeps {z₀ : State} (s : State) (v : Nat) (hk : Keeps z₀ s) : Keeps z₀ (State.fireLines s v) := by
  unfold State.fireLines
  try dsimp only
  repeat' first
    | with_reducible assumption
    | simp only [Keeps.upd_iff]
    | with_reducible apply State.pulse_keeps
    | (with_reducible apply Keeps.foldl)
    | (with_reducible apply Keeps.foldlFst)
    | intro _ _ _
    | split

theorem State.pulseEnd_keeps {z₀ : State} (s : State) (line : Nat) (hk : Keeps z₀ s) : Keeps z₀ (State.pulseEnd s line) := by
  unfold State.pulseEnd
  try dsimp only
  repeat' first
    | with_reducible assumption
    | simp only [Keeps.upd_iff]
    | with_reducible apply State.advanceTo_keeps
    | (with_reducible apply Keeps.foldl)
    | (with_reducible apply Keeps.foldlFst)
    | intro _ _ _
    | split

theorem State.waitTimesOut_keeps {z₀ : State} (s : State) (q : Nat) (ticket : BitVec 16) (hk : Keeps z₀ s) : Keeps z₀ (State.waitTimesOut s q ticket) := by
  unfold State.waitTimesOut
  try dsimp only
  repeat' first
    | with_reducible assumption
    | simp only [Keeps.upd_iff]
    | with_reducible apply State.advanceTo_keeps
    | with_reducible apply State.setWaits_keeps
    | with_reducible apply State.endWait_keeps
    | with_reducible apply State.bump_keeps
    | with_reducible apply State.raise_keeps
    | with_reducible apply State.drain_keeps
    | (with_reducible apply Keeps.foldl)
    | (with_reducible apply Keeps.foldlFst)
    | intro _ _ _
    | split

theorem State.resendFor_keeps {z₀ : State} (s : State) (q slot : Nat) (hk : Keeps z₀ s) : Keeps z₀ (State.resendFor s q slot) := by
  unfold State.resendFor
  try dsimp only
  repeat' first
    | with_reducible assumption
    | simp only [Keeps.upd_iff]
    | with_reducible apply State.stepFailed_keeps
    | (with_reducible apply Keeps.foldl)
    | (with_reducible apply Keeps.foldlFst)
    | intro _ _ _
    | split

theorem State.queueReset_keeps {z₀ : State} (s : State) (q : Nat) (hk : Keeps z₀ s) : Keeps z₀ (State.queueReset s q) := by
  unfold State.queueReset
  try dsimp only
  repeat' first
    | with_reducible assumption
    | simp only [Keeps.upd_iff]
    | with_reducible apply State.endWaits_keeps
    | with_reducible apply State.resendFor_keeps
    | with_reducible apply State.tendJobs_keeps
    | with_reducible apply State.drain_keeps
    | (with_reducible apply Keeps.foldl)
    | (with_reducible apply Keeps.foldlFst)
    | intro _ _ _
    | split

theorem State.ctxEnded_keeps {z₀ : State} (s : State) (save : Bool) (hk : Keeps z₀ s) : Keeps z₀ (State.ctxEnded s save) := by
  unfold State.ctxEnded
  try dsimp only
  repeat' first
    | with_reducible assumption
    | simp only [Keeps.upd_iff]
    | with_reducible apply State.finishSave_keeps
    | with_reducible apply State.finishRestore_keeps
    | with_reducible apply State.endLoan_keeps
    | with_reducible apply State.drain_keeps
    | (with_reducible apply Keeps.foldl)
    | (with_reducible apply Keeps.foldlFst)
    | intro _ _ _
    | split

theorem State.startContext_keeps {z₀ : State} (s : State) (t : Nat) (save : Bool) (hk : Keeps z₀ s) : Keeps z₀ (State.startContext s t save) := by
  unfold State.startContext
  try dsimp only
  repeat' first
    | with_reducible assumption
    | simp only [Keeps.upd_iff]
    | with_reducible apply State.startCtx_keeps
    | with_reducible apply State.drain_keeps
    | (with_reducible apply Keeps.foldl)
    | (with_reducible apply Keeps.foldlFst)
    | intro _ _ _
    | split

theorem State.turnAway_keeps {z₀ : State} (s : State) (p : Port) (addr kind : Nat) (write : Bool) (v : Word) (hk : Keeps z₀ s) : Keeps z₀ (State.turnAway s p addr kind write v) := by
  unfold State.turnAway
  try dsimp only
  repeat' first
    | with_reducible assumption
    | simp only [Keeps.upd_iff]
    | with_reducible apply State.portReject_keeps
    | (with_reducible apply Keeps.foldl)
    | (with_reducible apply Keeps.foldlFst)
    | intro _ _ _
    | split

theorem State.takeLock_keeps {z₀ : State} (s : State) (p : Port) (page : Nat) (hk : Keeps z₀ s) : Keeps z₀ (State.takeLock s p page) := by
  unfold State.takeLock
  try dsimp only
  repeat' first
    | with_reducible assumption
    | simp only [Keeps.upd_iff]
    | with_reducible apply State.modPage_keeps
    | (with_reducible apply Keeps.foldl)
    | (with_reducible apply Keeps.foldlFst)
    | intro _ _ _
    | split

theorem State.freeLock_keeps {z₀ : State} (s : State) (page result : Nat) (hk : Keeps z₀ s) : Keeps z₀ (State.freeLock s page result) := by
  unfold State.freeLock
  try dsimp only
  repeat' first
    | with_reducible assumption
    | simp only [Keeps.upd_iff]
    | with_reducible apply State.modPage_keeps
    | (with_reducible apply Keeps.foldl)
    | (with_reducible apply Keeps.foldlFst)
    | intro _ _ _
    | split

theorem State.discardStaged_keeps {z₀ : State} (s : State) (page : Nat) (hk : Keeps z₀ s) : Keeps z₀ (State.discardStaged s page) := by
  unfold State.discardStaged
  try dsimp only
  repeat' first
    | with_reducible assumption
    | simp only [Keeps.upd_iff]
    | with_reducible apply State.modPage_keeps
    | (with_reducible apply Keeps.foldl)
    | (with_reducible apply Keeps.foldlFst)
    | intro _ _ _
    | split

theorem State.breakLock_keeps {z₀ : State} (s : State) (page cause : Nat) (hk : Keeps z₀ s) : Keeps z₀ (State.breakLock s page cause) := by
  unfold State.breakLock
  try dsimp only
  repeat' first
    | with_reducible assumption
    | simp only [Keeps.upd_iff]
    | with_reducible apply State.freeLock_keeps
    | with_reducible apply State.report_keeps
    | (with_reducible apply Keeps.foldl)
    | (with_reducible apply Keeps.foldlFst)
    | intro _ _ _
    | split

theorem State.lockIdle_keeps {z₀ : State} (s : State) (page : Nat) (hk : Keeps z₀ s) : Keeps z₀ (State.lockIdle s page) := by
  unfold State.lockIdle
  try dsimp only
  repeat' first
    | with_reducible assumption
    | simp only [Keeps.upd_iff]
    | with_reducible apply State.advanceTo_keeps
    | with_reducible apply State.breakLock_keeps
    | (with_reducible apply Keeps.foldl)
    | (with_reducible apply Keeps.foldlFst)
    | intro _ _ _
    | split

theorem State.setSecurity_keeps {z₀ : State} (s : State) (f : Security → Security) (hk : Keeps z₀ s) : Keeps z₀ (State.setSecurity s f) := by
  unfold State.setSecurity
  try dsimp only
  repeat' first
    | with_reducible assumption
    | simp only [Keeps.upd_iff]
    | (with_reducible apply Keeps.foldl)
    | (with_reducible apply Keeps.foldlFst)
    | intro _ _ _
    | split

theorem State.csResult_keeps {z₀ : State} (s : State) (r : Nat) (hk : Keeps z₀ s) : Keeps z₀ (State.csResult s r) := by
  unfold State.csResult
  try dsimp only
  repeat' first
    | with_reducible assumption
    | simp only [Keeps.upd_iff]
    | with_reducible apply State.setSecurity_keeps
    | with_reducible apply State.raise_keeps
    | with_reducible apply State.pageError_keeps
    | (with_reducible apply Keeps.foldl)
    | (with_reducible apply Keeps.foldlFst)
    | intro _ _ _
    | split

theorem State.propose_keeps {z₀ : State} (s : State) (p : Port) (hk : Keeps z₀ s) : Keeps z₀ (State.propose s p) := by
  unfold State.propose
  try dsimp only
  repeat' first
    | with_reducible assumption
    | simp only [Keeps.upd_iff]
    | with_reducible apply State.csResult_keeps
    | with_reducible apply State.setSecurity_keeps
    | (with_reducible apply Keeps.foldl)
    | (with_reducible apply Keeps.foldlFst)
    | intro _ _ _
    | split

theorem State.endProposal_keeps {z₀ : State} (s : State) (q : Proposal) (hk : Keeps z₀ s) : Keeps z₀ (State.endProposal s q) := by
  unfold State.endProposal
  try dsimp only
  repeat' first
    | with_reducible assumption
    | simp only [Keeps.upd_iff]
    | with_reducible apply State.setSecurity_keeps
    | (with_reducible apply Keeps.foldl)
    | (with_reducible apply Keeps.foldlFst)
    | intro _ _ _
    | split

theorem State.dropProposal_keeps {z₀ : State} (s : State) (q : Proposal) (result : Nat) (hk : Keeps z₀ s) : Keeps z₀ (State.dropProposal s q result) := by
  unfold State.dropProposal
  try dsimp only
  repeat' first
    | with_reducible assumption
    | simp only [Keeps.upd_iff]
    | with_reducible apply State.endProposal_keeps
    | with_reducible apply State.csResult_keeps
    | with_reducible apply State.log_keeps
    | (with_reducible apply Keeps.foldl)
    | (with_reducible apply Keeps.foldlFst)
    | intro _ _ _
    | split

theorem State.proposalTimeout_keeps {z₀ : State} (s : State) (hk : Keeps z₀ s) : Keeps z₀ (State.proposalTimeout s) := by
  unfold State.proposalTimeout
  try dsimp only
  repeat' first
    | with_reducible assumption
    | simp only [Keeps.upd_iff]
    | with_reducible apply State.advanceTo_keeps
    | with_reducible apply State.dropProposal_keeps
    | (with_reducible apply Keeps.foldl)
    | (with_reducible apply Keeps.foldlFst)
    | intro _ _ _
    | split

theorem State.makeChange_keeps {z₀ : State} (s : State) (b : List Byte) (hk : Keeps z₀ s) : Keeps z₀ (State.makeChange s b) := by
  unfold State.makeChange
  try dsimp only
  repeat' first
    | with_reducible assumption
    | simp only [Keeps.upd_iff]
    | with_reducible apply State.setPart_keeps
    | with_reducible apply State.setEyelet_keeps
    | with_reducible apply State.setSecurity_keeps
    | (with_reducible apply Keeps.foldl)
    | (with_reducible apply Keeps.foldlFst)
    | intro _ _ _
    | split

theorem State.applyProposal_keeps {z₀ : State} (s : State) (q : Proposal) (hk : Keeps z₀ s) : Keeps z₀ (State.applyProposal s q) := by
  unfold State.applyProposal
  try dsimp only
  repeat' first
    | with_reducible assumption
    | simp only [Keeps.upd_iff]
    | with_reducible apply State.makeChange_keeps
    | with_reducible apply State.setSecurity_keeps
    | with_reducible apply State.csResult_keeps
    | with_reducible apply State.drain_keeps
    | (with_reducible apply Keeps.foldl)
    | (with_reducible apply Keeps.foldlFst)
    | intro _ _ _
    | split

theorem State.countersign_keeps {z₀ : State} (s : State) (p : Port) (digest : Word) (hk : Keeps z₀ s) : Keeps z₀ (State.countersign s p digest) := by
  unfold State.countersign
  try dsimp only
  repeat' first
    | with_reducible assumption
    | simp only [Keeps.upd_iff]
    | with_reducible apply State.dropProposal_keeps
    | with_reducible apply State.setSecurity_keeps
    | with_reducible apply State.endProposal_keeps
    | with_reducible apply State.csResult_keeps
    | with_reducible apply State.applyProposal_keeps
    | (with_reducible apply Keeps.foldl)
    | (with_reducible apply Keeps.foldlFst)
    | intro _ _ _
    | split

theorem State.shelfClearDone_keeps {z₀ : State} (s : State) (hk : Keeps z₀ s) : Keeps z₀ (State.shelfClearDone s) := by
  unfold State.shelfClearDone
  try dsimp only
  repeat' first
    | with_reducible assumption
    | simp only [Keeps.upd_iff]
    | with_reducible apply State.applyProposal_keeps
    | with_reducible apply State.shelvesCleared_keeps
    | with_reducible apply State.drain_keeps
    | (with_reducible apply Keeps.foldl)
    | (with_reducible apply Keeps.foldlFst)
    | intro _ _ _
    | split

theorem State.stageKey_keeps {z₀ : State} (s : State) (n : Nat) (v : Word) (hk : Keeps z₀ s) : Keeps z₀ (State.stageKey s n v) := by
  unfold State.stageKey
  try dsimp only
  repeat' first
    | with_reducible assumption
    | simp only [Keeps.upd_iff]
    | with_reducible apply State.setSecurity_keeps
    | with_reducible apply State.raise_keeps
    | (with_reducible apply Keeps.foldl)
    | (with_reducible apply Keeps.foldlFst)
    | intro _ _ _
    | split

theorem State.portReset_keeps {z₀ : State} (s : State) (p : Port) (detach : Bool) (hk : Keeps z₀ s) : Keeps z₀ (State.portReset s p detach) := by
  unfold State.portReset
  try dsimp only
  repeat' first
    | with_reducible assumption
    | simp only [Keeps.upd_iff]
    | with_reducible apply State.breakLock_keeps
    | with_reducible apply State.dropProposal_keeps
    | with_reducible apply State.setSecurity_keeps
    | (with_reducible apply Keeps.foldl)
    | (with_reducible apply Keeps.foldlFst)
    | intro _ _ _
    | split

end Sys2Proof.Machine
end

