-- ==== Sys2Proof/Laws/KeepsSystem.lean ====
section
/-! SUPPORT. Every operation of Clocks, Recorder, Resets, RegRead, Actions, RegWrite, Access, Boundary, ExecCommands, ExecUnits, ExecRegisters, ExecSystem keeps what Keeps speaks of. -/

set_option linter.unusedTactic false
set_option linter.unreachableTactic false
set_option linter.unusedSimpArgs false

namespace Sys2Proof.Machine

theorem State.setPower_keeps {z₀ : State} (s : State) (f : PowerUnit → PowerUnit) (hk : Keeps z₀ s) : Keeps z₀ (State.setPower s f) := by
  unfold State.setPower
  try dsimp only
  repeat' first
    | with_reducible assumption
    | simp only [Keeps.upd_iff]
    | (with_reducible apply Keeps.foldl)
    | (with_reducible apply Keeps.foldlFst)
    | intro _ _ _
    | split

theorem State.powerTo_keeps {z₀ : State} (s : State) (st : Power) (hk : Keeps z₀ s) : Keeps z₀ (State.powerTo s st) := by
  unfold State.powerTo
  try dsimp only
  repeat' first
    | with_reducible assumption
    | simp only [Keeps.upd_iff]
    | with_reducible apply State.setPower_keeps
    | (with_reducible apply Keeps.foldl)
    | (with_reducible apply Keeps.foldlFst)
    | intro _ _ _
    | split

theorem State.logChange_keeps {z₀ : State} (s : State) (old new : Power) (trigger : Nat) (hk : Keeps z₀ s) : Keeps z₀ (State.logChange s old new trigger) := by
  unfold State.logChange
  try dsimp only
  repeat' first
    | with_reducible assumption
    | simp only [Keeps.upd_iff]
    | with_reducible apply State.log_keeps
    | (with_reducible apply Keeps.foldl)
    | (with_reducible apply Keeps.foldlFst)
    | intro _ _ _
    | split

theorem State.beginWake_keeps {z₀ : State} (s : State) (trigger : Nat) (hk : Keeps z₀ s) : Keeps z₀ (State.beginWake s trigger) := by
  unfold State.beginWake
  try dsimp only
  repeat' first
    | with_reducible assumption
    | simp only [Keeps.upd_iff]
    | with_reducible apply State.outPower_keeps
    | with_reducible apply State.setPower_keeps
    | (with_reducible apply Keeps.foldl)
    | (with_reducible apply Keeps.foldlFst)
    | intro _ _ _
    | split

theorem State.rouse_keeps {z₀ : State} (s : State) (hk : Keeps z₀ s) : Keeps z₀ (State.rouse s) := by
  unfold State.rouse
  try dsimp only
  repeat' first
    | with_reducible assumption
    | simp only [Keeps.upd_iff]
    | with_reducible apply State.bump_keeps
    | with_reducible apply State.powerTo_keeps
    | with_reducible apply State.beginWake_keeps
    | (with_reducible apply Keeps.foldl)
    | (with_reducible apply Keeps.foldlFst)
    | intro _ _ _
    | split

theorem State.wakeUp_keeps {z₀ : State} (s : State) (hk : Keeps z₀ s) : Keeps z₀ (State.wakeUp s) := by
  unfold State.wakeUp
  try dsimp only
  repeat' first
    | with_reducible assumption
    | simp only [Keeps.upd_iff]
    | with_reducible apply State.advanceTo_keeps
    | with_reducible apply State.powerTo_keeps
    | with_reducible apply State.setPower_keeps
    | with_reducible apply State.logChange_keeps
    | (with_reducible apply Keeps.foldl)
    | (with_reducible apply Keeps.foldlFst)
    | intro _ _ _
    | split

theorem State.enterState_keeps {z₀ : State} (s : State) (st : Power) (wakeAt : Nat) (hk : Keeps z₀ s) : Keeps z₀ (State.enterState s st wakeAt) := by
  unfold State.enterState
  try dsimp only
  repeat' first
    | with_reducible assumption
    | simp only [Keeps.upd_iff]
    | with_reducible apply State.powerTo_keeps
    | with_reducible apply State.setPower_keeps
    | with_reducible apply State.outPower_keeps
    | with_reducible apply State.log_keeps
    | with_reducible apply State.logChange_keeps
    | (with_reducible apply Keeps.foldl)
    | (with_reducible apply Keeps.foldlFst)
    | intro _ _ _
    | split

theorem State.idleOrActive_keeps {z₀ : State} (s : State) (hk : Keeps z₀ s) : Keeps z₀ (State.idleOrActive s) := by
  unfold State.idleOrActive
  try dsimp only
  repeat' first
    | with_reducible assumption
    | simp only [Keeps.upd_iff]
    | with_reducible apply State.powerTo_keeps
    | with_reducible apply State.setPower_keeps
    | (with_reducible apply Keeps.foldl)
    | (with_reducible apply Keeps.foldlFst)
    | intro _ _ _
    | split

theorem State.choosePower_keeps {z₀ : State} (s : State) (hk : Keeps z₀ s) : Keeps z₀ (State.choosePower s) := by
  unfold State.choosePower
  try dsimp only
  repeat' first
    | with_reducible assumption
    | simp only [Keeps.upd_iff]
    | with_reducible apply State.idleOrActive_keeps
    | with_reducible apply State.setPower_keeps
    | with_reducible apply State.enterState_keeps
    | (with_reducible apply Keeps.foldl)
    | (with_reducible apply Keeps.foldlFst)
    | intro _ _ _
    | split

theorem State.timerWake_keeps {z₀ : State} (s : State) (hk : Keeps z₀ s) : Keeps z₀ (State.timerWake s) := by
  unfold State.timerWake
  try dsimp only
  repeat' first
    | with_reducible assumption
    | simp only [Keeps.upd_iff]
    | with_reducible apply State.advanceTo_keeps
    | with_reducible apply State.powerTo_keeps
    | with_reducible apply State.beginWake_keeps
    | (with_reducible apply Keeps.foldl)
    | (with_reducible apply Keeps.foldlFst)
    | intro _ _ _
    | split

theorem State.moveWake_keeps {z₀ : State} (s : State) (hk : Keeps z₀ s) : Keeps z₀ (State.moveWake s) := by
  unfold State.moveWake
  try dsimp only
  repeat' first
    | with_reducible assumption
    | simp only [Keeps.upd_iff]
    | with_reducible apply State.setPower_keeps
    | with_reducible apply State.beginWake_keeps
    | (with_reducible apply Keeps.foldl)
    | (with_reducible apply Keeps.foldlFst)
    | intro _ _ _
    | split

theorem State.movedFrom_keeps {z₀ : State} (s was : State) (hk : Keeps z₀ s) : Keeps z₀ (State.movedFrom s was) := by
  unfold State.movedFrom
  try dsimp only
  repeat' first
    | with_reducible assumption
    | simp only [Keeps.upd_iff]
    | with_reducible apply State.moveWake_keeps
    | (with_reducible apply Keeps.foldl)
    | (with_reducible apply Keeps.foldlFst)
    | intro _ _ _
    | split

theorem State.writeHint_keeps {z₀ : State} (s : State) (v : Nat) (hk : Keeps z₀ s) : Keeps z₀ (State.writeHint s v) := by
  unfold State.writeHint
  try dsimp only
  repeat' first
    | with_reducible assumption
    | simp only [Keeps.upd_iff]
    | with_reducible apply State.setReg_keeps
    | with_reducible apply State.setPower_keeps
    | (with_reducible apply Keeps.foldl)
    | (with_reducible apply Keeps.foldlFst)
    | intro _ _ _
    | split

theorem State.wakeCommand_keeps {z₀ : State} (s : State) (hk : Keeps z₀ s) : Keeps z₀ (State.wakeCommand s) := by
  unfold State.wakeCommand
  try dsimp only
  repeat' first
    | with_reducible assumption
    | simp only [Keeps.upd_iff]
    | with_reducible apply State.rouse_keeps
    | with_reducible apply State.powerTo_keeps
    | with_reducible apply State.choosePower_keeps
    | (with_reducible apply Keeps.foldl)
    | (with_reducible apply Keeps.foldlFst)
    | intro _ _ _
    | split

theorem State.reclaimAck_keeps {z₀ : State} (s : State) (hk : Keeps z₀ s) : Keeps z₀ (State.reclaimAck s) := by
  unfold State.reclaimAck
  try dsimp only
  repeat' first
    | with_reducible assumption
    | simp only [Keeps.upd_iff]
    | with_reducible apply State.setPower_keeps
    | (with_reducible apply Keeps.foldl)
    | (with_reducible apply Keeps.foldlFst)
    | intro _ _ _
    | split

theorem State.setBudget_keeps {z₀ : State} (s : State) (mw : Nat) (hk : Keeps z₀ s) : Keeps z₀ (State.setBudget s mw) := by
  unfold State.setBudget
  try dsimp only
  repeat' first
    | with_reducible assumption
    | simp only [Keeps.upd_iff]
    | with_reducible apply State.setPower_keeps
    | (with_reducible apply Keeps.foldl)
    | (with_reducible apply Keeps.foldlFst)
    | intro _ _ _
    | split

theorem State.sample_keeps {z₀ : State} (s : State) (c : WakeCause) (hk : Keeps z₀ s) : Keeps z₀ (State.sample s c) := by
  unfold State.sample
  try dsimp only
  repeat' first
    | with_reducible assumption
    | simp only [Keeps.upd_iff]
    | with_reducible apply State.hold_keeps
    | (with_reducible apply Keeps.foldl)
    | (with_reducible apply Keeps.foldlFst)
    | intro _ _ _
    | split

theorem State.waitForPower_keeps {z₀ : State} (s : State) (d : Nat) (hk : Keeps z₀ s) : Keeps z₀ (State.waitForPower s d) := by
  unfold State.waitForPower
  try dsimp only
  repeat' first
    | with_reducible assumption
    | simp only [Keeps.upd_iff]
    | with_reducible apply State.setTransfer_keeps
    | (with_reducible apply Keeps.foldl)
    | (with_reducible apply Keeps.foldlFst)
    | intro _ _ _
    | split

theorem State.abortFor_keeps {z₀ : State} (d : Nat) (p : State × List Nat × Nat) (id : Nat) (hk : Keeps z₀ p.1) : Keeps z₀ (State.abortFor d p id).1 := by
  unfold State.abortFor
  try dsimp only
  repeat' first
    | with_reducible assumption
    | simp only [Keeps.upd_iff]
    | with_reducible apply State.endTransfer_keeps
    | with_reducible apply State.modTenant_keeps
    | with_reducible apply State.removeTransfer_keeps
    | with_reducible apply State.startReturn_keeps
    | with_reducible apply State.waitForPower_keeps
    | with_reducible apply State.cancelTransfer_keeps
    | with_reducible apply State.startMove_keeps
    | with_reducible apply State.queueTransfer_keeps
    | with_reducible apply State.linkHalt_keeps
    | (with_reducible apply Keeps.foldl)
    | (with_reducible apply Keeps.foldlFst)
    | intro _ _ _
    | split

theorem State.grant_keeps {z₀ : State} (s : State) (d : Nat) (hk : Keeps z₀ s) : Keeps z₀ (State.grant s d) := by
  unfold State.grant
  try dsimp only
  repeat' first
    | with_reducible assumption
    | simp only [Keeps.upd_iff]
    | with_reducible apply State.setPd_keeps
    | with_reducible apply State.abortFor_keeps
    | with_reducible apply State.log_keeps
    | with_reducible apply State.detachHost_keeps
    | with_reducible apply State.tendJobs_keeps
    | with_reducible apply State.drain_keeps
    | (with_reducible apply Keeps.foldl)
    | (with_reducible apply Keeps.foldlFst)
    | intro _ _ _
    | split

theorem State.pdRequest_keeps {z₀ : State} (s : State) (d : Nat) (hk : Keeps z₀ s) : Keeps z₀ (State.pdRequest s d) := by
  unfold State.pdRequest
  try dsimp only
  repeat' first
    | with_reducible assumption
    | simp only [Keeps.upd_iff]
    | with_reducible apply State.raise_keeps
    | with_reducible apply State.setPd_keeps
    | with_reducible apply State.drain_keeps
    | with_reducible apply State.rouse_keeps
    | with_reducible apply State.grant_keeps
    | (with_reducible apply Keeps.foldl)
    | (with_reducible apply Keeps.foldlFst)
    | intro _ _ _
    | split

theorem State.drainEnd_keeps {z₀ : State} (s : State) (d : Nat) (hk : Keeps z₀ s) : Keeps z₀ (State.drainEnd s d) := by
  unfold State.drainEnd
  try dsimp only
  repeat' first
    | with_reducible assumption
    | simp only [Keeps.upd_iff]
    | with_reducible apply State.drain_keeps
    | with_reducible apply State.advanceTo_keeps
    | with_reducible apply State.setPd_keeps
    | with_reducible apply State.grant_keeps
    | with_reducible apply State.log_keeps
    | (with_reducible apply Keeps.foldl)
    | (with_reducible apply Keeps.foldlFst)
    | intro _ _ _
    | split

theorem State.deferEnd_keeps {z₀ : State} (s : State) (d : Nat) (hk : Keeps z₀ s) : Keeps z₀ (State.deferEnd s d) := by
  unfold State.deferEnd
  try dsimp only
  repeat' first
    | with_reducible assumption
    | simp only [Keeps.upd_iff]
    | with_reducible apply State.advanceTo_keeps
    | with_reducible apply State.grant_keeps
    | (with_reducible apply Keeps.foldl)
    | (with_reducible apply Keeps.foldlFst)
    | intro _ _ _
    | split

theorem State.pdWithdraw_keeps {z₀ : State} (s : State) (d : Nat) (hk : Keeps z₀ s) : Keeps z₀ (State.pdWithdraw s d) := by
  unfold State.pdWithdraw
  try dsimp only
  repeat' first
    | with_reducible assumption
    | simp only [Keeps.upd_iff]
    | with_reducible apply State.setPd_keeps
    | with_reducible apply State.flushWrites_keeps
    | with_reducible apply State.drainPeer_keeps
    | (with_reducible apply Keeps.foldl)
    | (with_reducible apply Keeps.foldlFst)
    | intro _ _ _
    | split

theorem State.setRecorder_keeps {z₀ : State} (s : State) (f : Recorder → Recorder) (hk : Keeps z₀ s) : Keeps z₀ (State.setRecorder s f) := by
  unfold State.setRecorder
  try dsimp only
  repeat' first
    | with_reducible assumption
    | simp only [Keeps.upd_iff]
    | (with_reducible apply Keeps.foldl)
    | (with_reducible apply Keeps.foldlFst)
    | intro _ _ _
    | split

theorem State.takeWaiting_keeps {z₀ : State}  (fuel : Nat) : ∀ s : State, Keeps z₀ s → Keeps z₀ (State.takeWaiting s  fuel) := by
  induction fuel with
  | zero => intro s h; exact h
  | succ fuel ih =>
    intro s h
    unfold State.takeWaiting
    try dsimp only
    repeat' first
      | with_reducible assumption
      | simp only [Keeps.upd_iff]
      | (with_reducible apply ih)
      | with_reducible apply State.setRecorder_keeps
      | with_reducible apply State.takeRec_keeps
      | (with_reducible apply Keeps.foldl)
      | (with_reducible apply Keeps.foldlFst)
      | intro _ _ _
      | split

theorem State.recordStore_keeps {z₀ : State} (s : State) (hk : Keeps z₀ s) : Keeps z₀ (State.recordStore s) := by
  unfold State.recordStore
  try dsimp only
  repeat' first
    | with_reducible assumption
    | simp only [Keeps.upd_iff]
    | with_reducible apply State.setRecorder_keeps
    | with_reducible apply State.bump_keeps
    | with_reducible apply State.raise_keeps
    | with_reducible apply State.takeWaiting_keeps
    | (with_reducible apply Keeps.foldl)
    | (with_reducible apply Keeps.foldlFst)
    | intro _ _ _
    | split

theorem State.writeTail_keeps {z₀ : State} (s : State) (t : Nat) (hk : Keeps z₀ s) : Keeps z₀ (State.writeTail s t) := by
  unfold State.writeTail
  try dsimp only
  repeat' first
    | with_reducible assumption
    | simp only [Keeps.upd_iff]
    | with_reducible apply State.setRecorder_keeps
    | (with_reducible apply Keeps.foldl)
    | (with_reducible apply Keeps.foldlFst)
    | intro _ _ _
    | split

theorem State.recEraseEnd_keeps {z₀ : State} (s : State) (hk : Keeps z₀ s) : Keeps z₀ (State.recEraseEnd s) := by
  unfold State.recEraseEnd
  try dsimp only
  repeat' first
    | with_reducible assumption
    | simp only [Keeps.upd_iff]
    | with_reducible apply State.setRecorder_keeps
    | (with_reducible apply Keeps.foldl)
    | (with_reducible apply Keeps.foldlFst)
    | intro _ _ _
    | split

theorem State.timeMessage_keeps {z₀ : State} (s : State) (ns : Nat) (hk : Keeps z₀ s) : Keeps z₀ (State.timeMessage s ns) := by
  unfold State.timeMessage
  try dsimp only
  repeat' first
    | with_reducible assumption
    | simp only [Keeps.upd_iff]
    | with_reducible apply State.setRecorder_keeps
    | (with_reducible apply Keeps.foldl)
    | (with_reducible apply Keeps.foldlFst)
    | intro _ _ _
    | split

theorem State.timeLockLost_keeps {z₀ : State} (s : State) (hk : Keeps z₀ s) : Keeps z₀ (State.timeLockLost s) := by
  unfold State.timeLockLost
  try dsimp only
  repeat' first
    | with_reducible assumption
    | simp only [Keeps.upd_iff]
    | with_reducible apply State.advanceTo_keeps
    | with_reducible apply State.setRecorder_keeps
    | (with_reducible apply Keeps.foldl)
    | (with_reducible apply Keeps.foldlFst)
    | intro _ _ _
    | split

theorem State.persist_keeps {z₀ : State} (s : State) (hk : Keeps z₀ s) : Keeps z₀ (State.persist s) := by
  unfold State.persist
  try dsimp only
  repeat' first
    | with_reducible assumption
    | simp only [Keeps.upd_iff]
    | with_reducible apply State.setRecorder_keeps
    | (with_reducible apply Keeps.foldl)
    | (with_reducible apply Keeps.foldlFst)
    | intro _ _ _
    | split

theorem State.persistence_keeps {z₀ : State} (s : State) (hk : Keeps z₀ s) : Keeps z₀ (State.persistence s) := by
  unfold State.persistence
  try dsimp only
  repeat' first
    | with_reducible assumption
    | simp only [Keeps.upd_iff]
    | with_reducible apply State.advanceTo_keeps
    | with_reducible apply State.persist_keeps
    | (with_reducible apply Keeps.foldl)
    | (with_reducible apply Keeps.foldlFst)
    | intro _ _ _
    | split

theorem State.nvWriteAck_keeps {z₀ : State} (s : State) (hk : Keeps z₀ s) : Keeps z₀ (State.nvWriteAck s) := by
  unfold State.nvWriteAck
  try dsimp only
  repeat' first
    | with_reducible assumption
    | simp only [Keeps.upd_iff]
    | with_reducible apply State.setRecorder_keeps
    | (with_reducible apply Keeps.foldl)
    | (with_reducible apply Keeps.foldlFst)
    | intro _ _ _
    | split

theorem State.nvWriteTimeout_keeps {z₀ : State} (s : State) (hk : Keeps z₀ s) : Keeps z₀ (State.nvWriteTimeout s) := by
  unfold State.nvWriteTimeout
  try dsimp only
  repeat' first
    | with_reducible assumption
    | simp only [Keeps.upd_iff]
    | with_reducible apply State.advanceTo_keeps
    | with_reducible apply State.draw_keeps
    | with_reducible apply State.setRecorder_keeps
    | (with_reducible apply Keeps.foldl)
    | (with_reducible apply Keeps.foldlFst)
    | intro _ _ _
    | split

theorem State.setRst_keeps {z₀ : State} (s : State) (f : ResetUnit → ResetUnit) (hk : Keeps z₀ s) : Keeps z₀ (State.setRst s f) := by
  unfold State.setRst
  try dsimp only
  repeat' first
    | with_reducible assumption
    | simp only [Keeps.upd_iff]
    | (with_reducible apply Keeps.foldl)
    | (with_reducible apply Keeps.foldlFst)
    | intro _ _ _
    | split

theorem State.setDebug_keeps {z₀ : State} (s : State) (f : Debug → Debug) (hk : Keeps z₀ s) : Keeps z₀ (State.setDebug s f) := by
  unfold State.setDebug
  try dsimp only
  repeat' first
    | with_reducible assumption
    | simp only [Keeps.upd_iff]
    | (with_reducible apply Keeps.foldl)
    | (with_reducible apply Keeps.foldlFst)
    | intro _ _ _
    | split

theorem State.dropLines_keeps {z₀ : State} (f : Nat) : ∀ (a : Nat) (bytes : List Byte) (s : State), Keeps z₀ s →
    Keeps z₀ (s.dropLines a bytes f) := by
  induction f with
  | zero => intro a bytes s h; exact h
  | succ f ih =>
    intro a bytes s h
    unfold State.dropLines
    dsimp only
    split
    · exact h
    · split
      · exact ih _ _ _ (State.memWrite_keeps _ _ _ (State.draw_keeps _ h))
      · exact ih _ _ _ (State.draw_keeps _ h)

theorem State.poisonInFlight_keeps {z₀ : State} (s : State) (hk : Keeps z₀ s) : Keeps z₀ (State.poisonInFlight s) := by
  unfold State.poisonInFlight
  try dsimp only
  repeat' first
    | with_reducible assumption
    | simp only [Keeps.upd_iff]
    | with_reducible apply State.outBeats_keeps
    | with_reducible apply State.draw_keeps
    | (with_reducible apply Keeps.foldl)
    | (with_reducible apply Keeps.foldlFst)
    | intro _ _ _
    | split

theorem State.refuseHeld_keeps {z₀ : State} (s : State) (hk : Keeps z₀ s) : Keeps z₀ (State.refuseHeld s) := by
  unfold State.refuseHeld
  try dsimp only
  repeat' first
    | with_reducible assumption
    | simp only [Keeps.upd_iff]
    | with_reducible apply State.outErrors_keeps
    | (with_reducible apply Keeps.foldl)
    | (with_reducible apply Keeps.foldlFst)
    | intro _ _ _
    | split

theorem State.beginIsolation_keeps {z₀ : State} (s : State) (hk : Keeps z₀ s) : Keeps z₀ (State.beginIsolation s) := by
  unfold State.beginIsolation
  try dsimp only
  repeat' first
    | with_reducible assumption
    | simp only [Keeps.upd_iff]
    | with_reducible apply State.pulseQueue_keeps
    | with_reducible apply State.endWaits_keeps
    | with_reducible apply State.poisonInFlight_keeps
    | with_reducible apply State.refuseHeld_keeps
    | with_reducible apply State.setRst_keeps
    | (with_reducible apply Keeps.foldl)
    | (with_reducible apply Keeps.foldlFst)
    | intro _ _ _
    | split

theorem State.dropWrites_keeps {z₀ : State} (s : State) (ws : List OutWrite) (hk : Keeps z₀ s) : Keeps z₀ (State.dropWrites s ws) := by
  unfold State.dropWrites
  try dsimp only
  repeat' first
    | with_reducible assumption
    | simp only [Keeps.upd_iff]
    | with_reducible apply State.dropLines_keeps
    | with_reducible apply State.setRst_keeps
    | (with_reducible apply Keeps.foldl)
    | (with_reducible apply Keeps.foldlFst)
    | intro _ _ _
    | split

theorem State.boundaryError_keeps {z₀ : State} (s : State) (hk : Keeps z₀ s) : Keeps z₀ (State.boundaryError s) := by
  unfold State.boundaryError
  try dsimp only
  repeat' first
    | with_reducible assumption
    | simp only [Keeps.upd_iff]
    | with_reducible apply State.setRst_keeps
    | with_reducible apply State.outError_keeps
    | (with_reducible apply Keeps.foldl)
    | (with_reducible apply Keeps.foldlFst)
    | intro _ _ _
    | split

theorem State.blank_keeps {z₀ : State} (s : State) (hk : Keeps z₀ s) : Keeps z₀ (State.blank s) := by
  unfold State.blank
  try dsimp only
  repeat' first
    | with_reducible assumption
    | simp only [Keeps.upd_iff]
    | (with_reducible apply Keeps.foldl)
    | (with_reducible apply Keeps.foldlFst)
    | intro _ _ _
    | split

theorem State.systemClear_keeps {z₀ : State} (s : State) (causes : List Nat) (opcode : Nat) (writes : List OutWrite) (hk : Keeps z₀ s) : Keeps z₀ (State.systemClear s causes opcode writes) := by
  unfold State.systemClear
  try dsimp only
  repeat' first
    | with_reducible assumption
    | simp only [Keeps.upd_iff]
    | with_reducible apply State.blank_keeps
    | (with_reducible apply Keeps.foldl)
    | (with_reducible apply Keeps.foldlFst)
    | intro _ _ _
    | split

theorem State.afterCycles_keeps {z₀ : State} (s : State) (n : Nat) (hk : Keeps z₀ s) : Keeps z₀ (State.afterCycles s n) := by
  unfold State.afterCycles
  try dsimp only
  repeat' first
    | with_reducible assumption
    | simp only [Keeps.upd_iff]
    | with_reducible apply State.advanceTo_keeps
    | (with_reducible apply Keeps.foldl)
    | (with_reducible apply Keeps.foldlFst)
    | intro _ _ _
    | split

theorem State.recordReset_keeps {z₀ : State} (s : State) (hk : Keeps z₀ s) : Keeps z₀ (State.recordReset s) := by
  unfold State.recordReset
  try dsimp only
  repeat' first
    | with_reducible assumption
    | simp only [Keeps.upd_iff]
    | with_reducible apply State.log_keeps
    | (with_reducible apply Keeps.foldl)
    | (with_reducible apply Keeps.foldlFst)
    | intro _ _ _
    | split

theorem State.recordFlush_keeps {z₀ : State} (s : State) (hk : Keeps z₀ s) : Keeps z₀ (State.recordFlush s) := by
  unfold State.recordFlush
  try dsimp only
  repeat' first
    | with_reducible assumption
    | simp only [Keeps.upd_iff]
    | with_reducible apply State.setRst_keeps
    | with_reducible apply State.log_keeps
    | (with_reducible apply Keeps.foldl)
    | (with_reducible apply Keeps.foldlFst)
    | intro _ _ _
    | split

theorem State.reachReady_keeps {z₀ : State} (s : State) (hk : Keeps z₀ s) : Keeps z₀ (State.reachReady s) := by
  unfold State.reachReady
  try dsimp only
  repeat' first
    | with_reducible assumption
    | simp only [Keeps.upd_iff]
    | with_reducible apply State.setRst_keeps
    | with_reducible apply State.drain_keeps
    | with_reducible apply State.noteIrq_keeps
    | with_reducible apply State.raise_keeps
    | with_reducible apply State.recordReset_keeps
    | with_reducible apply State.recordFlush_keeps
    | with_reducible apply State.takeHalt_keeps
    | (with_reducible apply Keeps.foldl)
    | (with_reducible apply Keeps.foldlFst)
    | intro _ _ _
    | split

theorem State.openPorts_keeps {z₀ : State} (s : State) (cycles : Nat) (hk : Keeps z₀ s) : Keeps z₀ (State.openPorts s cycles) := by
  unfold State.openPorts
  try dsimp only
  repeat' first
    | with_reducible assumption
    | simp only [Keeps.upd_iff]
    | with_reducible apply State.afterCycles_keeps
    | with_reducible apply State.advanceTo_keeps
    | with_reducible apply State.reachReady_keeps
    | (with_reducible apply Keeps.foldl)
    | (with_reducible apply Keeps.foldlFst)
    | intro _ _ _
    | split

theorem State.testDecoders_keeps {z₀ : State} (s : State) (l : List (Fin 48 × Fin 17)) (hk : Keeps z₀ s) : Keeps z₀ (State.testDecoders s l) := by
  unfold State.testDecoders
  try dsimp only
  repeat' first
    | with_reducible assumption
    | simp only [Keeps.upd_iff]
    | with_reducible apply State.mapOutDecoder_keeps
    | (with_reducible apply Keeps.foldl)
    | (with_reducible apply Keeps.foldlFst)
    | intro _ _ _
    | split

theorem State.clearAndBoot_keeps {z₀ : State} (s : State) (test : BootTest) (hk : Keeps z₀ s) : Keeps z₀ (State.clearAndBoot s test) := by
  unfold State.clearAndBoot
  try dsimp only
  repeat' first
    | with_reducible assumption
    | simp only [Keeps.upd_iff]
    | with_reducible apply State.setRst_keeps
    | with_reducible apply State.afterCycles_keeps
    | with_reducible apply State.mapOutStitcher_keeps
    | with_reducible apply State.testDecoders_keeps
    | with_reducible apply State.mapOutLane_keeps
    | with_reducible apply State.retireShelf_keeps
    | with_reducible apply State.openPorts_keeps
    | (with_reducible apply Keeps.foldl)
    | (with_reducible apply Keeps.foldlFst)
    | intro _ _ _
    | split

theorem State.bootGo_keeps {z₀ : State} (s : State) (hk : Keeps z₀ s) : Keeps z₀ (State.bootGo s) := by
  unfold State.bootGo
  try dsimp only
  repeat' first
    | with_reducible assumption
    | simp only [Keeps.upd_iff]
    | with_reducible apply State.setRst_keeps
    | with_reducible apply State.openPorts_keeps
    | (with_reducible apply Keeps.foldl)
    | (with_reducible apply Keeps.foldlFst)
    | intro _ _ _
    | split

theorem State.siblingImage_keeps {z₀ : State} (s : State) (hk : Keeps z₀ s) : Keeps z₀ (State.siblingImage s) := by
  unfold State.siblingImage
  try dsimp only
  repeat' first
    | with_reducible assumption
    | simp only [Keeps.upd_iff]
    | with_reducible apply State.openPorts_keeps
    | (with_reducible apply Keeps.foldl)
    | (with_reducible apply Keeps.foldlFst)
    | intro _ _ _
    | split

theorem State.siblingTimeout_keeps {z₀ : State} (s : State) (hk : Keeps z₀ s) : Keeps z₀ (State.siblingTimeout s) := by
  unfold State.siblingTimeout
  try dsimp only
  repeat' first
    | with_reducible assumption
    | simp only [Keeps.upd_iff]
    | with_reducible apply State.setRst_keeps
    | with_reducible apply State.openPorts_keeps
    | (with_reducible apply Keeps.foldl)
    | (with_reducible apply Keeps.foldlFst)
    | intro _ _ _
    | split

theorem State.addCause_keeps {z₀ : State} (s : State) (bit : Nat) (hk : Keeps z₀ s) : Keeps z₀ (State.addCause s bit) := by
  unfold State.addCause
  try dsimp only
  repeat' first
    | with_reducible assumption
    | simp only [Keeps.upd_iff]
    | with_reducible apply State.setRst_keeps
    | (with_reducible apply Keeps.foldl)
    | (with_reducible apply Keeps.foldlFst)
    | intro _ _ _
    | split

theorem State.tearNv_keeps {z₀ : State} (s : State) (hk : Keeps z₀ s) : Keeps z₀ (State.tearNv s) := by
  unfold State.tearNv
  try dsimp only
  repeat' first
    | with_reducible assumption
    | simp only [Keeps.upd_iff]
    | with_reducible apply State.nvWriteTimeout_keeps
    | (with_reducible apply Keeps.foldl)
    | (with_reducible apply Keeps.foldlFst)
    | intro _ _ _
    | split

theorem State.powerOn_keeps {z₀ : State} (s : State) (bootSrc clkMode : BitVec 2) (test : BootTest) (hk : Keeps z₀ s) : Keeps z₀ (State.powerOn s bootSrc clkMode test) := by
  unfold State.powerOn
  try dsimp only
  repeat' first
    | with_reducible assumption
    | simp only [Keeps.upd_iff]
    | with_reducible apply State.beginIsolation_keeps
    | with_reducible apply State.dropWrites_keeps
    | with_reducible apply State.tearNv_keeps
    | with_reducible apply State.blank_keeps
    | with_reducible apply State.persist_keeps
    | with_reducible apply State.advanceTo_keeps
    | with_reducible apply State.clearAndBoot_keeps
    | (with_reducible apply Keeps.foldl)
    | (with_reducible apply Keeps.foldlFst)
    | intro _ _ _
    | split

theorem State.finishSystem_keeps {z₀ : State} (s : State) (test : BootTest) (hk : Keeps z₀ s) : Keeps z₀ (State.finishSystem s test) := by
  unfold State.finishSystem
  try dsimp only
  repeat' first
    | with_reducible assumption
    | simp only [Keeps.upd_iff]
    | with_reducible apply State.advanceTo_keeps
    | with_reducible apply State.clearAndBoot_keeps
    | (with_reducible apply Keeps.foldl)
    | (with_reducible apply Keeps.foldlFst)
    | intro _ _ _
    | split

theorem State.systemLevel_keeps {z₀ : State} (s : State) (bits : List Nat) (test : BootTest) (hk : Keeps z₀ s) : Keeps z₀ (State.systemLevel s bits test) := by
  unfold State.systemLevel
  try dsimp only
  repeat' first
    | with_reducible assumption
    | simp only [Keeps.upd_iff]
    | with_reducible apply State.setRst_keeps
    | with_reducible apply State.beginIsolation_keeps
    | with_reducible apply State.systemClear_keeps
    | with_reducible apply State.finishSystem_keeps
    | (with_reducible apply Keeps.foldl)
    | (with_reducible apply Keeps.foldlFst)
    | intro _ _ _
    | split

theorem State.drainDone_keeps {z₀ : State} (s : State) (test : BootTest) (hk : Keeps z₀ s) : Keeps z₀ (State.drainDone s test) := by
  unfold State.drainDone
  try dsimp only
  repeat' first
    | with_reducible assumption
    | simp only [Keeps.upd_iff]
    | with_reducible apply State.advanceTo_keeps
    | with_reducible apply State.dropWrites_keeps
    | with_reducible apply State.finishSystem_keeps
    | (with_reducible apply Keeps.foldl)
    | (with_reducible apply Keeps.foldlFst)
    | intro _ _ _
    | split

theorem State.drainedWrite_keeps {z₀ : State} (s : State) (f : OutWrite → Bool) (ok : Bool) (hk : Keeps z₀ s) : Keeps z₀ (State.drainedWrite s f ok) := by
  unfold State.drainedWrite
  try dsimp only
  repeat' first
    | with_reducible assumption
    | simp only [Keeps.upd_iff]
    | with_reducible apply State.setRst_keeps
    | with_reducible apply State.memWrite_keeps
    | (with_reducible apply Keeps.foldl)
    | (with_reducible apply Keeps.foldlFst)
    | intro _ _ _
    | split

theorem State.restartClicker_keeps {z₀ : State} (s : State) (hk : Keeps z₀ s) : Keeps z₀ (State.restartClicker s) := by
  unfold State.restartClicker
  try dsimp only
  repeat' first
    | with_reducible assumption
    | simp only [Keeps.upd_iff]
    | (with_reducible apply Keeps.foldl)
    | (with_reducible apply Keeps.foldlFst)
    | intro _ _ _
    | split

theorem State.coreLevel_keeps {z₀ : State} (s : State) (bits : List Nat) (hk : Keeps z₀ s) : Keeps z₀ (State.coreLevel s bits) := by
  unfold State.coreLevel
  try dsimp only
  repeat' first
    | with_reducible assumption
    | simp only [Keeps.upd_iff]
    | with_reducible apply State.rouse_keeps
    | with_reducible apply State.restartClicker_keeps
    | with_reducible apply State.bump_keeps
    | with_reducible apply State.log_keeps
    | with_reducible apply State.takeHalt_keeps
    | with_reducible apply State.drain_keeps
    | (with_reducible apply Keeps.foldl)
    | (with_reducible apply Keeps.foldlFst)
    | intro _ _ _
    | split

theorem State.resetBy_keeps {z₀ : State} (s : State) (xs : List ResetSource) (test : BootTest) (hk : Keeps z₀ s) : Keeps z₀ (State.resetBy s xs test) := by
  unfold State.resetBy
  try dsimp only
  repeat' first
    | with_reducible assumption
    | simp only [Keeps.upd_iff]
    | with_reducible apply State.watchdog_keeps
    | with_reducible apply State.addCause_keeps
    | with_reducible apply State.systemLevel_keeps
    | with_reducible apply State.coreLevel_keeps
    | with_reducible apply State.setRst_keeps
    | (with_reducible apply Keeps.foldl)
    | (with_reducible apply Keeps.foldlFst)
    | intro _ _ _
    | split

theorem State.watchdog_keeps {z₀ : State} (s : State) (test : BootTest) (hk : Keeps z₀ s) : Keeps z₀ (State.watchdog s test) := by
  unfold State.watchdog
  try dsimp only
  repeat' first
    | with_reducible assumption
    | simp only [Keeps.upd_iff]
    | with_reducible apply State.resetBy_keeps
    | (with_reducible apply Keeps.foldl)
    | (with_reducible apply Keeps.foldlFst)
    | intro _ _ _
    | split

theorem State.resetCommand_keeps {z₀ : State} (s : State) (p : Port) (v : Nat) (test : BootTest) (hk : Keeps z₀ s) : Keeps z₀ (State.resetCommand s p v test) := by
  unfold State.resetCommand
  try dsimp only
  repeat' first
    | with_reducible assumption
    | simp only [Keeps.upd_iff]
    | with_reducible apply State.resetBy_keeps
    | with_reducible apply State.command_keeps
    | (with_reducible apply Keeps.foldl)
    | (with_reducible apply Keeps.foldlFst)
    | intro _ _ _
    | split

theorem State.goOff_keeps {z₀ : State} (s : State) (hk : Keeps z₀ s) : Keeps z₀ (State.goOff s) := by
  unfold State.goOff
  try dsimp only
  repeat' first
    | with_reducible assumption
    | simp only [Keeps.upd_iff]
    | with_reducible apply State.setPower_keeps
    | with_reducible apply State.raise_keeps
    | with_reducible apply State.persist_keeps
    | (with_reducible apply Keeps.foldl)
    | (with_reducible apply Keeps.foldlFst)
    | intro _ _ _
    | split

theorem State.finishOff_keeps {z₀ : State} (s : State) (hk : Keeps z₀ s) : Keeps z₀ (State.finishOff s) := by
  unfold State.finishOff
  try dsimp only
  repeat' first
    | with_reducible assumption
    | simp only [Keeps.upd_iff]
    | with_reducible apply State.draw_keeps
    | with_reducible apply State.powerTo_keeps
    | with_reducible apply State.logChange_keeps
    | with_reducible apply State.setPower_keeps
    | with_reducible apply State.outPower_keeps
    | (with_reducible apply Keeps.foldl)
    | (with_reducible apply Keeps.foldlFst)
    | intro _ _ _
    | split

theorem State.powerRemoved_keeps {z₀ : State} (s : State) (hk : Keeps z₀ s) : Keeps z₀ (State.powerRemoved s) := by
  unfold State.powerRemoved
  try dsimp only
  repeat' first
    | with_reducible assumption
    | simp only [Keeps.upd_iff]
    | with_reducible apply State.tearNv_keeps
    | with_reducible apply State.blank_keeps
    | (with_reducible apply Keeps.foldl)
    | (with_reducible apply Keeps.foldlFst)
    | intro _ _ _
    | split

theorem State.haltSequencer_keeps {z₀ : State} (s : State) (on : Bool) (hk : Keeps z₀ s) : Keeps z₀ (State.haltSequencer s on) := by
  unfold State.haltSequencer
  try dsimp only
  repeat' first
    | with_reducible assumption
    | simp only [Keeps.upd_iff]
    | with_reducible apply State.takeHalt_keeps
    | with_reducible apply State.setDebug_keeps
    | with_reducible apply State.drain_keeps
    | (with_reducible apply Keeps.foldl)
    | (with_reducible apply Keeps.foldlFst)
    | intro _ _ _
    | split

theorem State.stepSequencer_keeps {z₀ : State} (s : State) (hk : Keeps z₀ s) : Keeps z₀ (State.stepSequencer s) := by
  unfold State.stepSequencer
  try dsimp only
  repeat' first
    | with_reducible assumption
    | simp only [Keeps.upd_iff]
    | with_reducible apply State.setDebug_keeps
    | with_reducible apply State.drainCmds_keeps
    | (with_reducible apply Keeps.foldl)
    | (with_reducible apply Keeps.foldlFst)
    | intro _ _ _
    | split

theorem State.setWir_keeps {z₀ : State} (s : State) (v : BitVec 4) (hk : Keeps z₀ s) : Keeps z₀ (State.setWir s v) := by
  unfold State.setWir
  try dsimp only
  repeat' first
    | with_reducible assumption
    | simp only [Keeps.upd_iff]
    | with_reducible apply State.setDebug_keeps
    | with_reducible apply State.noteIrq_keeps
    | (with_reducible apply Keeps.foldl)
    | (with_reducible apply Keeps.foldlFst)
    | intro _ _ _
    | split

theorem State.scanIn_keeps {z₀ : State} (s : State) (v : BitVec 4) (scan : Option (BitVec 1904)) (hk : Keeps z₀ s) : Keeps z₀ (State.scanIn s v scan) := by
  unfold State.scanIn
  try dsimp only
  repeat' first
    | with_reducible assumption
    | simp only [Keeps.upd_iff]
    | with_reducible apply State.setDebug_keeps
    | (with_reducible apply Keeps.foldl)
    | (with_reducible apply Keeps.foldlFst)
    | intro _ _ _
    | split

theorem State.wirUpdate_keeps {z₀ : State} (s : State) (v : BitVec 4) (scan : Option (BitVec 1904)) (hk : Keeps z₀ s) : Keeps z₀ (State.wirUpdate s v scan) := by
  unfold State.wirUpdate
  try dsimp only
  repeat' first
    | with_reducible assumption
    | simp only [Keeps.upd_iff]
    | with_reducible apply State.setWir_keeps
    | with_reducible apply State.scanIn_keeps
    | with_reducible apply State.setDebug_keeps
    | with_reducible apply State.poisonInFlight_keeps
    | with_reducible apply State.refuseHeld_keeps
    | (with_reducible apply Keeps.foldl)
    | (with_reducible apply Keeps.foldlFst)
    | intro _ _ _
    | split

theorem State.wrapperReset_keeps {z₀ : State} (s : State) (hk : Keeps z₀ s) : Keeps z₀ (State.wrapperReset s) := by
  unfold State.wrapperReset
  try dsimp only
  repeat' first
    | with_reducible assumption
    | simp only [Keeps.upd_iff]
    | with_reducible apply State.setWir_keeps
    | (with_reducible apply Keeps.foldl)
    | (with_reducible apply Keeps.foldlFst)
    | intro _ _ _
    | split

theorem State.loopbackGo_keeps {z₀ : State} (s : State) (hk : Keeps z₀ s) : Keeps z₀ (State.loopbackGo s) := by
  unfold State.loopbackGo
  try dsimp only
  repeat' first
    | with_reducible assumption
    | simp only [Keeps.upd_iff]
    | with_reducible apply State.setDebug_keeps
    | (with_reducible apply Keeps.foldl)
    | (with_reducible apply Keeps.foldlFst)
    | intro _ _ _
    | split

theorem State.loopbackDone_keeps {z₀ : State} (s : State) (r : LoopResult) (hk : Keeps z₀ s) : Keeps z₀ (State.loopbackDone s r) := by
  unfold State.loopbackDone
  try dsimp only
  repeat' first
    | with_reducible assumption
    | simp only [Keeps.upd_iff]
    | with_reducible apply State.setDebug_keeps
    | with_reducible apply State.raise_keeps
    | (with_reducible apply Keeps.foldl)
    | (with_reducible apply Keeps.foldlFst)
    | intro _ _ _
    | split

theorem State.selectSlate_keeps {z₀ : State} (s : State) (i : Nat) (hk : Keeps z₀ s) : Keeps z₀ (State.selectSlate s i) := by
  unfold State.selectSlate
  try dsimp only
  repeat' first
    | with_reducible assumption
    | simp only [Keeps.upd_iff]
    | with_reducible apply State.setReg_keeps
    | (with_reducible apply Keeps.foldl)
    | (with_reducible apply Keeps.foldlFst)
    | intro _ _ _
    | split

theorem State.selectForecast_keeps {z₀ : State} (s : State) (v : Nat) (hk : Keeps z₀ s) : Keeps z₀ (State.selectForecast s v) := by
  unfold State.selectForecast
  try dsimp only
  repeat' first
    | with_reducible assumption
    | simp only [Keeps.upd_iff]
    | with_reducible apply State.setReg_keeps
    | with_reducible apply State.setReg64_keeps
    | (with_reducible apply Keeps.foldl)
    | (with_reducible apply Keeps.foldlFst)
    | intro _ _ _
    | split

theorem State.selectMeter_keeps {z₀ : State} (s : State) (v : Nat) (hk : Keeps z₀ s) : Keeps z₀ (State.selectMeter s v) := by
  unfold State.selectMeter
  try dsimp only
  repeat' first
    | with_reducible assumption
    | simp only [Keeps.upd_iff]
    | with_reducible apply State.setReg_keeps
    | (with_reducible apply Keeps.foldl)
    | (with_reducible apply Keeps.foldlFst)
    | intro _ _ _
    | split

theorem State.selectExposure_keeps {z₀ : State} (s : State) (n : Nat) (hk : Keeps z₀ s) : Keeps z₀ (State.selectExposure s n) := by
  unfold State.selectExposure
  try dsimp only
  repeat' first
    | with_reducible assumption
    | simp only [Keeps.upd_iff]
    | with_reducible apply State.setReg_keeps
    | (with_reducible apply Keeps.foldl)
    | (with_reducible apply Keeps.foldlFst)
    | intro _ _ _
    | split

theorem State.commitExposure_keeps {z₀ : State} (s : State) (hk : Keeps z₀ s) : Keeps z₀ (State.commitExposure s) := by
  unfold State.commitExposure
  try dsimp only
  repeat' first
    | with_reducible assumption
    | simp only [Keeps.upd_iff]
    | with_reducible apply State.setExposure_keeps
    | (with_reducible apply Keeps.foldl)
    | (with_reducible apply Keeps.foldlFst)
    | intro _ _ _
    | split

theorem State.emptyExposure_keeps {z₀ : State} (s : State) (hk : Keeps z₀ s) : Keeps z₀ (State.emptyExposure s) := by
  unfold State.emptyExposure
  try dsimp only
  repeat' first
    | with_reducible assumption
    | simp only [Keeps.upd_iff]
    | with_reducible apply State.setExposure_keeps
    | (with_reducible apply Keeps.foldl)
    | (with_reducible apply Keeps.foldlFst)
    | intro _ _ _
    | split

theorem State.scriptResult_keeps {z₀ : State} (s : State) (n : Nat) (hk : Keeps z₀ s) : Keeps z₀ (State.scriptResult s n) := by
  unfold State.scriptResult
  try dsimp only
  repeat' first
    | with_reducible assumption
    | simp only [Keeps.upd_iff]
    | with_reducible apply State.raise_keeps
    | (with_reducible apply Keeps.foldl)
    | (with_reducible apply Keeps.foldlFst)
    | intro _ _ _
    | split

theorem State.scriptLoad_keeps {z₀ : State} (s : State) (hk : Keeps z₀ s) : Keeps z₀ (State.scriptLoad s) := by
  unfold State.scriptLoad
  try dsimp only
  repeat' first
    | with_reducible assumption
    | simp only [Keeps.upd_iff]
    | with_reducible apply State.scriptResult_keeps
    | (with_reducible apply Keeps.foldl)
    | (with_reducible apply Keeps.foldlFst)
    | intro _ _ _
    | split

theorem State.scriptLoaded_keeps {z₀ : State} (s : State) (hk : Keeps z₀ s) : Keeps z₀ (State.scriptLoaded s) := by
  unfold State.scriptLoaded
  try dsimp only
  repeat' first
    | with_reducible assumption
    | simp only [Keeps.upd_iff]
    | with_reducible apply State.scriptResult_keeps
    | (with_reducible apply Keeps.foldl)
    | (with_reducible apply Keeps.foldlFst)
    | intro _ _ _
    | split

theorem State.scriptInvalidate_keeps {z₀ : State} (s : State) (hk : Keeps z₀ s) : Keeps z₀ (State.scriptInvalidate s) := by
  unfold State.scriptInvalidate
  try dsimp only
  repeat' first
    | with_reducible assumption
    | simp only [Keeps.upd_iff]
    | with_reducible apply State.scriptResult_keeps
    | (with_reducible apply Keeps.foldl)
    | (with_reducible apply Keeps.foldlFst)
    | intro _ _ _
    | split

theorem State.endLaneTest_keeps {z₀ : State} (s : State) (failing : List Nat) (hk : Keeps z₀ s) : Keeps z₀ (State.endLaneTest s failing) := by
  unfold State.endLaneTest
  try dsimp only
  repeat' first
    | with_reducible assumption
    | simp only [Keeps.upd_iff]
    | with_reducible apply State.mapOutLane_keeps
    | with_reducible apply State.tendJobs_keeps
    | (with_reducible apply Keeps.foldl)
    | (with_reducible apply Keeps.foldlFst)
    | intro _ _ _
    | split

theorem State.putPlain_keeps {z₀ : State} (s : State) (q : Put) (r : RegAt) (hk : Keeps z₀ s) : Keeps z₀ (State.putPlain s q r) := by
  unfold State.putPlain
  try dsimp only
  repeat' first
    | with_reducible assumption
    | simp only [Keeps.upd_iff]
    | with_reducible apply State.setReg64_keeps
    | with_reducible apply State.setRegT_keeps
    | (with_reducible apply Keeps.foldl)
    | (with_reducible apply Keeps.foldlFst)
    | intro _ _ _
    | split

theorem State.putSelector_keeps {z₀ : State} (s : State) (addr v : Nat) (hk : Keeps z₀ s) : Keeps z₀ (State.putSelector s addr v) := by
  unfold State.putSelector
  try dsimp only
  repeat' first
    | with_reducible assumption
    | simp only [Keeps.upd_iff]
    | with_reducible apply State.setReg_keeps
    | with_reducible apply State.setRegT_keeps
    | (with_reducible apply Keeps.foldl)
    | (with_reducible apply Keeps.foldlFst)
    | intro _ _ _
    | split

theorem State.putChan_keeps {z₀ : State} (s : State) (q : Put) (r : RegAt) (hk : Keeps z₀ s) : Keeps z₀ (State.putChan s q r) := by
  unfold State.putChan
  try dsimp only
  repeat' first
    | with_reducible assumption
    | simp only [Keeps.upd_iff]
    | with_reducible apply State.modChan_keeps
    | (with_reducible apply Keeps.foldl)
    | (with_reducible apply Keeps.foldlFst)
    | intro _ _ _
    | split

theorem State.putMode_keeps {z₀ : State} (s : State) (q : Put) (r : RegAt) (hk : Keeps z₀ s) : Keeps z₀ (State.putMode s q r) := by
  unfold State.putMode
  try dsimp only
  repeat' first
    | with_reducible assumption
    | simp only [Keeps.upd_iff]
    | with_reducible apply State.putPlain_keeps
    | with_reducible apply State.beginWake_keeps
    | with_reducible apply State.powerTo_keeps
    | (with_reducible apply Keeps.foldl)
    | (with_reducible apply Keeps.foldlFst)
    | intro _ _ _
    | split

theorem State.putSecurity_keeps {z₀ : State} (s : State) (q : Put) (r : RegAt) (hk : Keeps z₀ s) : Keeps z₀ (State.putSecurity s q r) := by
  unfold State.putSecurity
  try dsimp only
  repeat' first
    | with_reducible assumption
    | simp only [Keeps.upd_iff]
    | with_reducible apply State.putPlain_keeps
    | with_reducible apply State.setSecurity_keeps
    | with_reducible apply State.stageKey_keeps
    | (with_reducible apply Keeps.foldl)
    | (with_reducible apply Keeps.foldlFst)
    | intro _ _ _
    | split

theorem State.putSync_keeps {z₀ : State} (s : State) (p : Port) (q : Put) (r : RegAt) (hk : Keeps z₀ s) : Keeps z₀ (State.putSync s p q r) := by
  unfold State.putSync
  try dsimp only
  repeat' first
    | with_reducible assumption
    | simp only [Keeps.upd_iff]
    | with_reducible apply State.selectEye_keeps
    | with_reducible apply State.setLiveEye_keeps
    | with_reducible apply State.writeEnrol_keeps
    | with_reducible apply State.writeWire_keeps
    | with_reducible apply State.putPlain_keeps
    | (with_reducible apply Keeps.foldl)
    | (with_reducible apply Keeps.foldlFst)
    | intro _ _ _
    | split

theorem State.putTail_keeps {z₀ : State} (s : State) (p : Port) (v : Nat) (hk : Keeps z₀ s) : Keeps z₀ (State.putTail s p v) := by
  unfold State.putTail
  try dsimp only
  repeat' first
    | with_reducible assumption
    | simp only [Keeps.upd_iff]
    | with_reducible apply State.writeTail_keeps
    | with_reducible apply State.setRecorder_keeps
    | (with_reducible apply Keeps.foldl)
    | (with_reducible apply Keeps.foldlFst)
    | intro _ _ _
    | split

theorem State.putGnPkg_keeps {z₀ : State} (s : State) (q : Put) (r : RegAt) (hk : Keeps z₀ s) : Keeps z₀ (State.putGnPkg s q r) := by
  unfold State.putGnPkg
  try dsimp only
  repeat' first
    | with_reducible assumption
    | simp only [Keeps.upd_iff]
    | with_reducible apply State.putPlain_keeps
    | with_reducible apply State.setReg_keeps
    | (with_reducible apply Keeps.foldl)
    | (with_reducible apply Keeps.foldlFst)
    | intro _ _ _
    | split

theorem State.putValue_keeps {z₀ : State} (s : State) (p : Port) (q : Put) (hk : Keeps z₀ s) : Keeps z₀ (State.putValue s p q) := by
  unfold State.putValue
  try dsimp only
  repeat' first
    | with_reducible assumption
    | simp only [Keeps.upd_iff]
    | with_reducible apply State.putMode_keeps
    | with_reducible apply State.putPlain_keeps
    | with_reducible apply State.setRst_keeps
    | with_reducible apply State.writeHint_keeps
    | with_reducible apply State.putSecurity_keeps
    | with_reducible apply State.selectSlate_keeps
    | with_reducible apply State.selectForecast_keeps
    | with_reducible apply State.selectRegion_keeps
    | with_reducible apply State.putSelector_keeps
    | with_reducible apply State.selectMeter_keeps
    | with_reducible apply State.putGnPkg_keeps
    | with_reducible apply State.selectExposure_keeps
    | with_reducible apply State.putChan_keeps
    | with_reducible apply State.writePool_keeps
    | with_reducible apply State.putSync_keeps
    | with_reducible apply State.putTail_keeps
    | with_reducible apply State.writePartner_keeps
    | (with_reducible apply Keeps.foldl)
    | (with_reducible apply Keeps.foldlFst)
    | intro _ _ _
    | split

theorem State.onBits_keeps {z₀ : State} (s : State) (v : Nat) (acts : List (Nat × (State → State)))
    (ha : ∀ a ∈ acts, ∀ s, Keeps z₀ s → Keeps z₀ (a.2 s)) (h : Keeps z₀ s) : Keeps z₀ (s.onBits v acts) := by
  unfold State.onBits
  induction acts generalizing s with
  | nil => exact h
  | cons a r ih =>
    refine ih _ (fun b hb => ha b (List.mem_cons_of_mem _ hb)) ?_
    dsimp only
    split
    · exact ha a List.mem_cons_self _ h
    · exact h

theorem State.sheetAction_keeps {z₀ : State} (s : State) (v : Nat) (hk : Keeps z₀ s) : Keeps z₀ (State.sheetAction s v) := by
  unfold State.sheetAction
  try dsimp only
  repeat' first
    | with_reducible assumption
    | simp only [Keeps.upd_iff]
    | with_reducible apply State.sheetLoad_keeps
    | with_reducible apply State.sheetUnload_keeps
    | (with_reducible apply Keeps.foldl)
    | (with_reducible apply Keeps.foldlFst)
    | intro _ _ _
    | split

theorem State.debugAction_keeps {z₀ : State} (s : State) (v : Nat) (hk : Keeps z₀ s) : Keeps z₀ (State.debugAction s v) := by
  unfold State.debugAction
  try dsimp only
  repeat' first
    | with_reducible assumption
    | simp only [Keeps.upd_iff]
    | with_reducible apply State.haltSequencer_keeps
    | with_reducible apply State.stepSequencer_keeps
    | (with_reducible apply Keeps.foldl)
    | (with_reducible apply Keeps.foldlFst)
    | intro _ _ _
    | split

theorem State.bankTest_keeps {z₀ : State} (s : State) (b : Nat) (hk : Keeps z₀ s) : Keeps z₀ (State.bankTest s b) := by
  unfold State.bankTest
  try dsimp only
  repeat' first
    | with_reducible assumption
    | simp only [Keeps.upd_iff]
    | with_reducible apply State.startSelftest_keeps
    | (with_reducible apply Keeps.foldl)
    | (with_reducible apply Keeps.foldlFst)
    | intro _ _ _
    | split

theorem State.putAction_keeps {z₀ : State} (s : State) (p : Port) (q : Put) (test : BootTest) (hk : Keeps z₀ s) : Keeps z₀ (State.putAction s p q test) := by
  unfold State.putAction
  try dsimp only
  repeat' first
    | with_reducible assumption
    | simp only [Keeps.upd_iff]
    | with_reducible apply State.resetCommand_keeps
    | with_reducible apply State.onBits_keeps
    | with_reducible apply State.bootGo_keeps
    | with_reducible apply State.goOff_keeps
    | with_reducible apply State.wakeCommand_keeps
    | with_reducible apply State.propose_keeps
    | with_reducible apply State.countersign_keeps
    | with_reducible apply State.sheetAction_keeps
    | with_reducible apply State.writeHost_keeps
    | with_reducible apply State.commitRegion_keeps
    | with_reducible apply State.emptyRegion_keeps
    | with_reducible apply State.bookLoad_keeps
    | with_reducible apply State.bookInvalidate_keeps
    | with_reducible apply State.bankTest_keeps
    | with_reducible apply State.scriptLoad_keeps
    | with_reducible apply State.scriptInvalidate_keeps
    | with_reducible apply State.testLanes_keeps
    | with_reducible apply State.clearMeter_keeps
    | with_reducible apply State.gnStart_keeps
    | with_reducible apply State.commitExposure_keeps
    | with_reducible apply State.emptyExposure_keeps
    | with_reducible apply State.armChannel_keeps
    | with_reducible apply State.stopChannel_keeps
    | with_reducible apply State.abortChannel_keeps
    | with_reducible apply State.restartChannel_keeps
    | with_reducible apply State.startContext_keeps
    | with_reducible apply State.fireLines_keeps
    | with_reducible apply State.debugAction_keeps
    | with_reducible apply State.loopbackGo_keeps
    | with_reducible apply State.clearLost_keeps
    | with_reducible apply State.clearAllLost_keeps
    | simp only [List.forall_mem_cons, List.not_mem_nil, false_implies, implies_true, and_true]
    | refine And.intro ?_ ?_
    | (with_reducible apply Keeps.foldl)
    | (with_reducible apply Keeps.foldlFst)
    | intro _ _ _
    | intro _ _
    | split

theorem State.applyPuts_keeps {z₀ : State} (s : State) (p : Port) (qs : List Put) (test : BootTest) (hk : Keeps z₀ s) : Keeps z₀ (State.applyPuts s p qs test) := by
  unfold State.applyPuts
  try dsimp only
  repeat' first
    | with_reducible assumption
    | simp only [Keeps.upd_iff]
    | with_reducible apply State.putAction_keeps
    | with_reducible apply State.putValue_keeps
    | (with_reducible apply Keeps.foldl)
    | (with_reducible apply Keeps.foldlFst)
    | intro _ _ _
    | split

theorem State.setLatch_keeps {z₀ : State} (s : State) (p : Port) (l : Latch) (hk : Keeps z₀ s) : Keeps z₀ (State.setLatch s p l) := by
  unfold State.setLatch
  try dsimp only
  repeat' first
    | with_reducible assumption
    | simp only [Keeps.upd_iff]
    | (with_reducible apply Keeps.foldl)
    | (with_reducible apply Keeps.foldlFst)
    | intro _ _ _
    | split

theorem State.dropLow_keeps {z₀ : State} (s : State) (p : Port) (hk : Keeps z₀ s) : Keeps z₀ (State.dropLow s p) := by
  unfold State.dropLow
  try dsimp only
  repeat' first
    | with_reducible assumption
    | simp only [Keeps.upd_iff]
    | with_reducible apply State.setLatch_keeps
    | (with_reducible apply Keeps.foldl)
    | (with_reducible apply Keeps.foldlFst)
    | intro _ _ _
    | split

theorem State.touch_keeps {z₀ : State} (s : State) (p : Port) (addr : Nat) (hk : Keeps z₀ s) : Keeps z₀ (State.touch s p addr) := by
  unfold State.touch
  try dsimp only
  repeat' first
    | with_reducible assumption
    | simp only [Keeps.upd_iff]
    | with_reducible apply State.rouse_keeps
    | with_reducible apply State.modPage_keeps
    | (with_reducible apply Keeps.foldl)
    | (with_reducible apply Keeps.foldlFst)
    | intro _ _ _
    | split

theorem State.hold_keeps {z₀ : State} (s : State) (r : HeldReq) (hk : Keeps z₀ s) : Keeps z₀ (State.hold s r) := by
  unfold State.hold
  try dsimp only
  repeat' first
    | with_reducible assumption
    | simp only [Keeps.upd_iff]
    | with_reducible apply State.setPower_keeps
    | with_reducible apply State.rouse_keeps
    | (with_reducible apply Keeps.foldl)
    | (with_reducible apply Keeps.foldlFst)
    | intro _ _ _
    | split

theorem State.servedFrom_keeps {z₀ : State} (s was : State) (addr : Nat) (hk : Keeps z₀ s) : Keeps z₀ (State.servedFrom s was addr) := by
  unfold State.servedFrom
  try dsimp only
  repeat' first
    | with_reducible assumption
    | simp only [Keeps.upd_iff]
    | with_reducible apply State.movedFrom_keeps
    | (with_reducible apply Keeps.foldl)
    | (with_reducible apply Keeps.foldlFst)
    | intro _ _ _
    | split

theorem State.releaseLock_keeps {z₀ : State} (s : State) (page : Nat) (test : BootTest) (hk : Keeps z₀ s) : Keeps z₀ (State.releaseLock s page test) := by
  unfold State.releaseLock
  try dsimp only
  repeat' first
    | with_reducible assumption
    | simp only [Keeps.upd_iff]
    | with_reducible apply State.freeLock_keeps
    | with_reducible apply State.applyPuts_keeps
    | (with_reducible apply Keeps.foldl)
    | (with_reducible apply Keeps.foldlFst)
    | intro _ _ _
    | split

theorem State.writeHeader_keeps {z₀ : State} (s : State) (p : Port) (page off : Nat) (v : Word) (test : BootTest) (hk : Keeps z₀ s) : Keeps z₀ (State.writeHeader s p page off v test) := by
  unfold State.writeHeader
  try dsimp only
  repeat' first
    | with_reducible assumption
    | simp only [Keeps.upd_iff]
    | with_reducible apply State.irqPage_keeps
    | with_reducible apply State.raise_keeps
    | with_reducible apply State.modPage_keeps
    | with_reducible apply State.onBits_keeps
    | with_reducible apply State.takeLock_keeps
    | with_reducible apply State.releaseLock_keeps
    | with_reducible apply State.discardStaged_keeps
    | simp only [List.forall_mem_cons, List.not_mem_nil, false_implies, implies_true, and_true]
    | refine And.intro ?_ ?_
    | (with_reducible apply Keeps.foldl)
    | (with_reducible apply Keeps.foldlFst)
    | intro _ _ _
    | intro _ _
    | split

theorem State.writeBody_keeps {z₀ : State} (s : State) (p : Port) (addr : Nat) (held : Option (Nat × Word)) (v : Word) (test : BootTest) (hk : Keeps z₀ s) : Keeps z₀ (State.writeBody s p addr held v test) := by
  unfold State.writeBody
  try dsimp only
  repeat' first
    | with_reducible assumption
    | simp only [Keeps.upd_iff]
    | with_reducible apply State.setLatch_keeps
    | with_reducible apply State.modPage_keeps
    | with_reducible apply State.applyPuts_keeps
    | (with_reducible apply Keeps.foldl)
    | (with_reducible apply Keeps.foldlFst)
    | intro _ _ _
    | split

theorem State.portWrite_keeps {z₀ : State} (s : State) (p : Port) (address : Nat) (v : Word) (test : BootTest) (hk : Keeps z₀ s) : Keeps z₀ (State.portWrite s p address v test) := by
  unfold State.portWrite
  try dsimp only
  repeat' first
    | with_reducible assumption
    | simp only [Keeps.upd_iff]
    | with_reducible apply State.boundaryError_keeps
    | with_reducible apply State.hold_keeps
    | with_reducible apply State.dropLow_keeps
    | with_reducible apply State.touch_keeps
    | with_reducible apply State.turnAway_keeps
    | with_reducible apply State.writeHeader_keeps
    | with_reducible apply State.writeBody_keeps
    | with_reducible apply State.servedFrom_keeps
    | (with_reducible apply Keeps.foldl)
    | (with_reducible apply Keeps.foldlFst)
    | intro _ _ _
    | split

theorem State.readEffect_keeps {z₀ : State} (s : State) (p : Port) (addr : Nat) (hk : Keeps z₀ s) : Keeps z₀ (State.readEffect s p addr) := by
  unfold State.readEffect
  try dsimp only
  repeat' first
    | with_reducible assumption
    | simp only [Keeps.upd_iff]
    | with_reducible apply State.setPower_keeps
    | with_reducible apply State.setRegT_keeps
    | with_reducible apply State.modBank_keeps
    | with_reducible apply State.setReg_keeps
    | (with_reducible apply Keeps.foldl)
    | (with_reducible apply Keeps.foldlFst)
    | intro _ _ _
    | split

theorem State.tally_keeps {z₀ : State} (s : State) (addr : Nat) (hk : Keeps z₀ s) : Keeps z₀ (State.tally s addr) := by
  unfold State.tally
  try dsimp only
  repeat' first
    | with_reducible assumption
    | simp only [Keeps.upd_iff]
    | with_reducible apply State.tendStall_keeps
    | with_reducible apply State.tallyLanes_keeps
    | (with_reducible apply Keeps.foldl)
    | (with_reducible apply Keeps.foldlFst)
    | intro _ _ _
    | split

theorem State.readLive_keeps {z₀ : State} (s : State) (p : Port) (addr : Nat) (hk : Keeps z₀ s) : Keeps z₀ (State.readLive s p addr).1 := by
  unfold State.readLive
  try dsimp only
  repeat' first
    | with_reducible assumption
    | simp only [Keeps.upd_iff]
    | with_reducible apply State.tally_keeps
    | with_reducible apply State.setLatch_keeps
    | with_reducible apply State.readEffect_keeps
    | (with_reducible apply Keeps.foldl)
    | (with_reducible apply Keeps.foldlFst)
    | intro _ _ _
    | split

theorem State.readWord_keeps {z₀ : State} (s : State) (p : Port) (addr : Nat) (hk : Keeps z₀ s) : Keeps z₀ (State.readWord s p addr).1 := by
  unfold State.readWord
  try dsimp only
  repeat' first
    | with_reducible assumption
    | simp only [Keeps.upd_iff]
    | with_reducible apply State.setLatch_keeps
    | with_reducible apply State.readLive_keeps
    | (with_reducible apply Keeps.foldl)
    | (with_reducible apply Keeps.foldlFst)
    | intro _ _ _
    | split

theorem State.portRead_keeps {z₀ : State} (s : State) (p : Port) (address : Nat) (hk : Keeps z₀ s) : Keeps z₀ (State.portRead s p address) := by
  unfold State.portRead
  try dsimp only
  repeat' first
    | with_reducible assumption
    | simp only [Keeps.upd_iff]
    | with_reducible apply State.boundaryError_keeps
    | with_reducible apply State.hold_keeps
    | with_reducible apply State.dropLow_keeps
    | with_reducible apply State.outRead_keeps
    | with_reducible apply State.touch_keeps
    | with_reducible apply State.turnAway_keeps
    | with_reducible apply State.readWord_keeps
    | with_reducible apply State.servedFrom_keeps
    | (with_reducible apply Keeps.foldl)
    | (with_reducible apply Keeps.foldlFst)
    | intro _ _ _
    | split

theorem State.wraRun_keeps {z₀ : State} (s : State) (addr : Nat) (write : Bool) (data : Word) (hk : Keeps z₀ s) : Keeps z₀ (State.wraRun s addr write data) := by
  unfold State.wraRun
  try dsimp only
  repeat' first
    | with_reducible assumption
    | simp only [Keeps.upd_iff]
    | with_reducible apply State.portWrite_keeps
    | with_reducible apply State.portRead_keeps
    | with_reducible apply State.setDebug_keeps
    | (with_reducible apply Keeps.foldl)
    | (with_reducible apply Keeps.foldlFst)
    | intro _ _ _
    | split

theorem State.wraAccess_keeps {z₀ : State} (s : State) (address : Nat) (write : Bool) (data : Word) (hk : Keeps z₀ s) : Keeps z₀ (State.wraAccess s address write data) := by
  unfold State.wraAccess
  try dsimp only
  repeat' first
    | with_reducible assumption
    | simp only [Keeps.upd_iff]
    | with_reducible apply State.setDebug_keeps
    | with_reducible apply State.wraRun_keeps
    | (with_reducible apply Keeps.foldl)
    | (with_reducible apply Keeps.foldlFst)
    | intro _ _ _
    | split

theorem State.arrive_keeps {z₀ : State} (s : State) (r : HeldReq) (go : State → State)
    (hg : ∀ s, Keeps z₀ s → Keeps z₀ (go s)) (h : Keeps z₀ s) : Keeps z₀ (s.arrive r go) := by
  unfold State.arrive
  split
  · exact State.boundaryError_keeps _ h
  · split
    · exact State.hold_keeps _ _ h
    · exact hg _ (State.rouse_keeps _ h)

theorem State.command_keeps {z₀ : State} (s : State) (op : BitVec 8) (c : Cmd) (hk : Keeps z₀ s) : Keeps z₀ (State.command s op c) := by
  unfold State.command
  try dsimp only
  repeat' first
    | with_reducible assumption
    | simp only [Keeps.upd_iff]
    | with_reducible apply State.arrive_keeps
    | with_reducible apply State.acceptCmd_keeps
    | (with_reducible apply Keeps.foldl)
    | (with_reducible apply Keeps.foldlFst)
    | intro _ _ _
    | intro _ _
    | split

theorem State.onReady_keeps {z₀ : State} (s : State) (f : State → State) (hf : ∀ s, Keeps z₀ s → Keeps z₀ (f s))
    (h : Keeps z₀ s) : Keeps z₀ (s.onReady f) := by
  unfold State.onReady
  split
  · exact hf _ h
  · exact h

theorem State.running_keeps {z₀ : State} (s : State) (f : State → State) (hf : ∀ s, Keeps z₀ s → Keeps z₀ (f s))
    (h : Keeps z₀ s) : Keeps z₀ (s.running f) := by
  unfold State.running
  split
  · exact hf _ h
  · exact h

theorem State.unit_keeps {z₀ : State} (s : State) (source : Nat) (f : State → State)
    (hf : ∀ s, Keeps z₀ s → Keeps z₀ (f s)) (h : Keeps z₀ s) : Keeps z₀ (s.unit source f) := by
  unfold State.unit
  split
  · exact h
  · exact State.running_keeps _ _ hf h

theorem State.aocRunning_keeps {z₀ : State} (s : State) (f : State → State) (hf : ∀ s, Keeps z₀ s → Keeps z₀ (f s))
    (h : Keeps z₀ s) : Keeps z₀ (s.aocRunning f) := by
  unfold State.aocRunning
  split
  · exact hf _ h
  · exact h

theorem State.aocMoved_keeps {z₀ : State} (s : State) (f : State → State)
    (hf : ∀ s, Keeps z₀ s → Keeps z₀ (f s)) (h : Keeps z₀ s) : Keeps z₀ (s.aocMoved f) :=
  State.aocRunning_keeps _ _ (fun _ k => State.movedFrom_keeps _ _ (hf _ k)) h

theorem State.noticed_keeps {z₀ : State} (s : State) (n : Notice) (hk : Keeps z₀ s) : Keeps z₀ (State.noticed s n) := by
  unfold State.noticed
  try dsimp only
  repeat' first
    | with_reducible assumption
    | simp only [Keeps.upd_iff]
    | with_reducible apply State.retireUnit_keeps
    | with_reducible apply State.loseUnit_keeps
    | with_reducible apply State.drain_keeps
    | with_reducible apply State.repairDone_keeps
    | with_reducible apply State.lastUseAck_keeps
    | with_reducible apply State.detachHost_keeps
    | with_reducible apply State.loseDie_keeps
    | with_reducible apply State.queueReset_keeps
    | with_reducible apply State.engineReset_keeps
    | with_reducible apply State.laceReleased_keeps
    | with_reducible apply State.waitTimesOut_keeps
    | with_reducible apply State.peerAck_keeps
    | with_reducible apply State.txnResponse_keeps
    | (with_reducible apply Keeps.foldl)
    | (with_reducible apply Keeps.foldlFst)
    | intro _ _ _
    | split

theorem State.wakeFrom_keeps {z₀ : State} (s : State) (n : Notice) (hk : Keeps z₀ s) : Keeps z₀ (State.wakeFrom s n) := by
  unfold State.wakeFrom
  try dsimp only
  repeat' first
    | with_reducible assumption
    | simp only [Keeps.upd_iff]
    | with_reducible apply State.rouse_keeps
    | with_reducible apply State.advanceTo_keeps
    | with_reducible apply State.beginWake_keeps
    | (with_reducible apply Keeps.foldl)
    | (with_reducible apply Keeps.foldlFst)
    | intro _ _ _
    | split

theorem State.notify_keeps {z₀ : State} (s : State) (n : Notice) (hk : Keeps z₀ s) : Keeps z₀ (State.notify s n) := by
  unfold State.notify
  try dsimp only
  repeat' first
    | with_reducible assumption
    | simp only [Keeps.upd_iff]
    | with_reducible apply State.onReady_keeps
    | with_reducible apply State.setPower_keeps
    | with_reducible apply State.wakeFrom_keeps
    | with_reducible apply State.noticed_keeps
    | (with_reducible apply Keeps.foldl)
    | (with_reducible apply Keeps.foldlFst)
    | intro _ _ _
    | intro _ _
    | split

theorem State.proceed_keeps {z₀ : State} (s : State) (r : HeldReq) (hk : Keeps z₀ s) : Keeps z₀ (State.proceed s r) := by
  unfold State.proceed
  try dsimp only
  repeat' first
    | with_reducible assumption
    | simp only [Keeps.upd_iff]
    | with_reducible apply State.notify_keeps
    | with_reducible apply State.command_keeps
    | with_reducible apply State.wraRun_keeps
    | with_reducible apply State.portWrite_keeps
    | with_reducible apply State.portRead_keeps
    | with_reducible apply State.doorbell_keeps
    | with_reducible apply State.arrive_keeps
    | with_reducible apply State.drain_keeps
    | with_reducible apply State.tapBeat_keeps
    | with_reducible apply State.operandRequest_keeps
    | with_reducible apply State.recvShip_keeps
    | with_reducible apply State.recvRead_keeps
    | with_reducible apply State.recvReduce_keeps
    | (with_reducible apply Keeps.foldl)
    | (with_reducible apply Keeps.foldlFst)
    | intro _ _ _
    | intro _ _
    | split

theorem State.proceedAll_keeps {z₀ : State} (s : State) (hk : Keeps z₀ s) : Keeps z₀ (State.proceedAll s) := by
  unfold State.proceedAll
  try dsimp only
  repeat' first
    | with_reducible assumption
    | simp only [Keeps.upd_iff]
    | with_reducible apply State.proceed_keeps
    | with_reducible apply State.takeRaised_keeps
    | with_reducible apply State.setPower_keeps
    | (with_reducible apply Keeps.foldl)
    | (with_reducible apply Keeps.foldlFst)
    | intro _ _ _
    | split

theorem State.wakeComplete_keeps {z₀ : State} (s : State) (hk : Keeps z₀ s) : Keeps z₀ (State.wakeComplete s) := by
  unfold State.wakeComplete
  try dsimp only
  repeat' first
    | with_reducible assumption
    | simp only [Keeps.upd_iff]
    | with_reducible apply State.wakeUp_keeps
    | with_reducible apply State.proceedAll_keeps
    | with_reducible apply State.drain_keeps
    | (with_reducible apply Keeps.foldl)
    | (with_reducible apply Keeps.foldlFst)
    | intro _ _ _
    | split

theorem State.storeRecord_keeps {z₀ : State} (s : State) (hk : Keeps z₀ s) : Keeps z₀ (State.storeRecord s) := by
  unfold State.storeRecord
  try dsimp only
  repeat' first
    | with_reducible assumption
    | simp only [Keeps.upd_iff]
    | with_reducible apply State.recordStore_keeps
    | with_reducible apply State.proceedAll_keeps
    | with_reducible apply State.drain_keeps
    | (with_reducible apply Keeps.foldl)
    | (with_reducible apply Keeps.foldlFst)
    | intro _ _ _
    | split

theorem State.lockBroken_keeps {z₀ : State} (s : State) (page : Nat) (hk : Keeps z₀ s) : Keeps z₀ (State.lockBroken s page) := by
  unfold State.lockBroken
  try dsimp only
  repeat' first
    | with_reducible assumption
    | simp only [Keeps.upd_iff]
    | with_reducible apply State.aocMoved_keeps
    | with_reducible apply State.lockIdle_keeps
    | (with_reducible apply Keeps.foldl)
    | (with_reducible apply Keeps.foldlFst)
    | intro _ _ _
    | intro _ _
    | split

theorem State.pdRise_keeps {z₀ : State} (s : State) (d : Nat) (hk : Keeps z₀ s) : Keeps z₀ (State.pdRise s d) := by
  unfold State.pdRise
  try dsimp only
  repeat' first
    | with_reducible assumption
    | simp only [Keeps.upd_iff]
    | with_reducible apply State.pdRequest_keeps
    | with_reducible apply State.movedFrom_keeps
    | with_reducible apply State.setPd_keeps
    | (with_reducible apply Keeps.foldl)
    | (with_reducible apply Keeps.foldlFst)
    | intro _ _ _
    | split

theorem State.unplanned_keeps {z₀ : State} (s : State) (c : WakeCause) (hk : Keeps z₀ s) : Keeps z₀ (State.unplanned s c) := by
  unfold State.unplanned
  try dsimp only
  repeat' first
    | with_reducible assumption
    | simp only [Keeps.upd_iff]
    | with_reducible apply State.sample_keeps
    | with_reducible apply State.rouse_keeps
    | (with_reducible apply Keeps.foldl)
    | (with_reducible apply Keeps.foldlFst)
    | intro _ _ _
    | split

theorem State.txnAnswer_keeps {z₀ : State} (s : State) (n : Nat) (fail : Option Cause) (corrected : Nat) (hk : Keeps z₀ s) : Keeps z₀ (State.txnAnswer s n fail corrected) := by
  unfold State.txnAnswer
  try dsimp only
  repeat' first
    | with_reducible assumption
    | simp only [Keeps.upd_iff]
    | with_reducible apply State.drainedWrite_keeps
    | with_reducible apply State.notify_keeps
    | (with_reducible apply Keeps.foldl)
    | (with_reducible apply Keeps.foldlFst)
    | intro _ _ _
    | split

theorem State.ackAnswer_keeps {z₀ : State} (s : State) (package seq : Nat) (crcOk error : Bool) (data : List Byte) (hk : Keeps z₀ s) : Keeps z₀ (State.ackAnswer s package seq crcOk error data) := by
  unfold State.ackAnswer
  try dsimp only
  repeat' first
    | with_reducible assumption
    | simp only [Keeps.upd_iff]
    | with_reducible apply State.drainedWrite_keeps
    | with_reducible apply State.notify_keeps
    | with_reducible apply State.peerAck_keeps
    | (with_reducible apply Keeps.foldl)
    | (with_reducible apply Keeps.foldlFst)
    | intro _ _ _
    | split

theorem State.wordWrite_keeps {z₀ : State} (s : State) (p : Port) (addr v : Nat) (hk : Keeps z₀ s) : Keeps z₀ (State.wordWrite s p addr v) := by
  unfold State.wordWrite
  try dsimp only
  repeat' first
    | with_reducible assumption
    | simp only [Keeps.upd_iff]
    | with_reducible apply State.portWrite_keeps
    | (with_reducible apply Keeps.foldl)
    | (with_reducible apply Keeps.foldlFst)
    | intro _ _ _
    | split

theorem State.actWrite_keeps {z₀ : State} (s : State) (p : Port) (addr bits : Nat) (hk : Keeps z₀ s) : Keeps z₀ (State.actWrite s p addr bits) := by
  unfold State.actWrite
  try dsimp only
  repeat' first
    | with_reducible assumption
    | simp only [Keeps.upd_iff]
    | with_reducible apply State.wordWrite_keeps
    | (with_reducible apply Keeps.foldl)
    | (with_reducible apply Keeps.foldlFst)
    | intro _ _ _
    | split

theorem State.wideWrite_keeps {z₀ : State} (s : State) (p : Port) (addr : Nat) (v : BitVec 64) (hk : Keeps z₀ s) : Keeps z₀ (State.wideWrite s p addr v) := by
  unfold State.wideWrite
  try dsimp only
  repeat' first
    | with_reducible assumption
    | simp only [Keeps.upd_iff]
    | with_reducible apply State.wordWrite_keeps
    | (with_reducible apply Keeps.foldl)
    | (with_reducible apply Keeps.foldlFst)
    | intro _ _ _
    | split

end Sys2Proof.Machine
end

