-- ==== Sys2Proof/Laws/State.lean ====
section
/-! SUPPORT. What each named update of the state leaves alone: one law for each update, one equation for each field. -/

namespace Sys2Proof.Machine

@[simp] theorem State.memWrite_frame (s : State) (a : Nat) (bs : List Byte) :
    (State.memWrite s a bs).now = s.now ∧ (State.memWrite s a bs).tenants = s.tenants ∧
    (State.memWrite s a bs).ledger = s.ledger ∧ (State.memWrite s a bs).vault = s.vault ∧
    (State.memWrite s a bs).stitcher = s.stitcher ∧ (State.memWrite s a bs).books = s.books ∧
    (State.memWrite s a bs).banks = s.banks ∧ (State.memWrite s a bs).retake = s.retake ∧
    (State.memWrite s a bs).continuity = s.continuity ∧ (State.memWrite s a bs).movers = s.movers ∧
    (State.memWrite s a bs).tiers = s.tiers ∧ (State.memWrite s a bs).services = s.services ∧
    (State.memWrite s a bs).eyes = s.eyes ∧ (State.memWrite s a bs).lace = s.lace ∧
    (State.memWrite s a bs).pages = s.pages ∧ (State.memWrite s a bs).latches = s.latches ∧
    (State.memWrite s a bs).regs = s.regs ∧ (State.memWrite s a bs).security = s.security ∧
    (State.memWrite s a bs).port = s.port ∧ (State.memWrite s a bs).clicker = s.clicker ∧
    (State.memWrite s a bs).peer = s.peer ∧ (State.memWrite s a bs).power = s.power ∧ (State.memWrite s a bs).rst = s.rst ∧
    (State.memWrite s a bs).dbg = s.dbg ∧ (State.memWrite s a bs).recorder = s.recorder ∧
    (State.memWrite s a bs).die = s.die ∧ (State.memWrite s a bs).out = s.out ∧ (State.memWrite s a bs).draws = s.draws ∧
    (State.memWrite s a bs).pending = s.pending :=
  ⟨rfl, rfl, rfl, rfl, rfl, rfl, rfl, rfl, rfl, rfl, rfl, rfl, rfl, rfl, rfl, rfl, rfl, rfl, rfl, rfl, rfl, rfl, rfl, rfl, rfl, rfl, rfl, rfl, rfl⟩

@[simp] theorem State.external_frame (s : State) (ext : List Host.Cell) :
    (State.external s ext).now = s.now ∧ (State.external s ext).tenants = s.tenants ∧
    (State.external s ext).ledger = s.ledger ∧ (State.external s ext).vault = s.vault ∧
    (State.external s ext).stitcher = s.stitcher ∧ (State.external s ext).books = s.books ∧
    (State.external s ext).banks = s.banks ∧ (State.external s ext).retake = s.retake ∧
    (State.external s ext).continuity = s.continuity ∧ (State.external s ext).movers = s.movers ∧
    (State.external s ext).tiers = s.tiers ∧ (State.external s ext).services = s.services ∧
    (State.external s ext).eyes = s.eyes ∧ (State.external s ext).lace = s.lace ∧ (State.external s ext).pages = s.pages ∧
    (State.external s ext).latches = s.latches ∧ (State.external s ext).regs = s.regs ∧
    (State.external s ext).security = s.security ∧ (State.external s ext).port = s.port ∧
    (State.external s ext).clicker = s.clicker ∧ (State.external s ext).peer = s.peer ∧
    (State.external s ext).power = s.power ∧ (State.external s ext).rst = s.rst ∧ (State.external s ext).dbg = s.dbg ∧
    (State.external s ext).recorder = s.recorder ∧ (State.external s ext).die = s.die ∧
    (State.external s ext).out = s.out ∧ (State.external s ext).draws = s.draws ∧ (State.external s ext).pending = s.pending :=
  ⟨rfl, rfl, rfl, rfl, rfl, rfl, rfl, rfl, rfl, rfl, rfl, rfl, rfl, rfl, rfl, rfl, rfl, rfl, rfl, rfl, rfl, rfl, rfl, rfl, rfl, rfl, rfl, rfl, rfl⟩

@[simp] theorem State.setKey_frame (s : State) (k : Nat) (v : Word) :
    (State.setKey s k v).now = s.now ∧ (State.setKey s k v).tenants = s.tenants ∧ (State.setKey s k v).ledger = s.ledger ∧
    (State.setKey s k v).vault = s.vault ∧ (State.setKey s k v).stitcher = s.stitcher ∧
    (State.setKey s k v).books = s.books ∧ (State.setKey s k v).banks = s.banks ∧ (State.setKey s k v).retake = s.retake ∧
    (State.setKey s k v).continuity = s.continuity ∧ (State.setKey s k v).movers = s.movers ∧
    (State.setKey s k v).tiers = s.tiers ∧ (State.setKey s k v).services = s.services ∧
    (State.setKey s k v).eyes = s.eyes ∧ (State.setKey s k v).lace = s.lace ∧ (State.setKey s k v).pages = s.pages ∧
    (State.setKey s k v).latches = s.latches ∧ (State.setKey s k v).security = s.security ∧
    (State.setKey s k v).port = s.port ∧ (State.setKey s k v).clicker = s.clicker ∧ (State.setKey s k v).peer = s.peer ∧
    (State.setKey s k v).power = s.power ∧ (State.setKey s k v).rst = s.rst ∧ (State.setKey s k v).dbg = s.dbg ∧
    (State.setKey s k v).recorder = s.recorder ∧ (State.setKey s k v).die = s.die ∧ (State.setKey s k v).mem = s.mem ∧
    (State.setKey s k v).out = s.out ∧ (State.setKey s k v).draws = s.draws ∧ (State.setKey s k v).pending = s.pending :=
  ⟨rfl, rfl, rfl, rfl, rfl, rfl, rfl, rfl, rfl, rfl, rfl, rfl, rfl, rfl, rfl, rfl, rfl, rfl, rfl, rfl, rfl, rfl, rfl, rfl, rfl, rfl, rfl, rfl, rfl⟩

@[simp] theorem State.setReg_frame (s : State) (addr : Nat) (v : Word) :
    (State.setReg s addr v).now = s.now ∧ (State.setReg s addr v).tenants = s.tenants ∧
    (State.setReg s addr v).ledger = s.ledger ∧ (State.setReg s addr v).vault = s.vault ∧
    (State.setReg s addr v).stitcher = s.stitcher ∧ (State.setReg s addr v).books = s.books ∧
    (State.setReg s addr v).banks = s.banks ∧ (State.setReg s addr v).retake = s.retake ∧
    (State.setReg s addr v).continuity = s.continuity ∧ (State.setReg s addr v).movers = s.movers ∧
    (State.setReg s addr v).tiers = s.tiers ∧ (State.setReg s addr v).services = s.services ∧
    (State.setReg s addr v).eyes = s.eyes ∧ (State.setReg s addr v).lace = s.lace ∧
    (State.setReg s addr v).pages = s.pages ∧ (State.setReg s addr v).latches = s.latches ∧
    (State.setReg s addr v).security = s.security ∧ (State.setReg s addr v).port = s.port ∧
    (State.setReg s addr v).clicker = s.clicker ∧ (State.setReg s addr v).peer = s.peer ∧
    (State.setReg s addr v).power = s.power ∧ (State.setReg s addr v).rst = s.rst ∧
    (State.setReg s addr v).dbg = s.dbg ∧ (State.setReg s addr v).recorder = s.recorder ∧
    (State.setReg s addr v).die = s.die ∧ (State.setReg s addr v).mem = s.mem ∧ (State.setReg s addr v).out = s.out ∧
    (State.setReg s addr v).draws = s.draws ∧ (State.setReg s addr v).pending = s.pending :=
  ⟨rfl, rfl, rfl, rfl, rfl, rfl, rfl, rfl, rfl, rfl, rfl, rfl, rfl, rfl, rfl, rfl, rfl, rfl, rfl, rfl, rfl, rfl, rfl, rfl, rfl, rfl, rfl, rfl, rfl⟩

@[simp] theorem State.setRegT_frame (s : State) (addr t : Nat) (v : Word) :
    (State.setRegT s addr t v).now = s.now ∧ (State.setRegT s addr t v).tenants = s.tenants ∧
    (State.setRegT s addr t v).ledger = s.ledger ∧ (State.setRegT s addr t v).vault = s.vault ∧
    (State.setRegT s addr t v).stitcher = s.stitcher ∧ (State.setRegT s addr t v).books = s.books ∧
    (State.setRegT s addr t v).banks = s.banks ∧ (State.setRegT s addr t v).retake = s.retake ∧
    (State.setRegT s addr t v).continuity = s.continuity ∧ (State.setRegT s addr t v).movers = s.movers ∧
    (State.setRegT s addr t v).tiers = s.tiers ∧ (State.setRegT s addr t v).services = s.services ∧
    (State.setRegT s addr t v).eyes = s.eyes ∧ (State.setRegT s addr t v).lace = s.lace ∧
    (State.setRegT s addr t v).pages = s.pages ∧ (State.setRegT s addr t v).latches = s.latches ∧
    (State.setRegT s addr t v).security = s.security ∧ (State.setRegT s addr t v).port = s.port ∧
    (State.setRegT s addr t v).clicker = s.clicker ∧ (State.setRegT s addr t v).peer = s.peer ∧
    (State.setRegT s addr t v).power = s.power ∧ (State.setRegT s addr t v).rst = s.rst ∧
    (State.setRegT s addr t v).dbg = s.dbg ∧ (State.setRegT s addr t v).recorder = s.recorder ∧
    (State.setRegT s addr t v).die = s.die ∧ (State.setRegT s addr t v).mem = s.mem ∧
    (State.setRegT s addr t v).out = s.out ∧ (State.setRegT s addr t v).draws = s.draws ∧
    (State.setRegT s addr t v).pending = s.pending :=
  ⟨rfl, rfl, rfl, rfl, rfl, rfl, rfl, rfl, rfl, rfl, rfl, rfl, rfl, rfl, rfl, rfl, rfl, rfl, rfl, rfl, rfl, rfl, rfl, rfl, rfl, rfl, rfl, rfl, rfl⟩

@[simp] theorem State.setReg64_frame (s : State) (addr t : Nat) (v : Nat) :
    (State.setReg64 s addr t v).now = s.now ∧ (State.setReg64 s addr t v).tenants = s.tenants ∧
    (State.setReg64 s addr t v).ledger = s.ledger ∧ (State.setReg64 s addr t v).vault = s.vault ∧
    (State.setReg64 s addr t v).stitcher = s.stitcher ∧ (State.setReg64 s addr t v).books = s.books ∧
    (State.setReg64 s addr t v).banks = s.banks ∧ (State.setReg64 s addr t v).retake = s.retake ∧
    (State.setReg64 s addr t v).continuity = s.continuity ∧ (State.setReg64 s addr t v).movers = s.movers ∧
    (State.setReg64 s addr t v).tiers = s.tiers ∧ (State.setReg64 s addr t v).services = s.services ∧
    (State.setReg64 s addr t v).eyes = s.eyes ∧ (State.setReg64 s addr t v).lace = s.lace ∧
    (State.setReg64 s addr t v).pages = s.pages ∧ (State.setReg64 s addr t v).latches = s.latches ∧
    (State.setReg64 s addr t v).security = s.security ∧ (State.setReg64 s addr t v).port = s.port ∧
    (State.setReg64 s addr t v).clicker = s.clicker ∧ (State.setReg64 s addr t v).peer = s.peer ∧
    (State.setReg64 s addr t v).power = s.power ∧ (State.setReg64 s addr t v).rst = s.rst ∧
    (State.setReg64 s addr t v).dbg = s.dbg ∧ (State.setReg64 s addr t v).recorder = s.recorder ∧
    (State.setReg64 s addr t v).die = s.die ∧ (State.setReg64 s addr t v).mem = s.mem ∧
    (State.setReg64 s addr t v).out = s.out ∧ (State.setReg64 s addr t v).draws = s.draws ∧
    (State.setReg64 s addr t v).pending = s.pending :=
  ⟨rfl, rfl, rfl, rfl, rfl, rfl, rfl, rfl, rfl, rfl, rfl, rfl, rfl, rfl, rfl, rfl, rfl, rfl, rfl, rfl, rfl, rfl, rfl, rfl, rfl, rfl, rfl, rfl, rfl⟩

@[simp] theorem State.bump_frame (s : State) (addr n : Nat) :
    (State.bump s addr n).now = s.now ∧ (State.bump s addr n).tenants = s.tenants ∧
    (State.bump s addr n).ledger = s.ledger ∧ (State.bump s addr n).vault = s.vault ∧
    (State.bump s addr n).stitcher = s.stitcher ∧ (State.bump s addr n).books = s.books ∧
    (State.bump s addr n).banks = s.banks ∧ (State.bump s addr n).retake = s.retake ∧
    (State.bump s addr n).continuity = s.continuity ∧ (State.bump s addr n).movers = s.movers ∧
    (State.bump s addr n).tiers = s.tiers ∧ (State.bump s addr n).services = s.services ∧
    (State.bump s addr n).eyes = s.eyes ∧ (State.bump s addr n).lace = s.lace ∧ (State.bump s addr n).pages = s.pages ∧
    (State.bump s addr n).latches = s.latches ∧ (State.bump s addr n).security = s.security ∧
    (State.bump s addr n).port = s.port ∧ (State.bump s addr n).clicker = s.clicker ∧ (State.bump s addr n).peer = s.peer ∧
    (State.bump s addr n).power = s.power ∧ (State.bump s addr n).rst = s.rst ∧ (State.bump s addr n).dbg = s.dbg ∧
    (State.bump s addr n).recorder = s.recorder ∧ (State.bump s addr n).die = s.die ∧ (State.bump s addr n).mem = s.mem ∧
    (State.bump s addr n).out = s.out ∧ (State.bump s addr n).draws = s.draws ∧ (State.bump s addr n).pending = s.pending :=
  ⟨rfl, rfl, rfl, rfl, rfl, rfl, rfl, rfl, rfl, rfl, rfl, rfl, rfl, rfl, rfl, rfl, rfl, rfl, rfl, rfl, rfl, rfl, rfl, rfl, rfl, rfl, rfl, rfl, rfl⟩

@[simp] theorem State.bumpSat_frame (s : State) (addr n : Nat) :
    (State.bumpSat s addr n).now = s.now ∧ (State.bumpSat s addr n).tenants = s.tenants ∧
    (State.bumpSat s addr n).ledger = s.ledger ∧ (State.bumpSat s addr n).vault = s.vault ∧
    (State.bumpSat s addr n).stitcher = s.stitcher ∧ (State.bumpSat s addr n).books = s.books ∧
    (State.bumpSat s addr n).banks = s.banks ∧ (State.bumpSat s addr n).retake = s.retake ∧
    (State.bumpSat s addr n).continuity = s.continuity ∧ (State.bumpSat s addr n).movers = s.movers ∧
    (State.bumpSat s addr n).tiers = s.tiers ∧ (State.bumpSat s addr n).services = s.services ∧
    (State.bumpSat s addr n).eyes = s.eyes ∧ (State.bumpSat s addr n).lace = s.lace ∧
    (State.bumpSat s addr n).pages = s.pages ∧ (State.bumpSat s addr n).latches = s.latches ∧
    (State.bumpSat s addr n).security = s.security ∧ (State.bumpSat s addr n).port = s.port ∧
    (State.bumpSat s addr n).clicker = s.clicker ∧ (State.bumpSat s addr n).peer = s.peer ∧
    (State.bumpSat s addr n).power = s.power ∧ (State.bumpSat s addr n).rst = s.rst ∧
    (State.bumpSat s addr n).dbg = s.dbg ∧ (State.bumpSat s addr n).recorder = s.recorder ∧
    (State.bumpSat s addr n).die = s.die ∧ (State.bumpSat s addr n).mem = s.mem ∧ (State.bumpSat s addr n).out = s.out ∧
    (State.bumpSat s addr n).draws = s.draws ∧ (State.bumpSat s addr n).pending = s.pending :=
  ⟨rfl, rfl, rfl, rfl, rfl, rfl, rfl, rfl, rfl, rfl, rfl, rfl, rfl, rfl, rfl, rfl, rfl, rfl, rfl, rfl, rfl, rfl, rfl, rfl, rfl, rfl, rfl, rfl, rfl⟩

@[simp] theorem State.bump64_frame (s : State) (addr n : Nat) :
    (State.bump64 s addr n).now = s.now ∧ (State.bump64 s addr n).tenants = s.tenants ∧
    (State.bump64 s addr n).ledger = s.ledger ∧ (State.bump64 s addr n).vault = s.vault ∧
    (State.bump64 s addr n).stitcher = s.stitcher ∧ (State.bump64 s addr n).books = s.books ∧
    (State.bump64 s addr n).banks = s.banks ∧ (State.bump64 s addr n).retake = s.retake ∧
    (State.bump64 s addr n).continuity = s.continuity ∧ (State.bump64 s addr n).movers = s.movers ∧
    (State.bump64 s addr n).tiers = s.tiers ∧ (State.bump64 s addr n).services = s.services ∧
    (State.bump64 s addr n).eyes = s.eyes ∧ (State.bump64 s addr n).lace = s.lace ∧
    (State.bump64 s addr n).pages = s.pages ∧ (State.bump64 s addr n).latches = s.latches ∧
    (State.bump64 s addr n).security = s.security ∧ (State.bump64 s addr n).port = s.port ∧
    (State.bump64 s addr n).clicker = s.clicker ∧ (State.bump64 s addr n).peer = s.peer ∧
    (State.bump64 s addr n).power = s.power ∧ (State.bump64 s addr n).rst = s.rst ∧
    (State.bump64 s addr n).dbg = s.dbg ∧ (State.bump64 s addr n).recorder = s.recorder ∧
    (State.bump64 s addr n).die = s.die ∧ (State.bump64 s addr n).mem = s.mem ∧ (State.bump64 s addr n).out = s.out ∧
    (State.bump64 s addr n).draws = s.draws ∧ (State.bump64 s addr n).pending = s.pending :=
  ⟨rfl, rfl, rfl, rfl, rfl, rfl, rfl, rfl, rfl, rfl, rfl, rfl, rfl, rfl, rfl, rfl, rfl, rfl, rfl, rfl, rfl, rfl, rfl, rfl, rfl, rfl, rfl, rfl, rfl⟩

@[simp] theorem State.setTenant_frame (s : State) (t : Nat) (x : Tenant) :
    (State.setTenant s t x).now = s.now ∧ (State.setTenant s t x).ledger = s.ledger ∧
    (State.setTenant s t x).vault = s.vault ∧ (State.setTenant s t x).stitcher = s.stitcher ∧
    (State.setTenant s t x).books = s.books ∧ (State.setTenant s t x).banks = s.banks ∧
    (State.setTenant s t x).retake = s.retake ∧ (State.setTenant s t x).continuity = s.continuity ∧
    (State.setTenant s t x).movers = s.movers ∧ (State.setTenant s t x).tiers = s.tiers ∧
    (State.setTenant s t x).services = s.services ∧ (State.setTenant s t x).eyes = s.eyes ∧
    (State.setTenant s t x).lace = s.lace ∧ (State.setTenant s t x).pages = s.pages ∧
    (State.setTenant s t x).latches = s.latches ∧ (State.setTenant s t x).regs = s.regs ∧
    (State.setTenant s t x).security = s.security ∧ (State.setTenant s t x).port = s.port ∧
    (State.setTenant s t x).clicker = s.clicker ∧ (State.setTenant s t x).peer = s.peer ∧
    (State.setTenant s t x).power = s.power ∧ (State.setTenant s t x).rst = s.rst ∧
    (State.setTenant s t x).dbg = s.dbg ∧ (State.setTenant s t x).recorder = s.recorder ∧
    (State.setTenant s t x).die = s.die ∧ (State.setTenant s t x).mem = s.mem ∧ (State.setTenant s t x).out = s.out ∧
    (State.setTenant s t x).draws = s.draws ∧ (State.setTenant s t x).pending = s.pending :=
  ⟨rfl, rfl, rfl, rfl, rfl, rfl, rfl, rfl, rfl, rfl, rfl, rfl, rfl, rfl, rfl, rfl, rfl, rfl, rfl, rfl, rfl, rfl, rfl, rfl, rfl, rfl, rfl, rfl, rfl⟩

@[simp] theorem State.modTenant_frame (s : State) (t : Nat) (f : Tenant → Tenant) :
    (State.modTenant s t f).now = s.now ∧ (State.modTenant s t f).ledger = s.ledger ∧
    (State.modTenant s t f).vault = s.vault ∧ (State.modTenant s t f).stitcher = s.stitcher ∧
    (State.modTenant s t f).books = s.books ∧ (State.modTenant s t f).banks = s.banks ∧
    (State.modTenant s t f).retake = s.retake ∧ (State.modTenant s t f).continuity = s.continuity ∧
    (State.modTenant s t f).movers = s.movers ∧ (State.modTenant s t f).tiers = s.tiers ∧
    (State.modTenant s t f).services = s.services ∧ (State.modTenant s t f).eyes = s.eyes ∧
    (State.modTenant s t f).lace = s.lace ∧ (State.modTenant s t f).pages = s.pages ∧
    (State.modTenant s t f).latches = s.latches ∧ (State.modTenant s t f).regs = s.regs ∧
    (State.modTenant s t f).security = s.security ∧ (State.modTenant s t f).port = s.port ∧
    (State.modTenant s t f).clicker = s.clicker ∧ (State.modTenant s t f).peer = s.peer ∧
    (State.modTenant s t f).power = s.power ∧ (State.modTenant s t f).rst = s.rst ∧
    (State.modTenant s t f).dbg = s.dbg ∧ (State.modTenant s t f).recorder = s.recorder ∧
    (State.modTenant s t f).die = s.die ∧ (State.modTenant s t f).mem = s.mem ∧ (State.modTenant s t f).out = s.out ∧
    (State.modTenant s t f).draws = s.draws ∧ (State.modTenant s t f).pending = s.pending :=
  ⟨rfl, rfl, rfl, rfl, rfl, rfl, rfl, rfl, rfl, rfl, rfl, rfl, rfl, rfl, rfl, rfl, rfl, rfl, rfl, rfl, rfl, rfl, rfl, rfl, rfl, rfl, rfl, rfl, rfl⟩

@[simp] theorem State.setSlate_frame (s : State) (i : Nat) (x : Slate) :
    (State.setSlate s i x).now = s.now ∧ (State.setSlate s i x).tenants = s.tenants ∧
    (State.setSlate s i x).vault = s.vault ∧ (State.setSlate s i x).stitcher = s.stitcher ∧
    (State.setSlate s i x).books = s.books ∧ (State.setSlate s i x).banks = s.banks ∧
    (State.setSlate s i x).retake = s.retake ∧ (State.setSlate s i x).continuity = s.continuity ∧
    (State.setSlate s i x).movers = s.movers ∧ (State.setSlate s i x).tiers = s.tiers ∧
    (State.setSlate s i x).services = s.services ∧ (State.setSlate s i x).eyes = s.eyes ∧
    (State.setSlate s i x).lace = s.lace ∧ (State.setSlate s i x).pages = s.pages ∧
    (State.setSlate s i x).latches = s.latches ∧ (State.setSlate s i x).regs = s.regs ∧
    (State.setSlate s i x).security = s.security ∧ (State.setSlate s i x).port = s.port ∧
    (State.setSlate s i x).clicker = s.clicker ∧ (State.setSlate s i x).peer = s.peer ∧
    (State.setSlate s i x).power = s.power ∧ (State.setSlate s i x).rst = s.rst ∧ (State.setSlate s i x).dbg = s.dbg ∧
    (State.setSlate s i x).recorder = s.recorder ∧ (State.setSlate s i x).die = s.die ∧
    (State.setSlate s i x).mem = s.mem ∧ (State.setSlate s i x).out = s.out ∧ (State.setSlate s i x).draws = s.draws ∧
    (State.setSlate s i x).pending = s.pending :=
  ⟨rfl, rfl, rfl, rfl, rfl, rfl, rfl, rfl, rfl, rfl, rfl, rfl, rfl, rfl, rfl, rfl, rfl, rfl, rfl, rfl, rfl, rfl, rfl, rfl, rfl, rfl, rfl, rfl, rfl⟩

@[simp] theorem State.modSlate_frame (s : State) (i : Nat) (f : Slate → Slate) :
    (State.modSlate s i f).now = s.now ∧ (State.modSlate s i f).tenants = s.tenants ∧
    (State.modSlate s i f).vault = s.vault ∧ (State.modSlate s i f).stitcher = s.stitcher ∧
    (State.modSlate s i f).books = s.books ∧ (State.modSlate s i f).banks = s.banks ∧
    (State.modSlate s i f).retake = s.retake ∧ (State.modSlate s i f).continuity = s.continuity ∧
    (State.modSlate s i f).movers = s.movers ∧ (State.modSlate s i f).tiers = s.tiers ∧
    (State.modSlate s i f).services = s.services ∧ (State.modSlate s i f).eyes = s.eyes ∧
    (State.modSlate s i f).lace = s.lace ∧ (State.modSlate s i f).pages = s.pages ∧
    (State.modSlate s i f).latches = s.latches ∧ (State.modSlate s i f).regs = s.regs ∧
    (State.modSlate s i f).security = s.security ∧ (State.modSlate s i f).port = s.port ∧
    (State.modSlate s i f).clicker = s.clicker ∧ (State.modSlate s i f).peer = s.peer ∧
    (State.modSlate s i f).power = s.power ∧ (State.modSlate s i f).rst = s.rst ∧ (State.modSlate s i f).dbg = s.dbg ∧
    (State.modSlate s i f).recorder = s.recorder ∧ (State.modSlate s i f).die = s.die ∧
    (State.modSlate s i f).mem = s.mem ∧ (State.modSlate s i f).out = s.out ∧ (State.modSlate s i f).draws = s.draws ∧
    (State.modSlate s i f).pending = s.pending :=
  ⟨rfl, rfl, rfl, rfl, rfl, rfl, rfl, rfl, rfl, rfl, rfl, rfl, rfl, rfl, rfl, rfl, rfl, rfl, rfl, rfl, rfl, rfl, rfl, rfl, rfl, rfl, rfl, rfl, rfl⟩

@[simp] theorem State.setExtent_frame (s : State) (i : Nat) (x : Extent) :
    (State.setExtent s i x).now = s.now ∧ (State.setExtent s i x).tenants = s.tenants ∧
    (State.setExtent s i x).ledger = s.ledger ∧ (State.setExtent s i x).stitcher = s.stitcher ∧
    (State.setExtent s i x).books = s.books ∧ (State.setExtent s i x).banks = s.banks ∧
    (State.setExtent s i x).retake = s.retake ∧ (State.setExtent s i x).continuity = s.continuity ∧
    (State.setExtent s i x).movers = s.movers ∧ (State.setExtent s i x).tiers = s.tiers ∧
    (State.setExtent s i x).services = s.services ∧ (State.setExtent s i x).eyes = s.eyes ∧
    (State.setExtent s i x).lace = s.lace ∧ (State.setExtent s i x).pages = s.pages ∧
    (State.setExtent s i x).latches = s.latches ∧ (State.setExtent s i x).regs = s.regs ∧
    (State.setExtent s i x).security = s.security ∧ (State.setExtent s i x).port = s.port ∧
    (State.setExtent s i x).clicker = s.clicker ∧ (State.setExtent s i x).peer = s.peer ∧
    (State.setExtent s i x).power = s.power ∧ (State.setExtent s i x).rst = s.rst ∧
    (State.setExtent s i x).dbg = s.dbg ∧ (State.setExtent s i x).recorder = s.recorder ∧
    (State.setExtent s i x).die = s.die ∧ (State.setExtent s i x).mem = s.mem ∧ (State.setExtent s i x).out = s.out ∧
    (State.setExtent s i x).draws = s.draws ∧ (State.setExtent s i x).pending = s.pending :=
  ⟨rfl, rfl, rfl, rfl, rfl, rfl, rfl, rfl, rfl, rfl, rfl, rfl, rfl, rfl, rfl, rfl, rfl, rfl, rfl, rfl, rfl, rfl, rfl, rfl, rfl, rfl, rfl, rfl, rfl⟩

@[simp] theorem State.modExtent_frame (s : State) (i : Nat) (f : Extent → Extent) :
    (State.modExtent s i f).now = s.now ∧ (State.modExtent s i f).tenants = s.tenants ∧
    (State.modExtent s i f).ledger = s.ledger ∧ (State.modExtent s i f).stitcher = s.stitcher ∧
    (State.modExtent s i f).books = s.books ∧ (State.modExtent s i f).banks = s.banks ∧
    (State.modExtent s i f).retake = s.retake ∧ (State.modExtent s i f).continuity = s.continuity ∧
    (State.modExtent s i f).movers = s.movers ∧ (State.modExtent s i f).tiers = s.tiers ∧
    (State.modExtent s i f).services = s.services ∧ (State.modExtent s i f).eyes = s.eyes ∧
    (State.modExtent s i f).lace = s.lace ∧ (State.modExtent s i f).pages = s.pages ∧
    (State.modExtent s i f).latches = s.latches ∧ (State.modExtent s i f).regs = s.regs ∧
    (State.modExtent s i f).security = s.security ∧ (State.modExtent s i f).port = s.port ∧
    (State.modExtent s i f).clicker = s.clicker ∧ (State.modExtent s i f).peer = s.peer ∧
    (State.modExtent s i f).power = s.power ∧ (State.modExtent s i f).rst = s.rst ∧
    (State.modExtent s i f).dbg = s.dbg ∧ (State.modExtent s i f).recorder = s.recorder ∧
    (State.modExtent s i f).die = s.die ∧ (State.modExtent s i f).mem = s.mem ∧ (State.modExtent s i f).out = s.out ∧
    (State.modExtent s i f).draws = s.draws ∧ (State.modExtent s i f).pending = s.pending :=
  ⟨rfl, rfl, rfl, rfl, rfl, rfl, rfl, rfl, rfl, rfl, rfl, rfl, rfl, rfl, rfl, rfl, rfl, rfl, rfl, rfl, rfl, rfl, rfl, rfl, rfl, rfl, rfl, rfl, rfl⟩

@[simp] theorem State.dropExtent_frame (s : State) (i : Nat) :
    (State.dropExtent s i).now = s.now ∧ (State.dropExtent s i).tenants = s.tenants ∧
    (State.dropExtent s i).ledger = s.ledger ∧ (State.dropExtent s i).stitcher = s.stitcher ∧
    (State.dropExtent s i).books = s.books ∧ (State.dropExtent s i).banks = s.banks ∧
    (State.dropExtent s i).retake = s.retake ∧ (State.dropExtent s i).continuity = s.continuity ∧
    (State.dropExtent s i).movers = s.movers ∧ (State.dropExtent s i).tiers = s.tiers ∧
    (State.dropExtent s i).services = s.services ∧ (State.dropExtent s i).eyes = s.eyes ∧
    (State.dropExtent s i).lace = s.lace ∧ (State.dropExtent s i).pages = s.pages ∧
    (State.dropExtent s i).latches = s.latches ∧ (State.dropExtent s i).regs = s.regs ∧
    (State.dropExtent s i).security = s.security ∧ (State.dropExtent s i).port = s.port ∧
    (State.dropExtent s i).clicker = s.clicker ∧ (State.dropExtent s i).peer = s.peer ∧
    (State.dropExtent s i).power = s.power ∧ (State.dropExtent s i).rst = s.rst ∧ (State.dropExtent s i).dbg = s.dbg ∧
    (State.dropExtent s i).recorder = s.recorder ∧ (State.dropExtent s i).die = s.die ∧
    (State.dropExtent s i).mem = s.mem ∧ (State.dropExtent s i).out = s.out ∧ (State.dropExtent s i).draws = s.draws ∧
    (State.dropExtent s i).pending = s.pending :=
  ⟨rfl, rfl, rfl, rfl, rfl, rfl, rfl, rfl, rfl, rfl, rfl, rfl, rfl, rfl, rfl, rfl, rfl, rfl, rfl, rfl, rfl, rfl, rfl, rfl, rfl, rfl, rfl, rfl, rfl⟩

@[simp] theorem State.setBank_frame (s : State) (b : Nat) (x : Bank) :
    (State.setBank s b x).now = s.now ∧ (State.setBank s b x).tenants = s.tenants ∧
    (State.setBank s b x).ledger = s.ledger ∧ (State.setBank s b x).vault = s.vault ∧
    (State.setBank s b x).stitcher = s.stitcher ∧ (State.setBank s b x).books = s.books ∧
    (State.setBank s b x).retake = s.retake ∧ (State.setBank s b x).continuity = s.continuity ∧
    (State.setBank s b x).movers = s.movers ∧ (State.setBank s b x).tiers = s.tiers ∧
    (State.setBank s b x).services = s.services ∧ (State.setBank s b x).eyes = s.eyes ∧
    (State.setBank s b x).lace = s.lace ∧ (State.setBank s b x).pages = s.pages ∧
    (State.setBank s b x).latches = s.latches ∧ (State.setBank s b x).regs = s.regs ∧
    (State.setBank s b x).security = s.security ∧ (State.setBank s b x).port = s.port ∧
    (State.setBank s b x).clicker = s.clicker ∧ (State.setBank s b x).peer = s.peer ∧
    (State.setBank s b x).power = s.power ∧ (State.setBank s b x).rst = s.rst ∧ (State.setBank s b x).dbg = s.dbg ∧
    (State.setBank s b x).recorder = s.recorder ∧ (State.setBank s b x).die = s.die ∧ (State.setBank s b x).mem = s.mem ∧
    (State.setBank s b x).out = s.out ∧ (State.setBank s b x).draws = s.draws ∧ (State.setBank s b x).pending = s.pending :=
  ⟨rfl, rfl, rfl, rfl, rfl, rfl, rfl, rfl, rfl, rfl, rfl, rfl, rfl, rfl, rfl, rfl, rfl, rfl, rfl, rfl, rfl, rfl, rfl, rfl, rfl, rfl, rfl, rfl, rfl⟩

@[simp] theorem State.modBank_frame (s : State) (b : Nat) (f : Bank → Bank) :
    (State.modBank s b f).now = s.now ∧ (State.modBank s b f).tenants = s.tenants ∧
    (State.modBank s b f).ledger = s.ledger ∧ (State.modBank s b f).vault = s.vault ∧
    (State.modBank s b f).stitcher = s.stitcher ∧ (State.modBank s b f).books = s.books ∧
    (State.modBank s b f).retake = s.retake ∧ (State.modBank s b f).continuity = s.continuity ∧
    (State.modBank s b f).movers = s.movers ∧ (State.modBank s b f).tiers = s.tiers ∧
    (State.modBank s b f).services = s.services ∧ (State.modBank s b f).eyes = s.eyes ∧
    (State.modBank s b f).lace = s.lace ∧ (State.modBank s b f).pages = s.pages ∧
    (State.modBank s b f).latches = s.latches ∧ (State.modBank s b f).regs = s.regs ∧
    (State.modBank s b f).security = s.security ∧ (State.modBank s b f).port = s.port ∧
    (State.modBank s b f).clicker = s.clicker ∧ (State.modBank s b f).peer = s.peer ∧
    (State.modBank s b f).power = s.power ∧ (State.modBank s b f).rst = s.rst ∧ (State.modBank s b f).dbg = s.dbg ∧
    (State.modBank s b f).recorder = s.recorder ∧ (State.modBank s b f).die = s.die ∧ (State.modBank s b f).mem = s.mem ∧
    (State.modBank s b f).out = s.out ∧ (State.modBank s b f).draws = s.draws ∧ (State.modBank s b f).pending = s.pending :=
  ⟨rfl, rfl, rfl, rfl, rfl, rfl, rfl, rfl, rfl, rfl, rfl, rfl, rfl, rfl, rfl, rfl, rfl, rfl, rfl, rfl, rfl, rfl, rfl, rfl, rfl, rfl, rfl, rfl, rfl⟩

@[simp] theorem State.setChan_frame (s : State) (c : Nat) (x : Chan) :
    (State.setChan s c x).now = s.now ∧ (State.setChan s c x).tenants = s.tenants ∧
    (State.setChan s c x).ledger = s.ledger ∧ (State.setChan s c x).vault = s.vault ∧
    (State.setChan s c x).stitcher = s.stitcher ∧ (State.setChan s c x).books = s.books ∧
    (State.setChan s c x).banks = s.banks ∧ (State.setChan s c x).retake = s.retake ∧
    (State.setChan s c x).continuity = s.continuity ∧ (State.setChan s c x).tiers = s.tiers ∧
    (State.setChan s c x).services = s.services ∧ (State.setChan s c x).eyes = s.eyes ∧
    (State.setChan s c x).lace = s.lace ∧ (State.setChan s c x).pages = s.pages ∧
    (State.setChan s c x).latches = s.latches ∧ (State.setChan s c x).regs = s.regs ∧
    (State.setChan s c x).security = s.security ∧ (State.setChan s c x).port = s.port ∧
    (State.setChan s c x).clicker = s.clicker ∧ (State.setChan s c x).peer = s.peer ∧
    (State.setChan s c x).power = s.power ∧ (State.setChan s c x).rst = s.rst ∧ (State.setChan s c x).dbg = s.dbg ∧
    (State.setChan s c x).recorder = s.recorder ∧ (State.setChan s c x).die = s.die ∧ (State.setChan s c x).mem = s.mem ∧
    (State.setChan s c x).out = s.out ∧ (State.setChan s c x).draws = s.draws ∧ (State.setChan s c x).pending = s.pending :=
  ⟨rfl, rfl, rfl, rfl, rfl, rfl, rfl, rfl, rfl, rfl, rfl, rfl, rfl, rfl, rfl, rfl, rfl, rfl, rfl, rfl, rfl, rfl, rfl, rfl, rfl, rfl, rfl, rfl, rfl⟩

@[simp] theorem State.modChan_frame (s : State) (c : Nat) (f : Chan → Chan) :
    (State.modChan s c f).now = s.now ∧ (State.modChan s c f).tenants = s.tenants ∧
    (State.modChan s c f).ledger = s.ledger ∧ (State.modChan s c f).vault = s.vault ∧
    (State.modChan s c f).stitcher = s.stitcher ∧ (State.modChan s c f).books = s.books ∧
    (State.modChan s c f).banks = s.banks ∧ (State.modChan s c f).retake = s.retake ∧
    (State.modChan s c f).continuity = s.continuity ∧ (State.modChan s c f).tiers = s.tiers ∧
    (State.modChan s c f).services = s.services ∧ (State.modChan s c f).eyes = s.eyes ∧
    (State.modChan s c f).lace = s.lace ∧ (State.modChan s c f).pages = s.pages ∧
    (State.modChan s c f).latches = s.latches ∧ (State.modChan s c f).regs = s.regs ∧
    (State.modChan s c f).security = s.security ∧ (State.modChan s c f).port = s.port ∧
    (State.modChan s c f).clicker = s.clicker ∧ (State.modChan s c f).peer = s.peer ∧
    (State.modChan s c f).power = s.power ∧ (State.modChan s c f).rst = s.rst ∧ (State.modChan s c f).dbg = s.dbg ∧
    (State.modChan s c f).recorder = s.recorder ∧ (State.modChan s c f).die = s.die ∧ (State.modChan s c f).mem = s.mem ∧
    (State.modChan s c f).out = s.out ∧ (State.modChan s c f).draws = s.draws ∧ (State.modChan s c f).pending = s.pending :=
  ⟨rfl, rfl, rfl, rfl, rfl, rfl, rfl, rfl, rfl, rfl, rfl, rfl, rfl, rfl, rfl, rfl, rfl, rfl, rfl, rfl, rfl, rfl, rfl, rfl, rfl, rfl, rfl, rfl, rfl⟩

@[simp] theorem State.setPage_frame (s : State) (p : Nat) (x : Page) :
    (State.setPage s p x).now = s.now ∧ (State.setPage s p x).tenants = s.tenants ∧
    (State.setPage s p x).ledger = s.ledger ∧ (State.setPage s p x).vault = s.vault ∧
    (State.setPage s p x).stitcher = s.stitcher ∧ (State.setPage s p x).books = s.books ∧
    (State.setPage s p x).banks = s.banks ∧ (State.setPage s p x).retake = s.retake ∧
    (State.setPage s p x).continuity = s.continuity ∧ (State.setPage s p x).movers = s.movers ∧
    (State.setPage s p x).tiers = s.tiers ∧ (State.setPage s p x).services = s.services ∧
    (State.setPage s p x).eyes = s.eyes ∧ (State.setPage s p x).lace = s.lace ∧ (State.setPage s p x).latches = s.latches ∧
    (State.setPage s p x).regs = s.regs ∧ (State.setPage s p x).security = s.security ∧
    (State.setPage s p x).port = s.port ∧ (State.setPage s p x).clicker = s.clicker ∧ (State.setPage s p x).peer = s.peer ∧
    (State.setPage s p x).power = s.power ∧ (State.setPage s p x).rst = s.rst ∧ (State.setPage s p x).dbg = s.dbg ∧
    (State.setPage s p x).recorder = s.recorder ∧ (State.setPage s p x).die = s.die ∧ (State.setPage s p x).mem = s.mem ∧
    (State.setPage s p x).out = s.out ∧ (State.setPage s p x).draws = s.draws ∧ (State.setPage s p x).pending = s.pending :=
  ⟨rfl, rfl, rfl, rfl, rfl, rfl, rfl, rfl, rfl, rfl, rfl, rfl, rfl, rfl, rfl, rfl, rfl, rfl, rfl, rfl, rfl, rfl, rfl, rfl, rfl, rfl, rfl, rfl, rfl⟩

@[simp] theorem State.modPage_frame (s : State) (p : Nat) (f : Page → Page) :
    (State.modPage s p f).now = s.now ∧ (State.modPage s p f).tenants = s.tenants ∧
    (State.modPage s p f).ledger = s.ledger ∧ (State.modPage s p f).vault = s.vault ∧
    (State.modPage s p f).stitcher = s.stitcher ∧ (State.modPage s p f).books = s.books ∧
    (State.modPage s p f).banks = s.banks ∧ (State.modPage s p f).retake = s.retake ∧
    (State.modPage s p f).continuity = s.continuity ∧ (State.modPage s p f).movers = s.movers ∧
    (State.modPage s p f).tiers = s.tiers ∧ (State.modPage s p f).services = s.services ∧
    (State.modPage s p f).eyes = s.eyes ∧ (State.modPage s p f).lace = s.lace ∧ (State.modPage s p f).latches = s.latches ∧
    (State.modPage s p f).regs = s.regs ∧ (State.modPage s p f).security = s.security ∧
    (State.modPage s p f).port = s.port ∧ (State.modPage s p f).clicker = s.clicker ∧ (State.modPage s p f).peer = s.peer ∧
    (State.modPage s p f).power = s.power ∧ (State.modPage s p f).rst = s.rst ∧ (State.modPage s p f).dbg = s.dbg ∧
    (State.modPage s p f).recorder = s.recorder ∧ (State.modPage s p f).die = s.die ∧ (State.modPage s p f).mem = s.mem ∧
    (State.modPage s p f).out = s.out ∧ (State.modPage s p f).draws = s.draws ∧ (State.modPage s p f).pending = s.pending :=
  ⟨rfl, rfl, rfl, rfl, rfl, rfl, rfl, rfl, rfl, rfl, rfl, rfl, rfl, rfl, rfl, rfl, rfl, rfl, rfl, rfl, rfl, rfl, rfl, rfl, rfl, rfl, rfl, rfl, rfl⟩

@[simp] theorem State.setEyelet_frame (s : State) (e : Nat) (x : Eyelet) :
    (State.setEyelet s e x).now = s.now ∧ (State.setEyelet s e x).tenants = s.tenants ∧
    (State.setEyelet s e x).ledger = s.ledger ∧ (State.setEyelet s e x).vault = s.vault ∧
    (State.setEyelet s e x).stitcher = s.stitcher ∧ (State.setEyelet s e x).books = s.books ∧
    (State.setEyelet s e x).banks = s.banks ∧ (State.setEyelet s e x).retake = s.retake ∧
    (State.setEyelet s e x).continuity = s.continuity ∧ (State.setEyelet s e x).movers = s.movers ∧
    (State.setEyelet s e x).tiers = s.tiers ∧ (State.setEyelet s e x).services = s.services ∧
    (State.setEyelet s e x).lace = s.lace ∧ (State.setEyelet s e x).pages = s.pages ∧
    (State.setEyelet s e x).latches = s.latches ∧ (State.setEyelet s e x).regs = s.regs ∧
    (State.setEyelet s e x).security = s.security ∧ (State.setEyelet s e x).port = s.port ∧
    (State.setEyelet s e x).clicker = s.clicker ∧ (State.setEyelet s e x).peer = s.peer ∧
    (State.setEyelet s e x).power = s.power ∧ (State.setEyelet s e x).rst = s.rst ∧
    (State.setEyelet s e x).dbg = s.dbg ∧ (State.setEyelet s e x).recorder = s.recorder ∧
    (State.setEyelet s e x).die = s.die ∧ (State.setEyelet s e x).mem = s.mem ∧ (State.setEyelet s e x).out = s.out ∧
    (State.setEyelet s e x).draws = s.draws ∧ (State.setEyelet s e x).pending = s.pending :=
  ⟨rfl, rfl, rfl, rfl, rfl, rfl, rfl, rfl, rfl, rfl, rfl, rfl, rfl, rfl, rfl, rfl, rfl, rfl, rfl, rfl, rfl, rfl, rfl, rfl, rfl, rfl, rfl, rfl, rfl⟩

@[simp] theorem State.setWire_frame (s : State) (n : Nat) (x : Wire) :
    (State.setWire s n x).now = s.now ∧ (State.setWire s n x).tenants = s.tenants ∧
    (State.setWire s n x).ledger = s.ledger ∧ (State.setWire s n x).vault = s.vault ∧
    (State.setWire s n x).stitcher = s.stitcher ∧ (State.setWire s n x).books = s.books ∧
    (State.setWire s n x).banks = s.banks ∧ (State.setWire s n x).retake = s.retake ∧
    (State.setWire s n x).continuity = s.continuity ∧ (State.setWire s n x).movers = s.movers ∧
    (State.setWire s n x).tiers = s.tiers ∧ (State.setWire s n x).services = s.services ∧
    (State.setWire s n x).eyes = s.eyes ∧ (State.setWire s n x).pages = s.pages ∧
    (State.setWire s n x).latches = s.latches ∧ (State.setWire s n x).regs = s.regs ∧
    (State.setWire s n x).security = s.security ∧ (State.setWire s n x).port = s.port ∧
    (State.setWire s n x).clicker = s.clicker ∧ (State.setWire s n x).peer = s.peer ∧
    (State.setWire s n x).power = s.power ∧ (State.setWire s n x).rst = s.rst ∧ (State.setWire s n x).dbg = s.dbg ∧
    (State.setWire s n x).recorder = s.recorder ∧ (State.setWire s n x).die = s.die ∧ (State.setWire s n x).mem = s.mem ∧
    (State.setWire s n x).out = s.out ∧ (State.setWire s n x).draws = s.draws ∧ (State.setWire s n x).pending = s.pending :=
  ⟨rfl, rfl, rfl, rfl, rfl, rfl, rfl, rfl, rfl, rfl, rfl, rfl, rfl, rfl, rfl, rfl, rfl, rfl, rfl, rfl, rfl, rfl, rfl, rfl, rfl, rfl, rfl, rfl, rfl⟩

@[simp] theorem State.setMeter_frame (s : State) (k : Nat) (x : Meter) :
    (State.setMeter s k x).now = s.now ∧ (State.setMeter s k x).tenants = s.tenants ∧
    (State.setMeter s k x).ledger = s.ledger ∧ (State.setMeter s k x).vault = s.vault ∧
    (State.setMeter s k x).stitcher = s.stitcher ∧ (State.setMeter s k x).books = s.books ∧
    (State.setMeter s k x).banks = s.banks ∧ (State.setMeter s k x).retake = s.retake ∧
    (State.setMeter s k x).continuity = s.continuity ∧ (State.setMeter s k x).movers = s.movers ∧
    (State.setMeter s k x).tiers = s.tiers ∧ (State.setMeter s k x).eyes = s.eyes ∧ (State.setMeter s k x).lace = s.lace ∧
    (State.setMeter s k x).pages = s.pages ∧ (State.setMeter s k x).latches = s.latches ∧
    (State.setMeter s k x).regs = s.regs ∧ (State.setMeter s k x).security = s.security ∧
    (State.setMeter s k x).port = s.port ∧ (State.setMeter s k x).clicker = s.clicker ∧
    (State.setMeter s k x).peer = s.peer ∧ (State.setMeter s k x).power = s.power ∧ (State.setMeter s k x).rst = s.rst ∧
    (State.setMeter s k x).dbg = s.dbg ∧ (State.setMeter s k x).recorder = s.recorder ∧
    (State.setMeter s k x).die = s.die ∧ (State.setMeter s k x).mem = s.mem ∧ (State.setMeter s k x).out = s.out ∧
    (State.setMeter s k x).draws = s.draws ∧ (State.setMeter s k x).pending = s.pending :=
  ⟨rfl, rfl, rfl, rfl, rfl, rfl, rfl, rfl, rfl, rfl, rfl, rfl, rfl, rfl, rfl, rfl, rfl, rfl, rfl, rfl, rfl, rfl, rfl, rfl, rfl, rfl, rfl, rfl, rfl⟩

@[simp] theorem State.setExposure_frame (s : State) (k : Nat) (x : Exposure) :
    (State.setExposure s k x).now = s.now ∧ (State.setExposure s k x).tenants = s.tenants ∧
    (State.setExposure s k x).ledger = s.ledger ∧ (State.setExposure s k x).vault = s.vault ∧
    (State.setExposure s k x).stitcher = s.stitcher ∧ (State.setExposure s k x).books = s.books ∧
    (State.setExposure s k x).banks = s.banks ∧ (State.setExposure s k x).retake = s.retake ∧
    (State.setExposure s k x).continuity = s.continuity ∧ (State.setExposure s k x).movers = s.movers ∧
    (State.setExposure s k x).tiers = s.tiers ∧ (State.setExposure s k x).eyes = s.eyes ∧
    (State.setExposure s k x).lace = s.lace ∧ (State.setExposure s k x).pages = s.pages ∧
    (State.setExposure s k x).latches = s.latches ∧ (State.setExposure s k x).regs = s.regs ∧
    (State.setExposure s k x).security = s.security ∧ (State.setExposure s k x).port = s.port ∧
    (State.setExposure s k x).clicker = s.clicker ∧ (State.setExposure s k x).peer = s.peer ∧
    (State.setExposure s k x).power = s.power ∧ (State.setExposure s k x).rst = s.rst ∧
    (State.setExposure s k x).dbg = s.dbg ∧ (State.setExposure s k x).recorder = s.recorder ∧
    (State.setExposure s k x).die = s.die ∧ (State.setExposure s k x).mem = s.mem ∧ (State.setExposure s k x).out = s.out ∧
    (State.setExposure s k x).draws = s.draws ∧ (State.setExposure s k x).pending = s.pending :=
  ⟨rfl, rfl, rfl, rfl, rfl, rfl, rfl, rfl, rfl, rfl, rfl, rfl, rfl, rfl, rfl, rfl, rfl, rfl, rfl, rfl, rfl, rfl, rfl, rfl, rfl, rfl, rfl, rfl, rfl⟩

@[simp] theorem State.setGn_frame (s : State) (g : Gn) :
    (State.setGn s g).now = s.now ∧ (State.setGn s g).tenants = s.tenants ∧ (State.setGn s g).ledger = s.ledger ∧
    (State.setGn s g).vault = s.vault ∧ (State.setGn s g).stitcher = s.stitcher ∧ (State.setGn s g).books = s.books ∧
    (State.setGn s g).banks = s.banks ∧ (State.setGn s g).retake = s.retake ∧ (State.setGn s g).continuity = s.continuity ∧
    (State.setGn s g).movers = s.movers ∧ (State.setGn s g).tiers = s.tiers ∧ (State.setGn s g).eyes = s.eyes ∧
    (State.setGn s g).lace = s.lace ∧ (State.setGn s g).pages = s.pages ∧ (State.setGn s g).latches = s.latches ∧
    (State.setGn s g).regs = s.regs ∧ (State.setGn s g).security = s.security ∧ (State.setGn s g).port = s.port ∧
    (State.setGn s g).clicker = s.clicker ∧ (State.setGn s g).peer = s.peer ∧ (State.setGn s g).power = s.power ∧
    (State.setGn s g).rst = s.rst ∧ (State.setGn s g).dbg = s.dbg ∧ (State.setGn s g).recorder = s.recorder ∧
    (State.setGn s g).die = s.die ∧ (State.setGn s g).mem = s.mem ∧ (State.setGn s g).out = s.out ∧
    (State.setGn s g).draws = s.draws ∧ (State.setGn s g).pending = s.pending :=
  ⟨rfl, rfl, rfl, rfl, rfl, rfl, rfl, rfl, rfl, rfl, rfl, rfl, rfl, rfl, rfl, rfl, rfl, rfl, rfl, rfl, rfl, rfl, rfl, rfl, rfl, rfl, rfl, rfl, rfl⟩

@[simp] theorem State.setPd_frame (s : State) (d : Nat) (x : Pd) :
    (State.setPd s d x).now = s.now ∧ (State.setPd s d x).tenants = s.tenants ∧ (State.setPd s d x).ledger = s.ledger ∧
    (State.setPd s d x).vault = s.vault ∧ (State.setPd s d x).stitcher = s.stitcher ∧ (State.setPd s d x).books = s.books ∧
    (State.setPd s d x).banks = s.banks ∧ (State.setPd s d x).retake = s.retake ∧
    (State.setPd s d x).continuity = s.continuity ∧ (State.setPd s d x).movers = s.movers ∧
    (State.setPd s d x).tiers = s.tiers ∧ (State.setPd s d x).services = s.services ∧ (State.setPd s d x).eyes = s.eyes ∧
    (State.setPd s d x).lace = s.lace ∧ (State.setPd s d x).pages = s.pages ∧ (State.setPd s d x).latches = s.latches ∧
    (State.setPd s d x).regs = s.regs ∧ (State.setPd s d x).security = s.security ∧ (State.setPd s d x).port = s.port ∧
    (State.setPd s d x).clicker = s.clicker ∧ (State.setPd s d x).peer = s.peer ∧ (State.setPd s d x).rst = s.rst ∧
    (State.setPd s d x).dbg = s.dbg ∧ (State.setPd s d x).recorder = s.recorder ∧ (State.setPd s d x).die = s.die ∧
    (State.setPd s d x).mem = s.mem ∧ (State.setPd s d x).out = s.out ∧ (State.setPd s d x).draws = s.draws ∧
    (State.setPd s d x).pending = s.pending :=
  ⟨rfl, rfl, rfl, rfl, rfl, rfl, rfl, rfl, rfl, rfl, rfl, rfl, rfl, rfl, rfl, rfl, rfl, rfl, rfl, rfl, rfl, rfl, rfl, rfl, rfl, rfl, rfl, rfl, rfl⟩

@[simp] theorem State.setPart_frame (s : State) (t : Nat) (x : Partition) :
    (State.setPart s t x).now = s.now ∧ (State.setPart s t x).tenants = s.tenants ∧
    (State.setPart s t x).ledger = s.ledger ∧ (State.setPart s t x).vault = s.vault ∧
    (State.setPart s t x).stitcher = s.stitcher ∧ (State.setPart s t x).books = s.books ∧
    (State.setPart s t x).banks = s.banks ∧ (State.setPart s t x).retake = s.retake ∧
    (State.setPart s t x).continuity = s.continuity ∧ (State.setPart s t x).movers = s.movers ∧
    (State.setPart s t x).tiers = s.tiers ∧ (State.setPart s t x).services = s.services ∧
    (State.setPart s t x).eyes = s.eyes ∧ (State.setPart s t x).lace = s.lace ∧ (State.setPart s t x).pages = s.pages ∧
    (State.setPart s t x).latches = s.latches ∧ (State.setPart s t x).regs = s.regs ∧ (State.setPart s t x).port = s.port ∧
    (State.setPart s t x).clicker = s.clicker ∧ (State.setPart s t x).peer = s.peer ∧
    (State.setPart s t x).power = s.power ∧ (State.setPart s t x).rst = s.rst ∧ (State.setPart s t x).dbg = s.dbg ∧
    (State.setPart s t x).recorder = s.recorder ∧ (State.setPart s t x).die = s.die ∧ (State.setPart s t x).mem = s.mem ∧
    (State.setPart s t x).out = s.out ∧ (State.setPart s t x).draws = s.draws ∧ (State.setPart s t x).pending = s.pending :=
  ⟨rfl, rfl, rfl, rfl, rfl, rfl, rfl, rfl, rfl, rfl, rfl, rfl, rfl, rfl, rfl, rfl, rfl, rfl, rfl, rfl, rfl, rfl, rfl, rfl, rfl, rfl, rfl, rfl, rfl⟩

@[simp] theorem State.setTransfer_frame (s : State) (i : Nat) (x : Transfer) :
    (State.setTransfer s i x).now = s.now ∧ (State.setTransfer s i x).tenants = s.tenants ∧
    (State.setTransfer s i x).ledger = s.ledger ∧ (State.setTransfer s i x).vault = s.vault ∧
    (State.setTransfer s i x).stitcher = s.stitcher ∧ (State.setTransfer s i x).books = s.books ∧
    (State.setTransfer s i x).banks = s.banks ∧ (State.setTransfer s i x).retake = s.retake ∧
    (State.setTransfer s i x).continuity = s.continuity ∧ (State.setTransfer s i x).tiers = s.tiers ∧
    (State.setTransfer s i x).services = s.services ∧ (State.setTransfer s i x).eyes = s.eyes ∧
    (State.setTransfer s i x).lace = s.lace ∧ (State.setTransfer s i x).pages = s.pages ∧
    (State.setTransfer s i x).latches = s.latches ∧ (State.setTransfer s i x).regs = s.regs ∧
    (State.setTransfer s i x).security = s.security ∧ (State.setTransfer s i x).port = s.port ∧
    (State.setTransfer s i x).clicker = s.clicker ∧ (State.setTransfer s i x).peer = s.peer ∧
    (State.setTransfer s i x).power = s.power ∧ (State.setTransfer s i x).rst = s.rst ∧
    (State.setTransfer s i x).dbg = s.dbg ∧ (State.setTransfer s i x).recorder = s.recorder ∧
    (State.setTransfer s i x).die = s.die ∧ (State.setTransfer s i x).mem = s.mem ∧ (State.setTransfer s i x).out = s.out ∧
    (State.setTransfer s i x).draws = s.draws ∧ (State.setTransfer s i x).pending = s.pending :=
  ⟨rfl, rfl, rfl, rfl, rfl, rfl, rfl, rfl, rfl, rfl, rfl, rfl, rfl, rfl, rfl, rfl, rfl, rfl, rfl, rfl, rfl, rfl, rfl, rfl, rfl, rfl, rfl, rfl, rfl⟩

@[simp] theorem State.dropTransfer_frame (s : State) (i : Nat) :
    (State.dropTransfer s i).now = s.now ∧ (State.dropTransfer s i).tenants = s.tenants ∧
    (State.dropTransfer s i).ledger = s.ledger ∧ (State.dropTransfer s i).vault = s.vault ∧
    (State.dropTransfer s i).stitcher = s.stitcher ∧ (State.dropTransfer s i).books = s.books ∧
    (State.dropTransfer s i).banks = s.banks ∧ (State.dropTransfer s i).retake = s.retake ∧
    (State.dropTransfer s i).continuity = s.continuity ∧ (State.dropTransfer s i).tiers = s.tiers ∧
    (State.dropTransfer s i).services = s.services ∧ (State.dropTransfer s i).eyes = s.eyes ∧
    (State.dropTransfer s i).lace = s.lace ∧ (State.dropTransfer s i).pages = s.pages ∧
    (State.dropTransfer s i).latches = s.latches ∧ (State.dropTransfer s i).regs = s.regs ∧
    (State.dropTransfer s i).security = s.security ∧ (State.dropTransfer s i).port = s.port ∧
    (State.dropTransfer s i).clicker = s.clicker ∧ (State.dropTransfer s i).peer = s.peer ∧
    (State.dropTransfer s i).power = s.power ∧ (State.dropTransfer s i).rst = s.rst ∧
    (State.dropTransfer s i).dbg = s.dbg ∧ (State.dropTransfer s i).recorder = s.recorder ∧
    (State.dropTransfer s i).die = s.die ∧ (State.dropTransfer s i).mem = s.mem ∧ (State.dropTransfer s i).out = s.out ∧
    (State.dropTransfer s i).draws = s.draws ∧ (State.dropTransfer s i).pending = s.pending :=
  ⟨rfl, rfl, rfl, rfl, rfl, rfl, rfl, rfl, rfl, rfl, rfl, rfl, rfl, rfl, rfl, rfl, rfl, rfl, rfl, rfl, rfl, rfl, rfl, rfl, rfl, rfl, rfl, rfl, rfl⟩

@[simp] theorem State.advanceTo_frame (s : State) (t : Nat) :
    (State.advanceTo s t).tenants = s.tenants ∧ (State.advanceTo s t).ledger = s.ledger ∧
    (State.advanceTo s t).vault = s.vault ∧ (State.advanceTo s t).stitcher = s.stitcher ∧
    (State.advanceTo s t).books = s.books ∧ (State.advanceTo s t).banks = s.banks ∧
    (State.advanceTo s t).retake = s.retake ∧ (State.advanceTo s t).continuity = s.continuity ∧
    (State.advanceTo s t).movers = s.movers ∧ (State.advanceTo s t).tiers = s.tiers ∧
    (State.advanceTo s t).services = s.services ∧ (State.advanceTo s t).eyes = s.eyes ∧
    (State.advanceTo s t).lace = s.lace ∧ (State.advanceTo s t).pages = s.pages ∧
    (State.advanceTo s t).latches = s.latches ∧ (State.advanceTo s t).regs = s.regs ∧
    (State.advanceTo s t).security = s.security ∧ (State.advanceTo s t).port = s.port ∧
    (State.advanceTo s t).clicker = s.clicker ∧ (State.advanceTo s t).peer = s.peer ∧
    (State.advanceTo s t).power = s.power ∧ (State.advanceTo s t).rst = s.rst ∧ (State.advanceTo s t).dbg = s.dbg ∧
    (State.advanceTo s t).recorder = s.recorder ∧ (State.advanceTo s t).die = s.die ∧ (State.advanceTo s t).mem = s.mem ∧
    (State.advanceTo s t).out = s.out ∧ (State.advanceTo s t).draws = s.draws ∧ (State.advanceTo s t).pending = s.pending :=
  ⟨rfl, rfl, rfl, rfl, rfl, rfl, rfl, rfl, rfl, rfl, rfl, rfl, rfl, rfl, rfl, rfl, rfl, rfl, rfl, rfl, rfl, rfl, rfl, rfl, rfl, rfl, rfl, rfl, rfl⟩

@[simp] theorem State.draw_frame (s : State) :
    (State.draw s).now = s.now ∧ (State.draw s).tenants = s.tenants ∧ (State.draw s).ledger = s.ledger ∧
    (State.draw s).vault = s.vault ∧ (State.draw s).stitcher = s.stitcher ∧ (State.draw s).books = s.books ∧
    (State.draw s).banks = s.banks ∧ (State.draw s).retake = s.retake ∧ (State.draw s).continuity = s.continuity ∧
    (State.draw s).movers = s.movers ∧ (State.draw s).tiers = s.tiers ∧ (State.draw s).services = s.services ∧
    (State.draw s).eyes = s.eyes ∧ (State.draw s).lace = s.lace ∧ (State.draw s).pages = s.pages ∧
    (State.draw s).latches = s.latches ∧ (State.draw s).regs = s.regs ∧ (State.draw s).security = s.security ∧
    (State.draw s).port = s.port ∧ (State.draw s).clicker = s.clicker ∧ (State.draw s).peer = s.peer ∧
    (State.draw s).power = s.power ∧ (State.draw s).rst = s.rst ∧ (State.draw s).dbg = s.dbg ∧
    (State.draw s).recorder = s.recorder ∧ (State.draw s).die = s.die ∧ (State.draw s).mem = s.mem ∧
    (State.draw s).out = s.out ∧ (State.draw s).pending = s.pending :=
  ⟨rfl, rfl, rfl, rfl, rfl, rfl, rfl, rfl, rfl, rfl, rfl, rfl, rfl, rfl, rfl, rfl, rfl, rfl, rfl, rfl, rfl, rfl, rfl, rfl, rfl, rfl, rfl, rfl, rfl⟩

@[simp] theorem State.outCompletion_frame (s : State) (c : Completion) :
    (State.outCompletion s c).now = s.now ∧ (State.outCompletion s c).tenants = s.tenants ∧
    (State.outCompletion s c).ledger = s.ledger ∧ (State.outCompletion s c).vault = s.vault ∧
    (State.outCompletion s c).stitcher = s.stitcher ∧ (State.outCompletion s c).books = s.books ∧
    (State.outCompletion s c).banks = s.banks ∧ (State.outCompletion s c).retake = s.retake ∧
    (State.outCompletion s c).continuity = s.continuity ∧ (State.outCompletion s c).movers = s.movers ∧
    (State.outCompletion s c).tiers = s.tiers ∧ (State.outCompletion s c).services = s.services ∧
    (State.outCompletion s c).eyes = s.eyes ∧ (State.outCompletion s c).lace = s.lace ∧
    (State.outCompletion s c).pages = s.pages ∧ (State.outCompletion s c).latches = s.latches ∧
    (State.outCompletion s c).regs = s.regs ∧ (State.outCompletion s c).security = s.security ∧
    (State.outCompletion s c).port = s.port ∧ (State.outCompletion s c).clicker = s.clicker ∧
    (State.outCompletion s c).peer = s.peer ∧ (State.outCompletion s c).power = s.power ∧
    (State.outCompletion s c).rst = s.rst ∧ (State.outCompletion s c).dbg = s.dbg ∧
    (State.outCompletion s c).recorder = s.recorder ∧ (State.outCompletion s c).die = s.die ∧
    (State.outCompletion s c).mem = s.mem ∧ (State.outCompletion s c).draws = s.draws ∧
    (State.outCompletion s c).pending = s.pending :=
  ⟨rfl, rfl, rfl, rfl, rfl, rfl, rfl, rfl, rfl, rfl, rfl, rfl, rfl, rfl, rfl, rfl, rfl, rfl, rfl, rfl, rfl, rfl, rfl, rfl, rfl, rfl, rfl, rfl, rfl⟩

@[simp] theorem State.outBeats_frame (s : State) (b : Beats) :
    (State.outBeats s b).now = s.now ∧ (State.outBeats s b).tenants = s.tenants ∧ (State.outBeats s b).ledger = s.ledger ∧
    (State.outBeats s b).vault = s.vault ∧ (State.outBeats s b).stitcher = s.stitcher ∧
    (State.outBeats s b).books = s.books ∧ (State.outBeats s b).banks = s.banks ∧ (State.outBeats s b).retake = s.retake ∧
    (State.outBeats s b).continuity = s.continuity ∧ (State.outBeats s b).movers = s.movers ∧
    (State.outBeats s b).tiers = s.tiers ∧ (State.outBeats s b).services = s.services ∧
    (State.outBeats s b).eyes = s.eyes ∧ (State.outBeats s b).lace = s.lace ∧ (State.outBeats s b).pages = s.pages ∧
    (State.outBeats s b).latches = s.latches ∧ (State.outBeats s b).regs = s.regs ∧
    (State.outBeats s b).security = s.security ∧ (State.outBeats s b).port = s.port ∧
    (State.outBeats s b).clicker = s.clicker ∧ (State.outBeats s b).peer = s.peer ∧ (State.outBeats s b).power = s.power ∧
    (State.outBeats s b).rst = s.rst ∧ (State.outBeats s b).dbg = s.dbg ∧ (State.outBeats s b).recorder = s.recorder ∧
    (State.outBeats s b).die = s.die ∧ (State.outBeats s b).mem = s.mem ∧ (State.outBeats s b).draws = s.draws ∧
    (State.outBeats s b).pending = s.pending :=
  ⟨rfl, rfl, rfl, rfl, rfl, rfl, rfl, rfl, rfl, rfl, rfl, rfl, rfl, rfl, rfl, rfl, rfl, rfl, rfl, rfl, rfl, rfl, rfl, rfl, rfl, rfl, rfl, rfl, rfl⟩

@[simp] theorem State.outPower_frame (s : State) (m : Nat) :
    (State.outPower s m).now = s.now ∧ (State.outPower s m).tenants = s.tenants ∧ (State.outPower s m).ledger = s.ledger ∧
    (State.outPower s m).vault = s.vault ∧ (State.outPower s m).stitcher = s.stitcher ∧
    (State.outPower s m).books = s.books ∧ (State.outPower s m).banks = s.banks ∧ (State.outPower s m).retake = s.retake ∧
    (State.outPower s m).continuity = s.continuity ∧ (State.outPower s m).movers = s.movers ∧
    (State.outPower s m).tiers = s.tiers ∧ (State.outPower s m).services = s.services ∧
    (State.outPower s m).eyes = s.eyes ∧ (State.outPower s m).lace = s.lace ∧ (State.outPower s m).pages = s.pages ∧
    (State.outPower s m).latches = s.latches ∧ (State.outPower s m).regs = s.regs ∧
    (State.outPower s m).security = s.security ∧ (State.outPower s m).port = s.port ∧
    (State.outPower s m).clicker = s.clicker ∧ (State.outPower s m).peer = s.peer ∧
    (State.outPower s m).rst = s.rst ∧ (State.outPower s m).dbg = s.dbg ∧ (State.outPower s m).recorder = s.recorder ∧
    (State.outPower s m).die = s.die ∧ (State.outPower s m).mem = s.mem ∧ (State.outPower s m).draws = s.draws ∧
    (State.outPower s m).pending = s.pending :=
  ⟨rfl, rfl, rfl, rfl, rfl, rfl, rfl, rfl, rfl, rfl, rfl, rfl, rfl, rfl, rfl, rfl, rfl, rfl, rfl, rfl, rfl, rfl, rfl, rfl, rfl, rfl, rfl, rfl⟩

@[simp] theorem State.outRead_frame (s : State) (p : Port) (a : Nat) (v : Word) :
    (State.outRead s p a v).now = s.now ∧ (State.outRead s p a v).tenants = s.tenants ∧
    (State.outRead s p a v).ledger = s.ledger ∧ (State.outRead s p a v).vault = s.vault ∧
    (State.outRead s p a v).stitcher = s.stitcher ∧ (State.outRead s p a v).books = s.books ∧
    (State.outRead s p a v).banks = s.banks ∧ (State.outRead s p a v).retake = s.retake ∧
    (State.outRead s p a v).continuity = s.continuity ∧ (State.outRead s p a v).movers = s.movers ∧
    (State.outRead s p a v).tiers = s.tiers ∧ (State.outRead s p a v).services = s.services ∧
    (State.outRead s p a v).eyes = s.eyes ∧ (State.outRead s p a v).lace = s.lace ∧
    (State.outRead s p a v).pages = s.pages ∧ (State.outRead s p a v).latches = s.latches ∧
    (State.outRead s p a v).regs = s.regs ∧ (State.outRead s p a v).security = s.security ∧
    (State.outRead s p a v).port = s.port ∧ (State.outRead s p a v).clicker = s.clicker ∧
    (State.outRead s p a v).peer = s.peer ∧ (State.outRead s p a v).power = s.power ∧ (State.outRead s p a v).rst = s.rst ∧
    (State.outRead s p a v).dbg = s.dbg ∧ (State.outRead s p a v).recorder = s.recorder ∧
    (State.outRead s p a v).die = s.die ∧ (State.outRead s p a v).mem = s.mem ∧ (State.outRead s p a v).draws = s.draws ∧
    (State.outRead s p a v).pending = s.pending :=
  ⟨rfl, rfl, rfl, rfl, rfl, rfl, rfl, rfl, rfl, rfl, rfl, rfl, rfl, rfl, rfl, rfl, rfl, rfl, rfl, rfl, rfl, rfl, rfl, rfl, rfl, rfl, rfl, rfl, rfl⟩

@[simp] theorem State.outAnswer_frame (s : State) (a : PeerAnswer) :
    (State.outAnswer s a).now = s.now ∧ (State.outAnswer s a).tenants = s.tenants ∧
    (State.outAnswer s a).ledger = s.ledger ∧ (State.outAnswer s a).vault = s.vault ∧
    (State.outAnswer s a).stitcher = s.stitcher ∧ (State.outAnswer s a).books = s.books ∧
    (State.outAnswer s a).banks = s.banks ∧ (State.outAnswer s a).retake = s.retake ∧
    (State.outAnswer s a).continuity = s.continuity ∧ (State.outAnswer s a).movers = s.movers ∧
    (State.outAnswer s a).tiers = s.tiers ∧ (State.outAnswer s a).services = s.services ∧
    (State.outAnswer s a).eyes = s.eyes ∧ (State.outAnswer s a).lace = s.lace ∧ (State.outAnswer s a).pages = s.pages ∧
    (State.outAnswer s a).latches = s.latches ∧ (State.outAnswer s a).regs = s.regs ∧
    (State.outAnswer s a).security = s.security ∧ (State.outAnswer s a).port = s.port ∧
    (State.outAnswer s a).clicker = s.clicker ∧ (State.outAnswer s a).peer = s.peer ∧
    (State.outAnswer s a).power = s.power ∧ (State.outAnswer s a).rst = s.rst ∧ (State.outAnswer s a).dbg = s.dbg ∧
    (State.outAnswer s a).recorder = s.recorder ∧ (State.outAnswer s a).die = s.die ∧ (State.outAnswer s a).mem = s.mem ∧
    (State.outAnswer s a).draws = s.draws ∧ (State.outAnswer s a).pending = s.pending :=
  ⟨rfl, rfl, rfl, rfl, rfl, rfl, rfl, rfl, rfl, rfl, rfl, rfl, rfl, rfl, rfl, rfl, rfl, rfl, rfl, rfl, rfl, rfl, rfl, rfl, rfl, rfl, rfl, rfl, rfl⟩

@[simp] theorem State.outDescriptor_frame (s : State) (q : Nat) (bs : List Byte) :
    (State.outDescriptor s q bs).now = s.now ∧ (State.outDescriptor s q bs).tenants = s.tenants ∧
    (State.outDescriptor s q bs).ledger = s.ledger ∧ (State.outDescriptor s q bs).vault = s.vault ∧
    (State.outDescriptor s q bs).stitcher = s.stitcher ∧ (State.outDescriptor s q bs).books = s.books ∧
    (State.outDescriptor s q bs).banks = s.banks ∧ (State.outDescriptor s q bs).retake = s.retake ∧
    (State.outDescriptor s q bs).continuity = s.continuity ∧ (State.outDescriptor s q bs).movers = s.movers ∧
    (State.outDescriptor s q bs).tiers = s.tiers ∧ (State.outDescriptor s q bs).services = s.services ∧
    (State.outDescriptor s q bs).eyes = s.eyes ∧ (State.outDescriptor s q bs).lace = s.lace ∧
    (State.outDescriptor s q bs).pages = s.pages ∧ (State.outDescriptor s q bs).latches = s.latches ∧
    (State.outDescriptor s q bs).regs = s.regs ∧ (State.outDescriptor s q bs).security = s.security ∧
    (State.outDescriptor s q bs).port = s.port ∧ (State.outDescriptor s q bs).clicker = s.clicker ∧
    (State.outDescriptor s q bs).peer = s.peer ∧ (State.outDescriptor s q bs).power = s.power ∧
    (State.outDescriptor s q bs).rst = s.rst ∧ (State.outDescriptor s q bs).dbg = s.dbg ∧
    (State.outDescriptor s q bs).recorder = s.recorder ∧ (State.outDescriptor s q bs).die = s.die ∧
    (State.outDescriptor s q bs).mem = s.mem ∧ (State.outDescriptor s q bs).draws = s.draws ∧
    (State.outDescriptor s q bs).pending = s.pending :=
  ⟨rfl, rfl, rfl, rfl, rfl, rfl, rfl, rfl, rfl, rfl, rfl, rfl, rfl, rfl, rfl, rfl, rfl, rfl, rfl, rfl, rfl, rfl, rfl, rfl, rfl, rfl, rfl, rfl, rfl⟩

@[simp] theorem State.outPeerOp_frame (s : State) (o : PeerOp) :
    (State.outPeerOp s o).now = s.now ∧ (State.outPeerOp s o).tenants = s.tenants ∧
    (State.outPeerOp s o).ledger = s.ledger ∧ (State.outPeerOp s o).vault = s.vault ∧
    (State.outPeerOp s o).stitcher = s.stitcher ∧ (State.outPeerOp s o).books = s.books ∧
    (State.outPeerOp s o).banks = s.banks ∧ (State.outPeerOp s o).retake = s.retake ∧
    (State.outPeerOp s o).continuity = s.continuity ∧ (State.outPeerOp s o).movers = s.movers ∧
    (State.outPeerOp s o).tiers = s.tiers ∧ (State.outPeerOp s o).services = s.services ∧
    (State.outPeerOp s o).eyes = s.eyes ∧ (State.outPeerOp s o).lace = s.lace ∧ (State.outPeerOp s o).pages = s.pages ∧
    (State.outPeerOp s o).latches = s.latches ∧ (State.outPeerOp s o).regs = s.regs ∧
    (State.outPeerOp s o).security = s.security ∧ (State.outPeerOp s o).port = s.port ∧
    (State.outPeerOp s o).clicker = s.clicker ∧ (State.outPeerOp s o).peer = s.peer ∧
    (State.outPeerOp s o).power = s.power ∧ (State.outPeerOp s o).rst = s.rst ∧ (State.outPeerOp s o).dbg = s.dbg ∧
    (State.outPeerOp s o).recorder = s.recorder ∧ (State.outPeerOp s o).die = s.die ∧ (State.outPeerOp s o).mem = s.mem ∧
    (State.outPeerOp s o).draws = s.draws ∧ (State.outPeerOp s o).pending = s.pending :=
  ⟨rfl, rfl, rfl, rfl, rfl, rfl, rfl, rfl, rfl, rfl, rfl, rfl, rfl, rfl, rfl, rfl, rfl, rfl, rfl, rfl, rfl, rfl, rfl, rfl, rfl, rfl, rfl, rfl, rfl⟩

@[simp] theorem State.outErrors_frame (s : State) (n : Nat) :
    (State.outErrors s n).now = s.now ∧ (State.outErrors s n).tenants = s.tenants ∧
    (State.outErrors s n).ledger = s.ledger ∧ (State.outErrors s n).vault = s.vault ∧
    (State.outErrors s n).stitcher = s.stitcher ∧ (State.outErrors s n).books = s.books ∧
    (State.outErrors s n).banks = s.banks ∧ (State.outErrors s n).retake = s.retake ∧
    (State.outErrors s n).continuity = s.continuity ∧ (State.outErrors s n).movers = s.movers ∧
    (State.outErrors s n).tiers = s.tiers ∧ (State.outErrors s n).services = s.services ∧
    (State.outErrors s n).eyes = s.eyes ∧ (State.outErrors s n).lace = s.lace ∧ (State.outErrors s n).pages = s.pages ∧
    (State.outErrors s n).latches = s.latches ∧ (State.outErrors s n).regs = s.regs ∧
    (State.outErrors s n).security = s.security ∧ (State.outErrors s n).port = s.port ∧
    (State.outErrors s n).clicker = s.clicker ∧ (State.outErrors s n).peer = s.peer ∧
    (State.outErrors s n).power = s.power ∧ (State.outErrors s n).rst = s.rst ∧ (State.outErrors s n).dbg = s.dbg ∧
    (State.outErrors s n).recorder = s.recorder ∧ (State.outErrors s n).die = s.die ∧ (State.outErrors s n).mem = s.mem ∧
    (State.outErrors s n).draws = s.draws ∧ (State.outErrors s n).pending = s.pending :=
  ⟨rfl, rfl, rfl, rfl, rfl, rfl, rfl, rfl, rfl, rfl, rfl, rfl, rfl, rfl, rfl, rfl, rfl, rfl, rfl, rfl, rfl, rfl, rfl, rfl, rfl, rfl, rfl, rfl, rfl⟩

@[simp] theorem State.outError_frame (s : State) :
    (State.outError s).now = s.now ∧ (State.outError s).tenants = s.tenants ∧ (State.outError s).ledger = s.ledger ∧
    (State.outError s).vault = s.vault ∧ (State.outError s).stitcher = s.stitcher ∧ (State.outError s).books = s.books ∧
    (State.outError s).banks = s.banks ∧ (State.outError s).retake = s.retake ∧
    (State.outError s).continuity = s.continuity ∧ (State.outError s).movers = s.movers ∧
    (State.outError s).tiers = s.tiers ∧ (State.outError s).services = s.services ∧ (State.outError s).eyes = s.eyes ∧
    (State.outError s).lace = s.lace ∧ (State.outError s).pages = s.pages ∧ (State.outError s).latches = s.latches ∧
    (State.outError s).regs = s.regs ∧ (State.outError s).security = s.security ∧ (State.outError s).port = s.port ∧
    (State.outError s).clicker = s.clicker ∧ (State.outError s).peer = s.peer ∧ (State.outError s).power = s.power ∧
    (State.outError s).rst = s.rst ∧ (State.outError s).dbg = s.dbg ∧ (State.outError s).recorder = s.recorder ∧
    (State.outError s).die = s.die ∧ (State.outError s).mem = s.mem ∧ (State.outError s).draws = s.draws ∧
    (State.outError s).pending = s.pending :=
  ⟨rfl, rfl, rfl, rfl, rfl, rfl, rfl, rfl, rfl, rfl, rfl, rfl, rfl, rfl, rfl, rfl, rfl, rfl, rfl, rfl, rfl, rfl, rfl, rfl, rfl, rfl, rfl, rfl, rfl⟩

@[simp] theorem State.outRetireAck_frame (s : State) (a : Nat) :
    (State.outRetireAck s a).now = s.now ∧ (State.outRetireAck s a).tenants = s.tenants ∧
    (State.outRetireAck s a).ledger = s.ledger ∧ (State.outRetireAck s a).vault = s.vault ∧
    (State.outRetireAck s a).stitcher = s.stitcher ∧ (State.outRetireAck s a).books = s.books ∧
    (State.outRetireAck s a).banks = s.banks ∧ (State.outRetireAck s a).retake = s.retake ∧
    (State.outRetireAck s a).continuity = s.continuity ∧ (State.outRetireAck s a).movers = s.movers ∧
    (State.outRetireAck s a).tiers = s.tiers ∧ (State.outRetireAck s a).services = s.services ∧
    (State.outRetireAck s a).eyes = s.eyes ∧ (State.outRetireAck s a).lace = s.lace ∧
    (State.outRetireAck s a).pages = s.pages ∧ (State.outRetireAck s a).latches = s.latches ∧
    (State.outRetireAck s a).regs = s.regs ∧ (State.outRetireAck s a).security = s.security ∧
    (State.outRetireAck s a).port = s.port ∧ (State.outRetireAck s a).clicker = s.clicker ∧
    (State.outRetireAck s a).peer = s.peer ∧ (State.outRetireAck s a).power = s.power ∧
    (State.outRetireAck s a).rst = s.rst ∧ (State.outRetireAck s a).dbg = s.dbg ∧
    (State.outRetireAck s a).recorder = s.recorder ∧ (State.outRetireAck s a).die = s.die ∧
    (State.outRetireAck s a).mem = s.mem ∧ (State.outRetireAck s a).draws = s.draws ∧
    (State.outRetireAck s a).pending = s.pending :=
  ⟨rfl, rfl, rfl, rfl, rfl, rfl, rfl, rfl, rfl, rfl, rfl, rfl, rfl, rfl, rfl, rfl, rfl, rfl, rfl, rfl, rfl, rfl, rfl, rfl, rfl, rfl, rfl, rfl, rfl⟩

@[simp] theorem State.noteIrq_frame (s : State) (was0 was1 : Bool) :
    (State.noteIrq s was0 was1).now = s.now ∧ (State.noteIrq s was0 was1).tenants = s.tenants ∧
    (State.noteIrq s was0 was1).ledger = s.ledger ∧ (State.noteIrq s was0 was1).vault = s.vault ∧
    (State.noteIrq s was0 was1).stitcher = s.stitcher ∧ (State.noteIrq s was0 was1).books = s.books ∧
    (State.noteIrq s was0 was1).banks = s.banks ∧ (State.noteIrq s was0 was1).retake = s.retake ∧
    (State.noteIrq s was0 was1).continuity = s.continuity ∧ (State.noteIrq s was0 was1).movers = s.movers ∧
    (State.noteIrq s was0 was1).tiers = s.tiers ∧ (State.noteIrq s was0 was1).services = s.services ∧
    (State.noteIrq s was0 was1).eyes = s.eyes ∧ (State.noteIrq s was0 was1).lace = s.lace ∧
    (State.noteIrq s was0 was1).pages = s.pages ∧ (State.noteIrq s was0 was1).latches = s.latches ∧
    (State.noteIrq s was0 was1).regs = s.regs ∧ (State.noteIrq s was0 was1).security = s.security ∧
    (State.noteIrq s was0 was1).port = s.port ∧ (State.noteIrq s was0 was1).clicker = s.clicker ∧
    (State.noteIrq s was0 was1).peer = s.peer ∧ (State.noteIrq s was0 was1).power = s.power ∧
    (State.noteIrq s was0 was1).rst = s.rst ∧ (State.noteIrq s was0 was1).dbg = s.dbg ∧
    (State.noteIrq s was0 was1).recorder = s.recorder ∧ (State.noteIrq s was0 was1).die = s.die ∧
    (State.noteIrq s was0 was1).mem = s.mem ∧ (State.noteIrq s was0 was1).draws = s.draws ∧
    (State.noteIrq s was0 was1).pending = s.pending :=
  ⟨rfl, rfl, rfl, rfl, rfl, rfl, rfl, rfl, rfl, rfl, rfl, rfl, rfl, rfl, rfl, rfl, rfl, rfl, rfl, rfl, rfl, rfl, rfl, rfl, rfl, rfl, rfl, rfl, rfl⟩

@[simp] theorem State.irqPage_frame (s : State) (p : Nat) (f : Page → Page) :
    (State.irqPage s p f).now = s.now ∧ (State.irqPage s p f).tenants = s.tenants ∧
    (State.irqPage s p f).ledger = s.ledger ∧ (State.irqPage s p f).vault = s.vault ∧
    (State.irqPage s p f).stitcher = s.stitcher ∧ (State.irqPage s p f).books = s.books ∧
    (State.irqPage s p f).banks = s.banks ∧ (State.irqPage s p f).retake = s.retake ∧
    (State.irqPage s p f).continuity = s.continuity ∧ (State.irqPage s p f).movers = s.movers ∧
    (State.irqPage s p f).tiers = s.tiers ∧ (State.irqPage s p f).services = s.services ∧
    (State.irqPage s p f).eyes = s.eyes ∧ (State.irqPage s p f).lace = s.lace ∧ (State.irqPage s p f).latches = s.latches ∧
    (State.irqPage s p f).regs = s.regs ∧ (State.irqPage s p f).security = s.security ∧
    (State.irqPage s p f).port = s.port ∧ (State.irqPage s p f).clicker = s.clicker ∧ (State.irqPage s p f).peer = s.peer ∧
    (State.irqPage s p f).power = s.power ∧ (State.irqPage s p f).rst = s.rst ∧ (State.irqPage s p f).dbg = s.dbg ∧
    (State.irqPage s p f).recorder = s.recorder ∧ (State.irqPage s p f).die = s.die ∧ (State.irqPage s p f).mem = s.mem ∧
    (State.irqPage s p f).draws = s.draws ∧ (State.irqPage s p f).pending = s.pending :=
  ⟨rfl, rfl, rfl, rfl, rfl, rfl, rfl, rfl, rfl, rfl, rfl, rfl, rfl, rfl, rfl, rfl, rfl, rfl, rfl, rfl, rfl, rfl, rfl, rfl, rfl, rfl, rfl, rfl⟩

@[simp] theorem State.raise_frame (s : State) (p : Nat) (bits : Nat) :
    (State.raise s p bits).now = s.now ∧ (State.raise s p bits).tenants = s.tenants ∧
    (State.raise s p bits).ledger = s.ledger ∧ (State.raise s p bits).vault = s.vault ∧
    (State.raise s p bits).stitcher = s.stitcher ∧ (State.raise s p bits).books = s.books ∧
    (State.raise s p bits).banks = s.banks ∧ (State.raise s p bits).retake = s.retake ∧
    (State.raise s p bits).continuity = s.continuity ∧ (State.raise s p bits).movers = s.movers ∧
    (State.raise s p bits).tiers = s.tiers ∧ (State.raise s p bits).services = s.services ∧
    (State.raise s p bits).eyes = s.eyes ∧ (State.raise s p bits).lace = s.lace ∧
    (State.raise s p bits).latches = s.latches ∧ (State.raise s p bits).regs = s.regs ∧
    (State.raise s p bits).security = s.security ∧ (State.raise s p bits).port = s.port ∧
    (State.raise s p bits).clicker = s.clicker ∧ (State.raise s p bits).peer = s.peer ∧
    (State.raise s p bits).power = s.power ∧ (State.raise s p bits).rst = s.rst ∧ (State.raise s p bits).dbg = s.dbg ∧
    (State.raise s p bits).recorder = s.recorder ∧ (State.raise s p bits).die = s.die ∧
    (State.raise s p bits).mem = s.mem ∧ (State.raise s p bits).draws = s.draws ∧ (State.raise s p bits).pending = s.pending :=
  ⟨rfl, rfl, rfl, rfl, rfl, rfl, rfl, rfl, rfl, rfl, rfl, rfl, rfl, rfl, rfl, rfl, rfl, rfl, rfl, rfl, rfl, rfl, rfl, rfl, rfl, rfl, rfl, rfl⟩

@[simp] theorem State.pageError_frame (s : State) (p : Nat) (synd : Word) (addr : Nat) :
    (State.pageError s p synd addr).now = s.now ∧ (State.pageError s p synd addr).tenants = s.tenants ∧
    (State.pageError s p synd addr).ledger = s.ledger ∧ (State.pageError s p synd addr).vault = s.vault ∧
    (State.pageError s p synd addr).stitcher = s.stitcher ∧ (State.pageError s p synd addr).books = s.books ∧
    (State.pageError s p synd addr).banks = s.banks ∧ (State.pageError s p synd addr).retake = s.retake ∧
    (State.pageError s p synd addr).continuity = s.continuity ∧ (State.pageError s p synd addr).movers = s.movers ∧
    (State.pageError s p synd addr).tiers = s.tiers ∧ (State.pageError s p synd addr).services = s.services ∧
    (State.pageError s p synd addr).eyes = s.eyes ∧ (State.pageError s p synd addr).lace = s.lace ∧
    (State.pageError s p synd addr).latches = s.latches ∧ (State.pageError s p synd addr).regs = s.regs ∧
    (State.pageError s p synd addr).security = s.security ∧ (State.pageError s p synd addr).port = s.port ∧
    (State.pageError s p synd addr).clicker = s.clicker ∧ (State.pageError s p synd addr).peer = s.peer ∧
    (State.pageError s p synd addr).power = s.power ∧ (State.pageError s p synd addr).rst = s.rst ∧
    (State.pageError s p synd addr).dbg = s.dbg ∧ (State.pageError s p synd addr).recorder = s.recorder ∧
    (State.pageError s p synd addr).die = s.die ∧ (State.pageError s p synd addr).mem = s.mem ∧
    (State.pageError s p synd addr).out = s.out ∧ (State.pageError s p synd addr).draws = s.draws ∧
    (State.pageError s p synd addr).pending = s.pending :=
  ⟨rfl, rfl, rfl, rfl, rfl, rfl, rfl, rfl, rfl, rfl, rfl, rfl, rfl, rfl, rfl, rfl, rfl, rfl, rfl, rfl, rfl, rfl, rfl, rfl, rfl, rfl, rfl, rfl, rfl⟩

@[simp] theorem State.takeRec_frame (s : State) (x : Rec) :
    (State.takeRec s x).now = s.now ∧ (State.takeRec s x).tenants = s.tenants ∧ (State.takeRec s x).ledger = s.ledger ∧
    (State.takeRec s x).vault = s.vault ∧ (State.takeRec s x).stitcher = s.stitcher ∧ (State.takeRec s x).books = s.books ∧
    (State.takeRec s x).banks = s.banks ∧ (State.takeRec s x).retake = s.retake ∧
    (State.takeRec s x).continuity = s.continuity ∧ (State.takeRec s x).movers = s.movers ∧
    (State.takeRec s x).tiers = s.tiers ∧ (State.takeRec s x).services = s.services ∧ (State.takeRec s x).eyes = s.eyes ∧
    (State.takeRec s x).lace = s.lace ∧ (State.takeRec s x).pages = s.pages ∧ (State.takeRec s x).latches = s.latches ∧
    (State.takeRec s x).security = s.security ∧ (State.takeRec s x).port = s.port ∧
    (State.takeRec s x).clicker = s.clicker ∧ (State.takeRec s x).peer = s.peer ∧ (State.takeRec s x).power = s.power ∧
    (State.takeRec s x).rst = s.rst ∧ (State.takeRec s x).dbg = s.dbg ∧ (State.takeRec s x).die = s.die ∧
    (State.takeRec s x).mem = s.mem ∧ (State.takeRec s x).out = s.out ∧ (State.takeRec s x).draws = s.draws ∧
    (State.takeRec s x).pending = s.pending :=
  ⟨rfl, rfl, rfl, rfl, rfl, rfl, rfl, rfl, rfl, rfl, rfl, rfl, rfl, rfl, rfl, rfl, rfl, rfl, rfl, rfl, rfl, rfl, rfl, rfl, rfl, rfl, rfl, rfl⟩

@[simp] theorem State.raiseEvent_frame (s : State) (e : Event) :
    (State.raiseEvent s e).now = s.now ∧ (State.raiseEvent s e).tenants = s.tenants ∧
    (State.raiseEvent s e).ledger = s.ledger ∧ (State.raiseEvent s e).vault = s.vault ∧
    (State.raiseEvent s e).stitcher = s.stitcher ∧ (State.raiseEvent s e).books = s.books ∧
    (State.raiseEvent s e).banks = s.banks ∧ (State.raiseEvent s e).retake = s.retake ∧
    (State.raiseEvent s e).continuity = s.continuity ∧ (State.raiseEvent s e).movers = s.movers ∧
    (State.raiseEvent s e).tiers = s.tiers ∧ (State.raiseEvent s e).services = s.services ∧
    (State.raiseEvent s e).eyes = s.eyes ∧ (State.raiseEvent s e).lace = s.lace ∧ (State.raiseEvent s e).pages = s.pages ∧
    (State.raiseEvent s e).latches = s.latches ∧ (State.raiseEvent s e).regs = s.regs ∧
    (State.raiseEvent s e).security = s.security ∧ (State.raiseEvent s e).port = s.port ∧
    (State.raiseEvent s e).clicker = s.clicker ∧ (State.raiseEvent s e).peer = s.peer ∧
    (State.raiseEvent s e).power = s.power ∧ (State.raiseEvent s e).rst = s.rst ∧ (State.raiseEvent s e).dbg = s.dbg ∧
    (State.raiseEvent s e).die = s.die ∧ (State.raiseEvent s e).mem = s.mem ∧ (State.raiseEvent s e).out = s.out ∧
    (State.raiseEvent s e).draws = s.draws ∧ (State.raiseEvent s e).pending = s.pending :=
  ⟨rfl, rfl, rfl, rfl, rfl, rfl, rfl, rfl, rfl, rfl, rfl, rfl, rfl, rfl, rfl, rfl, rfl, rfl, rfl, rfl, rfl, rfl, rfl, rfl, rfl, rfl, rfl, rfl, rfl⟩

@[simp] theorem State.setPower_frame (s : State) (f : PowerUnit → PowerUnit) :
    (State.setPower s f).now = s.now ∧ (State.setPower s f).tenants = s.tenants ∧ (State.setPower s f).ledger = s.ledger ∧
    (State.setPower s f).vault = s.vault ∧ (State.setPower s f).stitcher = s.stitcher ∧
    (State.setPower s f).books = s.books ∧ (State.setPower s f).banks = s.banks ∧ (State.setPower s f).retake = s.retake ∧
    (State.setPower s f).continuity = s.continuity ∧ (State.setPower s f).movers = s.movers ∧
    (State.setPower s f).tiers = s.tiers ∧ (State.setPower s f).services = s.services ∧
    (State.setPower s f).eyes = s.eyes ∧ (State.setPower s f).lace = s.lace ∧ (State.setPower s f).pages = s.pages ∧
    (State.setPower s f).latches = s.latches ∧ (State.setPower s f).regs = s.regs ∧
    (State.setPower s f).security = s.security ∧ (State.setPower s f).port = s.port ∧
    (State.setPower s f).clicker = s.clicker ∧ (State.setPower s f).peer = s.peer ∧ (State.setPower s f).rst = s.rst ∧
    (State.setPower s f).dbg = s.dbg ∧ (State.setPower s f).recorder = s.recorder ∧ (State.setPower s f).die = s.die ∧
    (State.setPower s f).mem = s.mem ∧ (State.setPower s f).out = s.out ∧ (State.setPower s f).draws = s.draws ∧
    (State.setPower s f).pending = s.pending :=
  ⟨rfl, rfl, rfl, rfl, rfl, rfl, rfl, rfl, rfl, rfl, rfl, rfl, rfl, rfl, rfl, rfl, rfl, rfl, rfl, rfl, rfl, rfl, rfl, rfl, rfl, rfl, rfl, rfl, rfl⟩

@[simp] theorem State.setRst_frame (s : State) (f : ResetUnit → ResetUnit) :
    (State.setRst s f).now = s.now ∧ (State.setRst s f).tenants = s.tenants ∧ (State.setRst s f).ledger = s.ledger ∧
    (State.setRst s f).vault = s.vault ∧ (State.setRst s f).stitcher = s.stitcher ∧ (State.setRst s f).books = s.books ∧
    (State.setRst s f).banks = s.banks ∧ (State.setRst s f).retake = s.retake ∧
    (State.setRst s f).continuity = s.continuity ∧ (State.setRst s f).movers = s.movers ∧
    (State.setRst s f).tiers = s.tiers ∧ (State.setRst s f).services = s.services ∧ (State.setRst s f).eyes = s.eyes ∧
    (State.setRst s f).lace = s.lace ∧ (State.setRst s f).pages = s.pages ∧ (State.setRst s f).latches = s.latches ∧
    (State.setRst s f).regs = s.regs ∧ (State.setRst s f).security = s.security ∧ (State.setRst s f).port = s.port ∧
    (State.setRst s f).clicker = s.clicker ∧ (State.setRst s f).peer = s.peer ∧ (State.setRst s f).power = s.power ∧
    (State.setRst s f).dbg = s.dbg ∧ (State.setRst s f).recorder = s.recorder ∧ (State.setRst s f).die = s.die ∧
    (State.setRst s f).mem = s.mem ∧ (State.setRst s f).out = s.out ∧ (State.setRst s f).draws = s.draws ∧
    (State.setRst s f).pending = s.pending :=
  ⟨rfl, rfl, rfl, rfl, rfl, rfl, rfl, rfl, rfl, rfl, rfl, rfl, rfl, rfl, rfl, rfl, rfl, rfl, rfl, rfl, rfl, rfl, rfl, rfl, rfl, rfl, rfl, rfl, rfl⟩

@[simp] theorem State.setDebug_frame (s : State) (f : Debug → Debug) :
    (State.setDebug s f).now = s.now ∧ (State.setDebug s f).tenants = s.tenants ∧ (State.setDebug s f).ledger = s.ledger ∧
    (State.setDebug s f).vault = s.vault ∧ (State.setDebug s f).stitcher = s.stitcher ∧
    (State.setDebug s f).books = s.books ∧ (State.setDebug s f).banks = s.banks ∧ (State.setDebug s f).retake = s.retake ∧
    (State.setDebug s f).continuity = s.continuity ∧ (State.setDebug s f).movers = s.movers ∧
    (State.setDebug s f).tiers = s.tiers ∧ (State.setDebug s f).services = s.services ∧
    (State.setDebug s f).eyes = s.eyes ∧ (State.setDebug s f).lace = s.lace ∧ (State.setDebug s f).pages = s.pages ∧
    (State.setDebug s f).latches = s.latches ∧ (State.setDebug s f).regs = s.regs ∧
    (State.setDebug s f).security = s.security ∧ (State.setDebug s f).port = s.port ∧
    (State.setDebug s f).clicker = s.clicker ∧ (State.setDebug s f).peer = s.peer ∧ (State.setDebug s f).power = s.power ∧
    (State.setDebug s f).rst = s.rst ∧ (State.setDebug s f).recorder = s.recorder ∧ (State.setDebug s f).die = s.die ∧
    (State.setDebug s f).mem = s.mem ∧ (State.setDebug s f).out = s.out ∧ (State.setDebug s f).draws = s.draws ∧
    (State.setDebug s f).pending = s.pending :=
  ⟨rfl, rfl, rfl, rfl, rfl, rfl, rfl, rfl, rfl, rfl, rfl, rfl, rfl, rfl, rfl, rfl, rfl, rfl, rfl, rfl, rfl, rfl, rfl, rfl, rfl, rfl, rfl, rfl, rfl⟩

@[simp] theorem State.setRecorder_frame (s : State) (f : Recorder → Recorder) :
    (State.setRecorder s f).now = s.now ∧ (State.setRecorder s f).tenants = s.tenants ∧
    (State.setRecorder s f).ledger = s.ledger ∧ (State.setRecorder s f).vault = s.vault ∧
    (State.setRecorder s f).stitcher = s.stitcher ∧ (State.setRecorder s f).books = s.books ∧
    (State.setRecorder s f).banks = s.banks ∧ (State.setRecorder s f).retake = s.retake ∧
    (State.setRecorder s f).continuity = s.continuity ∧ (State.setRecorder s f).movers = s.movers ∧
    (State.setRecorder s f).tiers = s.tiers ∧ (State.setRecorder s f).services = s.services ∧
    (State.setRecorder s f).eyes = s.eyes ∧ (State.setRecorder s f).lace = s.lace ∧
    (State.setRecorder s f).pages = s.pages ∧ (State.setRecorder s f).latches = s.latches ∧
    (State.setRecorder s f).regs = s.regs ∧ (State.setRecorder s f).security = s.security ∧
    (State.setRecorder s f).port = s.port ∧ (State.setRecorder s f).clicker = s.clicker ∧
    (State.setRecorder s f).peer = s.peer ∧ (State.setRecorder s f).power = s.power ∧ (State.setRecorder s f).rst = s.rst ∧
    (State.setRecorder s f).dbg = s.dbg ∧ (State.setRecorder s f).die = s.die ∧ (State.setRecorder s f).mem = s.mem ∧
    (State.setRecorder s f).out = s.out ∧ (State.setRecorder s f).draws = s.draws ∧
    (State.setRecorder s f).pending = s.pending :=
  ⟨rfl, rfl, rfl, rfl, rfl, rfl, rfl, rfl, rfl, rfl, rfl, rfl, rfl, rfl, rfl, rfl, rfl, rfl, rfl, rfl, rfl, rfl, rfl, rfl, rfl, rfl, rfl, rfl, rfl⟩

@[simp] theorem State.setSecurity_frame (s : State) (f : Security → Security) :
    (State.setSecurity s f).now = s.now ∧ (State.setSecurity s f).tenants = s.tenants ∧
    (State.setSecurity s f).ledger = s.ledger ∧ (State.setSecurity s f).vault = s.vault ∧
    (State.setSecurity s f).stitcher = s.stitcher ∧ (State.setSecurity s f).books = s.books ∧
    (State.setSecurity s f).banks = s.banks ∧ (State.setSecurity s f).retake = s.retake ∧
    (State.setSecurity s f).continuity = s.continuity ∧ (State.setSecurity s f).movers = s.movers ∧
    (State.setSecurity s f).tiers = s.tiers ∧ (State.setSecurity s f).services = s.services ∧
    (State.setSecurity s f).eyes = s.eyes ∧ (State.setSecurity s f).lace = s.lace ∧
    (State.setSecurity s f).pages = s.pages ∧ (State.setSecurity s f).latches = s.latches ∧
    (State.setSecurity s f).regs = s.regs ∧ (State.setSecurity s f).port = s.port ∧
    (State.setSecurity s f).clicker = s.clicker ∧ (State.setSecurity s f).peer = s.peer ∧
    (State.setSecurity s f).power = s.power ∧ (State.setSecurity s f).rst = s.rst ∧
    (State.setSecurity s f).dbg = s.dbg ∧ (State.setSecurity s f).recorder = s.recorder ∧
    (State.setSecurity s f).die = s.die ∧ (State.setSecurity s f).mem = s.mem ∧ (State.setSecurity s f).out = s.out ∧
    (State.setSecurity s f).draws = s.draws ∧ (State.setSecurity s f).pending = s.pending :=
  ⟨rfl, rfl, rfl, rfl, rfl, rfl, rfl, rfl, rfl, rfl, rfl, rfl, rfl, rfl, rfl, rfl, rfl, rfl, rfl, rfl, rfl, rfl, rfl, rfl, rfl, rfl, rfl, rfl, rfl⟩

@[simp] theorem State.setWaits_frame (s : State) (l : List Wait) :
    (State.setWaits s l).now = s.now ∧ (State.setWaits s l).tenants = s.tenants ∧ (State.setWaits s l).ledger = s.ledger ∧
    (State.setWaits s l).vault = s.vault ∧ (State.setWaits s l).stitcher = s.stitcher ∧
    (State.setWaits s l).books = s.books ∧ (State.setWaits s l).banks = s.banks ∧ (State.setWaits s l).retake = s.retake ∧
    (State.setWaits s l).continuity = s.continuity ∧ (State.setWaits s l).movers = s.movers ∧
    (State.setWaits s l).tiers = s.tiers ∧ (State.setWaits s l).services = s.services ∧
    (State.setWaits s l).lace = s.lace ∧ (State.setWaits s l).pages = s.pages ∧ (State.setWaits s l).latches = s.latches ∧
    (State.setWaits s l).regs = s.regs ∧ (State.setWaits s l).security = s.security ∧ (State.setWaits s l).port = s.port ∧
    (State.setWaits s l).clicker = s.clicker ∧ (State.setWaits s l).peer = s.peer ∧ (State.setWaits s l).power = s.power ∧
    (State.setWaits s l).rst = s.rst ∧ (State.setWaits s l).dbg = s.dbg ∧ (State.setWaits s l).recorder = s.recorder ∧
    (State.setWaits s l).die = s.die ∧ (State.setWaits s l).mem = s.mem ∧ (State.setWaits s l).out = s.out ∧
    (State.setWaits s l).draws = s.draws ∧ (State.setWaits s l).pending = s.pending :=
  ⟨rfl, rfl, rfl, rfl, rfl, rfl, rfl, rfl, rfl, rfl, rfl, rfl, rfl, rfl, rfl, rfl, rfl, rfl, rfl, rfl, rfl, rfl, rfl, rfl, rfl, rfl, rfl, rfl, rfl⟩

@[simp] theorem State.enterTicket_frame (s : State) (k : Ticket) :
    (State.enterTicket s k).now = s.now ∧ (State.enterTicket s k).tenants = s.tenants ∧
    (State.enterTicket s k).ledger = s.ledger ∧ (State.enterTicket s k).vault = s.vault ∧
    (State.enterTicket s k).stitcher = s.stitcher ∧ (State.enterTicket s k).books = s.books ∧
    (State.enterTicket s k).banks = s.banks ∧ (State.enterTicket s k).retake = s.retake ∧
    (State.enterTicket s k).continuity = s.continuity ∧ (State.enterTicket s k).movers = s.movers ∧
    (State.enterTicket s k).tiers = s.tiers ∧ (State.enterTicket s k).services = s.services ∧
    (State.enterTicket s k).eyes = s.eyes ∧ (State.enterTicket s k).lace = s.lace ∧
    (State.enterTicket s k).pages = s.pages ∧ (State.enterTicket s k).latches = s.latches ∧
    (State.enterTicket s k).regs = s.regs ∧ (State.enterTicket s k).security = s.security ∧
    (State.enterTicket s k).clicker = s.clicker ∧ (State.enterTicket s k).peer = s.peer ∧
    (State.enterTicket s k).power = s.power ∧ (State.enterTicket s k).rst = s.rst ∧
    (State.enterTicket s k).dbg = s.dbg ∧ (State.enterTicket s k).recorder = s.recorder ∧
    (State.enterTicket s k).die = s.die ∧ (State.enterTicket s k).mem = s.mem ∧ (State.enterTicket s k).out = s.out ∧
    (State.enterTicket s k).draws = s.draws ∧ (State.enterTicket s k).pending = s.pending :=
  ⟨rfl, rfl, rfl, rfl, rfl, rfl, rfl, rfl, rfl, rfl, rfl, rfl, rfl, rfl, rfl, rfl, rfl, rfl, rfl, rfl, rfl, rfl, rfl, rfl, rfl, rfl, rfl, rfl, rfl⟩

@[simp] theorem State.dropLow_frame (s : State) (p : Port) :
    (State.dropLow s p).now = s.now ∧ (State.dropLow s p).tenants = s.tenants ∧ (State.dropLow s p).ledger = s.ledger ∧
    (State.dropLow s p).vault = s.vault ∧ (State.dropLow s p).stitcher = s.stitcher ∧ (State.dropLow s p).books = s.books ∧
    (State.dropLow s p).banks = s.banks ∧ (State.dropLow s p).retake = s.retake ∧
    (State.dropLow s p).continuity = s.continuity ∧ (State.dropLow s p).movers = s.movers ∧
    (State.dropLow s p).tiers = s.tiers ∧ (State.dropLow s p).services = s.services ∧ (State.dropLow s p).eyes = s.eyes ∧
    (State.dropLow s p).lace = s.lace ∧ (State.dropLow s p).pages = s.pages ∧ (State.dropLow s p).regs = s.regs ∧
    (State.dropLow s p).security = s.security ∧ (State.dropLow s p).port = s.port ∧
    (State.dropLow s p).clicker = s.clicker ∧ (State.dropLow s p).peer = s.peer ∧ (State.dropLow s p).power = s.power ∧
    (State.dropLow s p).rst = s.rst ∧ (State.dropLow s p).dbg = s.dbg ∧ (State.dropLow s p).recorder = s.recorder ∧
    (State.dropLow s p).die = s.die ∧ (State.dropLow s p).mem = s.mem ∧ (State.dropLow s p).out = s.out ∧
    (State.dropLow s p).draws = s.draws ∧ (State.dropLow s p).pending = s.pending :=
  ⟨rfl, rfl, rfl, rfl, rfl, rfl, rfl, rfl, rfl, rfl, rfl, rfl, rfl, rfl, rfl, rfl, rfl, rfl, rfl, rfl, rfl, rfl, rfl, rfl, rfl, rfl, rfl, rfl, rfl⟩

@[simp] theorem State.setLatch_frame (s : State) (p : Port) (l : Latch) :
    (State.setLatch s p l).now = s.now ∧ (State.setLatch s p l).tenants = s.tenants ∧
    (State.setLatch s p l).ledger = s.ledger ∧ (State.setLatch s p l).vault = s.vault ∧
    (State.setLatch s p l).stitcher = s.stitcher ∧ (State.setLatch s p l).books = s.books ∧
    (State.setLatch s p l).banks = s.banks ∧ (State.setLatch s p l).retake = s.retake ∧
    (State.setLatch s p l).continuity = s.continuity ∧ (State.setLatch s p l).movers = s.movers ∧
    (State.setLatch s p l).tiers = s.tiers ∧ (State.setLatch s p l).services = s.services ∧
    (State.setLatch s p l).eyes = s.eyes ∧ (State.setLatch s p l).lace = s.lace ∧ (State.setLatch s p l).pages = s.pages ∧
    (State.setLatch s p l).regs = s.regs ∧ (State.setLatch s p l).security = s.security ∧
    (State.setLatch s p l).port = s.port ∧ (State.setLatch s p l).clicker = s.clicker ∧
    (State.setLatch s p l).peer = s.peer ∧ (State.setLatch s p l).power = s.power ∧ (State.setLatch s p l).rst = s.rst ∧
    (State.setLatch s p l).dbg = s.dbg ∧ (State.setLatch s p l).recorder = s.recorder ∧
    (State.setLatch s p l).die = s.die ∧ (State.setLatch s p l).mem = s.mem ∧ (State.setLatch s p l).out = s.out ∧
    (State.setLatch s p l).draws = s.draws ∧ (State.setLatch s p l).pending = s.pending :=
  ⟨rfl, rfl, rfl, rfl, rfl, rfl, rfl, rfl, rfl, rfl, rfl, rfl, rfl, rfl, rfl, rfl, rfl, rfl, rfl, rfl, rfl, rfl, rfl, rfl, rfl, rfl, rfl, rfl, rfl⟩

@[simp] theorem State.setJob_frame (s : State) (slot : Nat) (j : Job) :
    (State.setJob s slot j).now = s.now ∧ (State.setJob s slot j).tenants = s.tenants ∧
    (State.setJob s slot j).ledger = s.ledger ∧ (State.setJob s slot j).vault = s.vault ∧
    (State.setJob s slot j).stitcher = s.stitcher ∧ (State.setJob s slot j).books = s.books ∧
    (State.setJob s slot j).banks = s.banks ∧ (State.setJob s slot j).continuity = s.continuity ∧
    (State.setJob s slot j).movers = s.movers ∧ (State.setJob s slot j).tiers = s.tiers ∧
    (State.setJob s slot j).services = s.services ∧ (State.setJob s slot j).eyes = s.eyes ∧
    (State.setJob s slot j).lace = s.lace ∧ (State.setJob s slot j).pages = s.pages ∧
    (State.setJob s slot j).latches = s.latches ∧ (State.setJob s slot j).regs = s.regs ∧
    (State.setJob s slot j).security = s.security ∧ (State.setJob s slot j).port = s.port ∧
    (State.setJob s slot j).clicker = s.clicker ∧ (State.setJob s slot j).peer = s.peer ∧
    (State.setJob s slot j).power = s.power ∧ (State.setJob s slot j).rst = s.rst ∧
    (State.setJob s slot j).dbg = s.dbg ∧ (State.setJob s slot j).recorder = s.recorder ∧
    (State.setJob s slot j).die = s.die ∧ (State.setJob s slot j).mem = s.mem ∧ (State.setJob s slot j).out = s.out ∧
    (State.setJob s slot j).draws = s.draws ∧ (State.setJob s slot j).pending = s.pending :=
  ⟨rfl, rfl, rfl, rfl, rfl, rfl, rfl, rfl, rfl, rfl, rfl, rfl, rfl, rfl, rfl, rfl, rfl, rfl, rfl, rfl, rfl, rfl, rfl, rfl, rfl, rfl, rfl, rfl, rfl⟩

@[simp] theorem State.noteSlate_frame (s : State) (i : Nat) (f : Trace → Trace) :
    (State.noteSlate s i f).now = s.now ∧ (State.noteSlate s i f).ledger = s.ledger ∧
    (State.noteSlate s i f).vault = s.vault ∧ (State.noteSlate s i f).stitcher = s.stitcher ∧
    (State.noteSlate s i f).books = s.books ∧ (State.noteSlate s i f).banks = s.banks ∧
    (State.noteSlate s i f).retake = s.retake ∧ (State.noteSlate s i f).continuity = s.continuity ∧
    (State.noteSlate s i f).movers = s.movers ∧ (State.noteSlate s i f).tiers = s.tiers ∧
    (State.noteSlate s i f).services = s.services ∧ (State.noteSlate s i f).eyes = s.eyes ∧
    (State.noteSlate s i f).lace = s.lace ∧ (State.noteSlate s i f).pages = s.pages ∧
    (State.noteSlate s i f).latches = s.latches ∧ (State.noteSlate s i f).regs = s.regs ∧
    (State.noteSlate s i f).security = s.security ∧ (State.noteSlate s i f).port = s.port ∧
    (State.noteSlate s i f).clicker = s.clicker ∧ (State.noteSlate s i f).peer = s.peer ∧
    (State.noteSlate s i f).power = s.power ∧ (State.noteSlate s i f).rst = s.rst ∧
    (State.noteSlate s i f).dbg = s.dbg ∧ (State.noteSlate s i f).recorder = s.recorder ∧
    (State.noteSlate s i f).die = s.die ∧ (State.noteSlate s i f).mem = s.mem ∧ (State.noteSlate s i f).out = s.out ∧
    (State.noteSlate s i f).draws = s.draws ∧ (State.noteSlate s i f).pending = s.pending :=
  ⟨rfl, rfl, rfl, rfl, rfl, rfl, rfl, rfl, rfl, rfl, rfl, rfl, rfl, rfl, rfl, rfl, rfl, rfl, rfl, rfl, rfl, rfl, rfl, rfl, rfl, rfl, rfl, rfl, rfl⟩

@[simp] theorem State.note_frame (s : State) (t e : Nat) (f : Trace → Trace) :
    (State.note s t e f).now = s.now ∧ (State.note s t e f).ledger = s.ledger ∧ (State.note s t e f).vault = s.vault ∧
    (State.note s t e f).stitcher = s.stitcher ∧ (State.note s t e f).books = s.books ∧
    (State.note s t e f).banks = s.banks ∧ (State.note s t e f).retake = s.retake ∧
    (State.note s t e f).continuity = s.continuity ∧ (State.note s t e f).movers = s.movers ∧
    (State.note s t e f).tiers = s.tiers ∧ (State.note s t e f).services = s.services ∧
    (State.note s t e f).eyes = s.eyes ∧ (State.note s t e f).lace = s.lace ∧ (State.note s t e f).pages = s.pages ∧
    (State.note s t e f).latches = s.latches ∧ (State.note s t e f).regs = s.regs ∧
    (State.note s t e f).security = s.security ∧ (State.note s t e f).port = s.port ∧
    (State.note s t e f).clicker = s.clicker ∧ (State.note s t e f).peer = s.peer ∧ (State.note s t e f).power = s.power ∧
    (State.note s t e f).rst = s.rst ∧ (State.note s t e f).dbg = s.dbg ∧ (State.note s t e f).recorder = s.recorder ∧
    (State.note s t e f).die = s.die ∧ (State.note s t e f).mem = s.mem ∧ (State.note s t e f).out = s.out ∧
    (State.note s t e f).draws = s.draws ∧ (State.note s t e f).pending = s.pending :=
  ⟨rfl, rfl, rfl, rfl, rfl, rfl, rfl, rfl, rfl, rfl, rfl, rfl, rfl, rfl, rfl, rfl, rfl, rfl, rfl, rfl, rfl, rfl, rfl, rfl, rfl, rfl, rfl, rfl, rfl⟩

@[simp] theorem State.offerRec_frame (s : State) (x : Rec) :
    (State.offerRec s x).now = s.now ∧ (State.offerRec s x).tenants = s.tenants ∧ (State.offerRec s x).ledger = s.ledger ∧
    (State.offerRec s x).vault = s.vault ∧ (State.offerRec s x).stitcher = s.stitcher ∧
    (State.offerRec s x).books = s.books ∧ (State.offerRec s x).banks = s.banks ∧ (State.offerRec s x).retake = s.retake ∧
    (State.offerRec s x).continuity = s.continuity ∧ (State.offerRec s x).movers = s.movers ∧
    (State.offerRec s x).tiers = s.tiers ∧ (State.offerRec s x).services = s.services ∧
    (State.offerRec s x).eyes = s.eyes ∧ (State.offerRec s x).lace = s.lace ∧ (State.offerRec s x).pages = s.pages ∧
    (State.offerRec s x).latches = s.latches ∧ (State.offerRec s x).security = s.security ∧
    (State.offerRec s x).port = s.port ∧ (State.offerRec s x).clicker = s.clicker ∧ (State.offerRec s x).peer = s.peer ∧
    (State.offerRec s x).power = s.power ∧ (State.offerRec s x).rst = s.rst ∧ (State.offerRec s x).dbg = s.dbg ∧
    (State.offerRec s x).die = s.die ∧ (State.offerRec s x).mem = s.mem ∧ (State.offerRec s x).out = s.out ∧
    (State.offerRec s x).draws = s.draws ∧ (State.offerRec s x).pending = s.pending :=
  by
  unfold State.offerRec; split <;> simp

/-- The records of a cycle change the recorder and its two registers of page FLT only. -/
theorem State.foldl_offerRec_eq (l : List Raised) (s : State) :
    ∃ r g, l.foldl (fun (s : State) x => s.offerRec x.record) s = { s with regs := r, recorder := g } := by
  induction l generalizing s with
  | nil => exact ⟨s.regs, s.recorder, rfl⟩
  | cons x t ih =>
    obtain ⟨r, g, e⟩ := ih (s.offerRec x.record)
    refine ⟨r, g, ?_⟩
    rw [List.foldl_cons, e]
    simp


@[simp] theorem State.takeRaised_frame (s : State) :
    (State.takeRaised s).now = s.now ∧ (State.takeRaised s).tenants = s.tenants ∧ (State.takeRaised s).ledger = s.ledger ∧
    (State.takeRaised s).vault = s.vault ∧ (State.takeRaised s).stitcher = s.stitcher ∧
    (State.takeRaised s).books = s.books ∧ (State.takeRaised s).banks = s.banks ∧ (State.takeRaised s).retake = s.retake ∧
    (State.takeRaised s).continuity = s.continuity ∧ (State.takeRaised s).movers = s.movers ∧
    (State.takeRaised s).tiers = s.tiers ∧ (State.takeRaised s).services = s.services ∧
    (State.takeRaised s).eyes = s.eyes ∧ (State.takeRaised s).lace = s.lace ∧ (State.takeRaised s).pages = s.pages ∧
    (State.takeRaised s).latches = s.latches ∧ (State.takeRaised s).security = s.security ∧
    (State.takeRaised s).port = s.port ∧ (State.takeRaised s).clicker = s.clicker ∧ (State.takeRaised s).peer = s.peer ∧
    (State.takeRaised s).power = s.power ∧ (State.takeRaised s).rst = s.rst ∧ (State.takeRaised s).dbg = s.dbg ∧
    (State.takeRaised s).die = s.die ∧ (State.takeRaised s).mem = s.mem ∧ (State.takeRaised s).out = s.out ∧
    (State.takeRaised s).draws = s.draws ∧ (State.takeRaised s).pending = s.pending :=
  by
  obtain ⟨r, g, e⟩ := State.foldl_offerRec_eq (s.recorder.raised.foldl (fun l x => insertRaised x l) [])
    { s with recorder := { s.recorder with raised := [] } }
  unfold State.takeRaised
  rw [e]
  simp

@[simp] theorem State.log_frame (s : State) (code source : Nat) (params : List Word) :
    (State.log s code source params).now = s.now ∧ (State.log s code source params).tenants = s.tenants ∧
    (State.log s code source params).ledger = s.ledger ∧ (State.log s code source params).vault = s.vault ∧
    (State.log s code source params).stitcher = s.stitcher ∧ (State.log s code source params).books = s.books ∧
    (State.log s code source params).banks = s.banks ∧ (State.log s code source params).retake = s.retake ∧
    (State.log s code source params).continuity = s.continuity ∧ (State.log s code source params).movers = s.movers ∧
    (State.log s code source params).tiers = s.tiers ∧ (State.log s code source params).services = s.services ∧
    (State.log s code source params).eyes = s.eyes ∧ (State.log s code source params).lace = s.lace ∧
    (State.log s code source params).latches = s.latches ∧ (State.log s code source params).security = s.security ∧
    (State.log s code source params).port = s.port ∧ (State.log s code source params).clicker = s.clicker ∧
    (State.log s code source params).peer = s.peer ∧ (State.log s code source params).power = s.power ∧
    (State.log s code source params).rst = s.rst ∧ (State.log s code source params).dbg = s.dbg ∧
    (State.log s code source params).die = s.die ∧ (State.log s code source params).mem = s.mem ∧
    (State.log s code source params).draws = s.draws ∧ (State.log s code source params).pending = s.pending :=
  by
  unfold State.log; dsimp only; split <;> simp

@[simp] theorem State.report_frame (s : State) (code source : Nat) (params : List Word) (page bit : Nat) :
    (State.report s code source params page bit).now = s.now ∧
    (State.report s code source params page bit).tenants = s.tenants ∧
    (State.report s code source params page bit).ledger = s.ledger ∧
    (State.report s code source params page bit).vault = s.vault ∧
    (State.report s code source params page bit).stitcher = s.stitcher ∧
    (State.report s code source params page bit).books = s.books ∧
    (State.report s code source params page bit).banks = s.banks ∧
    (State.report s code source params page bit).retake = s.retake ∧
    (State.report s code source params page bit).continuity = s.continuity ∧
    (State.report s code source params page bit).movers = s.movers ∧
    (State.report s code source params page bit).tiers = s.tiers ∧
    (State.report s code source params page bit).services = s.services ∧
    (State.report s code source params page bit).eyes = s.eyes ∧
    (State.report s code source params page bit).lace = s.lace ∧
    (State.report s code source params page bit).latches = s.latches ∧
    (State.report s code source params page bit).security = s.security ∧
    (State.report s code source params page bit).port = s.port ∧
    (State.report s code source params page bit).clicker = s.clicker ∧
    (State.report s code source params page bit).peer = s.peer ∧
    (State.report s code source params page bit).power = s.power ∧
    (State.report s code source params page bit).rst = s.rst ∧
    (State.report s code source params page bit).dbg = s.dbg ∧
    (State.report s code source params page bit).die = s.die ∧ (State.report s code source params page bit).mem = s.mem ∧
    (State.report s code source params page bit).draws = s.draws ∧
    (State.report s code source params page bit).pending = s.pending :=
  by
  unfold State.report; simp

@[simp] theorem State.powerTo_frame (s : State) (st : Power) :
    (State.powerTo s st).now = s.now ∧ (State.powerTo s st).tenants = s.tenants ∧ (State.powerTo s st).ledger = s.ledger ∧
    (State.powerTo s st).vault = s.vault ∧ (State.powerTo s st).stitcher = s.stitcher ∧
    (State.powerTo s st).books = s.books ∧ (State.powerTo s st).banks = s.banks ∧ (State.powerTo s st).retake = s.retake ∧
    (State.powerTo s st).continuity = s.continuity ∧ (State.powerTo s st).movers = s.movers ∧
    (State.powerTo s st).tiers = s.tiers ∧ (State.powerTo s st).services = s.services ∧
    (State.powerTo s st).eyes = s.eyes ∧ (State.powerTo s st).lace = s.lace ∧ (State.powerTo s st).pages = s.pages ∧
    (State.powerTo s st).latches = s.latches ∧ (State.powerTo s st).regs = s.regs ∧
    (State.powerTo s st).security = s.security ∧ (State.powerTo s st).port = s.port ∧
    (State.powerTo s st).clicker = s.clicker ∧ (State.powerTo s st).peer = s.peer ∧ (State.powerTo s st).rst = s.rst ∧
    (State.powerTo s st).dbg = s.dbg ∧ (State.powerTo s st).recorder = s.recorder ∧ (State.powerTo s st).die = s.die ∧
    (State.powerTo s st).mem = s.mem ∧ (State.powerTo s st).out = s.out ∧ (State.powerTo s st).draws = s.draws ∧
    (State.powerTo s st).pending = s.pending :=
  ⟨rfl, rfl, rfl, rfl, rfl, rfl, rfl, rfl, rfl, rfl, rfl, rfl, rfl, rfl, rfl, rfl, rfl, rfl, rfl, rfl, rfl, rfl, rfl, rfl, rfl, rfl, rfl, rfl, rfl⟩

@[simp] theorem State.rouse_frame (s : State) :
    (State.rouse s).now = s.now ∧ (State.rouse s).tenants = s.tenants ∧ (State.rouse s).ledger = s.ledger ∧
    (State.rouse s).vault = s.vault ∧ (State.rouse s).stitcher = s.stitcher ∧ (State.rouse s).books = s.books ∧
    (State.rouse s).banks = s.banks ∧ (State.rouse s).retake = s.retake ∧ (State.rouse s).continuity = s.continuity ∧
    (State.rouse s).movers = s.movers ∧ (State.rouse s).tiers = s.tiers ∧ (State.rouse s).services = s.services ∧
    (State.rouse s).eyes = s.eyes ∧ (State.rouse s).lace = s.lace ∧ (State.rouse s).pages = s.pages ∧
    (State.rouse s).latches = s.latches ∧ (State.rouse s).security = s.security ∧ (State.rouse s).port = s.port ∧
    (State.rouse s).clicker = s.clicker ∧ (State.rouse s).peer = s.peer ∧ (State.rouse s).rst = s.rst ∧
    (State.rouse s).dbg = s.dbg ∧ (State.rouse s).recorder = s.recorder ∧ (State.rouse s).die = s.die ∧
    (State.rouse s).mem = s.mem ∧ (State.rouse s).draws = s.draws ∧ (State.rouse s).pending = s.pending :=
  by
  unfold State.rouse State.beginWake
  dsimp only
  repeat' split
  all_goals simp

@[simp] theorem State.touch_frame (s : State) (p : Port) (addr : Nat) :
    (State.touch s p addr).now = s.now ∧ (State.touch s p addr).tenants = s.tenants ∧
    (State.touch s p addr).ledger = s.ledger ∧ (State.touch s p addr).vault = s.vault ∧
    (State.touch s p addr).stitcher = s.stitcher ∧ (State.touch s p addr).books = s.books ∧
    (State.touch s p addr).banks = s.banks ∧ (State.touch s p addr).retake = s.retake ∧
    (State.touch s p addr).continuity = s.continuity ∧ (State.touch s p addr).movers = s.movers ∧
    (State.touch s p addr).tiers = s.tiers ∧ (State.touch s p addr).services = s.services ∧
    (State.touch s p addr).eyes = s.eyes ∧ (State.touch s p addr).lace = s.lace ∧
    (State.touch s p addr).latches = s.latches ∧ (State.touch s p addr).security = s.security ∧
    (State.touch s p addr).port = s.port ∧ (State.touch s p addr).clicker = s.clicker ∧
    (State.touch s p addr).peer = s.peer ∧ (State.touch s p addr).rst = s.rst ∧ (State.touch s p addr).dbg = s.dbg ∧
    (State.touch s p addr).recorder = s.recorder ∧ (State.touch s p addr).die = s.die ∧
    (State.touch s p addr).mem = s.mem ∧ (State.touch s p addr).draws = s.draws ∧ (State.touch s p addr).pending = s.pending :=
  by
  unfold State.touch
  dsimp only
  split <;> simp

@[simp] theorem State.logDup_frame (s : State) (k : Ticket) (d : Completion) :
    (State.logDup s k d).now = s.now ∧ (State.logDup s k d).tenants = s.tenants ∧ (State.logDup s k d).ledger = s.ledger ∧
    (State.logDup s k d).vault = s.vault ∧ (State.logDup s k d).stitcher = s.stitcher ∧
    (State.logDup s k d).books = s.books ∧ (State.logDup s k d).banks = s.banks ∧ (State.logDup s k d).retake = s.retake ∧
    (State.logDup s k d).continuity = s.continuity ∧ (State.logDup s k d).movers = s.movers ∧
    (State.logDup s k d).tiers = s.tiers ∧ (State.logDup s k d).services = s.services ∧
    (State.logDup s k d).eyes = s.eyes ∧ (State.logDup s k d).lace = s.lace ∧ (State.logDup s k d).latches = s.latches ∧
    (State.logDup s k d).security = s.security ∧ (State.logDup s k d).port = s.port ∧
    (State.logDup s k d).clicker = s.clicker ∧ (State.logDup s k d).peer = s.peer ∧ (State.logDup s k d).power = s.power ∧
    (State.logDup s k d).rst = s.rst ∧ (State.logDup s k d).dbg = s.dbg ∧ (State.logDup s k d).die = s.die ∧
    (State.logDup s k d).mem = s.mem ∧ (State.logDup s k d).draws = s.draws ∧ (State.logDup s k d).pending = s.pending :=
  by
  unfold State.logDup; simp

@[simp] theorem State.outAccess_frame (s : State) (a : MemAccess) :
    (State.outAccess s a).now = s.now ∧ (State.outAccess s a).tenants = s.tenants ∧
    (State.outAccess s a).ledger = s.ledger ∧ (State.outAccess s a).vault = s.vault ∧
    (State.outAccess s a).stitcher = s.stitcher ∧ (State.outAccess s a).books = s.books ∧
    (State.outAccess s a).banks = s.banks ∧ (State.outAccess s a).retake = s.retake ∧
    (State.outAccess s a).continuity = s.continuity ∧ (State.outAccess s a).movers = s.movers ∧
    (State.outAccess s a).tiers = s.tiers ∧ (State.outAccess s a).services = s.services ∧
    (State.outAccess s a).eyes = s.eyes ∧ (State.outAccess s a).lace = s.lace ∧
    (State.outAccess s a).pages = s.pages ∧ (State.outAccess s a).latches = s.latches ∧
    (State.outAccess s a).regs = s.regs ∧ (State.outAccess s a).security = s.security ∧
    (State.outAccess s a).port = s.port ∧ (State.outAccess s a).clicker = s.clicker ∧
    (State.outAccess s a).peer = s.peer ∧ (State.outAccess s a).power = s.power ∧ (State.outAccess s a).rst = s.rst ∧
    (State.outAccess s a).dbg = s.dbg ∧ (State.outAccess s a).recorder = s.recorder ∧
    (State.outAccess s a).die = s.die ∧ (State.outAccess s a).mem = s.mem ∧ (State.outAccess s a).draws = s.draws ∧
    (State.outAccess s a).pending = s.pending :=
  ⟨rfl, rfl, rfl, rfl, rfl, rfl, rfl, rfl, rfl, rfl, rfl, rfl, rfl, rfl, rfl, rfl, rfl, rfl, rfl, rfl, rfl, rfl, rfl, rfl, rfl, rfl, rfl, rfl, rfl⟩

@[simp] theorem State.readLastUse_frame (s : State) (tier base : Nat) :
    (State.readLastUse s tier base).now = s.now ∧ (State.readLastUse s tier base).tenants = s.tenants ∧
    (State.readLastUse s tier base).ledger = s.ledger ∧ (State.readLastUse s tier base).vault = s.vault ∧
    (State.readLastUse s tier base).stitcher = s.stitcher ∧ (State.readLastUse s tier base).books = s.books ∧
    (State.readLastUse s tier base).banks = s.banks ∧ (State.readLastUse s tier base).retake = s.retake ∧
    (State.readLastUse s tier base).continuity = s.continuity ∧ (State.readLastUse s tier base).movers = s.movers ∧
    (State.readLastUse s tier base).services = s.services ∧ (State.readLastUse s tier base).eyes = s.eyes ∧
    (State.readLastUse s tier base).lace = s.lace ∧ (State.readLastUse s tier base).pages = s.pages ∧
    (State.readLastUse s tier base).latches = s.latches ∧ (State.readLastUse s tier base).regs = s.regs ∧
    (State.readLastUse s tier base).security = s.security ∧ (State.readLastUse s tier base).port = s.port ∧
    (State.readLastUse s tier base).clicker = s.clicker ∧ (State.readLastUse s tier base).peer = s.peer ∧
    (State.readLastUse s tier base).power = s.power ∧ (State.readLastUse s tier base).rst = s.rst ∧
    (State.readLastUse s tier base).dbg = s.dbg ∧ (State.readLastUse s tier base).recorder = s.recorder ∧
    (State.readLastUse s tier base).die = s.die ∧ (State.readLastUse s tier base).mem = s.mem ∧
    (State.readLastUse s tier base).out = s.out ∧ (State.readLastUse s tier base).draws = s.draws ∧
    (State.readLastUse s tier base).pending = s.pending :=
  ⟨rfl, rfl, rfl, rfl, rfl, rfl, rfl, rfl, rfl, rfl, rfl, rfl, rfl, rfl, rfl, rfl, rfl, rfl, rfl, rfl, rfl, rfl, rfl, rfl, rfl, rfl, rfl, rfl, rfl⟩

@[simp] theorem State.queueTransfer_frame (s : State) (x : Transfer) :
    (State.queueTransfer s x).now = s.now ∧ (State.queueTransfer s x).tenants = s.tenants ∧
    (State.queueTransfer s x).ledger = s.ledger ∧ (State.queueTransfer s x).vault = s.vault ∧
    (State.queueTransfer s x).stitcher = s.stitcher ∧ (State.queueTransfer s x).books = s.books ∧
    (State.queueTransfer s x).banks = s.banks ∧ (State.queueTransfer s x).retake = s.retake ∧
    (State.queueTransfer s x).continuity = s.continuity ∧ (State.queueTransfer s x).tiers = s.tiers ∧
    (State.queueTransfer s x).services = s.services ∧ (State.queueTransfer s x).eyes = s.eyes ∧
    (State.queueTransfer s x).lace = s.lace ∧ (State.queueTransfer s x).pages = s.pages ∧
    (State.queueTransfer s x).latches = s.latches ∧ (State.queueTransfer s x).regs = s.regs ∧
    (State.queueTransfer s x).security = s.security ∧ (State.queueTransfer s x).port = s.port ∧
    (State.queueTransfer s x).clicker = s.clicker ∧ (State.queueTransfer s x).peer = s.peer ∧
    (State.queueTransfer s x).power = s.power ∧ (State.queueTransfer s x).rst = s.rst ∧
    (State.queueTransfer s x).dbg = s.dbg ∧ (State.queueTransfer s x).recorder = s.recorder ∧
    (State.queueTransfer s x).die = s.die ∧ (State.queueTransfer s x).mem = s.mem ∧
    (State.queueTransfer s x).out = s.out ∧ (State.queueTransfer s x).draws = s.draws ∧
    (State.queueTransfer s x).pending = s.pending :=
  ⟨rfl, rfl, rfl, rfl, rfl, rfl, rfl, rfl, rfl, rfl, rfl, rfl, rfl, rfl, rfl, rfl, rfl, rfl, rfl, rfl, rfl, rfl, rfl, rfl, rfl, rfl, rfl, rfl, rfl⟩

@[simp] theorem State.abortTxns_frame (s : State) (id : Nat) (f : Txn → Bool) :
    (State.abortTxns s id f).now = s.now ∧ (State.abortTxns s id f).tenants = s.tenants ∧
    (State.abortTxns s id f).ledger = s.ledger ∧ (State.abortTxns s id f).vault = s.vault ∧
    (State.abortTxns s id f).stitcher = s.stitcher ∧ (State.abortTxns s id f).books = s.books ∧
    (State.abortTxns s id f).banks = s.banks ∧ (State.abortTxns s id f).retake = s.retake ∧
    (State.abortTxns s id f).continuity = s.continuity ∧ (State.abortTxns s id f).tiers = s.tiers ∧
    (State.abortTxns s id f).services = s.services ∧ (State.abortTxns s id f).eyes = s.eyes ∧
    (State.abortTxns s id f).lace = s.lace ∧ (State.abortTxns s id f).pages = s.pages ∧
    (State.abortTxns s id f).latches = s.latches ∧ (State.abortTxns s id f).regs = s.regs ∧
    (State.abortTxns s id f).security = s.security ∧ (State.abortTxns s id f).port = s.port ∧
    (State.abortTxns s id f).clicker = s.clicker ∧ (State.abortTxns s id f).peer = s.peer ∧
    (State.abortTxns s id f).power = s.power ∧ (State.abortTxns s id f).rst = s.rst ∧
    (State.abortTxns s id f).dbg = s.dbg ∧ (State.abortTxns s id f).recorder = s.recorder ∧
    (State.abortTxns s id f).die = s.die ∧ (State.abortTxns s id f).mem = s.mem ∧
    (State.abortTxns s id f).out = s.out ∧ (State.abortTxns s id f).draws = s.draws ∧
    (State.abortTxns s id f).pending = s.pending :=
  ⟨rfl, rfl, rfl, rfl, rfl, rfl, rfl, rfl, rfl, rfl, rfl, rfl, rfl, rfl, rfl, rfl, rfl, rfl, rfl, rfl, rfl, rfl, rfl, rfl, rfl, rfl, rfl, rfl, rfl⟩

@[simp] theorem State.poisonReqs_frame (s : State) (i : Nat) :
    (State.poisonReqs s i).now = s.now ∧ (State.poisonReqs s i).tenants = s.tenants ∧
    (State.poisonReqs s i).ledger = s.ledger ∧ (State.poisonReqs s i).vault = s.vault ∧
    (State.poisonReqs s i).stitcher = s.stitcher ∧ (State.poisonReqs s i).books = s.books ∧
    (State.poisonReqs s i).retake = s.retake ∧ (State.poisonReqs s i).continuity = s.continuity ∧
    (State.poisonReqs s i).movers = s.movers ∧ (State.poisonReqs s i).tiers = s.tiers ∧
    (State.poisonReqs s i).services = s.services ∧ (State.poisonReqs s i).eyes = s.eyes ∧
    (State.poisonReqs s i).lace = s.lace ∧ (State.poisonReqs s i).pages = s.pages ∧
    (State.poisonReqs s i).latches = s.latches ∧ (State.poisonReqs s i).regs = s.regs ∧
    (State.poisonReqs s i).security = s.security ∧ (State.poisonReqs s i).port = s.port ∧
    (State.poisonReqs s i).clicker = s.clicker ∧ (State.poisonReqs s i).peer = s.peer ∧
    (State.poisonReqs s i).power = s.power ∧ (State.poisonReqs s i).rst = s.rst ∧ (State.poisonReqs s i).dbg = s.dbg ∧
    (State.poisonReqs s i).recorder = s.recorder ∧ (State.poisonReqs s i).die = s.die ∧
    (State.poisonReqs s i).mem = s.mem ∧ (State.poisonReqs s i).out = s.out ∧ (State.poisonReqs s i).draws = s.draws ∧
    (State.poisonReqs s i).pending = s.pending :=
  ⟨rfl, rfl, rfl, rfl, rfl, rfl, rfl, rfl, rfl, rfl, rfl, rfl, rfl, rfl, rfl, rfl, rfl, rfl, rfl, rfl, rfl, rfl, rfl, rfl, rfl, rfl, rfl, rfl, rfl⟩

@[simp] theorem State.stopJob_frame (s : State) (i : Nat) :
    (State.stopJob s i).now = s.now ∧ (State.stopJob s i).tenants = s.tenants ∧
    (State.stopJob s i).ledger = s.ledger ∧ (State.stopJob s i).vault = s.vault ∧
    (State.stopJob s i).stitcher = s.stitcher ∧ (State.stopJob s i).books = s.books ∧
    (State.stopJob s i).banks = s.banks ∧ (State.stopJob s i).continuity = s.continuity ∧
    (State.stopJob s i).movers = s.movers ∧ (State.stopJob s i).tiers = s.tiers ∧
    (State.stopJob s i).services = s.services ∧ (State.stopJob s i).eyes = s.eyes ∧
    (State.stopJob s i).lace = s.lace ∧ (State.stopJob s i).pages = s.pages ∧
    (State.stopJob s i).latches = s.latches ∧ (State.stopJob s i).regs = s.regs ∧
    (State.stopJob s i).security = s.security ∧ (State.stopJob s i).port = s.port ∧
    (State.stopJob s i).clicker = s.clicker ∧ (State.stopJob s i).peer = s.peer ∧
    (State.stopJob s i).power = s.power ∧ (State.stopJob s i).rst = s.rst ∧ (State.stopJob s i).dbg = s.dbg ∧
    (State.stopJob s i).recorder = s.recorder ∧ (State.stopJob s i).die = s.die ∧ (State.stopJob s i).mem = s.mem ∧
    (State.stopJob s i).out = s.out ∧ (State.stopJob s i).draws = s.draws ∧ (State.stopJob s i).pending = s.pending :=
  ⟨rfl, rfl, rfl, rfl, rfl, rfl, rfl, rfl, rfl, rfl, rfl, rfl, rfl, rfl, rfl, rfl, rfl, rfl, rfl, rfl, rfl, rfl, rfl, rfl, rfl, rfl, rfl, rfl, rfl⟩

@[simp] theorem State.clearMeter_frame (s : State) :
    (State.clearMeter s).now = s.now ∧ (State.clearMeter s).tenants = s.tenants ∧
    (State.clearMeter s).ledger = s.ledger ∧ (State.clearMeter s).vault = s.vault ∧
    (State.clearMeter s).stitcher = s.stitcher ∧ (State.clearMeter s).books = s.books ∧
    (State.clearMeter s).banks = s.banks ∧ (State.clearMeter s).retake = s.retake ∧
    (State.clearMeter s).continuity = s.continuity ∧ (State.clearMeter s).movers = s.movers ∧
    (State.clearMeter s).tiers = s.tiers ∧ (State.clearMeter s).eyes = s.eyes ∧ (State.clearMeter s).lace = s.lace ∧
    (State.clearMeter s).pages = s.pages ∧ (State.clearMeter s).latches = s.latches ∧
    (State.clearMeter s).regs = s.regs ∧ (State.clearMeter s).security = s.security ∧
    (State.clearMeter s).port = s.port ∧ (State.clearMeter s).clicker = s.clicker ∧
    (State.clearMeter s).peer = s.peer ∧ (State.clearMeter s).power = s.power ∧ (State.clearMeter s).rst = s.rst ∧
    (State.clearMeter s).dbg = s.dbg ∧ (State.clearMeter s).recorder = s.recorder ∧ (State.clearMeter s).die = s.die ∧
    (State.clearMeter s).mem = s.mem ∧ (State.clearMeter s).out = s.out ∧ (State.clearMeter s).draws = s.draws ∧
    (State.clearMeter s).pending = s.pending :=
  ⟨rfl, rfl, rfl, rfl, rfl, rfl, rfl, rfl, rfl, rfl, rfl, rfl, rfl, rfl, rfl, rfl, rfl, rfl, rfl, rfl, rfl, rfl, rfl, rfl, rfl, rfl, rfl, rfl, rfl⟩

@[simp] theorem State.setLaneJobs_frame (s : State) (lane : Nat) (l : List LaneJob) :
    (State.setLaneJobs s lane l).now = s.now ∧ (State.setLaneJobs s lane l).tenants = s.tenants ∧
    (State.setLaneJobs s lane l).ledger = s.ledger ∧ (State.setLaneJobs s lane l).vault = s.vault ∧
    (State.setLaneJobs s lane l).books = s.books ∧ (State.setLaneJobs s lane l).banks = s.banks ∧
    (State.setLaneJobs s lane l).retake = s.retake ∧ (State.setLaneJobs s lane l).continuity = s.continuity ∧
    (State.setLaneJobs s lane l).movers = s.movers ∧ (State.setLaneJobs s lane l).tiers = s.tiers ∧
    (State.setLaneJobs s lane l).services = s.services ∧ (State.setLaneJobs s lane l).eyes = s.eyes ∧
    (State.setLaneJobs s lane l).lace = s.lace ∧ (State.setLaneJobs s lane l).pages = s.pages ∧
    (State.setLaneJobs s lane l).latches = s.latches ∧ (State.setLaneJobs s lane l).regs = s.regs ∧
    (State.setLaneJobs s lane l).security = s.security ∧ (State.setLaneJobs s lane l).port = s.port ∧
    (State.setLaneJobs s lane l).clicker = s.clicker ∧ (State.setLaneJobs s lane l).peer = s.peer ∧
    (State.setLaneJobs s lane l).power = s.power ∧ (State.setLaneJobs s lane l).rst = s.rst ∧
    (State.setLaneJobs s lane l).dbg = s.dbg ∧ (State.setLaneJobs s lane l).recorder = s.recorder ∧
    (State.setLaneJobs s lane l).die = s.die ∧ (State.setLaneJobs s lane l).mem = s.mem ∧
    (State.setLaneJobs s lane l).out = s.out ∧ (State.setLaneJobs s lane l).draws = s.draws ∧
    (State.setLaneJobs s lane l).pending = s.pending :=
  ⟨rfl, rfl, rfl, rfl, rfl, rfl, rfl, rfl, rfl, rfl, rfl, rfl, rfl, rfl, rfl, rfl, rfl, rfl, rfl, rfl, rfl, rfl, rfl, rfl, rfl, rfl, rfl, rfl, rfl⟩

@[simp] theorem State.setTap_frame (s : State) (tap : Nat) (b : Option TapBuf) :
    (State.setTap s tap b).now = s.now ∧ (State.setTap s tap b).tenants = s.tenants ∧
    (State.setTap s tap b).ledger = s.ledger ∧ (State.setTap s tap b).vault = s.vault ∧
    (State.setTap s tap b).books = s.books ∧ (State.setTap s tap b).banks = s.banks ∧
    (State.setTap s tap b).retake = s.retake ∧ (State.setTap s tap b).continuity = s.continuity ∧
    (State.setTap s tap b).movers = s.movers ∧ (State.setTap s tap b).tiers = s.tiers ∧
    (State.setTap s tap b).services = s.services ∧ (State.setTap s tap b).eyes = s.eyes ∧
    (State.setTap s tap b).lace = s.lace ∧ (State.setTap s tap b).pages = s.pages ∧
    (State.setTap s tap b).latches = s.latches ∧ (State.setTap s tap b).regs = s.regs ∧
    (State.setTap s tap b).security = s.security ∧ (State.setTap s tap b).port = s.port ∧
    (State.setTap s tap b).clicker = s.clicker ∧ (State.setTap s tap b).peer = s.peer ∧
    (State.setTap s tap b).power = s.power ∧ (State.setTap s tap b).rst = s.rst ∧ (State.setTap s tap b).dbg = s.dbg ∧
    (State.setTap s tap b).recorder = s.recorder ∧ (State.setTap s tap b).die = s.die ∧
    (State.setTap s tap b).mem = s.mem ∧ (State.setTap s tap b).out = s.out ∧ (State.setTap s tap b).draws = s.draws ∧
    (State.setTap s tap b).pending = s.pending :=
  ⟨rfl, rfl, rfl, rfl, rfl, rfl, rfl, rfl, rfl, rfl, rfl, rfl, rfl, rfl, rfl, rfl, rfl, rfl, rfl, rfl, rfl, rfl, rfl, rfl, rfl, rfl, rfl, rfl, rfl⟩

@[simp] theorem State.noteTap_frame (s : State) (lane tap : Nat) :
    (State.noteTap s lane tap).now = s.now ∧ (State.noteTap s lane tap).tenants = s.tenants ∧
    (State.noteTap s lane tap).ledger = s.ledger ∧ (State.noteTap s lane tap).vault = s.vault ∧
    (State.noteTap s lane tap).books = s.books ∧ (State.noteTap s lane tap).banks = s.banks ∧
    (State.noteTap s lane tap).retake = s.retake ∧ (State.noteTap s lane tap).continuity = s.continuity ∧
    (State.noteTap s lane tap).movers = s.movers ∧ (State.noteTap s lane tap).tiers = s.tiers ∧
    (State.noteTap s lane tap).services = s.services ∧ (State.noteTap s lane tap).eyes = s.eyes ∧
    (State.noteTap s lane tap).lace = s.lace ∧ (State.noteTap s lane tap).pages = s.pages ∧
    (State.noteTap s lane tap).latches = s.latches ∧ (State.noteTap s lane tap).regs = s.regs ∧
    (State.noteTap s lane tap).security = s.security ∧ (State.noteTap s lane tap).port = s.port ∧
    (State.noteTap s lane tap).clicker = s.clicker ∧ (State.noteTap s lane tap).peer = s.peer ∧
    (State.noteTap s lane tap).power = s.power ∧ (State.noteTap s lane tap).rst = s.rst ∧
    (State.noteTap s lane tap).dbg = s.dbg ∧ (State.noteTap s lane tap).recorder = s.recorder ∧
    (State.noteTap s lane tap).die = s.die ∧ (State.noteTap s lane tap).mem = s.mem ∧
    (State.noteTap s lane tap).out = s.out ∧ (State.noteTap s lane tap).draws = s.draws ∧
    (State.noteTap s lane tap).pending = s.pending :=
  ⟨rfl, rfl, rfl, rfl, rfl, rfl, rfl, rfl, rfl, rfl, rfl, rfl, rfl, rfl, rfl, rfl, rfl, rfl, rfl, rfl, rfl, rfl, rfl, rfl, rfl, rfl, rfl, rfl, rfl⟩

@[simp] theorem State.setOffers_frame (s : State) (tap : Nat) (l : List TapOffer) :
    (State.setOffers s tap l).now = s.now ∧ (State.setOffers s tap l).tenants = s.tenants ∧
    (State.setOffers s tap l).ledger = s.ledger ∧ (State.setOffers s tap l).vault = s.vault ∧
    (State.setOffers s tap l).books = s.books ∧ (State.setOffers s tap l).banks = s.banks ∧
    (State.setOffers s tap l).retake = s.retake ∧ (State.setOffers s tap l).continuity = s.continuity ∧
    (State.setOffers s tap l).movers = s.movers ∧ (State.setOffers s tap l).tiers = s.tiers ∧
    (State.setOffers s tap l).services = s.services ∧ (State.setOffers s tap l).eyes = s.eyes ∧
    (State.setOffers s tap l).lace = s.lace ∧ (State.setOffers s tap l).pages = s.pages ∧
    (State.setOffers s tap l).latches = s.latches ∧ (State.setOffers s tap l).regs = s.regs ∧
    (State.setOffers s tap l).security = s.security ∧ (State.setOffers s tap l).port = s.port ∧
    (State.setOffers s tap l).clicker = s.clicker ∧ (State.setOffers s tap l).peer = s.peer ∧
    (State.setOffers s tap l).power = s.power ∧ (State.setOffers s tap l).rst = s.rst ∧
    (State.setOffers s tap l).dbg = s.dbg ∧ (State.setOffers s tap l).recorder = s.recorder ∧
    (State.setOffers s tap l).die = s.die ∧ (State.setOffers s tap l).mem = s.mem ∧
    (State.setOffers s tap l).out = s.out ∧ (State.setOffers s tap l).draws = s.draws ∧
    (State.setOffers s tap l).pending = s.pending :=
  ⟨rfl, rfl, rfl, rfl, rfl, rfl, rfl, rfl, rfl, rfl, rfl, rfl, rfl, rfl, rfl, rfl, rfl, rfl, rfl, rfl, rfl, rfl, rfl, rfl, rfl, rfl, rfl, rfl, rfl⟩

@[simp] theorem State.poison_frame (s : State) (i block : Nat) :
    (State.poison s i block).now = s.now ∧ (State.poison s i block).tenants = s.tenants ∧
    (State.poison s i block).ledger = s.ledger ∧ (State.poison s i block).vault = s.vault ∧
    (State.poison s i block).stitcher = s.stitcher ∧ (State.poison s i block).books = s.books ∧
    (State.poison s i block).banks = s.banks ∧ (State.poison s i block).retake = s.retake ∧
    (State.poison s i block).movers = s.movers ∧ (State.poison s i block).tiers = s.tiers ∧
    (State.poison s i block).services = s.services ∧ (State.poison s i block).eyes = s.eyes ∧
    (State.poison s i block).lace = s.lace ∧ (State.poison s i block).pages = s.pages ∧
    (State.poison s i block).latches = s.latches ∧ (State.poison s i block).regs = s.regs ∧
    (State.poison s i block).security = s.security ∧ (State.poison s i block).port = s.port ∧
    (State.poison s i block).clicker = s.clicker ∧ (State.poison s i block).peer = s.peer ∧
    (State.poison s i block).power = s.power ∧ (State.poison s i block).rst = s.rst ∧
    (State.poison s i block).dbg = s.dbg ∧ (State.poison s i block).recorder = s.recorder ∧
    (State.poison s i block).die = s.die ∧ (State.poison s i block).mem = s.mem ∧
    (State.poison s i block).out = s.out ∧ (State.poison s i block).draws = s.draws ∧
    (State.poison s i block).pending = s.pending :=
  ⟨rfl, rfl, rfl, rfl, rfl, rfl, rfl, rfl, rfl, rfl, rfl, rfl, rfl, rfl, rfl, rfl, rfl, rfl, rfl, rfl, rfl, rfl, rfl, rfl, rfl, rfl, rfl, rfl, rfl⟩

@[simp] theorem State.setInline_frame (s : State) (i : Nat) (bs : List Byte) :
    (State.setInline s i bs).now = s.now ∧ (State.setInline s i bs).tenants = s.tenants ∧
    (State.setInline s i bs).ledger = s.ledger ∧ (State.setInline s i bs).vault = s.vault ∧
    (State.setInline s i bs).books = s.books ∧ (State.setInline s i bs).banks = s.banks ∧
    (State.setInline s i bs).retake = s.retake ∧ (State.setInline s i bs).continuity = s.continuity ∧
    (State.setInline s i bs).movers = s.movers ∧ (State.setInline s i bs).tiers = s.tiers ∧
    (State.setInline s i bs).services = s.services ∧ (State.setInline s i bs).eyes = s.eyes ∧
    (State.setInline s i bs).lace = s.lace ∧ (State.setInline s i bs).pages = s.pages ∧
    (State.setInline s i bs).latches = s.latches ∧ (State.setInline s i bs).regs = s.regs ∧
    (State.setInline s i bs).security = s.security ∧ (State.setInline s i bs).port = s.port ∧
    (State.setInline s i bs).clicker = s.clicker ∧ (State.setInline s i bs).peer = s.peer ∧
    (State.setInline s i bs).power = s.power ∧ (State.setInline s i bs).rst = s.rst ∧
    (State.setInline s i bs).dbg = s.dbg ∧ (State.setInline s i bs).recorder = s.recorder ∧
    (State.setInline s i bs).die = s.die ∧ (State.setInline s i bs).mem = s.mem ∧
    (State.setInline s i bs).out = s.out ∧ (State.setInline s i bs).draws = s.draws ∧
    (State.setInline s i bs).pending = s.pending :=
  ⟨rfl, rfl, rfl, rfl, rfl, rfl, rfl, rfl, rfl, rfl, rfl, rfl, rfl, rfl, rfl, rfl, rfl, rfl, rfl, rfl, rfl, rfl, rfl, rfl, rfl, rfl, rfl, rfl, rfl⟩

@[simp] theorem State.setWork_frame (s : State) (lane : Nat) (w : Option LaneWork) :
    (State.setWork s lane w).now = s.now ∧ (State.setWork s lane w).tenants = s.tenants ∧
    (State.setWork s lane w).ledger = s.ledger ∧ (State.setWork s lane w).vault = s.vault ∧
    (State.setWork s lane w).stitcher = s.stitcher ∧ (State.setWork s lane w).books = s.books ∧
    (State.setWork s lane w).banks = s.banks ∧ (State.setWork s lane w).continuity = s.continuity ∧
    (State.setWork s lane w).movers = s.movers ∧ (State.setWork s lane w).tiers = s.tiers ∧
    (State.setWork s lane w).services = s.services ∧ (State.setWork s lane w).eyes = s.eyes ∧
    (State.setWork s lane w).lace = s.lace ∧ (State.setWork s lane w).pages = s.pages ∧
    (State.setWork s lane w).latches = s.latches ∧ (State.setWork s lane w).regs = s.regs ∧
    (State.setWork s lane w).security = s.security ∧ (State.setWork s lane w).port = s.port ∧
    (State.setWork s lane w).clicker = s.clicker ∧ (State.setWork s lane w).peer = s.peer ∧
    (State.setWork s lane w).power = s.power ∧ (State.setWork s lane w).rst = s.rst ∧
    (State.setWork s lane w).dbg = s.dbg ∧ (State.setWork s lane w).recorder = s.recorder ∧
    (State.setWork s lane w).die = s.die ∧ (State.setWork s lane w).mem = s.mem ∧
    (State.setWork s lane w).out = s.out ∧ (State.setWork s lane w).draws = s.draws ∧
    (State.setWork s lane w).pending = s.pending :=
  ⟨rfl, rfl, rfl, rfl, rfl, rfl, rfl, rfl, rfl, rfl, rfl, rfl, rfl, rfl, rfl, rfl, rfl, rfl, rfl, rfl, rfl, rfl, rfl, rfl, rfl, rfl, rfl, rfl, rfl⟩

@[simp] theorem State.testLanes_frame (s : State) (mask cause : Nat) :
    (State.testLanes s mask cause).now = s.now ∧ (State.testLanes s mask cause).tenants = s.tenants ∧
    (State.testLanes s mask cause).ledger = s.ledger ∧ (State.testLanes s mask cause).vault = s.vault ∧
    (State.testLanes s mask cause).stitcher = s.stitcher ∧ (State.testLanes s mask cause).books = s.books ∧
    (State.testLanes s mask cause).banks = s.banks ∧ (State.testLanes s mask cause).continuity = s.continuity ∧
    (State.testLanes s mask cause).movers = s.movers ∧ (State.testLanes s mask cause).tiers = s.tiers ∧
    (State.testLanes s mask cause).services = s.services ∧ (State.testLanes s mask cause).eyes = s.eyes ∧
    (State.testLanes s mask cause).lace = s.lace ∧ (State.testLanes s mask cause).pages = s.pages ∧
    (State.testLanes s mask cause).latches = s.latches ∧ (State.testLanes s mask cause).regs = s.regs ∧
    (State.testLanes s mask cause).security = s.security ∧ (State.testLanes s mask cause).port = s.port ∧
    (State.testLanes s mask cause).clicker = s.clicker ∧ (State.testLanes s mask cause).peer = s.peer ∧
    (State.testLanes s mask cause).power = s.power ∧ (State.testLanes s mask cause).rst = s.rst ∧
    (State.testLanes s mask cause).dbg = s.dbg ∧ (State.testLanes s mask cause).recorder = s.recorder ∧
    (State.testLanes s mask cause).die = s.die ∧ (State.testLanes s mask cause).mem = s.mem ∧
    (State.testLanes s mask cause).out = s.out ∧ (State.testLanes s mask cause).draws = s.draws ∧
    (State.testLanes s mask cause).pending = s.pending :=
  ⟨rfl, rfl, rfl, rfl, rfl, rfl, rfl, rfl, rfl, rfl, rfl, rfl, rfl, rfl, rfl, rfl, rfl, rfl, rfl, rfl, rfl, rfl, rfl, rfl, rfl, rfl, rfl, rfl, rfl⟩

@[simp] theorem State.sampleDone_frame (s : State) (n : Nat) (v : Bool) :
    (State.sampleDone s n v).now = s.now ∧ (State.sampleDone s n v).tenants = s.tenants ∧
    (State.sampleDone s n v).ledger = s.ledger ∧ (State.sampleDone s n v).vault = s.vault ∧
    (State.sampleDone s n v).stitcher = s.stitcher ∧ (State.sampleDone s n v).books = s.books ∧
    (State.sampleDone s n v).banks = s.banks ∧ (State.sampleDone s n v).retake = s.retake ∧
    (State.sampleDone s n v).continuity = s.continuity ∧ (State.sampleDone s n v).movers = s.movers ∧
    (State.sampleDone s n v).tiers = s.tiers ∧ (State.sampleDone s n v).services = s.services ∧
    (State.sampleDone s n v).eyes = s.eyes ∧ (State.sampleDone s n v).pages = s.pages ∧
    (State.sampleDone s n v).latches = s.latches ∧ (State.sampleDone s n v).regs = s.regs ∧
    (State.sampleDone s n v).security = s.security ∧ (State.sampleDone s n v).port = s.port ∧
    (State.sampleDone s n v).clicker = s.clicker ∧ (State.sampleDone s n v).peer = s.peer ∧
    (State.sampleDone s n v).power = s.power ∧ (State.sampleDone s n v).rst = s.rst ∧
    (State.sampleDone s n v).dbg = s.dbg ∧ (State.sampleDone s n v).recorder = s.recorder ∧
    (State.sampleDone s n v).die = s.die ∧ (State.sampleDone s n v).mem = s.mem ∧
    (State.sampleDone s n v).out = s.out ∧ (State.sampleDone s n v).draws = s.draws ∧
    (State.sampleDone s n v).pending = s.pending :=
  ⟨rfl, rfl, rfl, rfl, rfl, rfl, rfl, rfl, rfl, rfl, rfl, rfl, rfl, rfl, rfl, rfl, rfl, rfl, rfl, rfl, rfl, rfl, rfl, rfl, rfl, rfl, rfl, rfl, rfl⟩

@[simp] theorem State.ctxRefuse_frame (s : State) (r : Nat) :
    (State.ctxRefuse s r).now = s.now ∧ (State.ctxRefuse s r).tenants = s.tenants ∧
    (State.ctxRefuse s r).ledger = s.ledger ∧ (State.ctxRefuse s r).vault = s.vault ∧
    (State.ctxRefuse s r).stitcher = s.stitcher ∧ (State.ctxRefuse s r).books = s.books ∧
    (State.ctxRefuse s r).banks = s.banks ∧ (State.ctxRefuse s r).retake = s.retake ∧
    (State.ctxRefuse s r).continuity = s.continuity ∧ (State.ctxRefuse s r).movers = s.movers ∧
    (State.ctxRefuse s r).tiers = s.tiers ∧ (State.ctxRefuse s r).services = s.services ∧
    (State.ctxRefuse s r).lace = s.lace ∧ (State.ctxRefuse s r).pages = s.pages ∧
    (State.ctxRefuse s r).latches = s.latches ∧ (State.ctxRefuse s r).regs = s.regs ∧
    (State.ctxRefuse s r).security = s.security ∧ (State.ctxRefuse s r).port = s.port ∧
    (State.ctxRefuse s r).clicker = s.clicker ∧ (State.ctxRefuse s r).peer = s.peer ∧
    (State.ctxRefuse s r).power = s.power ∧ (State.ctxRefuse s r).rst = s.rst ∧ (State.ctxRefuse s r).dbg = s.dbg ∧
    (State.ctxRefuse s r).recorder = s.recorder ∧ (State.ctxRefuse s r).die = s.die ∧
    (State.ctxRefuse s r).mem = s.mem ∧ (State.ctxRefuse s r).out = s.out ∧ (State.ctxRefuse s r).draws = s.draws ∧
    (State.ctxRefuse s r).pending = s.pending :=
  ⟨rfl, rfl, rfl, rfl, rfl, rfl, rfl, rfl, rfl, rfl, rfl, rfl, rfl, rfl, rfl, rfl, rfl, rfl, rfl, rfl, rfl, rfl, rfl, rfl, rfl, rfl, rfl, rfl, rfl⟩

@[simp] theorem State.awaitOriginal_frame (s : State) (k : Ticket) :
    (State.awaitOriginal s k).now = s.now ∧ (State.awaitOriginal s k).tenants = s.tenants ∧
    (State.awaitOriginal s k).ledger = s.ledger ∧ (State.awaitOriginal s k).vault = s.vault ∧
    (State.awaitOriginal s k).stitcher = s.stitcher ∧ (State.awaitOriginal s k).books = s.books ∧
    (State.awaitOriginal s k).banks = s.banks ∧ (State.awaitOriginal s k).retake = s.retake ∧
    (State.awaitOriginal s k).continuity = s.continuity ∧ (State.awaitOriginal s k).movers = s.movers ∧
    (State.awaitOriginal s k).tiers = s.tiers ∧ (State.awaitOriginal s k).services = s.services ∧
    (State.awaitOriginal s k).eyes = s.eyes ∧ (State.awaitOriginal s k).lace = s.lace ∧
    (State.awaitOriginal s k).pages = s.pages ∧ (State.awaitOriginal s k).latches = s.latches ∧
    (State.awaitOriginal s k).regs = s.regs ∧ (State.awaitOriginal s k).security = s.security ∧
    (State.awaitOriginal s k).clicker = s.clicker ∧ (State.awaitOriginal s k).peer = s.peer ∧
    (State.awaitOriginal s k).power = s.power ∧ (State.awaitOriginal s k).rst = s.rst ∧
    (State.awaitOriginal s k).dbg = s.dbg ∧ (State.awaitOriginal s k).recorder = s.recorder ∧
    (State.awaitOriginal s k).die = s.die ∧ (State.awaitOriginal s k).mem = s.mem ∧
    (State.awaitOriginal s k).out = s.out ∧ (State.awaitOriginal s k).draws = s.draws ∧
    (State.awaitOriginal s k).pending = s.pending :=
  ⟨rfl, rfl, rfl, rfl, rfl, rfl, rfl, rfl, rfl, rfl, rfl, rfl, rfl, rfl, rfl, rfl, rfl, rfl, rfl, rfl, rfl, rfl, rfl, rfl, rfl, rfl, rfl, rfl, rfl⟩

@[simp] theorem State.dropCached_frame (s : State) (b : Nat) :
    (State.dropCached s b).now = s.now ∧ (State.dropCached s b).tenants = s.tenants ∧
    (State.dropCached s b).ledger = s.ledger ∧ (State.dropCached s b).vault = s.vault ∧
    (State.dropCached s b).stitcher = s.stitcher ∧ (State.dropCached s b).books = s.books ∧
    (State.dropCached s b).retake = s.retake ∧ (State.dropCached s b).continuity = s.continuity ∧
    (State.dropCached s b).movers = s.movers ∧ (State.dropCached s b).tiers = s.tiers ∧
    (State.dropCached s b).services = s.services ∧ (State.dropCached s b).eyes = s.eyes ∧
    (State.dropCached s b).lace = s.lace ∧ (State.dropCached s b).pages = s.pages ∧
    (State.dropCached s b).latches = s.latches ∧ (State.dropCached s b).regs = s.regs ∧
    (State.dropCached s b).security = s.security ∧ (State.dropCached s b).port = s.port ∧
    (State.dropCached s b).clicker = s.clicker ∧ (State.dropCached s b).peer = s.peer ∧
    (State.dropCached s b).power = s.power ∧ (State.dropCached s b).rst = s.rst ∧ (State.dropCached s b).dbg = s.dbg ∧
    (State.dropCached s b).recorder = s.recorder ∧ (State.dropCached s b).die = s.die ∧
    (State.dropCached s b).mem = s.mem ∧ (State.dropCached s b).out = s.out ∧ (State.dropCached s b).draws = s.draws ∧
    (State.dropCached s b).pending = s.pending :=
  ⟨rfl, rfl, rfl, rfl, rfl, rfl, rfl, rfl, rfl, rfl, rfl, rfl, rfl, rfl, rfl, rfl, rfl, rfl, rfl, rfl, rfl, rfl, rfl, rfl, rfl, rfl, rfl, rfl, rfl⟩

@[simp] theorem State.regionResult_frame (s : State) (n : Nat) :
    (State.regionResult s n).now = s.now ∧ (State.regionResult s n).tenants = s.tenants ∧
    (State.regionResult s n).ledger = s.ledger ∧ (State.regionResult s n).vault = s.vault ∧
    (State.regionResult s n).stitcher = s.stitcher ∧ (State.regionResult s n).books = s.books ∧
    (State.regionResult s n).banks = s.banks ∧ (State.regionResult s n).retake = s.retake ∧
    (State.regionResult s n).continuity = s.continuity ∧ (State.regionResult s n).movers = s.movers ∧
    (State.regionResult s n).services = s.services ∧ (State.regionResult s n).eyes = s.eyes ∧
    (State.regionResult s n).lace = s.lace ∧ (State.regionResult s n).pages = s.pages ∧
    (State.regionResult s n).latches = s.latches ∧ (State.regionResult s n).regs = s.regs ∧
    (State.regionResult s n).security = s.security ∧ (State.regionResult s n).port = s.port ∧
    (State.regionResult s n).clicker = s.clicker ∧ (State.regionResult s n).peer = s.peer ∧
    (State.regionResult s n).power = s.power ∧ (State.regionResult s n).rst = s.rst ∧
    (State.regionResult s n).dbg = s.dbg ∧ (State.regionResult s n).recorder = s.recorder ∧
    (State.regionResult s n).die = s.die ∧ (State.regionResult s n).mem = s.mem ∧
    (State.regionResult s n).out = s.out ∧ (State.regionResult s n).draws = s.draws ∧
    (State.regionResult s n).pending = s.pending :=
  ⟨rfl, rfl, rfl, rfl, rfl, rfl, rfl, rfl, rfl, rfl, rfl, rfl, rfl, rfl, rfl, rfl, rfl, rfl, rfl, rfl, rfl, rfl, rfl, rfl, rfl, rfl, rfl, rfl, rfl⟩

@[simp] theorem State.setOps_frame (s : State) (l : List PeerOp) :
    (State.setOps s l).now = s.now ∧ (State.setOps s l).tenants = s.tenants ∧ (State.setOps s l).ledger = s.ledger ∧
    (State.setOps s l).vault = s.vault ∧ (State.setOps s l).stitcher = s.stitcher ∧
    (State.setOps s l).books = s.books ∧ (State.setOps s l).banks = s.banks ∧ (State.setOps s l).retake = s.retake ∧
    (State.setOps s l).continuity = s.continuity ∧ (State.setOps s l).movers = s.movers ∧
    (State.setOps s l).tiers = s.tiers ∧ (State.setOps s l).services = s.services ∧ (State.setOps s l).eyes = s.eyes ∧
    (State.setOps s l).lace = s.lace ∧ (State.setOps s l).pages = s.pages ∧ (State.setOps s l).latches = s.latches ∧
    (State.setOps s l).regs = s.regs ∧ (State.setOps s l).security = s.security ∧ (State.setOps s l).port = s.port ∧
    (State.setOps s l).clicker = s.clicker ∧ (State.setOps s l).power = s.power ∧ (State.setOps s l).rst = s.rst ∧
    (State.setOps s l).dbg = s.dbg ∧ (State.setOps s l).recorder = s.recorder ∧ (State.setOps s l).die = s.die ∧
    (State.setOps s l).mem = s.mem ∧ (State.setOps s l).out = s.out ∧ (State.setOps s l).draws = s.draws ∧
    (State.setOps s l).pending = s.pending :=
  ⟨rfl, rfl, rfl, rfl, rfl, rfl, rfl, rfl, rfl, rfl, rfl, rfl, rfl, rfl, rfl, rfl, rfl, rfl, rfl, rfl, rfl, rfl, rfl, rfl, rfl, rfl, rfl, rfl, rfl⟩

@[simp] theorem State.clearLost_frame (s : State) (package : Nat) :
    (State.clearLost s package).now = s.now ∧ (State.clearLost s package).tenants = s.tenants ∧
    (State.clearLost s package).ledger = s.ledger ∧ (State.clearLost s package).vault = s.vault ∧
    (State.clearLost s package).stitcher = s.stitcher ∧ (State.clearLost s package).books = s.books ∧
    (State.clearLost s package).banks = s.banks ∧ (State.clearLost s package).retake = s.retake ∧
    (State.clearLost s package).continuity = s.continuity ∧ (State.clearLost s package).movers = s.movers ∧
    (State.clearLost s package).tiers = s.tiers ∧ (State.clearLost s package).services = s.services ∧
    (State.clearLost s package).eyes = s.eyes ∧ (State.clearLost s package).lace = s.lace ∧
    (State.clearLost s package).pages = s.pages ∧ (State.clearLost s package).latches = s.latches ∧
    (State.clearLost s package).regs = s.regs ∧ (State.clearLost s package).security = s.security ∧
    (State.clearLost s package).port = s.port ∧ (State.clearLost s package).clicker = s.clicker ∧
    (State.clearLost s package).power = s.power ∧ (State.clearLost s package).rst = s.rst ∧
    (State.clearLost s package).dbg = s.dbg ∧ (State.clearLost s package).recorder = s.recorder ∧
    (State.clearLost s package).die = s.die ∧ (State.clearLost s package).mem = s.mem ∧
    (State.clearLost s package).out = s.out ∧ (State.clearLost s package).draws = s.draws ∧
    (State.clearLost s package).pending = s.pending :=
  ⟨rfl, rfl, rfl, rfl, rfl, rfl, rfl, rfl, rfl, rfl, rfl, rfl, rfl, rfl, rfl, rfl, rfl, rfl, rfl, rfl, rfl, rfl, rfl, rfl, rfl, rfl, rfl, rfl, rfl⟩

@[simp] theorem State.clearAllLost_frame (s : State) :
    (State.clearAllLost s).now = s.now ∧ (State.clearAllLost s).tenants = s.tenants ∧
    (State.clearAllLost s).ledger = s.ledger ∧ (State.clearAllLost s).vault = s.vault ∧
    (State.clearAllLost s).stitcher = s.stitcher ∧ (State.clearAllLost s).books = s.books ∧
    (State.clearAllLost s).banks = s.banks ∧ (State.clearAllLost s).retake = s.retake ∧
    (State.clearAllLost s).continuity = s.continuity ∧ (State.clearAllLost s).movers = s.movers ∧
    (State.clearAllLost s).tiers = s.tiers ∧ (State.clearAllLost s).services = s.services ∧
    (State.clearAllLost s).eyes = s.eyes ∧ (State.clearAllLost s).lace = s.lace ∧
    (State.clearAllLost s).pages = s.pages ∧ (State.clearAllLost s).latches = s.latches ∧
    (State.clearAllLost s).regs = s.regs ∧ (State.clearAllLost s).security = s.security ∧
    (State.clearAllLost s).port = s.port ∧ (State.clearAllLost s).clicker = s.clicker ∧
    (State.clearAllLost s).power = s.power ∧ (State.clearAllLost s).rst = s.rst ∧ (State.clearAllLost s).dbg = s.dbg ∧
    (State.clearAllLost s).recorder = s.recorder ∧ (State.clearAllLost s).die = s.die ∧
    (State.clearAllLost s).mem = s.mem ∧ (State.clearAllLost s).out = s.out ∧ (State.clearAllLost s).draws = s.draws ∧
    (State.clearAllLost s).pending = s.pending :=
  ⟨rfl, rfl, rfl, rfl, rfl, rfl, rfl, rfl, rfl, rfl, rfl, rfl, rfl, rfl, rfl, rfl, rfl, rfl, rfl, rfl, rfl, rfl, rfl, rfl, rfl, rfl, rfl, rfl, rfl⟩

@[simp] theorem State.setPeer_frame (s : State) (f : Peer → Peer) :
    (State.setPeer s f).now = s.now ∧ (State.setPeer s f).tenants = s.tenants ∧
    (State.setPeer s f).ledger = s.ledger ∧ (State.setPeer s f).vault = s.vault ∧
    (State.setPeer s f).stitcher = s.stitcher ∧ (State.setPeer s f).books = s.books ∧
    (State.setPeer s f).banks = s.banks ∧ (State.setPeer s f).retake = s.retake ∧
    (State.setPeer s f).continuity = s.continuity ∧ (State.setPeer s f).movers = s.movers ∧
    (State.setPeer s f).tiers = s.tiers ∧ (State.setPeer s f).services = s.services ∧
    (State.setPeer s f).eyes = s.eyes ∧ (State.setPeer s f).lace = s.lace ∧ (State.setPeer s f).pages = s.pages ∧
    (State.setPeer s f).latches = s.latches ∧ (State.setPeer s f).regs = s.regs ∧
    (State.setPeer s f).security = s.security ∧ (State.setPeer s f).port = s.port ∧
    (State.setPeer s f).clicker = s.clicker ∧ (State.setPeer s f).power = s.power ∧ (State.setPeer s f).rst = s.rst ∧
    (State.setPeer s f).dbg = s.dbg ∧ (State.setPeer s f).recorder = s.recorder ∧ (State.setPeer s f).die = s.die ∧
    (State.setPeer s f).mem = s.mem ∧ (State.setPeer s f).out = s.out ∧ (State.setPeer s f).draws = s.draws ∧
    (State.setPeer s f).pending = s.pending :=
  ⟨rfl, rfl, rfl, rfl, rfl, rfl, rfl, rfl, rfl, rfl, rfl, rfl, rfl, rfl, rfl, rfl, rfl, rfl, rfl, rfl, rfl, rfl, rfl, rfl, rfl, rfl, rfl, rfl, rfl⟩

@[simp] theorem State.setLinks_frame (s : State) (up : Bool) :
    (State.setLinks s up).now = s.now ∧ (State.setLinks s up).tenants = s.tenants ∧
    (State.setLinks s up).ledger = s.ledger ∧ (State.setLinks s up).vault = s.vault ∧
    (State.setLinks s up).stitcher = s.stitcher ∧ (State.setLinks s up).books = s.books ∧
    (State.setLinks s up).banks = s.banks ∧ (State.setLinks s up).retake = s.retake ∧
    (State.setLinks s up).continuity = s.continuity ∧ (State.setLinks s up).movers = s.movers ∧
    (State.setLinks s up).tiers = s.tiers ∧ (State.setLinks s up).services = s.services ∧
    (State.setLinks s up).eyes = s.eyes ∧ (State.setLinks s up).lace = s.lace ∧
    (State.setLinks s up).pages = s.pages ∧ (State.setLinks s up).latches = s.latches ∧
    (State.setLinks s up).regs = s.regs ∧ (State.setLinks s up).security = s.security ∧
    (State.setLinks s up).port = s.port ∧ (State.setLinks s up).clicker = s.clicker ∧
    (State.setLinks s up).power = s.power ∧ (State.setLinks s up).rst = s.rst ∧ (State.setLinks s up).dbg = s.dbg ∧
    (State.setLinks s up).recorder = s.recorder ∧ (State.setLinks s up).die = s.die ∧
    (State.setLinks s up).mem = s.mem ∧ (State.setLinks s up).out = s.out ∧ (State.setLinks s up).draws = s.draws ∧
    (State.setLinks s up).pending = s.pending :=
  ⟨rfl, rfl, rfl, rfl, rfl, rfl, rfl, rfl, rfl, rfl, rfl, rfl, rfl, rfl, rfl, rfl, rfl, rfl, rfl, rfl, rfl, rfl, rfl, rfl, rfl, rfl, rfl, rfl, rfl⟩

end Sys2Proof.Machine
end

