-- ==== Sys2Proof/Laws/Values.lean ====
section
/-! SUPPORT. What a unit kept by number reads as after an update, and what a command that is taken at once comes to. -/

namespace Sys2Proof.Machine

/-! ### Reading a unit after it was written -/

theorem State.slate_setSlate (s : State) (i j : Nat) (x : Slate) :
    (s.setSlate i x).slate j = if j = i then x else s.slate j := by
  simp only [State.slate, State.setSlate, look_put]; split <;> rfl

theorem State.tenant_setTenant (s : State) (i j : Nat) (x : Tenant) :
    (s.setTenant i x).tenant j = if j = i then x else s.tenant j := by
  simp only [State.tenant, State.setTenant, look_put]; split <;> rfl

theorem State.extent_setExtent (s : State) (i j : Nat) (x : Extent) :
    (s.setExtent i x).extent j = if j = i then x else s.extent j := by
  simp only [State.extent, State.setExtent, look_put]; split <;> rfl

theorem State.bank_setBank (s : State) (i j : Nat) (x : Bank) :
    (s.setBank i x).bank j = if j = i then x else s.bank j := by
  simp only [State.bank, State.setBank, look_put]; split <;> rfl

theorem State.chan_setChan (s : State) (i j : Nat) (x : Chan) :
    (s.setChan i x).chan j = if j = i then x else s.chan j := by
  simp only [State.chan, State.setChan, look_put]; split <;> simp_all

theorem State.page_setPage (s : State) (i j : Nat) (x : Page) :
    (s.setPage i x).page j = if j = i then x else s.page j := by
  simp only [State.page, State.setPage, look_put]; split <;> simp_all

theorem State.eyelet_setEyelet (s : State) (i j : Nat) (x : Eyelet) :
    (s.setEyelet i x).eyelet j = if j = i then x else s.eyelet j := by
  simp only [State.eyelet, State.setEyelet, look_put]; split <;> rfl

theorem State.wire_setWire (s : State) (i j : Nat) (x : Wire) :
    (s.setWire i x).wire j = if j = i then x else s.wire j := by
  simp only [State.wire, State.setWire, look_put]; split <;> rfl

theorem State.meter_setMeter (s : State) (i j : Nat) (x : Meter) :
    (s.setMeter i x).meter j = if j = i then x else s.meter j := by
  simp only [State.meter, State.setMeter, look_put]; split <;> rfl

theorem State.exposure_setExposure (s : State) (i j : Nat) (x : Exposure) :
    (s.setExposure i x).exposure j = if j = i then x else s.exposure j := by
  simp only [State.exposure, State.setExposure, look_put]; split <;> rfl

theorem State.pd_setPd (s : State) (i j : Nat) (x : Pd) : (s.setPd i x).pd j = if j = i then x else s.pd j := by
  simp only [State.pd, State.setPd, look_put]; split <;> rfl

theorem State.regKey_setKey (s : State) (i j : Nat) (x : Word) :
    (s.setKey i x).regKey j = if j = i then x else s.regKey j := by
  simp only [State.regKey, State.setKey, look_put]; split <;> simp_all

theorem State.irqPage_page (s : State) (n m : Nat) (f : Page → Page) :
    (s.irqPage n f).page m = if m = n then f (s.page n) else s.page m := State.page_setPage s n m (f (s.page n))

theorem State.raise_page (s : State) (n m b : Nat) :
    (s.raise n b).page m = if m = n then { s.page n with raw := (s.page n).raw ||| w32 b } else s.page m :=
  State.irqPage_page s n m _

theorem State.pageError_raw (s : State) (p n a : Nat) (w : Word) : ((s.pageError p w a).page n).raw = (s.page n).raw := by
  unfold State.pageError State.modPage
  rw [State.page_setPage]
  split
  · rename_i h; subst h
    dsimp only; split <;> rfl
  · rfl

@[simp] theorem State.slate_setSlate_same (s : State) (i : Nat) (x : Slate) : (s.setSlate i x).slate i = x := by
  simp [State.slate_setSlate]

@[simp] theorem State.tenant_setTenant_same (s : State) (i : Nat) (x : Tenant) : (s.setTenant i x).tenant i = x := by
  simp [State.tenant_setTenant]

@[simp] theorem State.slate_modSlate_same (s : State) (i : Nat) (f : Slate → Slate) :
    (s.modSlate i f).slate i = f (s.slate i) := by simp [State.modSlate]

@[simp] theorem State.tenant_modTenant_same (s : State) (i : Nat) (f : Tenant → Tenant) :
    (s.modTenant i f).tenant i = f (s.tenant i) := by simp [State.modTenant]

@[simp] theorem State.regKey_setKey_same (s : State) (i : Nat) (x : Word) : (s.setKey i x).regKey i = x := by
  simp [State.regKey_setKey]

/-! ### The register words that logging and the recorder leave alone -/

theorem State.takeRec_regKey (s : State) (x : Rec) (k : Nat) (h1 : k ≠ R.FLT_LAST_CODE) (h2 : k ≠ R.FLT_LAST_SEQ) :
    (s.takeRec x).regKey k = s.regKey k := by
  unfold State.takeRec State.setReg
  simp only [State.regKey_setKey, h1, h2, if_false]
  rfl

theorem State.offerRec_regKey (s : State) (x : Rec) (k : Nat) (h1 : k ≠ R.FLT_LAST_CODE) (h2 : k ≠ R.FLT_LAST_SEQ) :
    (s.offerRec x).regKey k = s.regKey k := by
  unfold State.offerRec
  split
  · exact State.takeRec_regKey s x k h1 h2
  · rfl

theorem State.takeRaised_regKey (s : State) (k : Nat) (h1 : k ≠ R.FLT_LAST_CODE) (h2 : k ≠ R.FLT_LAST_SEQ) :
    s.takeRaised.regKey k = s.regKey k := by
  unfold State.takeRaised
  generalize s.recorder.raised.foldl (fun l x => insertRaised x l) [] = l
  have h : ∀ (l : List Raised) (z : State),
      (l.foldl (fun (s : State) x => s.offerRec x.record) z).regKey k = z.regKey k := by
    intro l
    induction l with
    | nil => intro z; rfl
    | cons x r ih => intro z; rw [List.foldl_cons, ih, State.offerRec_regKey z _ k h1 h2]
  rw [h]
  rfl

theorem State.log_regKey (s : State) (code source : Nat) (ps : List Word) (k : Nat)
    (h : k ≠ R.FLT_CNT + 4 * (code / 256 - 1)) : (s.log code source ps).regKey k = s.regKey k := by
  unfold State.log State.bumpSat State.setReg
  dsimp only
  have e : ∀ z : State, z.regs = ((s.raiseEvent ⟨code, source, ps⟩).setKey (R.FLT_CNT + 4 * (code / 256 - 1)) (w32 (satAdd 32
      ((s.raiseEvent ⟨code, source, ps⟩).reg (R.FLT_CNT + 4 * (code / 256 - 1))).toNat 1))).regs → z.regKey k = s.regKey k := by
    intro z hz
    unfold State.regKey
    rw [hz]
    show ((look (put s.regs _ _) k).getD _) = _
    rw [look_put_other _ _ _ _ h]
  apply e
  split <;> simp

/-! ### What events change -/

theorem State.raise_core (s : State) (n b : Nat) (r : Recorder) (g : NMap Word) (pg : NMap Page) (o : Outputs) :
    ({ s.raise n b with recorder := r, regs := g, pages := pg, out := o } : State) =
      { s with recorder := r, regs := g, pages := pg, out := o } := rfl

theorem State.pageError_core (s : State) (n a : Nat) (w : Word) (r : Recorder) (g : NMap Word) (pg : NMap Page) (o : Outputs) :
    ({ s.pageError n w a with recorder := r, regs := g, pages := pg, out := o } : State) =
      { s with recorder := r, regs := g, pages := pg, out := o } := rfl

/-- Logging an event changes the recorder, the register file, the pages and the interrupt messages alone. -/
theorem State.log_core (s : State) (code source : Nat) (ps : List Word) :
    ({ s.log code source ps with recorder := s.recorder, regs := s.regs, pages := s.pages, out := s.out } : State) = s := by
  unfold State.log
  dsimp only
  refine (State.raise_core _ _ _ _ _ _ _).trans ?_
  split
  · exact (State.pageError_core _ _ _ _ _ _ _ _).trans rfl
  · rfl

theorem State.log_outputs (s : State) (code source : Nat) (ps : List Word) :
    ({ (s.log code source ps).out with irqMessages := s.out.irqMessages } : Outputs) = s.out := by
  have k : ∀ y : State, y.out = s.out → ∀ b, ({ (y.raise 0x1D b).out with irqMessages := s.out.irqMessages } : Outputs) = s.out := by
    intro y hy b
    show ({ y.out with irqMessages := s.out.irqMessages } : Outputs) = s.out
    rw [hy]
  unfold State.log
  dsimp only
  apply k
  split <;> rfl

theorem State.offerRec_core (s : State) (x : Rec) (r : Recorder) (g : NMap Word) :
    ({ s.offerRec x with recorder := r, regs := g } : State) = { s with recorder := r, regs := g } := by
  unfold State.offerRec
  split <;> rfl

theorem State.takeRaised_core (s : State) : ({ s.takeRaised with recorder := s.recorder, regs := s.regs } : State) = s := by
  have h : ∀ (l : List Raised) (y : State) (r : Recorder) (g : NMap Word),
      ({ l.foldl (fun (s : State) x => s.offerRec x.record) y with recorder := r, regs := g } : State) =
        { y with recorder := r, regs := g } := by
    intro l
    induction l with
    | nil => intro y r g; rfl
    | cons x l ih =>
      intro y r g
      rw [List.foldl_cons, ih]
      exact State.offerRec_core y x.record r g
  unfold State.takeRaised
  exact h _ _ _ _

/-! ### A command that is taken at once -/

theorem State.asleep_awake (s : State) (h : s.power.state = .active) : s.asleep = false := by simp [State.asleep, h]

theorem State.clockRuns_awake (s : State) (h : s.power.state = .active) : s.clockRuns = true := by simp [State.clockRuns, h]

theorem State.rouse_awake (s : State) (h : s.power.state = .active) : s.rouse = s := by
  simp [State.rouse, State.asleep, h]

/-- Where nothing waits, no request is held back for its source. -/
theorem State.mustHold_awake (s : State) (n : Nat) (h : s.power.state = .active) (k : s.power.heldReqs = [])
    (w : s.recorder.waiting = []) : s.mustHold n = false := by
  simp [State.mustHold, State.asleep, State.sourceHeld, h, k, w]

/-- A request that is served at once. -/
theorem State.arrive_ready (s : State) (r : HeldReq) (go : State → State) (h : Arrives s) : s.arrive r go = go s := by
  simp [State.arrive, h.ready, State.mustHold_awake s _ h.awake h.clear h.settled, State.rouse_awake s h.awake]

theorem State.decode_fresh (s : State) (op : BitVec 8) (c : Cmd) (h : ∀ k ∈ s.port.window, k.ticket ≠ c.ticket)
    (q : s.port.queue = []) (w : s.port.stalled = []) : s.decode op c = (s.taken op c).runCmd op c := by
  have e : s.port.window.find? (fun k => k.ticket == c.ticket) = none := by
    rw [List.find?_eq_none]
    intro k hk
    simp [h k hk]
  unfold State.decode State.beginCmd State.enterTicket State.taken
  simp only [e, q, w]
  rfl

/-- Nothing waits with its issuer: the port's queue stays. -/
theorem State.admitCmds_none (s : State) (h : s.port.stalled = []) : s.admitCmds = s := by
  unfold State.admitCmds
  dsimp only
  rw [h, List.take_nil, List.drop_nil, List.append_nil, ← h]

/-- A command that need not wait runs, and its events are taken. -/
theorem State.command_takes (s : State) (op : BitVec 8) (c : Cmd) (h : Takes s c) (hop : op ≠ 0x03#8)
    (hw : s.mustWait (op, c) = false) :
    s.command op c = ((s.taken op c).runCmd op c).takeRaised := by
  have ha : (({ s with port := { s.port with stalled := s.port.stalled ++ [(op, c)] } } : State)).admitCmds
      = { s with port := { s.port with queue := [(op, c)] } } := by
    unfold State.admitCmds
    simp [h.queue, h.stalled]
  have hr : ({ s with port := { s.port with queue := [(op, c)] } } : State).seqHalt = false := h.running
  have hg : ({ s with port := { s.port with queue := [(op, c)] } } : State).seqRuns = true := by
    have e : ({ s with port := { s.port with queue := [(op, c)] } } : State).sourceHeld 0 = false := by
      simp [State.sourceHeld, h.settled]
    unfold State.seqRuns
    rw [e]
    simp [State.clockRuns, h.awake]
  have hw : ({ s with port := { s.port with queue := [(op, c)] } } : State).mustWait (op, c) = false := hw
  have hu : ({ s with port := { s.port with queue := [(op, c)] } } : State).queueHeld c.queue.val = false := h.unheld
  unfold State.command
  rw [State.arrive_ready s _ _ ⟨h.ready, h.awake, h.clear, h.settled⟩]
  unfold State.acceptCmd
  rw [ha]
  unfold State.drain
  show State.drainCmds _ (1 + s.port.stalled.length) = _
  rw [h.stalled]
  show State.drainCmds _ 1 = _
  unfold State.drainCmds
  rw [if_neg (by rw [hg]; decide), if_neg (by rw [hr]; decide)]
  have hd : ({ s with port := { s.port with queue := [(op, c)] } } : State).decodeNext =
      (((s.taken op c).runCmd op c).takeRaised, true) := by
    have hz : ({ s with port := { s.port with queue := [] } } : State).admitCmds = { s with port := { s.port with queue := [] } } :=
      State.admitCmds_none _ h.stalled
    unfold State.decodeNext
    simp only [State.frontCmd, hu, Bool.false_eq_true, if_false, State.prepare, hop, hw, hz]
    rw [State.decode_fresh { s with port := { s.port with queue := [] } } op c h.fresh rfl h.stalled]
    rfl
  rw [hd]
  rfl

/-- With no event raised there is nothing to take. -/
theorem State.takeRaised_nil (s : State) (h : s.recorder.raised = []) : s.takeRaised = s := by
  unfold State.takeRaised
  rw [h]
  show ({ s with recorder := { s.recorder with raised := [] } } : State) = s
  rw [← h]

theorem State.ends_nil (s : State) (h : s.recorder.raised = []) : s.ends = .next s := by
  rw [State.ends, State.takeRaised_nil s h]

/-- The entry of a command that executes, with no copy waiting. -/
def CmdPort.entry (p : CmdPort) (op : BitVec 8) (c : Cmd) : Executing := ⟨p.serial, op, c, []⟩

/-- The port after a completion: the command executes no more, and its ticket of the window holds the completion. -/
def CmdPort.complete (p : CmdPort) (x : Executing) (d : Completion) : CmdPort :=
  { p with
    executing := p.executing.erase x
    window := p.window.map (fun k => if k.serial = x.serial then { k with completion := some d } else k) }

/-- A completion to which no copy waits: it goes out, uses one free value and enters the window. -/
theorem State.complete_plain (s : State) (op : BitVec 8) (c : Cmd) (a : Answer) (x : Executing)
    (h : s.port.executing.find? (fun x => x.opcode == op && x.cmd == c) = some x) (hc : x.copies = []) :
    s.complete op c a = { s with
      draws := s.draws + 1
      out := { s.out with completions := s.out.completions ++ [completionOf c op a (Config.unstated s.draws)] }
      port := s.port.complete x (completionOf c op a (Config.unstated s.draws)) } := by
  unfold State.complete
  dsimp only [State.draw, State.outCompletion]
  rw [h]
  dsimp only
  rw [hc]
  rfl

/-- In the state a command runs in, it executes, and no copy waits for it. -/
theorem State.taken_executing (s : State) (op : BitVec 8) (c : Cmd) (h : ∀ x ∈ s.port.executing, x.cmd.ticket ≠ c.ticket) :
    (s.taken op c).port.executing.find? (fun x => x.opcode == op && x.cmd == c) = some (s.port.entry op c) := by
  have e : s.port.executing.find? (fun x => x.opcode == op && x.cmd == c) = none := by
    rw [List.find?_eq_none]
    intro x hx
    have : x.cmd ≠ c := fun k => h x hx (by rw [k])
    simp [this]
  show (s.port.executing ++ [s.port.entry op c]).find? _ = _
  rw [List.find?_append, e]
  simp [CmdPort.entry]

/-- A command that need not wait runs; with no event raised its state is that of the run. -/
theorem State.command_quiet (s : State) (op : BitVec 8) (c : Cmd) (h : Takes s c) (hop : op ≠ 0x03#8)
    (hw : s.mustWait (op, c) = false) (hr : ((s.taken op c).runCmd op c).recorder.raised = []) :
    (s.command op c).ends = .next ((s.taken op c).runCmd op c) := by
  rw [State.command_takes s op c h hop hw, State.takeRaised_nil _ hr, State.ends_nil _ hr]

/-- What a completion adds to a state in which a command executes and no copy waits. -/
def State.completed (z : State) (x : Executing) (op : BitVec 8) (c : Cmd) (a : Answer) : State :=
  { z with
    draws := z.draws + 1
    out := { z.out with completions := z.out.completions ++ [completionOf c op a (Config.unstated z.draws)] }
    port := z.port.complete x (completionOf c op a (Config.unstated z.draws)) }

/-- A command that is taken at once and whose run ends with its completion. -/
theorem State.command_completes (s z : State) (op : BitVec 8) (c : Cmd) (a : Answer) (h : Takes s c) (hop : op ≠ 0x03#8)
    (hw : s.mustWait (op, c) = false) (hr : (s.taken op c).runCmd op c = z.complete op c a)
    (hq : z.recorder.raised = []) (hp : z.port = (s.taken op c).port) :
    (s.command op c).ends = .next (z.completed (s.port.entry op c) op c a) := by
  have e : z.complete op c a = z.completed (s.port.entry op c) op c a :=
    State.complete_plain z op c a _ (by rw [hp]; exact State.taken_executing s op c h.alone) rfl
  rw [State.command_quiet s op c h hop hw (by rw [hr, e]; exact hq), hr, e]

/-- Commands other than SEAL, FRAME, PROP_CALL, the eyelet commands and the loans never wait in the port. -/
theorem State.mustWait_other (s : State) (op : BitVec 8) (c : Cmd) (hop : op ≠ 0x03#8) (h1 : op ≠ 0x32#8) (h2 : op ≠ 0x33#8)
    (h3 : eyeOp op = false) (h4 : op ≠ 0x06#8) (h5 : op ≠ 0x20#8) : s.mustWait (op, c) = false := by
  simp [State.mustWait, hop, h1, h2, h3, h4, h5]

end Sys2Proof.Machine
end

