-- ==== Sys2Proof/Laws/Served.lean ====
section
/-! SUPPORT. What a served register access comes to, and when a unit's event runs. -/

set_option Elab.async false

namespace Sys2Proof.Machine

theorem State.running_ready (s : State) (f : State → State) (h : Runs s) : s.running f = f s := by
  simp [State.running, h.ready, h.clock]

theorem State.unit_runs (s : State) (n : Nat) (f : State → State) (h : Runs s) : s.unit n f = f s := by
  have e : s.sourceHeld n = false := by simp [State.sourceHeld, h.settled]
  rw [State.unit, e]
  exact State.running_ready s f h

theorem State.aocRunning_up (s : State) (f : State → State) (h : AocRuns s) : s.aocRunning f = f s := by
  simp [State.aocRunning, h.powered, h.started, h.on]

/-- With FCLK running no wake_at moves. -/
theorem State.movedFrom_awake (t s : State) (h : t.asleep = false) : t.movedFrom s = t := by simp [State.movedFrom, h]

/-- With FCLK running the instance does not sleep. -/
theorem Runs.awake {s : State} (h : Runs s) : s.asleep = false := by
  have := h.clock
  simp only [State.clockRuns, Bool.or_eq_true, beq_iff_eq] at this
  rcases this with k | k <;> simp [State.asleep, k]

theorem Runs.unheld {s : State} (h : Runs s) (n : Nat) : s.mustHold n = false := by
  simp [State.mustHold, h.awake, State.sourceHeld, h.settled, h.clear]

/-- A report from the die that need not wait acts. -/
theorem State.notify_runs (s : State) (n : Notice) (h : Runs s) : s.notify n = s.noticed n := by
  simp [State.notify, State.onReady, h.ready, h.unheld]

/-- An access that is served outside the pages of the AOC domain finds the instance awake (R21, R353). -/
theorem State.served_awake (s : State) (p : Port) (addr : Nat) (w : Bool) (v : Word) (h : s.fate p addr w v = .done)
    (k : aocPage (pageOf addr) = false) : s.asleep = false := by
  unfold State.fate at h
  dsimp only at h
  by_cases e : s.mustHold 7 = true
  · simp only [e, k] at h
    repeat' split at h
    all_goals simp_all
  · simp only [State.mustHold, Bool.or_eq_true, not_or, Bool.not_eq_true] at e
    exact e.1.1

/-! ### What an access leaves alone before it reaches its register -/

@[simp] theorem State.accessed_frame (s : State) (p : Port) (addr : Nat) :
    (State.accessed s p addr).now = s.now ∧
    (State.accessed s p addr).tenants = s.tenants ∧
    (State.accessed s p addr).ledger = s.ledger ∧
    (State.accessed s p addr).vault = s.vault ∧
    (State.accessed s p addr).stitcher = s.stitcher ∧
    (State.accessed s p addr).books = s.books ∧
    (State.accessed s p addr).banks = s.banks ∧
    (State.accessed s p addr).retake = s.retake ∧
    (State.accessed s p addr).continuity = s.continuity ∧
    (State.accessed s p addr).movers = s.movers ∧
    (State.accessed s p addr).tiers = s.tiers ∧
    (State.accessed s p addr).services = s.services ∧
    (State.accessed s p addr).eyes = s.eyes ∧
    (State.accessed s p addr).lace = s.lace ∧
    (State.accessed s p addr).security = s.security ∧
    (State.accessed s p addr).port = s.port ∧
    (State.accessed s p addr).clicker = s.clicker ∧
    (State.accessed s p addr).peer = s.peer ∧
    (State.accessed s p addr).rst = s.rst ∧
    (State.accessed s p addr).dbg = s.dbg ∧
    (State.accessed s p addr).recorder = s.recorder ∧
    (State.accessed s p addr).die = s.die ∧
    (State.accessed s p addr).mem = s.mem ∧
    (State.accessed s p addr).draws = s.draws ∧
    (State.accessed s p addr).pending = s.pending := by
  unfold State.accessed State.touch State.dropLow State.setLatch
  split <;> simp

theorem State.accessed_recorder (s : State) (p : Port) (addr : Nat) : (s.accessed p addr).recorder = s.recorder := by simp

/-- A served write whose effect raises no event. -/
theorem State.access_ends (s : State) (p : Port) (addr : Nat) (f : State → State)
    (hf : ∀ z : State, z.recorder = s.recorder → (f z).recorder.raised = []) :
    (f (s.accessed p addr)).ends = .next (f (s.accessed p addr)) :=
  State.ends_nil _ (hf _ (State.accessed_recorder s p addr))

/-- Outside the pages of the AOC domain a served access moves no wake_at. -/
theorem State.servedFrom_unit (s was : State) (addr : Nat) (h : aocPage (pageOf addr) = false) : s.servedFrom was addr = s := by
  rw [State.servedFrom, h]; rfl

/-- Being served changes no page but the owner's time of access. -/
theorem State.rouse_pages (s : State) : s.rouse.pages = s.pages := by
  unfold State.rouse
  split
  · simp [State.powerTo, State.setPower]
  · split
    · unfold State.beginWake
      split
      · simp
      · split <;> simp [State.setPower]
    · rfl

theorem State.touch_page (s : State) (p : Port) (addr n : Nat) (h : (s.page (pageOf addr)).owner ≠ some p) :
    (s.touch p addr).page n = s.page n := by
  have k : ∀ z : State, z.pages = s.pages → (z.modPage (pageOf addr)
      (fun g => if g.owner = some p then { g with accessAt := z.now } else g)).page n = s.page n := by
    intro z hz
    have e : ∀ m, z.page m = s.page m := by intro m; simp [State.page, hz]
    rw [State.modPage, State.page_setPage, e, if_neg h]
    split
    · rename_i hn; rw [hn]
    · exact e n
  unfold State.touch
  split
  · exact k s rfl
  · exact k s.rouse (State.rouse_pages s)

theorem State.accessed_page (s : State) (p : Port) (addr n : Nat) (h : (s.page (pageOf addr)).owner ≠ some p) :
    (s.accessed p addr).page n = s.page n := State.touch_page s p addr n h

/-- The lock owner's access is noted (R334). -/
theorem State.accessed_owned (s : State) (p : Port) (addr : Nat) (h : (s.page (pageOf addr)).owner = some p) :
    (s.accessed p addr).page (pageOf addr) = { s.page (pageOf addr) with accessAt := s.now } := by
  have k : ∀ y : State, y.pages = s.pages → y.now = s.now → (y.modPage (pageOf addr)
      (fun g => if g.owner = some p then { g with accessAt := y.now } else g)).page (pageOf addr) =
        { s.page (pageOf addr) with accessAt := s.now } := by
    intro y hy hn
    have e : y.page (pageOf addr) = s.page (pageOf addr) := by simp [State.page, hy]
    rw [State.modPage, State.page_setPage, if_pos rfl, e, if_pos h, hn]
  show (s.touch p addr).page _ = _
  unfold State.touch
  split
  · exact k s rfl rfl
  · exact k s.rouse (State.rouse_pages s) (by simp)

/-- A served write of a page header. -/
theorem State.portWrite_header (s : State) (p : Port) (addr : Nat) (v : Word) (test : BootTest) (ha : addr % 4 = 0)
    (h : s.fate p addr true v = .done) (ho : offsetOf addr < 0x40) :
    s.portWrite p addr v test =
      ((s.accessed p addr).writeHeader p (pageOf addr) (offsetOf addr) v test).servedFrom s addr := by
  have e : addr / 4 * 4 = addr := by omega
  unfold State.portWrite
  dsimp only
  rw [e, h]
  exact congrArg (fun z => State.servedFrom z s addr) (if_pos ho)

/-- A served write of a 32-bit register of a page body. -/
theorem State.portWrite_word (s : State) (p : Port) (addr : Nat) (v : Word) (test : BootTest) (r : RegAt) (ha : addr % 4 = 0)
    (h : s.fate p addr true v = .done) (free : (s.page (pageOf addr)).owner = none) (ho : 0x40 ≤ offsetOf addr)
    (hr : regAt addr = some r) (hw : r.desc.wide = false) (hh : r.high = false)
    (hro : r.desc.acc ≠ .ro) (hrc : r.desc.acc ≠ .rc) :
    s.portWrite p addr v test = (((s.accessed p addr).putValue p ⟨addr, v.toNat, 0xFFFFFFFF⟩).putAction p
      ⟨addr, v.toNat, 0xFFFFFFFF⟩ test).servedFrom s addr := by
  have e : addr / 4 * 4 = addr := by omega
  have hp : ((s.accessed p addr).page (pageOf addr)).owner ≠ some p := by
    rw [State.accessed_page s p addr _ (by rw [free]; simp), free]; simp
  unfold State.portWrite
  dsimp only
  rw [e, h]
  refine congrArg (fun z => State.servedFrom z s addr) ?_
  show (if offsetOf addr < 0x40 then _ else (s.accessed p addr).writeBody p addr (s.latch p).wr v test) = _
  rw [if_neg (by omega)]
  unfold State.writeBody
  rw [hr]
  dsimp only
  rw [if_neg (by simp [hro, hrc]), if_neg (by simp [hw]), if_neg hp]
  cases (s.latch p).wr with
  | none => simp [putsOf, hr, hw, State.applyPuts]
  | some q => simp [putsOf, hr, hw, hh, State.applyPuts]

/-! ### What a write leaves in a register of the register file -/

theorem Put.onto_word (a n mask old : Nat) (hm : mask < 2 ^ 32) :
    (Put.mk a n 0xFFFFFFFF).onto mask old = mapMinus old mask + (n &&& mask) := by
  have e : mask &&& 0xFFFFFFFF = mask := Nat.and_two_pow_sub_one_of_lt_two_pow hm
  unfold Put.onto
  dsimp only
  rw [e, Nat.and_assoc, e]

theorem and_word (v : Word) : v.toNat &&& 0xFFFFFFFF = v.toNat := Nat.and_two_pow_sub_one_of_lt_two_pow v.isLt

theorem mapMinus_word (v : Word) : mapMinus v.toNat 0xFFFFFFFF = 0 := by
  unfold mapMinus
  rw [and_word, Nat.xor_self]

theorem w32_and (v : Word) (b : Nat) : w32 (v.toNat &&& b) = v &&& w32 b := by
  apply BitVec.eq_of_toNat_eq
  simp [w32]

theorem w32_toNat (v : Word) : w32 v.toNat = v := by simp [w32]

theorem keyOf_zero (a : Nat) : keyOf a 0 = a := by simp [keyOf]

theorem State.putPlain_inst (z : State) (a n rs mask : Nat) (hm : mask < 2 ^ 32) :
    z.putPlain ⟨a, n, 0xFFFFFFFF⟩ ⟨⟨a, 1, 1, 4, .rw, rs, mask, .inst, false⟩, 0, false⟩ =
      z.setReg a (w32 (legal a (mapMinus (z.reg a).toNat mask + (n &&& mask)))) := by
  unfold State.putPlain
  simp only [State.copyOf, Put.onto_word _ _ _ _ hm, State.setRegT, State.regT, keyOf_zero]
  rfl

/-! ### Latches and rows -/

theorem Port.num_eq (p q : Port) : (Port.num p = Port.num q) = (p = q) := by
  cases p <;> cases q <;> simp [Port.num]

theorem State.latch_setLatch (s : State) (p q : Port) (l : Latch) : (s.setLatch p l).latch q = if q = p then l else s.latch q := by
  unfold State.latch State.setLatch
  dsimp only
  rw [look_putD]
  simp only [Port.num_eq]

theorem State.accessed_latch (s : State) (p : Port) (a : Nat) : (s.accessed p a).latch p = { s.latch p with wr := none } := by
  unfold State.accessed State.dropLow
  rw [State.latch_setLatch, if_pos rfl]
  have : (s.touch p a).latch p = s.latch p := by
    unfold State.latch State.touch
    split <;> simp
  rw [this]

theorem regAt_mem (a : Nat) (r : RegAt) (h : regAt a = some r) : r.desc ∈ regTable := by
  unfold regAt at h
  obtain ⟨d, hd, e⟩ := List.exists_of_findSome?_eq_some h
  unfold RegDesc.at? at e
  split at e
  · cases e
  · dsimp only at e
    split at e
    · cases e; exact hd
    · cases e

theorem rows_rc : ∀ d ∈ regTable, d.acc = .rc → d.wide = false ∧ d.addr ∉ [R.SPB_INFLIGHT, R.PEER_OUTSTANDING, R.OPX_QUEUE] := by decide +kernel
theorem rows_wide : ∀ d ∈ regTable, d.wide = true → d.acc ≠ .rc ∧ d.addr ∉ [R.SPB_INFLIGHT, R.PEER_OUTSTANDING, R.OPX_QUEUE, R.PWR_RES, R.VLT_HWM, R.OPX_STALL, R.VLT_STALL] := by decide +kernel

end Sys2Proof.Machine
end

