-- ==== Sys2Proof/Laws/Registers.lean ====
section
/-! SUPPORT. Where the registers that have a step of their own stand in the register tables. -/

set_option Elab.async false

namespace Sys2Proof.Machine

theorem regAt_TIER_HOST : regAt R.TIER_HOST = some ⟨⟨R.TIER_HOST, 1, 1, 0x4, .wo, 0x0, 0x0, .inst, false⟩, 0, false⟩ := by decide +kernel

theorem regAt_TIER_HB : regAt R.TIER_HB = some ⟨⟨R.TIER_HB, 1, 1, 0x4, .wo, 0x0, 0x0, .inst, false⟩, 0, false⟩ := by decide +kernel

theorem regAt_TIER_RGN_SEL : regAt R.TIER_RGN_SEL = some ⟨⟨R.TIER_RGN_SEL, 1, 1, 0x4, .rw, 0x0, 0x3F, .inst, false⟩, 0, false⟩ := by decide +kernel

theorem regAt_TIER_RGN_CTRL : regAt R.TIER_RGN_CTRL = some ⟨⟨R.TIER_RGN_CTRL, 1, 1, 0x4, .wo, 0x0, 0x0, .inst, false⟩, 0, false⟩ := by decide +kernel

theorem regAt_SHT_CTRL : regAt R.SHT_CTRL = some ⟨⟨R.SHT_CTRL, 1, 1, 0x4, .rw, 0x0, 0x7, .inst, false⟩, 0, false⟩ := by decide +kernel

theorem regAt_SLT_SEL : regAt R.SLT_SEL = some ⟨⟨R.SLT_SEL, 1, 1, 0x4, .rw, 0x0, 0xFFFF, .inst, false⟩, 0, false⟩ := by decide +kernel

theorem regAt_CUT_FC_SEL : regAt R.CUT_FC_SEL = some ⟨⟨R.CUT_FC_SEL, 1, 1, 0x4, .rw, 0x0, 0x70703FF, .inst, false⟩, 0, false⟩ := by decide +kernel

theorem regAt_CBK_CTRL : regAt R.CBK_CTRL = some ⟨⟨R.CBK_CTRL, 1, 1, 0x4, .wo, 0x0, 0x0, .inst, false⟩, 0, false⟩ := by decide +kernel

theorem regAt_OPX_BCTRL : ∀ n : Fin 48, regAt (opxAddr R.OPX_BCTRL n.val) =
    some ⟨⟨R.OPX_BCTRL, 4, 12, 0x20, .rw, 0x0, 0x1, .inst, false⟩, n.val, false⟩ := by decide +kernel

theorem regAt_RTK_CTRL : regAt R.RTK_CTRL = some ⟨⟨R.RTK_CTRL, 1, 1, 0x4, .rw, 0x0, 0x7, .inst, false⟩, 0, false⟩ := by decide +kernel

theorem regAt_SPL_CTRL : ∀ n : Fin 64, regAt (splCtrl n.val) =
    some ⟨⟨R.SPL_CTRL, 4, 16, 0x80, .wo, 0x0, 0x0, .inst, false⟩, n.val, false⟩ := by decide +kernel

theorem regAt_SPB_POOL : regAt R.SPB_POOL = some ⟨⟨R.SPB_POOL, 1, 1, 0x8, .rw, 0xFFFFFFFFFFFFFF, 0xFFFFFFFFFFFFFFFF, .inst, true⟩, 0, false⟩ := by decide +kernel
theorem regAt_SPB_POOL_high : regAt (R.SPB_POOL + 4) = some ⟨⟨R.SPB_POOL, 1, 1, 0x8, .rw, 0xFFFFFFFFFFFFFF, 0xFFFFFFFFFFFFFFFF, .inst, true⟩, 0, true⟩ := by decide +kernel

theorem regAt_MTR_SEL : regAt R.MTR_SEL = some ⟨⟨R.MTR_SEL, 1, 1, 0x4, .rw, 0x0, 0x30FFF, .inst, false⟩, 0, false⟩ := by decide +kernel

theorem regAt_MTR_CTRL : regAt R.MTR_CTRL = some ⟨⟨R.MTR_CTRL, 1, 1, 0x4, .rw, 0x200, 0x207, .inst, false⟩, 0, false⟩ := by decide +kernel

theorem regAt_MTR_GN_CTRL : regAt R.MTR_GN_CTRL = some ⟨⟨R.MTR_GN_CTRL, 1, 1, 0x4, .rw, 0x2, 0x6, .inst, false⟩, 0, false⟩ := by decide +kernel

theorem regAt_EXS_SEL : regAt R.EXS_SEL = some ⟨⟨R.EXS_SEL, 1, 1, 0x4, .rw, 0x0, 0x7FF, .inst, false⟩, 0, false⟩ := by decide +kernel

theorem regAt_EXS_CTRL : regAt R.EXS_CTRL = some ⟨⟨R.EXS_CTRL, 1, 1, 0x4, .wo, 0x0, 0x0, .inst, false⟩, 0, false⟩ := by decide +kernel

theorem regAt_EYE_SEL : regAt R.EYE_SEL = some ⟨⟨R.EYE_SEL, 1, 1, 0x4, .rw, 0x0, 0xFFF, .inst, false⟩, 0, false⟩ := by decide +kernel

theorem regAt_EYE_COUNT : regAt R.EYE_COUNT = some ⟨⟨R.EYE_COUNT, 1, 1, 0x4, .rw, 0x0, 0xFFFFFFFF, .inst, false⟩, 0, false⟩ := by decide +kernel

theorem regAt_EYE_TARGET : regAt R.EYE_TARGET = some ⟨⟨R.EYE_TARGET, 1, 1, 0x4, .rw, 0x0, 0xFFFFFFFF, .inst, false⟩, 0, false⟩ := by decide +kernel

theorem regAt_EYE_CFG : regAt R.EYE_CFG = some ⟨⟨R.EYE_CFG, 1, 1, 0x4, .rw, 0x0, 0x3FFFFFFF, .inst, false⟩, 0, false⟩ := by decide +kernel

theorem regAt_EYE_CTRL : regAt R.EYE_CTRL = some ⟨⟨R.EYE_CTRL, 1, 1, 0x4, .rw, 0x0, 0x7, .inst, false⟩, 0, false⟩ := by decide +kernel

theorem regAt_CLAP_FIRE : regAt R.CLAP_FIRE = some ⟨⟨R.CLAP_FIRE, 1, 1, 0x8, .wo, 0x0, 0x0, .inst, true⟩, 0, false⟩ := by decide +kernel
theorem regAt_CLAP_FIRE_high : regAt (R.CLAP_FIRE + 4) = some ⟨⟨R.CLAP_FIRE, 1, 1, 0x8, .wo, 0x0, 0x0, .inst, true⟩, 0, true⟩ := by decide +kernel

theorem regAt_LACE_CTRL : regAt R.LACE_CTRL = some ⟨⟨R.LACE_CTRL, 1, 1, 0x4, .rw, 0x0, 0xFFFF, .inst, false⟩, 0, false⟩ := by decide +kernel

theorem regAt_LACE_WIRE : ∀ n : Fin 16, regAt (R.LACE_WIRE + 4 * n.val) =
    some ⟨⟨R.LACE_WIRE, 1, 16, 0x4, .rw, 0x0, 0xFFFFFFF, .inst, false⟩, n.val, false⟩ := by decide +kernel

theorem regAt_LACE_ARR : ∀ n : Fin 16, regAt (R.LACE_ARR + 4 * n.val) =
    some ⟨⟨R.LACE_ARR, 1, 16, 0x4, .rw, 0x1, 0xFFF, .inst, false⟩, n.val, false⟩ := by decide +kernel

theorem regAt_PEER_CTRL : regAt R.PEER_CTRL = some ⟨⟨R.PEER_CTRL, 1, 1, 0x4, .rw, 0x0, 0xFF00, .inst, false⟩, 0, false⟩ := by decide +kernel

theorem regAt_PEER_PARTNER : regAt R.PEER_PARTNER = some ⟨⟨R.PEER_PARTNER, 1, 1, 0x4, .rw, 0x0, 0x1FF, .inst, false⟩, 0, false⟩ := by decide +kernel

theorem regAt_BLK_MODE : regAt R.BLK_MODE = some ⟨⟨R.BLK_MODE, 1, 1, 0x4, .rw, 0x1, 0x1FFF, .inst, false⟩, 0, false⟩ := by decide +kernel

theorem regAt_SEC_PROPOSE : regAt R.SEC_PROPOSE = some ⟨⟨R.SEC_PROPOSE, 1, 1, 0x4, .wo, 0x0, 0x0, .inst, false⟩, 0, false⟩ := by decide +kernel

theorem regAt_SEC_CS_DIGEST : regAt R.SEC_CS_DIGEST = some ⟨⟨R.SEC_CS_DIGEST, 1, 1, 0x4, .wo, 0x0, 0x0, .inst, false⟩, 0, false⟩ := by decide +kernel

theorem regAt_SEC_KEY_STAGE : ∀ n : Fin 16, regAt (R.SEC_KEY_STAGE + 4 * n.val) =
    some ⟨⟨R.SEC_KEY_STAGE, 1, 16, 0x4, .wo, 0x0, 0x0, .inst, false⟩, n.val, false⟩ := by decide +kernel

theorem regAt_PWR_CTRL : regAt R.PWR_CTRL = some ⟨⟨R.PWR_CTRL, 1, 1, 0x4, .wo, 0x0, 0x0, .inst, false⟩, 0, false⟩ := by decide +kernel

theorem regAt_PWR_HINT : regAt R.PWR_HINT = some ⟨⟨R.PWR_HINT, 1, 1, 0x4, .rw, 0x0, 0xFFFFFFFF, .inst, false⟩, 0, false⟩ := by decide +kernel

theorem regAt_RST_CMD : regAt R.RST_CMD = some ⟨⟨R.RST_CMD, 1, 1, 0x4, .wo, 0x0, 0x0, .inst, false⟩, 0, false⟩ := by decide +kernel

theorem regAt_RST_BOOT_CTRL : regAt R.RST_BOOT_CTRL = some ⟨⟨R.RST_BOOT_CTRL, 1, 1, 0x4, .wo, 0x0, 0x0, .inst, false⟩, 0, false⟩ := by decide +kernel

theorem regAt_DBG_CTRL : regAt R.DBG_CTRL = some ⟨⟨R.DBG_CTRL, 1, 1, 0x4, .rw, 0x100, 0x101, .inst, false⟩, 0, false⟩ := by decide +kernel

theorem regAt_DBG_LB_CTRL : regAt R.DBG_LB_CTRL = some ⟨⟨R.DBG_LB_CTRL, 1, 1, 0x4, .rw, 0x100, 0xFFF0F, .inst, false⟩, 0, false⟩ := by decide +kernel

theorem regAt_REC_TAIL : regAt R.REC_TAIL = some ⟨⟨R.REC_TAIL, 1, 1, 0x4, .rw, 0x0, 0xFFFFFFFF, .inst, false⟩, 0, false⟩ := by decide +kernel

theorem regAt_REC_CURSOR : regAt R.REC_CURSOR = some ⟨⟨R.REC_CURSOR, 1, 1, 0x4, .rw, 0x0, 0xFFFFFFFF, .inst, false⟩, 0, false⟩ := by decide +kernel

/-! ### Registers of an array, by the register that their address names -/

theorem State.put_OPX_BCTRL (z : State) (p : Port) (q : Put) (r : RegAt) (h : regAt q.addr = some r)
    (hb : r.desc.addr = R.OPX_BCTRL) : z.putValue p q = z.putPlain q r := by
  unfold State.putValue; rw [h]; dsimp only; rw [hb]
  rfl

theorem State.act_OPX_BCTRL (z : State) (p : Port) (q : Put) (r : RegAt) (t : BootTest) (h : regAt q.addr = some r)
    (hb : r.desc.addr = R.OPX_BCTRL) : z.putAction p q t = z.onBits q.v [(8, fun s => s.bankTest r.index)] := by
  unfold State.putAction; rw [h]; dsimp only; rw [hb]
  rfl

theorem State.put_SPL_CTRL (z : State) (p : Port) (q : Put) (r : RegAt) (h : regAt q.addr = some r)
    (hb : r.desc.addr = R.SPL_CTRL) : z.putValue p q = z := by
  unfold State.putValue; rw [h]; dsimp only; rw [hb]
  show z.putChan q r = _
  unfold State.putChan; dsimp only; rw [hb]
  rfl

theorem State.act_SPL_CTRL (z : State) (p : Port) (q : Put) (r : RegAt) (t : BootTest) (h : regAt q.addr = some r)
    (hb : r.desc.addr = R.SPL_CTRL) : z.putAction p q t = z.onBits q.v [(0, fun s => s.armChannel r.index), (1, fun s => s.stopChannel r.index),
      (2, fun s => s.abortChannel r.index), (3, fun s => s.restartChannel r.index)] := by
  unfold State.putAction; rw [h]; dsimp only; rw [hb]
  rfl

theorem State.put_LACE_WIRE (z : State) (p : Port) (q : Put) (r : RegAt) (h : regAt q.addr = some r)
    (hb : r.desc.addr = R.LACE_WIRE) : z.putValue p q = z.writeWire r.index false q.v := by
  unfold State.putValue; rw [h]; dsimp only; rw [hb]
  show z.putSync p q r = _
  unfold State.putSync; dsimp only; rw [hb]
  rfl

theorem State.act_LACE_WIRE (z : State) (p : Port) (q : Put) (r : RegAt) (t : BootTest) (h : regAt q.addr = some r)
    (hb : r.desc.addr = R.LACE_WIRE) : z.putAction p q t = z := by
  unfold State.putAction; rw [h]; dsimp only; rw [hb]
  rfl

theorem State.put_LACE_ARR (z : State) (p : Port) (q : Put) (r : RegAt) (h : regAt q.addr = some r)
    (hb : r.desc.addr = R.LACE_ARR) : z.putValue p q = z.writeWire r.index true q.v := by
  unfold State.putValue; rw [h]; dsimp only; rw [hb]
  show z.putSync p q r = _
  unfold State.putSync; dsimp only; rw [hb]
  rfl

theorem State.act_LACE_ARR (z : State) (p : Port) (q : Put) (r : RegAt) (t : BootTest) (h : regAt q.addr = some r)
    (hb : r.desc.addr = R.LACE_ARR) : z.putAction p q t = z := by
  unfold State.putAction; rw [h]; dsimp only; rw [hb]
  rfl

theorem State.put_SEC_KEY_STAGE (z : State) (p : Port) (q : Put) (r : RegAt) (h : regAt q.addr = some r)
    (hb : r.desc.addr = R.SEC_KEY_STAGE) : z.putValue p q = z.stageKey r.index (w32 q.v) := by
  unfold State.putValue; rw [h]; dsimp only; rw [hb]
  show z.putSecurity q r = _
  unfold State.putSecurity; dsimp only; rw [hb]
  rfl

theorem State.act_SEC_KEY_STAGE (z : State) (p : Port) (q : Put) (r : RegAt) (t : BootTest) (h : regAt q.addr = some r)
    (hb : r.desc.addr = R.SEC_KEY_STAGE) : z.putAction p q t = z := by
  unfold State.putAction; rw [h]; dsimp only; rw [hb]
  rfl

/-! ### What a served write of each comes to -/

theorem State.write_TIER_HOST (s : State) (p : Port) (v : Word) (t : BootTest) (h : Writes s p R.TIER_HOST v) :
    s.portWrite p R.TIER_HOST v t = ((s.accessed p R.TIER_HOST).writeHost v.toNat) := by
  rw [State.portWrite_word s p R.TIER_HOST v t _ (by decide) h.fate h.free (by decide) regAt_TIER_HOST rfl rfl (by decide) (by decide)]
  unfold State.putValue State.putAction
  dsimp only
  rw [regAt_TIER_HOST]
  rfl

theorem State.write_TIER_HB (s : State) (p : Port) (v : Word) (t : BootTest) (h : Writes s p R.TIER_HB v) :
    s.portWrite p R.TIER_HB v t = ({ (s.accessed p R.TIER_HB) with tiers := { (s.accessed p R.TIER_HB).tiers with hbAt := (s.accessed p R.TIER_HB).now } }) := by
  rw [State.portWrite_word s p R.TIER_HB v t _ (by decide) h.fate h.free (by decide) regAt_TIER_HB rfl rfl (by decide) (by decide)]
  unfold State.putValue State.putAction
  dsimp only
  rw [regAt_TIER_HB]
  rfl

theorem State.write_TIER_RGN_SEL (s : State) (p : Port) (v : Word) (t : BootTest) (h : Writes s p R.TIER_RGN_SEL v) :
    s.portWrite p R.TIER_RGN_SEL v t = (((s.accessed p R.TIER_RGN_SEL).selectRegion (fld v.toNat 0 6))) := by
  rw [State.portWrite_word s p R.TIER_RGN_SEL v t _ (by decide) h.fate h.free (by decide) regAt_TIER_RGN_SEL rfl rfl (by decide) (by decide)]
  unfold State.putValue State.putAction
  dsimp only
  rw [regAt_TIER_RGN_SEL]
  rfl

theorem State.write_TIER_RGN_CTRL (s : State) (p : Port) (v : Word) (t : BootTest) (h : Writes s p R.TIER_RGN_CTRL v) :
    s.portWrite p R.TIER_RGN_CTRL v t = ((s.accessed p R.TIER_RGN_CTRL).onBits v.toNat [(0, State.commitRegion), (1, State.emptyRegion)]) := by
  rw [State.portWrite_word s p R.TIER_RGN_CTRL v t _ (by decide) h.fate h.free (by decide) regAt_TIER_RGN_CTRL rfl rfl (by decide) (by decide)]
  unfold State.putValue State.putAction
  dsimp only
  rw [regAt_TIER_RGN_CTRL]
  rfl

theorem State.write_SHT_CTRL (s : State) (p : Port) (v : Word) (t : BootTest) (h : Writes s p R.SHT_CTRL v) :
    s.portWrite p R.SHT_CTRL v t = (((s.accessed p R.SHT_CTRL).putPlain ⟨R.SHT_CTRL, v.toNat, 0xFFFFFFFF⟩
      ⟨⟨R.SHT_CTRL, 1, 1, 0x4, .rw, 0x0, 0x7, .inst, false⟩, 0, false⟩).sheetAction v.toNat) := by
  rw [State.portWrite_word s p R.SHT_CTRL v t _ (by decide) h.fate h.free (by decide) regAt_SHT_CTRL rfl rfl (by decide) (by decide)]
  unfold State.putValue State.putAction
  dsimp only
  rw [regAt_SHT_CTRL]
  rfl

theorem State.write_SLT_SEL (s : State) (p : Port) (v : Word) (t : BootTest) (h : Writes s p R.SLT_SEL v) :
    s.portWrite p R.SLT_SEL v t = (((s.accessed p R.SLT_SEL).selectSlate (fld v.toNat 0 16))) := by
  rw [State.portWrite_word s p R.SLT_SEL v t _ (by decide) h.fate h.free (by decide) regAt_SLT_SEL rfl rfl (by decide) (by decide)]
  unfold State.putValue State.putAction
  dsimp only
  rw [regAt_SLT_SEL]
  rfl

theorem State.write_CUT_FC_SEL (s : State) (p : Port) (v : Word) (t : BootTest) (h : Writes s p R.CUT_FC_SEL v) :
    s.portWrite p R.CUT_FC_SEL v t = (((s.accessed p R.CUT_FC_SEL).selectForecast ((Put.mk R.CUT_FC_SEL v.toNat 0xFFFFFFFF).onto 0x70703FF 0))) := by
  rw [State.portWrite_word s p R.CUT_FC_SEL v t _ (by decide) h.fate h.free (by decide) regAt_CUT_FC_SEL rfl rfl (by decide) (by decide)]
  unfold State.putValue State.putAction
  dsimp only
  rw [regAt_CUT_FC_SEL]
  rfl

theorem State.write_CBK_CTRL (s : State) (p : Port) (v : Word) (t : BootTest) (h : Writes s p R.CBK_CTRL v) :
    s.portWrite p R.CBK_CTRL v t = ((s.accessed p R.CBK_CTRL).onBits v.toNat [(0, State.bookLoad), (1, State.bookInvalidate)]) := by
  rw [State.portWrite_word s p R.CBK_CTRL v t _ (by decide) h.fate h.free (by decide) regAt_CBK_CTRL rfl rfl (by decide) (by decide)]
  unfold State.putValue State.putAction
  dsimp only
  rw [regAt_CBK_CTRL]
  rfl

theorem State.write_OPX_BCTRL (s : State) (p : Port) (v : Word) (t : BootTest) (n : Fin 48) (h : Writes s p (opxAddr R.OPX_BCTRL n.val) v) :
    s.portWrite p (opxAddr R.OPX_BCTRL n.val) v t = (((s.accessed p (opxAddr R.OPX_BCTRL n.val)).putPlain ⟨opxAddr R.OPX_BCTRL n.val, v.toNat, 0xFFFFFFFF⟩
      ⟨⟨R.OPX_BCTRL, 4, 12, 0x20, .rw, 0x0, 0x1, .inst, false⟩, n.val, false⟩).onBits v.toNat [(8, fun s => s.bankTest n.val)]) := by
  have k : ∀ n : Fin 48, (opxAddr R.OPX_BCTRL n.val) % 4 = 0 ∧ 0x40 ≤ offsetOf (opxAddr R.OPX_BCTRL n.val) ∧ aocPage (pageOf (opxAddr R.OPX_BCTRL n.val)) = false := by decide
  rw [State.portWrite_word s p (opxAddr R.OPX_BCTRL n.val) v t _ (k n).1 h.fate h.free (k n).2.1 (regAt_OPX_BCTRL n) rfl rfl (by simp) (by simp),
    State.servedFrom_unit _ _ _ (k n).2.2]
  rw [State.act_OPX_BCTRL _ p _ _ t (regAt_OPX_BCTRL n) rfl, State.put_OPX_BCTRL _ p _ _ (regAt_OPX_BCTRL n) rfl]

theorem State.write_RTK_CTRL (s : State) (p : Port) (v : Word) (t : BootTest) (h : Writes s p R.RTK_CTRL v) :
    s.portWrite p R.RTK_CTRL v t = (((s.accessed p R.RTK_CTRL).putPlain ⟨R.RTK_CTRL, v.toNat, 0xFFFFFFFF⟩
      ⟨⟨R.RTK_CTRL, 1, 1, 0x4, .rw, 0x0, 0x7, .inst, false⟩, 0, false⟩).onBits v.toNat [(8, State.scriptLoad), (9, State.scriptInvalidate), (10, fun s => s.testLanes s.retake.lanes 1)]) := by
  rw [State.portWrite_word s p R.RTK_CTRL v t _ (by decide) h.fate h.free (by decide) regAt_RTK_CTRL rfl rfl (by decide) (by decide)]
  unfold State.putValue State.putAction
  dsimp only
  rw [regAt_RTK_CTRL]
  rfl

theorem State.write_SPL_CTRL (s : State) (p : Port) (v : Word) (t : BootTest) (n : Fin 64) (h : Writes s p (splCtrl n.val) v) :
    s.portWrite p (splCtrl n.val) v t = ((s.accessed p (splCtrl n.val)).onBits v.toNat [(0, fun s => s.armChannel n.val), (1, fun s => s.stopChannel n.val),
      (2, fun s => s.abortChannel n.val), (3, fun s => s.restartChannel n.val)]) := by
  have k : ∀ n : Fin 64, (splCtrl n.val) % 4 = 0 ∧ 0x40 ≤ offsetOf (splCtrl n.val) ∧ aocPage (pageOf (splCtrl n.val)) = false := by decide
  rw [State.portWrite_word s p (splCtrl n.val) v t _ (k n).1 h.fate h.free (k n).2.1 (regAt_SPL_CTRL n) rfl rfl (by simp) (by simp),
    State.servedFrom_unit _ _ _ (k n).2.2]
  rw [State.act_SPL_CTRL _ p _ _ t (regAt_SPL_CTRL n) rfl, State.put_SPL_CTRL _ p _ _ (regAt_SPL_CTRL n) rfl]

theorem State.write_MTR_SEL (s : State) (p : Port) (v : Word) (t : BootTest) (h : Writes s p R.MTR_SEL v) :
    s.portWrite p R.MTR_SEL v t = (((s.accessed p R.MTR_SEL).selectMeter (legal R.MTR_SEL ((Put.mk R.MTR_SEL v.toNat 0xFFFFFFFF).onto 0x30FFF 0)))) := by
  rw [State.portWrite_word s p R.MTR_SEL v t _ (by decide) h.fate h.free (by decide) regAt_MTR_SEL rfl rfl (by decide) (by decide)]
  unfold State.putValue State.putAction
  dsimp only
  rw [regAt_MTR_SEL]
  rfl

theorem State.write_MTR_CTRL (s : State) (p : Port) (v : Word) (t : BootTest) (h : Writes s p R.MTR_CTRL v) :
    s.portWrite p R.MTR_CTRL v t = (((s.accessed p R.MTR_CTRL).putPlain ⟨R.MTR_CTRL, v.toNat, 0xFFFFFFFF⟩
      ⟨⟨R.MTR_CTRL, 1, 1, 0x4, .rw, 0x200, 0x207, .inst, false⟩, 0, false⟩).onBits v.toNat [(8, State.clearMeter)]) := by
  rw [State.portWrite_word s p R.MTR_CTRL v t _ (by decide) h.fate h.free (by decide) regAt_MTR_CTRL rfl rfl (by decide) (by decide)]
  unfold State.putValue State.putAction
  dsimp only
  rw [regAt_MTR_CTRL]
  rfl

theorem State.write_MTR_GN_CTRL (s : State) (p : Port) (v : Word) (t : BootTest) (h : Writes s p R.MTR_GN_CTRL v) :
    s.portWrite p R.MTR_GN_CTRL v t = (((s.accessed p R.MTR_GN_CTRL).putPlain ⟨R.MTR_GN_CTRL, v.toNat, 0xFFFFFFFF⟩
      ⟨⟨R.MTR_GN_CTRL, 1, 1, 0x4, .rw, 0x2, 0x6, .inst, false⟩, 0, false⟩).onBits v.toNat [(0, fun s => s.gnStart (fld (s.reg R.MTR_GN_CTRL).toNat 1 2))]) := by
  rw [State.portWrite_word s p R.MTR_GN_CTRL v t _ (by decide) h.fate h.free (by decide) regAt_MTR_GN_CTRL rfl rfl (by decide) (by decide)]
  unfold State.putValue State.putAction
  dsimp only
  rw [regAt_MTR_GN_CTRL]
  rfl

theorem State.write_EXS_SEL (s : State) (p : Port) (v : Word) (t : BootTest) (h : Writes s p R.EXS_SEL v) :
    s.portWrite p R.EXS_SEL v t = (((s.accessed p R.EXS_SEL).selectExposure (fld v.toNat 0 11))) := by
  rw [State.portWrite_word s p R.EXS_SEL v t _ (by decide) h.fate h.free (by decide) regAt_EXS_SEL rfl rfl (by decide) (by decide)]
  unfold State.putValue State.putAction
  dsimp only
  rw [regAt_EXS_SEL]
  rfl

theorem State.write_EXS_CTRL (s : State) (p : Port) (v : Word) (t : BootTest) (h : Writes s p R.EXS_CTRL v) :
    s.portWrite p R.EXS_CTRL v t = ((s.accessed p R.EXS_CTRL).onBits v.toNat [(0, State.commitExposure), (1, State.emptyExposure)]) := by
  rw [State.portWrite_word s p R.EXS_CTRL v t _ (by decide) h.fate h.free (by decide) regAt_EXS_CTRL rfl rfl (by decide) (by decide)]
  unfold State.putValue State.putAction
  dsimp only
  rw [regAt_EXS_CTRL]
  rfl

theorem State.write_EYE_SEL (s : State) (p : Port) (v : Word) (t : BootTest) (h : Writes s p R.EYE_SEL v) :
    s.portWrite p R.EYE_SEL v t = (((s.accessed p R.EYE_SEL).selectEye (fld v.toNat 0 12))) := by
  rw [State.portWrite_word s p R.EYE_SEL v t _ (by decide) h.fate h.free (by decide) regAt_EYE_SEL rfl rfl (by decide) (by decide)]
  unfold State.putValue State.putAction
  dsimp only
  rw [regAt_EYE_SEL]
  rfl

theorem State.write_EYE_COUNT (s : State) (p : Port) (v : Word) (t : BootTest) (h : Writes s p R.EYE_COUNT v) :
    s.portWrite p R.EYE_COUNT v t = (((s.accessed p R.EYE_COUNT).setLiveEye (fun e => { e with count := w32 v.toNat }))) := by
  rw [State.portWrite_word s p R.EYE_COUNT v t _ (by decide) h.fate h.free (by decide) regAt_EYE_COUNT rfl rfl (by decide) (by decide)]
  unfold State.putValue State.putAction
  dsimp only
  rw [regAt_EYE_COUNT]
  rfl

theorem State.write_EYE_TARGET (s : State) (p : Port) (v : Word) (t : BootTest) (h : Writes s p R.EYE_TARGET v) :
    s.portWrite p R.EYE_TARGET v t = (((s.accessed p R.EYE_TARGET).setLiveEye (fun e => { e with target := w32 v.toNat }))) := by
  rw [State.portWrite_word s p R.EYE_TARGET v t _ (by decide) h.fate h.free (by decide) regAt_EYE_TARGET rfl rfl (by decide) (by decide)]
  unfold State.putValue State.putAction
  dsimp only
  rw [regAt_EYE_TARGET]
  rfl

theorem State.write_EYE_CFG (s : State) (p : Port) (v : Word) (t : BootTest) (h : Writes s p R.EYE_CFG v) :
    s.portWrite p R.EYE_CFG v t = (((s.accessed p R.EYE_CFG).setLiveEye (fun e => { e with cfg := w32 v.toNat }))) := by
  rw [State.portWrite_word s p R.EYE_CFG v t _ (by decide) h.fate h.free (by decide) regAt_EYE_CFG rfl rfl (by decide) (by decide)]
  unfold State.putValue State.putAction
  dsimp only
  rw [regAt_EYE_CFG]
  rfl

theorem State.write_EYE_CTRL (s : State) (p : Port) (v : Word) (t : BootTest) (h : Writes s p R.EYE_CTRL v) :
    s.portWrite p R.EYE_CTRL v t = (((s.accessed p R.EYE_CTRL).putPlain ⟨R.EYE_CTRL, v.toNat, 0xFFFFFFFF⟩
      ⟨⟨R.EYE_CTRL, 1, 1, 0x4, .rw, 0x0, 0x7, .inst, false⟩, 0, false⟩).onBits v.toNat [(8, fun s => s.startContext (fld v.toNat 0 3) true),
      (9, fun s => s.startContext (fld v.toNat 0 3) false)]) := by
  rw [State.portWrite_word s p R.EYE_CTRL v t _ (by decide) h.fate h.free (by decide) regAt_EYE_CTRL rfl rfl (by decide) (by decide)]
  unfold State.putValue State.putAction
  dsimp only
  rw [regAt_EYE_CTRL]
  rfl

theorem State.write_LACE_CTRL (s : State) (p : Port) (v : Word) (t : BootTest) (h : Writes s p R.LACE_CTRL v) :
    s.portWrite p R.LACE_CTRL v t = ((if p = Port.control then (s.accessed p R.LACE_CTRL).writeEnrol v.toNat else (s.accessed p R.LACE_CTRL))) := by
  rw [State.portWrite_word s p R.LACE_CTRL v t _ (by decide) h.fate h.free (by decide) regAt_LACE_CTRL rfl rfl (by decide) (by decide)]
  unfold State.putValue State.putAction
  dsimp only
  rw [regAt_LACE_CTRL]
  rfl

theorem State.write_LACE_WIRE (s : State) (p : Port) (v : Word) (t : BootTest) (n : Fin 16) (h : Writes s p (R.LACE_WIRE + 4 * n.val) v) :
    s.portWrite p (R.LACE_WIRE + 4 * n.val) v t = (((s.accessed p (R.LACE_WIRE + 4 * n.val)).writeWire n.val false v.toNat)) := by
  have k : ∀ n : Fin 16, (R.LACE_WIRE + 4 * n.val) % 4 = 0 ∧ 0x40 ≤ offsetOf (R.LACE_WIRE + 4 * n.val) ∧ aocPage (pageOf (R.LACE_WIRE + 4 * n.val)) = false := by decide
  rw [State.portWrite_word s p (R.LACE_WIRE + 4 * n.val) v t _ (k n).1 h.fate h.free (k n).2.1 (regAt_LACE_WIRE n) rfl rfl (by simp) (by simp),
    State.servedFrom_unit _ _ _ (k n).2.2]
  rw [State.act_LACE_WIRE _ p _ _ t (regAt_LACE_WIRE n) rfl, State.put_LACE_WIRE _ p _ _ (regAt_LACE_WIRE n) rfl]

theorem State.write_LACE_ARR (s : State) (p : Port) (v : Word) (t : BootTest) (n : Fin 16) (h : Writes s p (R.LACE_ARR + 4 * n.val) v) :
    s.portWrite p (R.LACE_ARR + 4 * n.val) v t = (((s.accessed p (R.LACE_ARR + 4 * n.val)).writeWire n.val true v.toNat)) := by
  have k : ∀ n : Fin 16, (R.LACE_ARR + 4 * n.val) % 4 = 0 ∧ 0x40 ≤ offsetOf (R.LACE_ARR + 4 * n.val) ∧ aocPage (pageOf (R.LACE_ARR + 4 * n.val)) = false := by decide
  rw [State.portWrite_word s p (R.LACE_ARR + 4 * n.val) v t _ (k n).1 h.fate h.free (k n).2.1 (regAt_LACE_ARR n) rfl rfl (by simp) (by simp),
    State.servedFrom_unit _ _ _ (k n).2.2]
  rw [State.act_LACE_ARR _ p _ _ t (regAt_LACE_ARR n) rfl, State.put_LACE_ARR _ p _ _ (regAt_LACE_ARR n) rfl]

theorem State.write_PEER_CTRL (s : State) (p : Port) (v : Word) (t : BootTest) (h : Writes s p R.PEER_CTRL v) :
    s.portWrite p R.PEER_CTRL v t = (((s.accessed p R.PEER_CTRL).putPlain ⟨R.PEER_CTRL, v.toNat, 0xFFFFFFFF⟩
      ⟨⟨R.PEER_CTRL, 1, 1, 0x4, .rw, 0x0, 0xFF00, .inst, false⟩, 0, false⟩).onBits v.toNat [(0, fun s => s.clearLost (fld (s.reg R.PEER_CTRL).toNat 8 8)), (1, State.clearAllLost)]) := by
  rw [State.portWrite_word s p R.PEER_CTRL v t _ (by decide) h.fate h.free (by decide) regAt_PEER_CTRL rfl rfl (by decide) (by decide)]
  unfold State.putValue State.putAction
  dsimp only
  rw [regAt_PEER_CTRL]
  rfl

theorem State.write_PEER_PARTNER (s : State) (p : Port) (v : Word) (t : BootTest) (h : Writes s p R.PEER_PARTNER v) :
    s.portWrite p R.PEER_PARTNER v t = (((s.accessed p R.PEER_PARTNER).writePartner (legal R.PEER_PARTNER ((Put.mk R.PEER_PARTNER v.toNat 0xFFFFFFFF).onto 0x1FF 0)))) := by
  rw [State.portWrite_word s p R.PEER_PARTNER v t _ (by decide) h.fate h.free (by decide) regAt_PEER_PARTNER rfl rfl (by decide) (by decide)]
  unfold State.putValue State.putAction
  dsimp only
  rw [regAt_PEER_PARTNER]
  rfl

theorem State.write_SEC_PROPOSE (s : State) (p : Port) (v : Word) (t : BootTest) (h : Writes s p R.SEC_PROPOSE v) :
    s.portWrite p R.SEC_PROPOSE v t = ((s.accessed p R.SEC_PROPOSE).onBits v.toNat [(0, fun s => s.propose p)]) := by
  rw [State.portWrite_word s p R.SEC_PROPOSE v t _ (by decide) h.fate h.free (by decide) regAt_SEC_PROPOSE rfl rfl (by decide) (by decide)]
  unfold State.putValue State.putAction
  dsimp only
  rw [regAt_SEC_PROPOSE]
  rfl

theorem State.write_SEC_CS_DIGEST (s : State) (p : Port) (v : Word) (t : BootTest) (h : Writes s p R.SEC_CS_DIGEST v) :
    s.portWrite p R.SEC_CS_DIGEST v t = ((s.accessed p R.SEC_CS_DIGEST).countersign p (w32 v.toNat)) := by
  rw [State.portWrite_word s p R.SEC_CS_DIGEST v t _ (by decide) h.fate h.free (by decide) regAt_SEC_CS_DIGEST rfl rfl (by decide) (by decide)]
  unfold State.putValue State.putAction
  dsimp only
  rw [regAt_SEC_CS_DIGEST]
  rfl

theorem State.write_SEC_KEY_STAGE (s : State) (p : Port) (v : Word) (t : BootTest) (n : Fin 16) (h : Writes s p (R.SEC_KEY_STAGE + 4 * n.val) v) :
    s.portWrite p (R.SEC_KEY_STAGE + 4 * n.val) v t = (((s.accessed p (R.SEC_KEY_STAGE + 4 * n.val)).stageKey n.val (w32 v.toNat))) := by
  have k : ∀ n : Fin 16, (R.SEC_KEY_STAGE + 4 * n.val) % 4 = 0 ∧ 0x40 ≤ offsetOf (R.SEC_KEY_STAGE + 4 * n.val) ∧ aocPage (pageOf (R.SEC_KEY_STAGE + 4 * n.val)) = false := by decide
  rw [State.portWrite_word s p (R.SEC_KEY_STAGE + 4 * n.val) v t _ (k n).1 h.fate h.free (k n).2.1 (regAt_SEC_KEY_STAGE n) rfl rfl (by simp) (by simp),
    State.servedFrom_unit _ _ _ (k n).2.2]
  rw [State.act_SEC_KEY_STAGE _ p _ _ t (regAt_SEC_KEY_STAGE n) rfl, State.put_SEC_KEY_STAGE _ p _ _ (regAt_SEC_KEY_STAGE n) rfl]

theorem State.write_PWR_CTRL (s : State) (p : Port) (v : Word) (t : BootTest) (h : Writes s p R.PWR_CTRL v) :
    s.portWrite p R.PWR_CTRL v t = ((s.accessed p R.PWR_CTRL).onBits v.toNat [(0, State.goOff), (1, State.wakeCommand)]).movedFrom s := by
  rw [State.portWrite_word s p R.PWR_CTRL v t _ (by decide) h.fate h.free (by decide) regAt_PWR_CTRL rfl rfl (by decide) (by decide)]
  unfold State.putValue State.putAction
  dsimp only
  rw [regAt_PWR_CTRL]
  rfl

theorem State.write_PWR_HINT (s : State) (p : Port) (v : Word) (t : BootTest) (h : Writes s p R.PWR_HINT v) :
    s.portWrite p R.PWR_HINT v t = (((s.accessed p R.PWR_HINT).writeHint v.toNat)).movedFrom s := by
  rw [State.portWrite_word s p R.PWR_HINT v t _ (by decide) h.fate h.free (by decide) regAt_PWR_HINT rfl rfl (by decide) (by decide)]
  unfold State.putValue State.putAction
  dsimp only
  rw [regAt_PWR_HINT]
  rfl

theorem State.write_RST_CMD (s : State) (p : Port) (v : Word) (t : BootTest) (h : Writes s p R.RST_CMD v) :
    s.portWrite p R.RST_CMD v t = ((s.accessed p R.RST_CMD).resetCommand p v.toNat t).movedFrom s := by
  rw [State.portWrite_word s p R.RST_CMD v t _ (by decide) h.fate h.free (by decide) regAt_RST_CMD rfl rfl (by decide) (by decide)]
  unfold State.putValue State.putAction
  dsimp only
  rw [regAt_RST_CMD]
  rfl

theorem State.write_RST_BOOT_CTRL (s : State) (p : Port) (v : Word) (t : BootTest) (h : Writes s p R.RST_BOOT_CTRL v) :
    s.portWrite p R.RST_BOOT_CTRL v t = ((s.accessed p R.RST_BOOT_CTRL).onBits v.toNat [(0, State.bootGo)]).movedFrom s := by
  rw [State.portWrite_word s p R.RST_BOOT_CTRL v t _ (by decide) h.fate h.free (by decide) regAt_RST_BOOT_CTRL rfl rfl (by decide) (by decide)]
  unfold State.putValue State.putAction
  dsimp only
  rw [regAt_RST_BOOT_CTRL]
  rfl

theorem State.write_DBG_CTRL (s : State) (p : Port) (v : Word) (t : BootTest) (h : Writes s p R.DBG_CTRL v) :
    s.portWrite p R.DBG_CTRL v t = (((s.accessed p R.DBG_CTRL).putPlain ⟨R.DBG_CTRL, v.toNat, 0xFFFFFFFF⟩
      ⟨⟨R.DBG_CTRL, 1, 1, 0x4, .rw, 0x100, 0x101, .inst, false⟩, 0, false⟩).debugAction v.toNat) := by
  rw [State.portWrite_word s p R.DBG_CTRL v t _ (by decide) h.fate h.free (by decide) regAt_DBG_CTRL rfl rfl (by decide) (by decide)]
  unfold State.putValue State.putAction
  dsimp only
  rw [regAt_DBG_CTRL]
  rfl

theorem State.write_DBG_LB_CTRL (s : State) (p : Port) (v : Word) (t : BootTest) (h : Writes s p R.DBG_LB_CTRL v) :
    s.portWrite p R.DBG_LB_CTRL v t = (((s.accessed p R.DBG_LB_CTRL).putPlain ⟨R.DBG_LB_CTRL, v.toNat, 0xFFFFFFFF⟩
      ⟨⟨R.DBG_LB_CTRL, 1, 1, 0x4, .rw, 0x100, 0xFFF0F, .inst, false⟩, 0, false⟩).onBits v.toNat [(4, State.loopbackGo)]) := by
  rw [State.portWrite_word s p R.DBG_LB_CTRL v t _ (by decide) h.fate h.free (by decide) regAt_DBG_LB_CTRL rfl rfl (by decide) (by decide)]
  unfold State.putValue State.putAction
  dsimp only
  rw [regAt_DBG_LB_CTRL]
  rfl

theorem State.write_REC_TAIL (s : State) (p : Port) (v : Word) (t : BootTest) (h : Writes s p R.REC_TAIL v) :
    s.portWrite p R.REC_TAIL v t = ((s.accessed p R.REC_TAIL).putTail p v.toNat).movedFrom s := by
  rw [State.portWrite_word s p R.REC_TAIL v t _ (by decide) h.fate h.free (by decide) regAt_REC_TAIL rfl rfl (by decide) (by decide)]
  unfold State.putValue State.putAction
  dsimp only
  rw [regAt_REC_TAIL]
  rfl

theorem State.write_REC_CURSOR (s : State) (p : Port) (v : Word) (t : BootTest) (h : Writes s p R.REC_CURSOR v) :
    s.portWrite p R.REC_CURSOR v t = (((s.accessed p R.REC_CURSOR).putPlain ⟨R.REC_CURSOR, v.toNat, 0xFFFFFFFF⟩
      ⟨⟨R.REC_CURSOR, 1, 1, 0x4, .rw, 0x0, 0xFFFFFFFF, .inst, false⟩, 0, false⟩)).movedFrom s := by
  rw [State.portWrite_word s p R.REC_CURSOR v t _ (by decide) h.fate h.free (by decide) regAt_REC_CURSOR rfl rfl (by decide) (by decide)]
  unfold State.putValue State.putAction
  dsimp only
  rw [regAt_REC_CURSOR]
  rfl

end Sys2Proof.Machine
end

