-- ==== Sys2Proof/Tests/Slice0.lean ====
section
/-! SUPPORT. The block's own tests: what WellFormed refuses, worked examples of the spec, and for each obligation a state and
operands that meet all that each of its clauses assumes. -/

set_option Elab.async false

namespace Sys2Proof.Tests

open Sys2Proof.Machine

/-! ### Small states -/

/-- The instance right after a boot: READY and ACTIVE. -/
def up : State := { State.reset with rst := { State.reset.rst with phase := .ready } }

theorem runs (s : State) (h : (s.isReady && s.clockRuns && s.power.heldReqs.isEmpty && s.recorder.waiting.isEmpty
    && s.recorder.raised.isEmpty) = true) : Runs s := by
  simp only [Bool.and_eq_true] at h
  obtain ⟨⟨⟨⟨h1, h2⟩, h3⟩, h4⟩, h5⟩ := h
  exact ⟨h1, h2, by simpa using h3, by simpa using h4, by simpa using h5⟩

theorem stands (s : State) (h : (s.isReady && s.recorder.raised.isEmpty) = true) : Stands s := by
  simp only [Bool.and_eq_true] at h
  exact ⟨h.1, by simpa using h.2⟩

theorem aocRuns (s : State) (h : (s.rst.powered && s.rst.phase != .aoc && s.power.state != .off
    && s.recorder.raised.isEmpty) = true) : AocRuns s := by
  simp only [Bool.and_eq_true] at h
  obtain ⟨⟨⟨h1, h2⟩, h3⟩, h4⟩ := h
  exact ⟨h1, by simpa using h2, by simpa using h3, by simpa using h4⟩

theorem arrives (s : State) (h : (s.isReady && s.power.state == .active && s.power.heldReqs.isEmpty
    && s.recorder.waiting.isEmpty) = true) : Arrives s := by
  simp only [Bool.and_eq_true] at h
  obtain ⟨⟨⟨h1, h2⟩, h3⟩, h4⟩ := h
  exact ⟨h1, by simpa using h2, by simpa using h3, by simpa using h4⟩

/-- What Takes asks, as a test. -/
def takesB (s : State) (c : Cmd) : Bool :=
  s.isReady && s.power.state == .active && s.power.heldReqs.isEmpty && s.port.queue.isEmpty && s.port.stalled.isEmpty
    && s.recorder.waiting.isEmpty && !s.seqHalt && !s.queueHeld c.queue.val && s.port.window.all (fun k => k.ticket != c.ticket)
    && s.port.executing.all (fun x => x.cmd.ticket != c.ticket) && s.recorder.raised.isEmpty

theorem takes (s : State) (c : Cmd) (h : takesB s c = true) : Takes s c := by
  simp only [takesB, Bool.and_eq_true, List.all_eq_true, bne_iff_ne] at h
  obtain ⟨⟨⟨⟨⟨⟨⟨⟨⟨⟨h1, h2⟩, h3⟩, h4⟩, h5⟩, h6⟩, h7⟩, h8⟩, h9⟩, h10⟩, h11⟩ := h
  exact ⟨h1, by simpa using h2, by simpa using h3, by simpa using h4, by simpa using h5, by simpa using h6, by simpa using h7,
    by simpa using h8, h9, h10, by simpa using h11⟩

/-- What Serves and Writes ask, as a test. -/
def servesB (s : State) (p : Port) (a : Nat) (v : Word) : Bool := s.fate p a true v == .done && s.recorder.raised.isEmpty

theorem serves (s : State) (p : Port) (a : Nat) (v : Word) (h : servesB s p a v = true) : Serves s p a v := by
  simp only [servesB, Bool.and_eq_true] at h
  exact ⟨by simpa using h.1, by simpa using h.2⟩

def writesB (s : State) (p : Port) (a : Nat) (v : Word) : Bool := servesB s p a v && (s.page (pageOf a)).owner == none

theorem writes (s : State) (p : Port) (a : Nat) (v : Word) (h : writesB s p a v = true) : Writes s p a v := by
  simp only [writesB, Bool.and_eq_true] at h
  exact ⟨serves s p a v h.1, by simpa using h.2⟩

/-- An entry of the test sheet. -/
def entry (k : Nat) : Entry :=
  { tag := k, layerId := 0, mbId := 0, expertId := 0, fwdFrame := 1, format := 0, callFrame := 3, predRatio := 0, sizeBlocks := 1,
    scriptId := 0, mustKeep := false, pinTier := false, continuity := false, encryptOuter := false, pinValue := 0,
    streamClass := if k = 13 then 2 else 0, bookId := 0, releaseFrame := 5, propDesc := if k = 13 then 1 else 0, reserved := false }

/-- A sheet of 14 entries over 8 frames; entry 13 is a PROP entry. -/
def sheet : Sheet :=
  { entries := (List.range 14).map entry, frameCount := 8, defaultFrame := 100, entriesCrc := 0, shelves := 56, peak := 14,
    ftbBase := 0, logBase := 0, cover := [], inUse := []
    props := [{ auto := false, pieces := [⟨0, 1, 2, false, 0, false⟩], reserved := false }] }

/-- Slate k in state st, for entry k of tenant 0. -/
def record (k : Nat) (st : SlateState) : Slate :=
  { Slate.freed 1 with state := st, tenant := 0, entryIndex := k, entry := some (entry k) }

/-- The states of the slates of the test world, by index. -/
def states : List SlateState :=
  [.opened, .sealed, .kept, .movingOut, .parked, .returning, .dropped, .reshooting, .ready, .inUse, .torn, .lost]

/-- Tenant 0 has an open step, and one slate in each state. -/
def world : State :=
  { up with
    tenants := put [] 0 { Tenant.init with sheet := some sheet, stepOpen := true, frame := 2 }
    ledger := ((List.range 12).zip states).foldl (fun m p => put m p.1 (record p.1 p.2)) [] }

/-- Tenant 0 has a sheet and no open step. -/
def idle : State := { up with tenants := put [] 0 { Tenant.init with sheet := some sheet } }

def cmd (tag : BitVec 32) (flags : BitVec 8) (args : BitVec 64) : Cmd :=
  { queue := 0, ticket := 7#16, flags := flags, tag := tag, args := args, payload := List.replicate 48 0#8 }

/-! ### What WellFormed refuses -/

theorem test_wellFormed_command :
    (Instr.openSlate (cmd 0#32 0#8 0#64)).wellFormed = true
    ∧ (Instr.openSlate { cmd 0#32 0#8 0#64 with payload := [] }).wellFormed = false := by decide
theorem test_wellFormed_opcode :
    (Instr.badOpcode 0xFF#8 (cmd 0#32 0#8 0#64)).wellFormed = true
    ∧ (Instr.badOpcode 0x01#8 (cmd 0#32 0#8 0#64)).wellFormed = false := by decide
theorem test_wellFormed_tap : (Instr.tapBeat 0 0#16 0#8 0#22 [0#8]).wellFormed = false := by decide
theorem test_wellFormed_image :
    (Instr.blockExpanded 0 ⟨some [0#8], 0#17, true⟩).wellFormed = true
    ∧ (Instr.blockExpanded 0 ⟨some (List.replicate 4129 0#8), 0#17, true⟩).wellFormed = false := by decide +kernel
theorem test_wellFormed_cells :
    (Instr.scriptLoadDone [(2 ^ 64 - 1, 0#8)]).wellFormed = true ∧ (Instr.scriptLoadDone [(2 ^ 64, 0#8)]).wellFormed = false := by
  decide
theorem test_wellFormed_doorbell :
    (Instr.doorbellWrite 0#15 64 0#32).wellFormed = true ∧ (Instr.doorbellWrite 0#15 65 0#32).wellFormed = false
    ∧ (Instr.doorbellWrite 0#15 0 0#32).wellFormed = false := by decide
theorem test_wellFormed_peer :
    (Instr.peerFetch ⟨1, 0, 1#32, 0⟩ 0#64 512).wellFormed = true ∧ (Instr.peerFetch ⟨1, 0, 1#32, 0⟩ 0#64 513).wellFormed = false
    ∧ (Instr.peerProp ⟨1, 0, 1#32, 0⟩ 0#64 ⟨0, true⟩).wellFormed = false
    ∧ (Instr.peerShip ⟨1, 0, 1#32, 0⟩ 0#64 [] none).wellFormed = false := by decide
theorem test_wellFormed_reduce : (Instr.peerReduce ⟨1, 0, 1#32, 0⟩ [0#8]).wellFormed = false := by decide

/-! ### The machine as a whole -/

theorem test_idle_step : step up = .next { up with now := 1 } := rfl
theorem test_no_row_has_bits : decodeTableWord 32 0 = none := by decide
/-- What EveryStepKeepsSound and EveryCommandKeeps assume is met: a step that answers a next state, from a sound state. -/
theorem witness_step : State.reset.sound = true ∧ up.sound = true
    ∧ (∃ t, step { up with pending := [.reclaimAck] } = .next t) ∧ ∃ t, exec .reclaimAck up = .next t := by
  refine ⟨by decide +kernel, by decide +kernel, ⟨_, rfl⟩, ⟨_, rfl⟩⟩

/-! ### The engine command port -/

theorem witness_open : Takes world (cmd 12#32 0#8 0#64) ∧
    (cmdReserved 0x01 (cmd 12#32 0#8 0#64) = false ∧ (world.tenant 0).stepOpen = true ∧ (world.tenant 0).halted = false
      ∧ world.tenantOf (cmd 12#32 0#8 0#64) = 0 ∧ world.entryOfTag 0 12 = some 12 ∧ world.entryAt 0 12 = some (entry 12)
      ∧ 12 ∉ (world.tenant 0).opened ∧ world.hasSlot 0 = true ∧ world.freeRecord = some 12) :=
  ⟨takes _ _ (by decide +kernel), by decide +kernel⟩

/-- 48 bytes at offset 4,048, the last place. -/
def lastBytes : Cmd := cmd 0#32 0#8 0x30FD000000#64
theorem witness_inline :
    ∃ s : State, Takes s lastBytes ∧ (lastBytes.payload.length = 48 ∧ s.named 0x02 lastBytes false = .slate 0
      ∧ (s.slate 0).state = .opened ∧ (s.slate 0).inline = true ∧ (s.slate 0).e.sizeBlocks = 1 ∧ inlineBlock lastBytes = 0
      ∧ inlineCount lastBytes = 48 ∧ inlineOffset lastBytes + inlineCount lastBytes = 4096) :=
  ⟨world.modSlate 0 (fun r => { r with inline := true }), takes _ _ (by decide +kernel), by decide +kernel⟩

theorem witness_seal : Takes world (cmd 0#32 0#8 1#64) ∧ (world.named 0x03 (cmd 0#32 0#8 1#64) true = .slate 0
      ∧ (world.slate 0).state = .opened ∧ world.laneHolds 0 = false ∧ world.clicker.queue = [])
    ∧ (let a := world.modSlate 0 (fun r => { r with inline := true })
       (a.slate 0).inlineHanded = false ∧ (bitsOf a.stitcher.lanes 8)[0]? = some 0)
    ∧ (let b := world.modSlate 0 (fun r => { r with blocksWritten := 1 })
       sealBlocks (cmd 0#32 0#8 1#64) = (b.slate 0).e.sizeBlocks ∧ sealBlocks (cmd 0#32 0#8 1#64) = (b.slate 0).blocksWritten)
    ∧ sealBlocks (cmd 0#32 0#8 1#64) ≠ (world.slate 0).blocksWritten :=
  ⟨takes _ _ (by decide +kernel), by decide +kernel⟩

theorem witness_call : (∀ k : Fin 12, takesB world (cmd (BitVec.ofNat 32 k.val) 0#8 1#64) = true) ∧
    ∀ k ∈ [0, 1, 2, 3, 4, 5, 6, 7, 8, 9, 11], world.named 0x04 (cmd (BitVec.ofNat 32 k) 0#8 1#64) true = .slate k
      ∧ (world.slate k).state = states.getD k .free ∧ world.dropBad (cmd (BitVec.ofNat 32 k) 0#8 1#64) (world.slate k).e = false :=
  ⟨by decide +kernel, by decide +kernel⟩
/-- A job of slate 7 whose one step has begun. -/
def theJob : Job := ⟨7, 1, 7, 0, 1, 0, 0, [], [], 0, [0], [], false, false, [], []⟩
theorem witness_release : Takes world (cmd 2#32 0#8 0#64) ∧ (world.named 0x05 (cmd 2#32 0#8 0#64) false = .slate 2
    ∧ (world.slate 2).state ≠ .reshooting ∧ world.named 0x05 (cmd 7#32 0#8 0#64) false = .slate 7
    ∧ (world.slate 7).state = .reshooting ∧ (world.retake.jobs.any (fun p => p.2.slate == 7 && p.2.gen == 1)) = false) ∧
    ({ world with retake := { world.retake with jobs := put [] 0 theJob } }
      |>.retake.jobs.any (fun p => p.2.slate == 7 && p.2.gen == 1)) = true :=
  ⟨takes _ _ (by decide +kernel), by decide +kernel⟩
/-- Entry 13 is left without a slate for the rest of the step. -/
theorem witness_deadCall : (let s := world.modTenant 0 (fun x => { x with dead := [13] })
    takesB s (cmd 13#32 0#8 1#64) = true ∧ s.gate 0x04 (cmd 13#32 0#8 1#64) false = none
      ∧ s.deadTag (s.tenantOf (cmd 13#32 0#8 1#64)) 13 = true) := by decide +kernel

theorem witness_frame : Takes world (cmd 0#32 0#8 7#64) ∧ (world.gate 0x06 (cmd 0#32 0#8 7#64) false = none
    ∧ world.sealPending 0 = false ∧ (world.tenant 0).frame = 2 ∧ world.frameCount 0 = 8 ∧ frameIndex (cmd 0#32 0#8 1#64) = 1
    ∧ frameIndex (cmd 0#32 0#8 8#64) = 8 ∧ frameIndex (cmd 0#32 0#8 7#64) = 7) :=
  ⟨takes _ _ (by decide +kernel), by decide +kernel⟩

/-- That job with one engine step and one descriptor out; its step has failed once, or the job is stopped. -/
def jobWorld (failed stopped answered : Bool) : State :=
  { world with retake := { world.retake with
    scripts := put [] 1 { tenant := 0, dropValid := false, site := 0, keepThr := 0, dropScale := 0, fixedTicks := 0, region := none
                          steps := [⟨0, 0, 0, 0, 0, 0, 0, 0, 0, 0, 0, 0, false, 0, 0⟩] }
    jobs := put [] 3 { theJob with
      descs := [⟨0, 0, 1, false, answered⟩], unanswered := if answered then [] else [⟨0, 0, 1, false, false⟩], nextDesc := 1
      failedOnce := failed, stopped := stopped } } }
def done (st : Nat) : Cmd := cmd 7#32 0#8 (BitVec.ofNat 64 (3 + 2 ^ 24 * st))
theorem witness_reshootDone : ([0, 1].all fun st => [false, true].all fun f => [false, true].all fun p =>
      takesB (jobWorld f p false) (done st) && cmdReserved 0x07 (done st) == false && doneSlot (done st) == 3
      && (match (jobWorld f p false).job 3 with
        | none => false
        | some j => j.failedOnce == f && j.stopped == p && !(jobWorld f p false).answerWrong (done st) j
          && ((j.unanswered.find? (fun d => d.queue == (done st).queue.val)).or j.unanswered.head?).isSome)) = true
    ∧ doneStatus (done 0) = 0 ∧ doneStatus (done 1) ≠ 0 ∧ (jobWorld false false false).job 4 = none
    ∧ (match (jobWorld false false true).job 3 with
      | none => false
      | some j => (jobWorld false false true).answerWrong (done 0) j) = true := by decide +kernel

theorem witness_steps : Takes idle (cmd 0#32 0#8 5#64) ∧ Takes world (cmd 0#32 1#8 0#64) ∧
    (idle.beginRefusal (cmd 0#32 0#8 5#64) = none ∧ idle.tiers.host = .attached ∧ (idle.tenant 0).held = none
      ∧ world.beginRefusal (cmd 0#32 0#8 5#64) = some 2
      ∧ (let s := { idle with tiers := { idle.tiers with host := .detached } }
         takesB s (cmd 0#32 0#8 5#64) = true ∧ s.tiers.host ≠ .attached ∧ (s.tenant 0).held = none
         ∧ ((s.modTenant 0 (fun x => { x with held := some (cmd 0#32 0#8 4#64) })).tenant 0).held.isSome = true)
      ∧ cmdReserved 0x31 (cmd 0#32 1#8 0#64) = false ∧ (world.tenant 0).stepOpen = true ∧ cmdFlag0 (cmd 0#32 1#8 0#64) = true
      ∧ cmdReserved 0x31 (cmd 0#32 0#8 0#64) = false ∧ cmdFlag0 (cmd 0#32 0#8 0#64) = false ∧ world.tenantSlates 0 ≠ []
      ∧ ({ world with ledger := [] } : State).tenantSlates 0 = []) :=
  ⟨takes _ _ (by decide +kernel), takes _ _ (by decide +kernel), by decide +kernel⟩

/-- Tenant 0 may lend up to four shelves to tenant 1. -/
def lender : State :=
  { up with security := { up.security with parts := (Partition.resetList.set 0
      { (Partition.resetList.getD 0 ⟨0, 0, 0, 0, 0, false, 0, false, 0⟩) with borrower := 1, loanEn := true, maxLoan := 4 }) } }
theorem witness_gather_loan : Takes world (cmd 13#32 0#8 0#64) ∧ Takes lender (cmd 0#32 0#8 (BitVec.ofNat 64 (1 + 2 ^ 8 * 4))) ∧
    (world.gate 0x20 (cmd 13#32 0#8 0#64) true = none ∧ world.entryOfTag 0 13 = some 13 ∧ (entry 13).streamClass = 2
      ∧ (world.propOf 0 (entry 13)).isSome = true ∧ 13 ∉ (world.tenant 0).opened ∧ world.hasSlot 0 = true
      ∧ world.sealPending 0 = false)
    ∧ (lender.security.clearing = none ∧ lender.loanRefusal (cmd 0#32 0#8 (BitVec.ofNat 64 (1 + 2 ^ 8 * 4))) = none
      ∧ cmdReserved 0x33 (cmd 0#32 0#8 0#64) = false ∧ lender.security.loans.find? (fun l => l.lender == 0) = none)
    ∧ (let s := { lender with security := { lender.security with loans := [⟨0, 1, 3⟩] } }
       s.security.loans.find? (fun l => l.lender == 0) = some ⟨0, 1, 3⟩ ∧ (s.tenant 1).stepOpen = false
       ∧ ((s.modTenant 1 (fun x => { x with stepOpen := true })).tenant 1).stepOpen = true) :=
  ⟨takes _ _ (by decide +kernel), takes _ _ (by decide +kernel), by decide +kernel⟩
/-- The shelves of a loan of tenant 0 are cleared, at its start or its end, with a region for its context or none. -/
def clears (back region : Bool) : State :=
  { lender.setReg64 R.SHT_INT_SAVE 0 0x10000 with
    security := { lender.security with clearing := some ⟨0, 1, 3⟩, clearCmd := some (cmd 0#32 0#8 0#64), clearReturn := back }
    tiers := { up.tiers with regions := if region then [(0, ⟨0x10000, 0x20000, 0, 1, 1, 0, 0⟩)] else [] } }
theorem witness_loanEnds : (∀ b r : Bool, Runs (clears b r)) ∧ ([false, true].all fun b => [false, true].all fun r =>
    (clears b r).security.applying == none && (clears b r).security.clearReturn == b && (clears b r).eyes.ctx == none
    && (clears b r).security.clearing == some ⟨0, 1, 3⟩ && (clears b r).security.clearCmd == some (cmd 0#32 0#8 0#64)
    && ((clears b r).controlRegion 0 ((clears b r).reg64 R.SHT_INT_SAVE 0) ((clears b r).ctxBytes 0)).isSome == r) = true :=
  ⟨fun b r => runs _ (by cases b <;> cases r <;> decide +kernel), by decide +kernel⟩

theorem witness_rejected : Takes world (cmd 99#32 0#8 0#64) ∧ 0xFF#8 ∉ opcodes ∧
    (world.gate 0x01 (cmd 0#32 0xFF#8 0#64) true = some 3 ∧ up.gate 0x04 (cmd 0#32 0#8 0#64) true = some 4
      ∧ (world.modTenant 0 (fun x => { x with halted := true })).gate 0x03 (cmd 0#32 0#8 0#64) true = some 2
      ∧ world.gate 0x01 (cmd 99#32 0#8 0#64) true = none ∧ world.entryOfTag 0 99 = none
      ∧ world.sealPending 0 = false ∧ world.deadTag 0 99 = false
      ∧ takesB world (cmd 5#32 0xFF#8 0#64) = true ∧ world.ctxHolds 0 = false
      ∧ ([0x10, 0x11, 0x12].all fun n => cmdReserved n (cmd 5#32 0xFF#8 0#64)) = true
      ∧ (world.cmdEye (cmd 5#32 0xFF#8 0#64)).isSome = true) :=
  ⟨takes _ _ (by decide +kernel), by decide, by decide +kernel⟩

theorem witness_boundary : State.reset.isReady = false ∧ State.reset.recorder.raised = [] ∧
    (let s := { up with power := { up.power with state := .nap, waking := some 5 } }
     s.isReady = true ∧ s.asleep = true ∧ s.power.waking.isSome = true)
    ∧ (let d : Completion := ⟨0, 7#16, 0x10#8, 0#8, 0#32, 0#16, 0#8, 0#8, 0#32⟩
       let s := { up with port := { up.port with window := [⟨7#16, 0x10#8, 0, 0#32, 0, some d, 0⟩] } }
       s.isReady = true ∧ s.power.state = .active ∧ s.power.heldReqs = [] ∧ s.recorder.waiting = [] ∧ s.port.queue = []
       ∧ s.port.stalled = [] ∧ s.seqHalt = false
       ∧ s.queueHeld 0 = false ∧ s.mustWait (0x10#8, cmd 0#32 0#8 1#64) = false
       ∧ s.port.window.find? (fun k => k.ticket == 7#16) = some ⟨7#16, 0x10#8, 0, 0#32, 0, some d, 0⟩) := by decide +kernel

/-- Eyelet 5: count 10, target 4, depth 7, signals enabled. -/
def eyes : State := up.setEyelet 5 ⟨10#32, 4#32, 0x01000007#32⟩
theorem witness_eyeAdd : Takes eyes (cmd 5#32 1#8 6#64) ∧
    (eyes.ctxHolds 0 = false ∧ eyes.cmdEye (cmd 5#32 1#8 6#64) = some 5 ∧ cmdReserved 0x10 (cmd 5#32 1#8 6#64) = false
      ∧ cmdReserved 0x10 (cmd 5#32 0#8 1#64) = false ∧ eyes.eyes.waits = [] ∧ 0 ≤ (⟨10#32, 10#32, 0x01000007#32⟩ : Eyelet).d
      ∧ (⟨10#32, 11#32, 0x01000007#32⟩ : Eyelet).d < 0 ∧ (⟨11#32, 4#32, 0x01000007#32⟩ : Eyelet).d ≤ 7
      ∧ (⟨11#32, 4#32, 0x01000007#32⟩ : Eyelet).depth = 7 ∧ 7 < (⟨12#32, 4#32, 0x01000007#32⟩ : Eyelet).d) :=
  ⟨takes _ _ (by decide +kernel), by decide +kernel⟩
theorem witness_no_wire (n : Nat) : (eyes.wire n).state ≠ .hold := by
  have : eyes.lace.wires = [] := by decide +kernel
  unfold State.wire
  rw [this]
  exact fun h => WireState.noConfusion h
theorem witness_eyeSet : Takes eyes (cmd 5#32 3#8 0x0000000900000009#64) ∧
    (cmdReserved 0x12 (cmd 5#32 3#8 0x0000000900000009#64) = false ∧ eyes.cmdEye (cmd 5#32 3#8 0#64) = some 5
      ∧ 0 ≤ (⟨9#32, 9#32, 0x01000007#32⟩ : Eyelet).d ∧ (⟨8#32, 9#32, 0x01000007#32⟩ : Eyelet).d < 0) :=
  ⟨takes _ _ (by decide +kernel), by decide +kernel⟩
theorem witness_eyeWait : Takes eyes (cmd 5#32 1#8 6#64) ∧
    (cmdReserved 0x11 (cmd 5#32 1#8 6#64) = false ∧ waitN (cmd 5#32 1#8 6#64) = 6 ∧ (eyes.eyelet 5).d = 6
      ∧ cmdReserved 0x11 (cmd 5#32 0#8 7#64) = false ∧ waitN (cmd 5#32 0#8 7#64) = 7 ∧ waitHint (cmd 5#32 0#8 7#64) = 0
      ∧ eyes.nativeWaits < 1024 ∧ waitN (cmd 5#32 0#8 0x7FFFFFFF#64) = 0x7FFFFFFF) :=
  ⟨takes _ _ (by decide +kernel), by decide +kernel⟩

/-! ### The clicker -/

/-- The slate of entry 1 waits for the clicker. -/
def decides (gen : Nat) : State := { world with clicker := { world.clicker with queue := [⟨1, gen, none, none⟩] } }
theorem witness_clicker : Runs (decides 1) ∧ (((decides 1).slate 1).gen = 1 ∧ ((decides 1).slate 1).state = .sealed)
    ∧ (let s := { (decides 2).setReg R.DBG_CTRL 1#32 with dbg := { Debug.init with halted := true } }
       (s.isReady = true ∧ s.clockRuns = true ∧ s.power.heldReqs = [] ∧ s.recorder.waiting = [] ∧ s.recorder.raised = [])
       ∧ (s.slate 1).gen ≠ 2 ∧ s.seqHalt = true ∧ s.dbg.halted = true ∧ s.dbg.stepPending = false) :=
  ⟨runs _ (by decide +kernel), by decide +kernel⟩
/-- An outcome is feasible for a slate of no granules, and none for one of a granule, with a capacity of 0. -/
theorem witness_least : (entry 1).mustKeep = false ∧ (entry 1).pinTier = false
    ∧ (world.frozen 0).pinDefault (entry 1).streamClass = 0
    ∧ (cheapest (world.evaluate true true 0 (world.slate 1).coded 2 (entry 1))).isSome = true
    ∧ (leastNeed (world.evaluate false true 0 (world.slate 1).coded 2 (entry 1))).isSome = true
    ∧ (let s := world.modSlate 1 (fun r => { r with coded := 1 })
       s.evaluate true true 0 (s.slate 1).coded 2 (entry 1) = [] ∧ s.evaluate false true 0 (s.slate 1).coded 2 (entry 1) = []) := by
  decide +kernel

/-! ### Lanes, banks and reshoots -/

/-- Tap 0 holds the first 63 beats of block b of slate 0. -/
def tapped (b : Nat) : State := world.setTap 0 (some ⟨0, 1, b, 63, List.replicate 4032 0#8⟩)
theorem witness_tapBeat : Arrives world ∧ ((look world.stitcher.taps 0) = none ∧ world.offers 0 = [] ∧ world.tapBlocked 0 = false
    ∧ (tapped 0).offers 0 = [] ∧ (tapped 0).tapBlocked 0 = false
    ∧ ((tapped 0).handToLane 0 ⟨0, 1, 0, [], 0, none, none⟩).tapBlocked 0 = true
    ∧ (world.setOffers 0 [⟨0, 1, 0, []⟩]).offers 0 ≠ []
    ∧ ((tapped 1).slate 0).state = .opened ∧ ((tapped 1).slate 0).gen = 1 ∧ (tapped 1).blockWritten 0 1 = false
    ∧ ((tapped 1).slate 0).e.sizeBlocks = 1 ∧ (tapped 0).blockWritten 0 0 = false ∧ (tapped 0).laneOfTap 0 = some 0
    ∧ ((tapped 0).setExtent 0 { (tapped 0).extent 0 with index := [(0, (0, 1))] }).blockWritten 0 0 = true) :=
  ⟨arrives _ (by decide +kernel), by decide +kernel⟩

/-- The first beat of a block, in place of a block, to keep the evaluation small. -/
def runBlock : List Byte := List.replicate 63 0#8 ++ [1#8]
/-- Lane 0 holds block 0 of slate 0, of a generation; the slate holds 1 unit, or none of the shelves is the tenant's. -/
def laned (gen : Nat) (room : Bool) (mode : Word) : State :=
  let s := { world with
    stitcher := { world.stitcher with jobs := put [] 0 [⟨0, gen, 0, runBlock, 0, none, none⟩] }
    security := { world.security with parts := if room then world.security.parts else List.replicate 8 Partition.nothing } }
  let s := s.modTenant 0 (fun x => { x with frozen := some { Frozen.none with mode := mode } })
  if room then s.setExtent 0 { s.extent 0 with units := List.replicate 4 0 } else s
theorem witness_blockCommit : (∀ (g : Fin 3) (r : Bool) (m : Fin 3), Runs (laned g r (w32 m)))
    ∧ (laned 2 true 1#32).laneJobs 0 = [⟨0, 2, 0, runBlock, 0, none, none⟩]
    ∧ ((laned 2 true 1#32).slate 0).gen = 1 ∧ ((laned 1 true 1#32).slate 0).state = .opened
    ∧ (laned 1 true 0#32).verifyFails 0 ((laned 1 true 0#32).codeForward 0 0 runBlock) (crc32c runBlock) none = none
    ∧ ((laned 1 false 0#32).placeBlock 0 0 ((laned 1 false 0#32).codeForward 0 0 runBlock).image).isNone = true
    ∧ ((laned 1 true 0#32).placeBlock 0 0 ((laned 1 true 0#32).codeForward 0 0 runBlock).image).isSome = true
    ∧ ((laned 1 true 0#32).slate 0).e.streamClass ≠ 1
    ∧ (let s := laned 1 true 2#32
       s.verifyFails 0 (s.codeForward 0 0 runBlock) (crc32c runBlock) (some 0#32) = some 0#32
       ∧ (s.placeBlock 0 0 (rawBlock (s.slate 0).e.format ⟨0, 1, 0⟩ runBlock).image).isSome = true) :=
  ⟨fun g r m => runs _ (by revert g r m; decide +kernel), by decide +kernel⟩
/-- Lane 0 holds an output block of the engine step of slate 7's job. -/
def reshoots (room : Bool) : State :=
  let s := { jobWorld false false false with
    stitcher := { world.stitcher with jobs := put [] 0 [⟨7, 1, 0, runBlock, 0, none, none⟩] }
    security := { world.security with parts := if room then world.security.parts else List.replicate 8 Partition.nothing } }
  if room then s.setExtent 7 { s.extent 7 with units := List.replicate 4 0 } else s
theorem witness_engineCommit : (∀ r : Bool, Runs (reshoots r)) ∧ ([true, false].all fun r =>
    (reshoots r).laneJobs 0 == [⟨7, 1, 0, runBlock, 0, none, none⟩] && ((reshoots r).slate 7).gen == 1
    && ((reshoots r).slate 7).state == .reshooting
    && (match (reshoots r).jobOfSlate 7 with
      | some (3, j) => (reshoots r).engineOutput j 0 == some (0, 0)
        && (let c := (reshoots r).codeOutput j 0 0 runBlock
            (reshoots r).verifyFails j.tenant c (crc32c runBlock) none == none
            && ((reshoots r).commitOutput 3 j 0 0 runBlock c 15).isSome == r)
      | _ => false)) = true :=
  ⟨fun r => runs _ (by cases r <;> decide +kernel), by decide +kernel⟩

/-- A request for block 0 of slate 2, and an answer that is not driven yet. -/
def request : OpReq := ⟨2, 1, 0, false, 8, none, none⟩
def undriven : Beats := ⟨0, 2, 1, 1, [], [], 8⟩
/-- Bank 0 has that request; its buffer holds the block's image where one is given. -/
def asked (img : Option (List Byte)) : State := world.modBank 0 (fun k => { k with
  reqs := [request]
  lbuf := match img with | none => k.lbuf | some im => put k.lbuf (lbufKey 2 0) (1, im) })
/-- The CRC of n equal bytes, every intermediate value reduced at once. -/
def crcRun (b : Sys2Proof.Byte) : Nat → Nat → Nat
  | 0, c => c
  | n + 1, c => if crcByte c b = 0 then crcRun b n 0 else crcRun b n (crcByte c b)
theorem crcRun_eq (b : Sys2Proof.Byte) (n c : Nat) : (List.replicate n b).foldl crcByte c = crcRun b n c := by
  induction n generalizing c with
  | zero => rfl
  | succ n ih =>
    rw [List.replicate_succ, List.foldl_cons, ih, crcRun]
    split
    · rename_i h; rw [h]
    · rfl
theorem crc_zeros : crc32c (List.replicate 4096 0#8) = 0x98F94189 := by
  rw [crc32c, crcRun_eq]
  decide +kernel
/-- The image of the block of zeros (R120, R121). -/
def goodImage : List Byte := headerBytes 1 0 0 ⟨2, 1, 0⟩ 0 0x98F94189 0
theorem goodImage_checks (book raw : List Byte) (e : expand book goodImage = raw) (c : crc32c raw = 0x98F94189) :
    checkBlock 0 0 book ⟨2, 1, 0⟩ 1 goodImage = .good raw := by
  have h : (parseHeader goodImage).good 0 0 ⟨2, 1, 0⟩ 1 = true ∧ (parseHeader goodImage).mode = 1 ∧ (parseHeader goodImage).pay = 0
      ∧ (parseHeader goodImage).raw = 0x98F94189 := by decide +kernel
  simp [checkBlock, h, e, c]
/-- A block of mode 3 under book 0, with a payload that is not good. -/
def codedImage : List Byte := headerBytes 3 0 0 ⟨2, 1, 0⟩ 0 0 1
theorem witness_banks : Arrives world ∧ Runs (asked none) ∧ (
      (world.bank 0).selftest = none ∧ (world.bank 0).elastic.length < 3 ∧ (world.bank 0).offered = []
      ∧ ((asked none).bank 0).selftest = none ∧ ((asked none).bank 0).reqs = [request] ∧ (asked none).answersPoisoned 0 2 1 0 = false
      ∧ look ((asked none).bank 0).lbuf (lbufKey 2 0) = none)
    ∧ (asked none).answersPoisoned 0 11 1 0 = true
    ∧ ((world.modBank 0 (fun k => { k with elastic := List.replicate 4 undriven, offered := [(2, 1, 0)] })).bank 0).elastic.length = 4
    ∧ (let s := asked (some codedImage)
       let cached := s.modBank 0 (fun k => { k with cache := [0] })
       let waits := { s.modBank 0 (fun k => { k with reqs := [{ request with missed := some 0 }] }) with
         books := { s.books with misses := [(0, 0, 0)] } }
       look (s.bank 0).lbuf (lbufKey 2 0) = some (1, codedImage) ∧ s.blockForm 2 0 codedImage = (0, 0)
       ∧ (parseHeader codedImage).mode = 3 ∧ (s.bank 0).cache.contains 0 = false ∧ (s.bank 0).elastic.length < 4
       ∧ request.missed ≠ some 0 ∧ (waits.books.misses.any (fun m => m.1 == 0 && m.2.1 == 0)) = true
       ∧ (cached.bank 0).cache.contains 0 = true
       ∧ (match checkBlock 0 0 (cached.bookOf 0) ⟨2, 1, 0⟩ 1 codedImage with | .bad _ _ _ => true | .good _ => false) = true)
    ∧ (let s := asked (some goodImage)
       look (s.bank 0).lbuf (lbufKey 2 0) = some (1, goodImage) ∧ s.blockForm 2 0 goodImage = (0, 0)
       ∧ s.blockForm 2 0 [] = (0, 0) ∧ (parseHeader goodImage).mode < 3 ∧ (parseHeader []).mode < 3 ∧ goodImage.length / 32 = 1
       ∧ checkBlock 0 0 (s.bookOf 0) ⟨2, 1, 0⟩ 1 [] = .bad 0 0 1)
    ∧ checkBlock 0 0 ((asked (some goodImage)).bookOf 0) ⟨2, 1, 0⟩ 1 goodImage = .good (List.replicate 4096 0#8)
    ∧ ({ world with books := { world.books with misses := [(3, 1, 0)] } } : State).nextMiss = some (3, 1, 0)
    ∧ ((world.modBank 4 (fun k => { k with selftest := some 5 })).bank 4).selftest = some 5 :=
  ⟨arrives _ (by decide +kernel), runs _ (by decide +kernel), by decide +kernel, by decide +kernel, by decide +kernel,
    by decide +kernel, by decide +kernel, goodImage_checks _ _ rfl crc_zeros, by decide +kernel, by decide +kernel⟩

/-- A job of slate 7 whose one step has an operation; the slate has vault units, or no shelf is left. -/
def scripted (op : Nat) (room : Bool) : State :=
  let s := { world with
    retake := { world.retake with
      scripts := put [] 1 { tenant := 0, dropValid := false, site := 0, keepThr := 0, dropScale := 0, fixedTicks := 0, region := none
                            steps := [⟨op, 0, 0, 0, 0, 0, 0, 0, 0, 0, 0, 0, false, 0, 0⟩] }
      work := put [] 0 ⟨3, 0, 0, none⟩
      jobs := put [] 3 theJob }
    security := { world.security with parts := if room then world.security.parts else List.replicate 8 Partition.nothing } }
  let s := s.modTenant 0 (fun x => { x with frozen := some { Frozen.none with mode := 0#32 } })
  if room then s.setExtent 7 { s.extent 7 with units := List.replicate 4 0 } else s
theorem witness_reshoots : Runs (scripted 0 true) ∧ (firstWait [(⟨6, 9⟩ : JobWait)] = some ⟨6, 9⟩
      ∧ (scripted 0 true).freeSlot = some 0)
    ∧ (∃ j x d, (scripted 0 true).jobsInOrder.find? (fun p => (scripted 0 true).canDispatch p.2) = some (3, j)
        ∧ (scripted 0 true).jobStep j j.step = some x ∧ (scripted 0 true).nextDescriptor j = some d)
    ∧ ({ world with retake := { world.retake with testing := some 1 } } : State).retake.testing = some 1 :=
  ⟨runs _ (by decide +kernel), by decide +kernel, ⟨_, _, _, rfl, rfl, rfl⟩, rfl⟩

/-- The job of that slate after its block, and its step on the lanes. -/
def theJobAfter : Job := { theJob with nextOut := [1] }
def theStep : ScriptStep := ⟨2, 0, 0, 0, 0, 0, 0, 0, 0, 0, 0, 0, false, 0, 0⟩
theorem leBytes_length (n : Nat) (v : Nat) : (leBytes v n).length = n := by
  induction n generalizing v with
  | zero => rfl
  | succ n ih => simp [leBytes, ih]
theorem rawImage_length (fmt book : Nat) (id : BlockId) (raw : List Byte) (h : raw.length = 4096) :
    (imageOf 0 fmt book id raw []).length / 32 = 129 := by
  simp [imageOf, h, headerBytes, leBytes_length]
theorem laneRaw_length (s : State) (j : Job) (k b : Nat) (x : ScriptStep) : (s.laneRaw j k b x).length = 4096 := by
  simp only [State.laneRaw, packBlock]
  split <;> simp [fitTo] <;> omega
theorem codeOutput_image (room : Bool) (raw : List Byte) (h : raw.length = 4096) :
    ((scripted 2 room).codeOutput theJob 0 0 raw).image.length / 32 = 129 :=
  match room with
  | true => rawImage_length 0 0 ⟨7, 1, 0⟩ raw h
  | false => rawImage_length 0 0 ⟨7, 1, 0⟩ raw h
theorem extent_setExtent (s : State) (i : Nat) (x : Extent) : (s.setExtent i x).extent i = x := by
  rw [State.extent, State.setExtent, look_put_same]; rfl
theorem needed_setExtent (s : State) (i : Nat) (x : Extent) : (s.setExtent i x).unitsNeeded i
    = ceilDiv (indexGr (s.slate i).e.sizeBlocks + sumNat x.runs) 128
      + ceilDiv (sumNat (x.work.map (fun p => p.2.length / 32))) 128 := by
  rw [State.unitsNeeded, State.extentGr, extent_setExtent]; rfl
theorem openShelves_none (s : State) (t : Nat) (h : s.shelvesOf t = 0) : s.openShelves t = [] := by
  rw [State.openShelves, h, show bitsOf 0 112 = [] by decide +kernel]; rfl
theorem fitUnits_closed (s : State) (i n : Nat) (h : s.openShelves (s.slate i).tenant = [])
    (k : s.unitsNeeded i - (s.extent i).unitCount = n + 1) : s.fitUnits i = none := by
  simp only [State.fitUnits, k]
  rw [if_neg (by omega)]
  simp [State.takeUnits, h]
theorem fitUnits_open (s : State) (i : Nat) (k : s.unitsNeeded i - (s.extent i).unitCount = 0) : (s.fitUnits i).isSome = true := by
  simp only [State.fitUnits]
  rw [if_pos (by omega)]
  rfl
theorem places (raw : List Byte) (c : Coded) (h : c.image.length / 32 = 129) :
    ((((scripted 2 true).setWork 0 none).setJob 3 theJobAfter).commitOutput 3 theJobAfter 0 0 raw c 0).isSome = true
    ∧ (((scripted 2 false).setWork 0 none).setJob 3 theJobAfter).commitOutput 3 theJobAfter 0 0 raw c 0 = none := by
  simp only [State.commitOutput, State.placeBlock, h, Option.isSome_map, Option.map_eq_none_iff]
  constructor
  · change (State.fitUnits (State.setExtent (((scripted 2 true).setWork 0 none).setJob 3 theJobAfter) 7 _) 7).isSome = true
    refine fitUnits_open _ 7 ?_
    rw [needed_setExtent, extent_setExtent, Extent.unitCount]
    dsimp only
    decide +kernel
  change State.fitUnits (State.setExtent (((scripted 2 false).setWork 0 none).setJob 3 theJobAfter) 7 _) 7 = none
  refine fitUnits_closed _ 7 1 (openShelves_none _ _ ?_) ?_
  · change (scripted 2 false).shelvesOf 0 = 0
    decide +kernel
  rw [needed_setExtent, extent_setExtent, Extent.unitCount]
  dsimp only
  decide +kernel
theorem witness_laneOutput :
    (∀ room : Bool, Runs (scripted 2 room) ∧ (scripted 2 room).laneFree 0 = true
      ∧ look (scripted 2 room).retake.work 0 = some ⟨3, 0, 0, none⟩ ∧ (scripted 2 room).job 3 = some theJob
      ∧ (scripted 2 room).jobStep theJob 0 = some theStep)
    ∧ theJob.stopped = false ∧ theJobAfter = { theJob with nextOut := theJob.nextOut.set 0 (max (theJob.nextOut.getD 0 0) 1) }
    ∧ (∃ z, (((scripted 2 true).setWork 0 none).setJob 3 theJobAfter).commitOutput 3 theJobAfter 0 0
        ((scripted 2 true).laneRaw theJob 0 0 theStep)
        ((scripted 2 true).codeOutput theJob 0 0 ((scripted 2 true).laneRaw theJob 0 0 theStep)) 0 = some z)
    ∧ (((scripted 2 false).setWork 0 none).setJob 3 theJobAfter).commitOutput 3 theJobAfter 0 0
        ((scripted 2 false).laneRaw theJob 0 0 theStep)
        ((scripted 2 false).codeOutput theJob 0 0 ((scripted 2 false).laneRaw theJob 0 0 theStep)) 0 = none :=
  ⟨fun room => ⟨runs _ (by cases room <;> decide +kernel), by cases room <;> decide +kernel⟩, rfl, rfl,
    Option.isSome_iff_exists.mp (places _ _ (codeOutput_image true _ (laneRaw_length _ _ _ _ _))).1,
    (places _ _ (codeOutput_image false _ (laneRaw_length _ _ _ _ _))).2⟩

/-! ### Codebooks, scripts and self-tests -/

/-- The entries of the sheet in place name book 5 and script 5. -/
def naming : State := world.modTenant 0 (fun x => { x with sheet := some { sheet with
  entries := sheet.entries.map (fun e => { e with bookId := 5, scriptId := 5 }) } })
/-- The selectors of books and of scripts at n. -/
def selecting (s : State) (n : Nat) : State := (s.setReg R.CBK_SEL (w32 n)).setReg R.RTK_SEL (w32 n)
/-- A book window that gives one symbol a code of 8 bits. -/
def windowed : State := (selecting up 5).setReg R.CBK_WIN 8#32
theorem window_valid : windowed.bookWindow = 8#8 :: List.replicate 127 0#8
    ∧ bookValid (8#8 :: List.replicate 127 0#8) = true := by decide +kernel
theorem window_invalid : (selecting up 5).bookWindow = List.replicate 128 0#8 ∧ bookValid (List.replicate 128 0#8) = false := by
  decide +kernel
theorem witness_books : ([1#32, 2#32].all fun v => [up, selecting naming 5, selecting up 5, windowed].all fun s =>
      writesB s .control R.CBK_CTRL v) = true
    ∧ (fld ((up.accessed .control R.CBK_CTRL).reg R.CBK_SEL).toNat 0 12 = 0
      ∧ fld (((selecting naming 5).accessed .control R.CBK_CTRL).reg R.CBK_SEL).toNat 0 12 = 5
      ∧ ((selecting naming 5).accessed .control R.CBK_CTRL).bookNamed 5 = true
      ∧ ((selecting up 5).accessed .control R.CBK_CTRL).bookNamed 5 = false
      ∧ (windowed.accessed .control R.CBK_CTRL).bookNamed 5 = false)
    ∧ bookValid ((selecting up 5).accessed .control R.CBK_CTRL).bookWindow = false
    ∧ bookValid (windowed.accessed .control R.CBK_CTRL).bookWindow = true := by
  refine ⟨by decide +kernel, by decide +kernel, ?_, ?_⟩
  · change bookValid (selecting up 5).bookWindow = false
    rw [window_invalid.1, window_invalid.2]
  · change bookValid windowed.bookWindow = true
    rw [window_valid.1, window_valid.2]
theorem witness_scripts : ([256, 512].all fun v => [(up, 0, false), (selecting naming 5, 5, true), (selecting up 5, 5, false)].all fun q =>
      writesB q.1 .control R.RTK_CTRL (w32 (7 + v))
      && (let y := (q.1.accessed .control R.RTK_CTRL).putFields R.RTK_CTRL 7 (7 + v)
          y.retake.loading == none && fld (y.reg R.RTK_SEL).toNat 0 12 == q.2.1 && y.scriptNamed 5 == q.2.2)) = true
    ∧ (let a := opxAddr R.OPX_BCTRL 47
       writesB up .control a (w32 (up.fieldsOf a ||| 256)) = true)
    ∧ writesB up .control R.RTK_CTRL (w32 (up.fieldsOf R.RTK_CTRL ||| 1024)) = true := by decide +kernel

/-- Script 5 is read for tenant 0 from 0x1000, where a script of one engine step stands; a CONTROL region of the tenant may
begin there. -/
def readsScript (s : State) (region : Bool) : State :=
  { s with
    retake := { s.retake with loading := some (5, 0, 0x1000) }
    tiers := { s.tiers with regions := if region then [(0, ⟨0x1000, 0x1000, 0, 1, 1, 0, 0⟩)] else [] }
    mem := [(0x1000, 1#8), (0x101C, 0x4F#8), (0x101D, 0xE2#8), (0x101E, 0xE0#8), (0x101F, 0xDF#8)] }
theorem scriptCrc : crc32c (1#8 :: List.replicate 539 0#8) = 0xDFE0E24F := by
  rw [crc32c, List.foldl_cons, crcRun_eq]
  decide +kernel
theorem goodScript (b : List Byte) (h : b.take 28 ++ (b.drop 32).take 512 = 1#8 :: List.replicate 539 0#8)
    (h1 : leAt b 28 4 = 0xDFE0E24F) (h2 : leAt b 0 1 = 1) (h3 : zerosAt b 64 480 = true) (x : ScriptStep)
    (h4 : imageSteps b = [x]) (h5 : x.reserved true = false) (h6 : x.readsWork = false) (h7 : x.op = 0)
    (h8 : bitAt (leAt b 1 1) 0 = false) : badScript b = false := by
  rw [badScript, h, scriptCrc, h1, h2, h4, h8]
  simp only [h6, h7, h3, List.range_one, List.zip_cons_cons, List.zip_nil_left, List.any_cons, List.any_nil]
  simpa using h5
theorem witness_scriptLoad : ([readsScript naming true, readsScript up false, readsScript up true].all fun s =>
      s.isReady && s.clockRuns && s.power.heldReqs.isEmpty && s.recorder.waiting.isEmpty && s.recorder.raised.isEmpty
      && (s.external []).retake.loading == some (5, 0, 0x1000) && s.memOpen 0x1000) = true
    ∧ (readsScript naming true).scriptNamed 5 = true ∧ (readsScript up true).scriptNamed 5 = false
    ∧ (readsScript up false).scriptNamed 5 = false
    ∧ (readsScript up false).controlRegion 0 0x1000 scriptBytes = none
    ∧ (readsScript up true).controlRegion 0 0x1000 scriptBytes = some 0
    ∧ badScript (Memory.read (readsScript up true).mem 0x1000 scriptBytes) = false := by
  refine ⟨by decide +kernel, by decide +kernel, by decide +kernel, by decide +kernel, by decide +kernel, by decide +kernel, ?_⟩
  exact goodScript _ (by decide +kernel) (by decide +kernel) (by decide +kernel) (by decide +kernel) ⟨0, 0, 0, 0, 0, 0, 0, 0, 0, 0, 0, 0, false, 0, 0⟩
    (by decide +kernel) (by decide) (by decide) (by decide) (by decide +kernel)

/-! ### Movers, tiers and the host -/

/-- Channel 60 serves a director transfer of 4 granules from address 0 to 0x1000, of which some are read, staged and written. -/
def moves (x : Transfer) (flag : Bool) (t : Option Txn) (r : List Retry) : State :=
  let s := world.modChan 60 (fun h => { h with
    state := .busy, started := true, transfer := some 0, inPool := false, retries := r
    active := { h.active with cfg := if flag then 0x800000#32 else 0#32, count := 4#32, dst := 0x1000#64, flagAddr := 0x2000#64 } })
  { s with movers := { s.movers with
    transfers := put [] 0 x, txns := match t with | none => [] | some t => put [] 7 t } }
/-- That transfer before anything is read, with its first granule staged, and with all its granules written. -/
def unread : Transfer := { Transfer.blank .director 0 with dst := 0x1000, total := 4 }
def staged : Transfer := { unread with rdNext := 4, staged := put [] 0 (List.replicate 128 5#8) }
def written : Transfer := { unread with rdNext := 4, wrNext := 4, done := 4 }
/-- A transaction of that transfer. -/
def txn (write flag : Bool) : Txn := ⟨0, 60, write, flag, 0, 4, 1, 0, none, false, some 0x1000, List.replicate 128 5#8, some 2, some .stream⟩
theorem witness_engines : Runs (moves unread false none []) ∧ world.movers.txns.length < 4096 ∧ world.stagingUse < 8192
    ∧ world.issueOrder false = []
    ∧ ((moves unread false none []).issueOrder false = [(60, 0, unread)] ∧ (moves unread false none []).stagingUse < 8192
      ∧ ((moves unread false none []).nextRead 60 unread) = some (0, 4))
    ∧ (let s := moves written true none []
       ((s.issueOrder true).filterMap s.writeAt).foldl optMin none = some 0 ∧ s.issueOrder true = [(60, 0, written)]
       ∧ (s.advanceTo 0).flagReady 60 0 written = true)
    ∧ (((world.issueOrder true).filterMap world.writeAt).foldl optMin none = none)
    ∧ (let s := moves staged false none []
       ((s.issueOrder true).filterMap s.writeAt).foldl optMin none = some (s.batchAt 60 staged 0)
       ∧ s.issueOrder true = [(60, 0, staged)]
       ∧ (let z := s.advanceTo (s.batchAt 60 staged 0)
          z.flagReady 60 0 staged = false ∧ z.nextWrite 60 staged = some (0, 4) ∧ z.batchAt 60 staged 0 ≤ z.now
          ∧ (z.placeUnit staged 0).isSome = true)) :=
  ⟨runs _ (by decide +kernel), by decide +kernel⟩
theorem witness_responses : (∀ w : Bool, Runs (moves staged false (some (txn w false)) [])
      ∧ (moves staged false (some (txn w false)) []).rst.isolating = false
      ∧ look (moves staged false (some (txn w false)) []).movers.txns 7 = some (txn w false)
      ∧ (txn w false).seq = none ∧ (txn w false).aborted = false
      ∧ (moves staged false (some (txn w false)) []).transfer 0 = some staged
      ∧ look ((moves staged false (some (txn w false)) []).external []).movers.txns 7 = some (txn w false)
      ∧ (moves staged false none []).touchesLost (txn w false) = false
      ∧ ({ moves staged false none [] with tiers := { Tiers.init with lost := [0x1000] } } : State).touchesLost (txn w false) = true)
    ∧ (let q : Retry := ⟨false, false, 0, 4, 1, .timeout, 9, 1⟩
       let s := moves unread false none [q]
       firstDue (s.chan 60).retries = some q ∧ (s.chan 60).transfer = some 0 ∧ s.transfer 0 = some unread
       ∧ (let y := s.advanceTo 9
          y.domainOpen unread (y.accessDomain 60 unread false false 0) = true
          ∧ y.retryRoom q (y.retryRuns 60 unread q).length = true)
       ∧ (let y := (s.setPd 2 ⟨true, .granted, 0⟩).advanceTo 9
          y.domainOpen unread (y.accessDomain 60 unread false false 0) = false)) :=
  ⟨fun w => ⟨runs _ (by cases w <;> decide +kernel), by cases w <;> decide +kernel⟩, by decide +kernel⟩

/-- An OUT transfer waits in the deadline queue. -/
def waits : State := { world with movers := { world.movers with transfers := put [] 0 { Transfer.blank .out 0 with slate := 3, gen := 1 } } }
/-- Channel 60 has a shadow set with a start source, and an active set in WAIT with a timer and a pacing period. -/
def shadowed (source : Nat) : State := world.modChan 60 (fun h => { h with shadowValid := true, shadow := { h.shadow with cfg := w32 source } })
def timed : State := world.modChan 60 (fun h => { h with
  state := .wait, transfer := some 0, active := { h.active with cfg := 1#32, pace := 0x00010005#32 } })
/-- Channel 60 waits for frame 2 of tenant 0, or for a later one. -/
def frames (n : Nat) : State := world.modChan 60 (fun h => { h with
  state := .wait, active := { h.active with cfg := 3#32, startFrame := w32 n }, shadowValid := true
  shadow := { h.shadow with cfg := 3#32, startFrame := w32 n } })
theorem witness_frameStart : (let s := frames 2
    (s.chan 60).state = .wait ∧ fld (s.chan 60).active.cfg.toNat 0 2 = 3 ∧ (s.chan 60).active.tenant = 0
    ∧ (s.tenant 0).stepOpen = true ∧ fld (s.chan 60).active.startFrame.toNat 0 24 ≤ (s.tenant 0).frame)
    ∧ ([2, 3].all fun n => let s := (frames n).modChan 60 (fun h => { h with state := .idle })
      (s.chan 60).state == .idle && (s.chan 60).shadowValid && !(s.chan 60).inPool && (s.chan 60).transfer == none
      && fld (s.chan 60).shadow.cfg.toNat 0 2 == 3 && (s.chan 60).shadow.tenant == 0
      && decide (fld (s.chan 60).shadow.startFrame.toNat 0 24 ≤ (s.tenant 0).frame) == (n == 2)) = true := by decide +kernel
theorem witness_channels : Runs waits ∧ (waits.idlePool.head? = some 0 ∧ (waits.headTransfer.map (·.1)) = some 0)
    ∧ (∀ k : Fin 3, ((shadowed k).chan 60).state = .idle ∧ ((shadowed k).chan 60).shadowValid = true
      ∧ ((shadowed k).chan 60).inPool = false ∧ ((shadowed k).chan 60).transfer = none
      ∧ fld ((shadowed k).chan 60).shadow.cfg.toNat 0 2 = k)
    ∧ ((timed.chan 60).state = .wait ∧ fld (timed.chan 60).active.cfg.toNat 0 2 = 1
      ∧ fld (timed.chan 60).active.pace.toNat 0 16 = 5 ∧ (timed.chan 60).inPool = false ∧ (timed.chan 60).transfer.isSome = true) :=
  ⟨runs _ (by decide +kernel), by decide +kernel⟩
theorem witness_splCtrl :
    ([1#32, 2#32, 4#32, 8#32].all fun v => [world, shadowed 0, timed, moves staged false none []].all fun s =>
      writesB s .control (splCtrl 60) v) = true
    ∧ ((let z := world.accessed .control (splCtrl 60)
       ((z.chan 60).inPool || (z.chan 60).shadow.bad 60) = true ∧ (z.chan 60).state = .idle)
      ∧ (let z := (world.modChan 60 (fun h => { h with shadow := { h.shadow with count := 1#32 } })).accessed .control (splCtrl 60)
         ((z.chan 60).inPool || (z.chan 60).shadow.bad 60) = false)
      ∧ (let z := (moves staged false none []).accessed .control (splCtrl 60)
         (z.chan 60).state ≠ .idle ∧ (z.chan 60).state ≠ .halted)
      ∧ (let z := ((moves staged false none []).modChan 60 (fun h => { h with state := .halted })).accessed .control (splCtrl 60)
         (z.chan 60).state = .halted ∧ (z.chan 60).inPool = false ∧ (z.chan 60).transfer = some 0)
      ∧ (let z := (world.modChan 3 (fun h => { h with state := .halted })).accessed .control (splCtrl 3)
         (z.chan 3).state = .halted ∧ (z.chan 3).inPool = true)) := by decide +kernel
theorem witness_pool : ([0x7F#64, 0xFF#64].all fun v =>
      writesB up .control R.SPB_POOL (w32 (v.toNat % 2 ^ 32))
      && (let x := up.accessed .control R.SPB_POOL
          writesB (x.setLatch .control { x.latch .control with wr := some (R.SPB_POOL, w32 (v.toNat % 2 ^ 32)) }) .control
            (R.SPB_POOL + 4) (w32 (v.toNat / 2 ^ 32)))) = true
    ∧ popBits 0x7F 64 < 8 ∧ 8 ≤ popBits 0xFF 64 := by decide +kernel

/-- Slate 3 has a transfer whose tier extent is not allocated, and tenant 0 a pool in tier 1. -/
def wantsExtent (k : Kind) (pool : Bool) : State :=
  { world with
    movers := { world.movers with transfers := put [] 0 { Transfer.blank k 0 with slate := 3, gen := 1, tier := 1, allocated := false } }
    tiers := { world.tiers with regions := if pool then [(0, ⟨0x1000, 0x1000, 0, 2, 1, 1, 0⟩)] else [] } }
theorem witness_margins : Runs world ∧ (world.entryAt 0 3 = some (entry 3) ∧ world.slateOfEntry 0 3 = some 3
      ∧ (world.slate 3).state = .movingOut ∧ (world.slate 3).softLogged = false
      ∧ ((world.modSlate 3 (fun r => { r with decided := true })).slate 3).decided = true)
    ∧ ((world.tenant 0).stepOpen = true ∧ world.slateOfEntry 0 8 = some 8 ∧ (world.slate 8).pastHard = false
      ∧ (world.slate 8).state = .ready ∧ ((world.modSlate 8 (fun r => { r with pastHard := true })).slate 8).pastHard = true
      ∧ ((world.tenant 0).gathersWaiting.any (fun g => g.entry == 8)) = false
      ∧ world.entryAt 0 13 = some (entry 13) ∧ world.slateOfEntry 0 13 = none
      ∧ (((world.modTenant 0 (fun x => { x with gathersWaiting := [⟨13, false⟩] })).tenant 0).gathersWaiting.any
        (fun g => g.entry == 13)) = true)
    ∧ (∀ k ∈ [Kind.out, Kind.move], ((wantsExtent k true).unallocated.map (·.1)) = [0]
      ∧ ((wantsExtent k false).allocTier 3 1).isNone = true ∧ ((wantsExtent k true).allocTier 3 1).isSome = true
      ∧ (((wantsExtent .move true).transfersOf 3).find? (fun p => p.2.kind == .move && !p.2.allocated)).isSome = true)
    ∧ (world.tenant 7).halted = false :=
  ⟨runs _ (by decide +kernel), by decide +kernel⟩
/-- The hard limit's clause for a slate that is READY: no transfer of it and no gather waits after its requests are answered. -/
theorem witness_hardLimit : (let y := world.advanceTo (world.frameAt 0 (entry 8).callFrame + (world.frozen 0).hardLate)
    let z := ((world.transfersOf 8).map (·.1)).foldl (fun (z : State) id => z.hardOne id)
      ((y.modSlate 8 (fun r => { r with pastHard := true })).poisonWaiting 8)
    ((z.tenant 0).gathersWaiting.any (fun g => g.entry == 8)) = false) := by decide +kernel
/-- A transfer of a kind for the slate in the state that it serves. -/
def carries (k : Kind) (i : Nat) : State :=
  { world with movers := { world.movers with transfers := put [] 0 { Transfer.blank k 0 with slate := i, gen := 1 } } }
theorem witness_hardOne : [(Kind.move, 3), (.out, 3), (.ret, 5), (.fill, 7), (.prop, 9)].all (fun q =>
    let s := carries q.1 q.2
    let z := (s.bump R.SPB_CANCELS 1).cancelTransfer 0
    (match s.transfer 0 with | some x => x.kind == q.1 && x.slate == q.2 && x.gen == (z.slate q.2).gen && x.operandOf == none
                             | none => false)
    && (z.slate q.2).state == (states.getD q.2 .free)) = true := by decide +kernel
theorem witness_retirement : Runs world ∧ bitAt world.vault.retired 111 = false ∧ world.shelfHolder 111 = some 0
    ∧ ({ world with security := { world.security with parts := List.replicate 8 Partition.nothing } } : State).shelfHolder 111
      = none :=
  ⟨runs _ (by decide +kernel), by decide +kernel⟩

theorem witness_host : (writesB up .control R.TIER_HOST 1#32 = true ∧ writesB up .control R.TIER_HOST 2#32 = true
      ∧ writesB up .control R.TIER_HB 0#32 = true) ∧ Runs (up.setReg R.TIER_HB_LIMIT 5#32)
    ∧ (fld ((up.setReg R.TIER_HB_LIMIT 5#32).reg R.TIER_HB_LIMIT).toNat 0 24 = 5 ∧ up.tiers.host = .attached)
    ∧ (let s := { up with tiers := { up.tiers with host := .detached } }
       writesB s .control R.TIER_HOST 2#32 = true ∧ (s.accessed .control R.TIER_HOST).tiers.host ≠ .attached) :=
  ⟨by decide +kernel, runs _ (by decide +kernel), by decide +kernel⟩

/-- A staged region, and the regions that stand. -/
def stages (base : Nat) (cfg : Word) (m : NMap Region) : State :=
  { ((up.setReg64 R.TIER_RGN_BASE 0 base).setReg64 R.TIER_RGN_BYTES 0 0x1000).setReg R.TIER_RGN_CFG cfg with
    tiers := { up.tiers with regions := m } }
/-- Entry 0 is tenant 0's pool in tier 1. -/
def aPool : NMap Region := [(0, ⟨0x1000, 0x1000, 0, 2, 1, 1, 0⟩)]
/-- An extent of that pool is allocated. -/
def inUse (s : State) : State := { s with tiers := { s.tiers with extents := [⟨0, 1, 0x1000, 1, 3, 1, false, false⟩] } }
theorem witness_regions : ([R.TIER_RGN_SEL, R.TIER_RGN_CTRL].all fun a => [0#32, 1#32, 2#32, 63#32].all fun v =>
      [up, stages 1 0#32 [], stages 0x1000 0x1120#32 aPool].all fun s => writesB s .control a v) = true
    ∧ ((let z := (stages 1 0x120#32 []).accessed .control R.TIER_RGN_CTRL; z.regionBad 0 z.stagedRegion = true)
      ∧ (let z := (inUse (stages 0x1000 0x1120#32 aPool)).accessed .control R.TIER_RGN_CTRL
         z.regionBad 0 z.stagedRegion = false ∧ z.regionBusy 0 = true)
      ∧ (let z := (stages 0x1000 0x110#32 [(1, ⟨0x1000, 0x1000, 1, 1, 1, 0, 0⟩)]).accessed .control R.TIER_RGN_CTRL
         z.regionBad 0 z.stagedRegion = false ∧ z.regionBusy 0 = false ∧ z.stagedRegion.kind ≠ 0
         ∧ z.regionOverlap 0 z.stagedRegion = true)
      ∧ (let z := (stages 0x1000 0x110#32 []).accessed .control R.TIER_RGN_CTRL
         z.regionBad 0 z.stagedRegion = false ∧ z.regionBusy 0 = false ∧ z.stagedRegion.kind ≠ 0
         ∧ z.regionOverlap 0 z.stagedRegion = false)
      ∧ (let z := (stages 0x1000 0x100#32 []).accessed .control R.TIER_RGN_CTRL
         z.regionBad 0 z.stagedRegion = false ∧ z.regionBusy 0 = false ∧ z.stagedRegion.kind = 0)) := by decide +kernel

/-! ### Shooting sheets -/

/-- Bytes as memory, zeros unlisted. -/
def bytesAt (a : Nat) (bs : List Byte) : NMap Byte :=
  ((List.range bs.length).zip bs).filterMap (fun p => if p.2 = 0#8 then none else some (a + p.1, p.2))
/-- A sheet of 3 frames with one entry of a block, written in frame 0, called in frame 1 and released in frame 2 (R40, R41). -/
def sheetEntry : List Byte :=
  leBytes 9 4 ++ leBytes (2 ^ 22 * 255) 4 ++ leBytes 0 4 ++ leBytes (1 + 2 ^ 24 * 32) 4 ++ leBytes 1 4 ++ leBytes 0 4 ++ leBytes 2 4 ++ leBytes 0 4
def sheetHeader : List Byte :=
  leBytes 0x7E1A5C01 4 ++ leBytes 1 4 ++ leBytes 1 4 ++ leBytes 3 4 ++ leBytes 0 4 ++ leBytes 100 4 ++ leBytes 0 32
    ++ leBytes (crc32c sheetEntry) 4
def sheetImage : List Byte := sheetHeader ++ leBytes (crc32c sheetHeader) 4 ++ sheetEntry
/-- Tenant 0 checks that sheet at 0x1000, with its frame table at 0x2000. -/
def theCheck (stepOpen : Bool) : SheetCheck := ⟨0x1000, 96, 0x2000, stepOpen, 112, 65536, [0, 0, 0, 0], [false, false, false, false], [0]⟩
def checks (stepOpen : Bool) : State :=
  { up with
    tenants := put [] 0 { Tenant.init with check := some (theCheck stepOpen) }
    tiers := { up.tiers with regions := [(0, ⟨0x1000, 0x2000, 0, 1, 1, 0, 0⟩)] }
    mem := bytesAt 0x1000 sheetImage }
theorem witness_sheets : (writesB up .control R.SHT_CTRL (w32 (7 + 256)) = true ∧ writesB up .control R.SHT_CTRL (w32 (7 + 512)) = true
      ∧ (((up.accessed .control R.SHT_CTRL).putFields R.SHT_CTRL 7 (7 + 256)).tenant 7).check = none
      ∧ (((up.accessed .control R.SHT_CTRL).putFields R.SHT_CTRL 7 (7 + 512)).tenant 7).stepOpen = false
      ∧ (((up.accessed .control R.SHT_CTRL).putFields R.SHT_CTRL 7 (7 + 512)).tenant 7).check = none)
    ∧ Runs (checks false) ∧ ((checks false).tenant 0).check = some (theCheck false)
    ∧ (checks false).sheetFault 0 (theCheck false) = none
    ∧ Runs (checks true) ∧ ((checks true).tenant 0).check = some (theCheck true)
    ∧ (checks true).sheetFault 0 (theCheck true) = some { reason := 1 }
    ∧ (writesB up .control R.SLT_SEL 0xFFFF#32 = true ∧ writesB up .control R.CUT_FC_SEL 0x00050001#32 = true) :=
  ⟨by decide +kernel, runs _ (by decide +kernel), by decide +kernel, by decide +kernel, runs _ (by decide +kernel), by decide +kernel,
    by decide +kernel, by decide +kernel⟩

/-! ### Training services and synchronisation -/

/-- A norm round of die 0 over a crew, whose area is a CONTROL region at 0x4000 with given bytes at an offset. -/
def rounds (g : Gn) (crew pkgs : Nat) (at_ : Nat) (bs : List Byte) : State :=
  { (((up.setReg64 R.MTR_GN_CREW 0 crew).setReg64 R.MTR_GN_AREA 0 0x4000).setReg R.MTR_GN_PKG (w32 pkgs)) with
    services := { up.services with gn := g }
    die := { up.die with package := if pkgs = 1 then none else some 0 }
    tiers := { up.tiers with regions := [(0, ⟨0x4000, 0x2000, 0, 1, 1, 0, 0⟩)] }
    mem := bytesAt (0x4000 + at_) bs }
/-- The round's phase, and whether the leader's result stands. -/
def inPhase (p : GnPhase) (written : Bool) : Gn := { Gn.init with phase := p, leads := true, written := written, own := List.replicate 64 0#8 }
/-- The slot of die 0, and a result record, with correct CRCs. -/
def slot : List Byte := partialRecord 5 0 0 false 0 1 0
def result : List Byte := withCrc (leBytes 0 124)
theorem witness_meters : ([(R.MTR_SEL, 0x00030FFF#32), (R.MTR_CTRL, w32 (up.fieldsOf R.MTR_CTRL ||| 256)), (R.MTR_GN_CTRL, 7#32),
      (R.EXS_SEL, 0x7FF#32), (R.EXS_CTRL, 1#32), (R.EXS_CTRL, 2#32)].all fun q => writesB up .control q.1 q.2) = true
    ∧ writesB (rounds (inPhase .crew false) 1 1 0 []) .control R.MTR_GN_CTRL 7#32 = true
    ∧ (((rounds (inPhase .crew false) 1 1 0 []).accessed .control R.MTR_GN_CTRL).putFields R.MTR_GN_CTRL 6 7).gn.runs = true
    ∧ ((up.accessed .control R.MTR_GN_CTRL).putFields R.MTR_GN_CTRL 6 7).gn.runs = false := by decide +kernel
theorem witness_norm : Runs (rounds (inPhase .crew false) 1 1 0 slot)
    ∧ (let x := (rounds (inPhase .packages false) 1 2 0 slot).external []
       x.memOpen x.gnArea = true ∧ x.gn.phase = .packages)
    ∧ (let a := rounds (inPhase .crew false) 3 1 0 slot
       a.gnLeads = true ∧ a.gn.phase = .crew ∧ a.gn.written = false ∧ a.gnSlots.length < a.gnCrew.length)
    ∧ (let b := rounds (inPhase .crew false) 1 1 0 slot
       b.gnLeads = true ∧ b.gnCrew.length ≤ b.gnSlots.length ∧ (b.gnTake b.gnSlots).gnCount ≤ 1)
    ∧ (let c := rounds (inPhase .crew false) 1 2 0 slot
       c.gnLeads = true ∧ c.gnCrew.length ≤ c.gnSlots.length ∧ 1 < (c.gnTake c.gnSlots).gnCount)
    ∧ (let d := rounds (inPhase .crew false) 1 1 0 []
       d.gn.runs = true ∧ d.gnAreaOk = true ∧ recordValid (Memory.read d.mem (d.gnArea + 0x1000) 128) 128 84 d.gnRound = false)
    ∧ (let d := rounds (inPhase .crew true) 1 1 0x1000 result
       d.gn.runs = true ∧ d.gnAreaOk = true ∧ recordValid (Memory.read d.mem (d.gnArea + 0x1000) 128) 128 84 d.gnRound = true
       ∧ d.gn.written = true)
    ∧ (let d := rounds (inPhase .crew false) 1 1 0x1000 (withCrc (leBytes 0 61 ++ [1#8] ++ leBytes 0 62))
       d.gnAreaOk = true ∧ leAt (Memory.read d.mem (d.gnArea + 0x1000) 128) 61 1 = 1
       ∧ recordValid (Memory.read d.mem (d.gnArea + 0x1000) 128) 128 84 d.gnRound = true ∧ d.gn.written = false)
    ∧ ([(inPhase .crew false, true), (inPhase .packages false, true), (inPhase .crew true, true)].all fun q =>
        let s := rounds q.1 1 1 0 []
        s.gn.runs && (s.advanceTo s.gnDue).gnLeads == q.2 && (s.advanceTo s.gnDue).gn == q.1) = true :=
  ⟨runs _ (by decide +kernel), by decide +kernel⟩

/-- Tenant 0 owns eyelet 0 only, and a CONTROL region of its own begins at 0x6000, where bytes stand; an operation may run. -/
def contexts (op : Option CtxOp) (bs : List Byte) : State :=
  { up with
    security := { up.security with parts := up.security.parts.set 0 { Partition.nothing with eyeCount := 1 } }
    tiers := { up.tiers with regions := [(0, ⟨0x6000, 0x1000, 0, 1, 1, 0, 0⟩)] }
    eyes := { up.eyes with ctx := op }
    mem := bytesAt 0x6000 bs }
def restores : CtxOp := ⟨0, false, 0x6000, false, 0⟩
theorem witness_eyeRegisters : ([R.EYE_COUNT, R.EYE_TARGET, R.EYE_CFG].all fun a => [0#32, 0x7FFFFFFF#32, 0xFFFFFFFF#32].all fun v =>
      writesB up .control a v) = true
    ∧ writesB up .control R.EYE_SEL 4095#32 = true
    ∧ 0 ≤ (⟨0x7FFFFFFF#32, 0#32, 0#32⟩ : Eyelet).d ∧ (⟨0x80000000#32, 0#32, 0#32⟩ : Eyelet).d < 0
    ∧ 0 ≤ (⟨0#32, 0#32, 0#32⟩ : Eyelet).d ∧ (⟨0#32, 1#32, 0#32⟩ : Eyelet).d < 0
    ∧ fld (0x3FFFFFFF#32).toNat 30 2 = 0 ∧ fld (0x40000000#32).toNat 30 2 ≠ 0 := by decide +kernel
theorem witness_contexts : ([(contexts none [], false, false), ((contexts none []).setReg64 R.EYE_CTX_BASE 0 0x6000, false, true),
      (contexts (some restores) [], true, false)].all fun q => [256, 512].all fun v =>
      writesB q.1 .control R.EYE_CTRL (w32 v)
      && (let y := (q.1.accessed .control R.EYE_CTRL).putFields R.EYE_CTRL 7 v
          y.eyes.ctx.isSome == q.2.1 && (y.controlRegion 0 (y.reg64 R.EYE_CTX_BASE 0) (y.ctxBytes 0)).isSome == q.2.2)) = true
    ∧ Runs (contexts (some ⟨0, true, 0x6000, false, 0⟩) []) ∧ Runs (contexts (some restores) [])
    ∧ (contexts (some restores) []).ctxGood restores = false
    ∧ (contexts (some restores) ((contexts none []).ctxImage ⟨0, true, 0x6000, false, 0⟩)).ctxGood restores = true
    ∧ ((contexts (some restores) []).external []).eyes.ctx = some restores ∧ ((contexts (some restores) []).external []).memOpen 0x6000 = true
    ∧ (((contexts (some restores) []).setPd 2 ⟨true, .granted, 0⟩).external []).memOpen 0x6000 = false :=
  ⟨by decide +kernel, runs _ (by decide +kernel), runs _ (by decide +kernel), by decide +kernel, by decide +kernel,
    by decide +kernel, by decide +kernel, by decide +kernel⟩

/-- Eyelet 5 is tenant 0's and takes signals, eyelet 6 takes none; queue 0 waits on eyelet 5 with a timeout. -/
def awaits : State := { eyes with eyes := { eyes.eyes with waits := [⟨cmd 5#32 0#8 9#64, 0, 5, 9, false, some 77, false, false⟩] } }
theorem witness_doorbells : Arrives eyes ∧ (eyes.eyeTenant 5 = some 0 ∧ eyes.ctxHolds 0 = false
      ∧ bitAt (eyes.eyelet 5).cfg.toNat 24 = true ∧ bitAt (eyes.eyelet 6).cfg.toNat 24 = false
      ∧ (contexts none []).eyeTenant 1 = none ∧ (contexts (some restores) []).eyeTenant 0 = some 0
      ∧ (contexts (some restores) []).ctxHolds 0 = true
      ∧ (0x7FFC#15).toNat % 4 = 0 ∧ (0x7FFC#15).toNat % 0x4000 / 4 = 4095)
    ∧ Runs awaits ∧ (firstDueWait (awaits.eyes.waits.filter (fun w => w.cmd.queue.val == 0 && w.cmd.ticket == 7#16 && w.due.isSome))).isSome = true
    ∧ (let x := up.accessed .control R.CLAP_FIRE
       let v : BitVec 64 := 0x8000000000000001#64
       writesB up .control R.CLAP_FIRE (w32 (v.toNat % 2 ^ 32)) = true
       ∧ writesB (x.setLatch .control { x.latch .control with wr := some (R.CLAP_FIRE, w32 (v.toNat % 2 ^ 32)) }) .control
         (R.CLAP_FIRE + 4) (w32 (v.toNat / 2 ^ 32)) = true)
    ∧ AocRuns up ∧ (look ({ up with lace := { up.lace with pulses := put [] 63 (6, 9) } } : State).lace.pulses 63 = some (6, 9)
      ∧ up.rst.powered = true ∧ up.clockRuns = true ∧ holding up.dbg.wir = false) :=
  ⟨arrives _ (by decide +kernel), by decide +kernel, runs _ (by decide +kernel), by decide +kernel, by decide +kernel,
    aocRuns _ (by decide +kernel), by decide +kernel⟩
/-- A line that is fired is driven low in the three AOC cycles that follow, and not in the present one (R279). -/
theorem test_pulse : (let s := up.pulse 63
    ((List.range 6).map (fun k => ({ s with now := s.now + k } : State).drivesLine 63)) = [false, true, true, true, false, false]) := by
  decide +kernel

/-- Wire 15 is in a state; die 63 is in its roll. -/
def wired (w : WireState) : State := (up.setReg64 (R.LACE_ROLL + 8 * 15) 0 (2 ^ 63)).setWire 15 ⟨w, false, 50, 3⟩
theorem witness_lace : ([up, wired .hold].all fun s => writesB s .control R.LACE_CTRL 0x8001#32) = true
    ∧ writesB { up with security := { up.security with privSec := 0xAAAAAAAAAAAAAAAA#64 } } .security R.LACE_CTRL 0x8001#32 = true
    ∧ ([up, wired .hold].all fun s => [R.LACE_WIRE + 60, R.LACE_ARR + 60].all fun a => writesB s .control a 5#32) = true
    ∧ Runs (wired .arrived) ∧ Stands (wired .gap)
    ∧ ((up.wire 15).state = .off ∧ ((wired .hold).wire 15).state ≠ .off ∧ ((wired .arrived).wire 15).state = .arrived
      ∧ ((wired .gap).wire 15).state = .gap)
    ∧ ((List.range 16).filter (fun n => bitAt ((wired .hold).reg64 (R.LACE_ROLL + 8 * n) 0) 63) = [15]
      ∧ (List.range 16).filter (fun n => bitAt (up.reg64 (R.LACE_ROLL + 8 * n) 0) 63) = []) :=
  ⟨by decide +kernel, by decide +kernel, by decide +kernel, runs _ (by decide +kernel), stands _ (by decide +kernel), by decide +kernel⟩

/-- A sender with the number 5 applied, and a LENT region of tenant 0 to its package. -/
def lends : State :=
  { up with
    peer := { up.peer with rx := [⟨1, 0, 5000, [(5, false), (5000, true)]⟩] }
    tiers := { up.tiers with regions := [(0, ⟨0x8000, 0x1000, 0, 5, 1, 0, 1⟩)] } }
def sender (seq : BitVec 32) : PeerHead := ⟨1, 0, seq, 0⟩
theorem witness_received : Arrives lends ∧ (lends.seen (sender 1#32) = .stale ∧ lends.seen (sender 5000#32) = .again true
      ∧ lends.seen (sender 4999#32) = .fresh ∧ lends.seen (sender 5001#32) = .fresh
      ∧ (lends.checkLent (sender 5001#32) 0xFF0 16).2 = some 0x8FF0 ∧ (lends.checkLent (sender 5001#32) 0xFF1 16).2 = none
      ∧ lends.areaOther 0 = false ∧ lends.memOpen 0x8FF0 = true ∧ (lends.setPd 2 ⟨true, .granted, 0⟩).memOpen 0x8FF0 = false
      ∧ ((lends.setPd 2 ⟨true, .granted, 0⟩).checkLent (sender 5001#32) 0xFF0 16).2 = some 0x8FF0
      ∧ lends.rxStatus (sender 5001#32) 5000 = some true ∧ lends.rxStatus (sender 5001#32) 5 = some false
      ∧ lends.peer.signals = [])
    ∧ (rounds (inPhase .crew false) 1 2 0 []).areaOther 1 = true ∧ (rounds (inPhase .crew false) 1 2 0 []).seen (sender 0#32) = .fresh :=
  ⟨arrives _ (by decide +kernel), by decide +kernel⟩

/-- Operation 9 for package 3 is not acknowledged. -/
def outstanding (txn : Option Nat) (resends : Nat) : PeerOp := ⟨.ship, 3, none, 0, 9, 0, 0, 32, [], 0#32, none, txn, resends, 0, false⟩
def sends (txn : Option Nat) (resends : Nat) : State := { up with peer := { up.peer with ops := [outstanding txn resends] } }
theorem witness_sent : Runs (sends none 3) ∧ Runs (sends (some 0) 4)
    ∧ ((sends none 3).rst.isolating = false ∧ (sends none 3).peerOp 9 = some (outstanding none 3)
      ∧ (sends (some 0) 4).peerOp 9 = some (outstanding (some 0) 4) ∧ (sends none 3).lostPackage 3 = false)
    ∧ ([(R.PEER_CTRL, w32 (1 + 2 ^ 8 * 63)), (R.PEER_CTRL, w32 (up.fieldsOf R.PEER_CTRL ||| 2)), (R.PEER_PARTNER, 0x101#32)].all
      fun q => writesB up .control q.1 q.2) = true
    ∧ (up.accessed .control R.PEER_PARTNER).partnerFree = true
    ∧ (let s := { up with tiers := { up.tiers with extents := [⟨0, 4, 0, 1, 0, 1, false, false⟩] } }
       writesB s .control R.PEER_PARTNER 0x101#32 = true ∧ (s.accessed .control R.PEER_PARTNER).partnerFree = false) :=
  ⟨runs _ (by decide +kernel), runs _ (by decide +kernel), by decide +kernel⟩

/-! ### Register ports, locks and countersigns -/

/-- What Reads asks, as a test. -/
def readsB (s : State) (p : Port) (a : Nat) : Bool :=
  s.fate p a false 0#32 == .done && a % 4 == 0 && (s.latch p).rd == none && s.recorder.raised.isEmpty
/-- SHT_BYTES, SHT_BASE with its high word, and two counts. -/
theorem witness_registers :
    (writesB up .control R.SHT_BYTES 5#32 = true ∧ R.SHT_BYTES % 4 = 0 ∧ 0x40 ≤ offsetOf R.SHT_BYTES
      ∧ (regAt R.SHT_BYTES).map (fun r => (r.desc.acc, ownEffect.contains r.desc.addr, r.desc.addr / 0x1000 != 0x14, r.desc.wide))
        = some (.rw, false, true, false))
    ∧ (let s := up.setLatch .control ⟨none, some (R.SHT_BASE, 7#32)⟩
       writesB up .control R.SHT_BASE 5#32 = true ∧ writesB s .control (R.SHT_BASE + 4) 5#32 = true
       ∧ R.SHT_BASE % 4 = 0 ∧ 0x40 ≤ offsetOf R.SHT_BASE ∧ (s.latch .control).wr = some (R.SHT_BASE, 7#32)
       ∧ (regAt (R.SHT_BASE + 4)).map (fun r => { r with high := false }) = regAt R.SHT_BASE
       ∧ (regAt R.SHT_BASE).map (fun r => (r.desc.acc, ownEffect.contains r.desc.addr, r.desc.wide, r.high)) = some (.rw, false, true, false)
       ∧ (regAt (R.SHT_BASE + 4)).map (·.high) = some true) := by decide +kernel
theorem witness_reads : (readsB up .control R.CUT_DECISIONS = true ∧ 0x40 ≤ offsetOf R.CUT_DECISIONS
      ∧ (regAt R.CUT_DECISIONS).map (fun r => (r.desc.acc, [R.PWR_RES, R.VLT_HWM, R.OPX_STALL, R.VLT_STALL].contains r.desc.addr))
        = some (.rc, false))
    ∧ (up.fate .control R.STI_RAW_IN false 0#32 = .done ∧ up.fate .control (R.STI_RAW_IN + 4) false 0#32 = .done
      ∧ (up.latch .control).rd = none
      ∧ (regAt R.STI_RAW_IN).map (fun r => (r.desc.wide, r.high)) = some (true, false)
      ∧ (regAt (R.STI_RAW_IN + 4)).map (fun r => (r.desc.wide, r.high)) = some (true, true)
      ∧ ((up.setLatch .control ⟨some (R.STI_RAW_IN + 4, 7#32), none⟩).latch .control).rd = some (R.STI_RAW_IN + 4, 7#32)) := by
  decide +kernel

/-- The control port holds the lock of a page. -/
def locked (n : Nat) (staged : List (Nat × Word)) (overflow : Bool) : State :=
  up.setPage n { up.page n with owner := some .control, staged := staged, overflow := overflow }
theorem witness_headers : ([R.IRQ_STAT, R.IRQ_FORCE].all fun r => servesB up .control (headerAt 31 r) 0xFFFFFFFF#32) = true
    ∧ servesB up .control (headerAt 31 R.ERR_CLR) 1#32 = true := by decide +kernel
theorem witness_locks : servesB up .control (headerAt 5 R.LOCK) (w32 (2 ^ 8)) = true ∧ (up.page 5).owner = none
    ∧ (servesB (locked 6 [] false) .control R.SHT_BYTES 5#32 = true ∧ pageOf R.SHT_BYTES = 6
      ∧ ((locked 6 [] false).page 6).owner = some .control
      ∧ (regAt R.SHT_BYTES).map (fun r => (r.desc.wide, r.high, r.desc.acc)) = some (false, false, .rw))
    ∧ servesB (locked 6 [] false) .control (headerAt 6 R.SHADOW_CTRL) (w32 (2 ^ 8)) = true
    ∧ ([true, false].all fun o => servesB (locked 6 [] o) .control (headerAt 6 R.LOCK) (w32 (2 ^ 9))
        && ((locked 6 [] o).page 6).owner == some .control && ((locked 6 [] o).page 6).overflow == o) = true := by decide +kernel
theorem witness_mode : servesB (locked 0 [] false) .control R.BLK_MODE 0x1FFF#32 = true
    ∧ up.fate .control R.BLK_MODE true 5#32 = .rejected 0
    ∧ (let s := locked 0 [(R.BLK_MODE, 5#32)] false
       servesB s .control (headerAt 0 R.LOCK) (w32 (2 ^ 9)) = true ∧ (s.page 0).owner = some .control ∧ (s.page 0).overflow = false
       ∧ (s.page 0).staged = [(R.BLK_MODE, 5#32)] ∧ s.power.state = .active) := by decide +kernel

/-- A proposal of the control port, of a kind. -/
def proposal (kind : Nat) : Proposal := ⟨.control, leBytes kind 128, 0#32, 9#32, 1000⟩
def proposes (s : State) (kind : Nat) : State := { s with security := { s.security with proposal := some (proposal kind) } }
theorem witness_broken : AocRuns (locked 5 [] false) ∧ AocRuns up
    ∧ ((locked 5 [] false).page 5).owner = some .control ∧ (locked 5 [] false).lockLimit ≠ 0
    ∧ (proposes up 2).security.proposal = some (proposal 2) ∧ up.security.proposal = none ∧ up.pages = [] :=
  ⟨aocRuns _ (by decide +kernel), aocRuns _ (by decide +kernel), by decide +kernel⟩
/-- No page of up has an owner. -/
theorem witness_noOwner (p : Port) (n : Nat) : (up.page n).owner ≠ some p := fun h => by cases h
theorem witness_proposals : writesB up .control R.SEC_PROPOSE 1#32 = true ∧ AocRuns (proposes up 2)
    ∧ ([(proposes up 3, 8#32), (proposes up 3, 9#32), (proposes world 1, 9#32)].all fun q =>
        writesB q.1 .security R.SEC_CS_DIGEST q.2) = true
    ∧ (let z := (proposes up 3).accessed .security R.SEC_CS_DIGEST
       z.security.proposal = some (proposal 3) ∧ z.now < (proposal 3).endsAt ∧ z.security.csNonce = (proposal 3).nonce
       ∧ z.proposalInUse (proposal 3).bytes = false ∧ z.proposalLoan (proposal 3).bytes = false)
    ∧ (let z := (proposes world 1).accessed .security R.SEC_CS_DIGEST
       z.security.proposal = some (proposal 1) ∧ z.proposalInUse (proposal 1).bytes = true) :=
  ⟨by decide +kernel, aocRuns _ (by decide +kernel), by decide +kernel⟩
theorem witness_applied : Runs up ∧ (∀ k ∈ [1, 2, 3, 4], leAt (proposal k).bytes 0 1 = k)
    ∧ ({ up with security := { up.security with applying := some (proposal 1) } } : State).security.applying = some (proposal 1)
    ∧ up.port.queue = [] ∧ writesB up .security (R.SEC_KEY_STAGE + 60) 5#32 = true :=
  ⟨runs _ (by decide +kernel), by decide +kernel⟩

/-! ### Power and resets -/

/-- The next-event timer has a source in n ticks. -/
def hinted (n : Nat) : State := { up with power := { up.power with hintAt := some n } }
theorem witness_powerState : Stands (hinted 0) ∧ ([0, 45, 1334, 22223].all fun n => (hinted n).clockRuns
      && (hinted n).quiescent && (hinted n).policy == 0 && (hinted n).nextEvent.map (·.2) == some n) = true
    ∧ ([(0x0E00#32, Power.nap), (0x1200#32, Power.deep), (0x0200#32, Power.active)].all fun q =>
        let s := up.setReg R.BLK_MODE q.1
        s.policy == 2 && s.fixedState == q.2 && s.quiescent) = true
    ∧ (let s := up.setReg R.BLK_MODE 0x100#32
       s.policy = 1 ∧ s.noWork = true ∧ ({ s with retake := { s.retake with loading := some (5, 0, 0x1000) } } : State).noWork = false) :=
  ⟨stands _ (by decide +kernel), by decide +kernel⟩
/-- State, effective gap, wake time and lent budget after a choice. -/
def chosen (n : Nat) : Option (Power × Nat × Option Nat × Nat) :=
  match exec .powerStateChoice (hinted n) with
  | .next u => some (u.power.state, u.power.eff, u.power.wakeAt, u.power.lent)
  | _ => none
/-- The worked example of R362 under the guard of 10 %: steps 1, 3 and 4, with times from the choice on. -/
theorem test_powerState : chosen 42000 = some (.deep, 37800, some 33800, 17400)
    ∧ chosen 4200 = some (.nap, 3780, some 3380, 17100) ∧ chosen 420 = some (.doze, 378, some 363, 0) := by decide +kernel
/-- The instance sleeps in a state, with its budget lent or not. -/
def sleeps (st : Power) (lending : Bool) (waking : Option Nat) : State :=
  { up with power := { up.power with state := st, lending := lending, waking := waking } }
theorem witness_wake : ([Power.doze, .nap, .deep].all fun st => [true, false].all fun l =>
      (sleeps st l none).isReady && (sleeps st l none).asleep && (sleeps st l none).recorder.raised.isEmpty
      && (sleeps st l none).power.lending == l && (sleeps st l none).power.waking == none) = true
    ∧ ([Power.idle, .active].all fun st => (sleeps st false none).isReady && (sleeps st false none).recorder.raised.isEmpty
      && (sleeps st false none).power.state == st) = true
    ∧ ({ sleeps .idle false none with power := { (sleeps .idle false none).power with wakeAt := some 9 } } : State).power.wakeAt = some 9
    ∧ (sleeps .deep false none).wakeCauseHolds .coreReset = true
    ∧ (sleeps .deep false none).wakeCauseHolds (.clapper 1#64) = false
    ∧ ((sleeps .deep false none).setReg64 R.EYE_WAKE_MASK 0 1).wakeCauseHolds (.clapper 1#64) = true
    ∧ ((sleeps .deep false none).setWire 15 ⟨.arrived, false, 0, 0⟩).wakeCauseHolds (.laceDone 0x8000#16) = true
    ∧ ((sleeps .deep false (some 9)).power.waking = some 9 ∧ (sleeps .deep false (some 9)).power.needAck = false)
    ∧ (let s := { sleeps .deep false none with eyes := awaits.eyes }
       s.asleep = true ∧ s.isReady = true ∧ s.recorder.raised = []
       ∧ (firstDueWait (s.eyes.waits.filter (fun w => w.cmd.queue.val == 0 && w.cmd.ticket == 7#16 && w.due.isSome))).isSome = true
       ∧ s.events ≠ (sleeps .deep false none).events) := by decide +kernel
/-- A write of the counters to the NV store runs, and OFF waits for it or not. -/
def persists (off : Bool) : State :=
  { up with power := { up.power with offPending := off }, recorder := { up.recorder with nvPending := some (0, 4, NvSlot.bytes ⟨1, 2, 3⟩) } }
theorem witness_off : (∀ o : Bool, AocRuns (persists o) ∧ (persists o).power.offPending = o
      ∧ (persists o).recorder.nvPending = some (0, 4, NvSlot.bytes ⟨1, 2, 3⟩))
    ∧ (up.accessed .control R.PWR_CTRL).power.offPending = false
    ∧ (let s := sleeps .idle false none
       writesB s .control R.PWR_CTRL (w32 2) = true ∧ (s.accessed .control R.PWR_CTRL).asleep = false
       ∧ (s.accessed .control R.PWR_CTRL).power.state ≠ .off)
    ∧ writesB up .control R.PWR_CTRL (w32 1) = true ∧ (up.accessed .control R.PWR_CTRL).mayGoOff = true
    ∧ writesB world .control R.PWR_CTRL (w32 1) = true ∧ (world.accessed .control R.PWR_CTRL).mayGoOff = false
    ∧ (let s := sleeps .deep false none
       writesB s .control R.PWR_CTRL (w32 2) = true ∧ (s.accessed .control R.PWR_CTRL).asleep = true)
    ∧ up.recorder.nvPending = none ∧ AocRuns up ∧ writesB up .control R.PWR_HINT 0#32 = true
    ∧ writesB up .control R.PWR_HINT 0xFFFFFFFF#32 = true :=
  ⟨fun o => ⟨aocRuns _ (by cases o <;> decide +kernel), rfl, rfl⟩, rfl, by decide +kernel, by decide +kernel, by decide +kernel,
    by decide +kernel, by decide +kernel, by decide +kernel, rfl, aocRuns _ (by decide +kernel), by decide +kernel, by decide +kernel⟩

/-- Domain 1 drains or defers, with a RET transfer of it that is due at a time. -/
def powersDown (ph : PdPhase) (deadline : Option Nat) : State :=
  let s := up.setPd 1 ⟨true, ph, 0⟩
  { s with movers := { s.movers with transfers := match deadline with
      | none => []
      | some n => put [] 0 { Transfer.blank .ret 0 with tier := 2, src := 2 ^ 36, deadline := n } } }
theorem witness_powerDown : Stands up ∧ Stands (powersDown .drain none) ∧ Stands (powersDown .defer none)
    ∧ (up.pd 3).req = false ∧ up.asleep = false ∧ State.reset.isReady = false ∧ State.reset.recorder.raised = []
    ∧ (let s := sleeps .deep false none
       s.isReady = true ∧ s.recorder.raised = [] ∧ s.asleep = true ∧ (s.pd 3).req = false)
    ∧ (let s := powersDown .drain (some 0)
       (s.pd 1).phase = .drain ∧ s.domainTxns 1 = []
       ∧ (nearest ((s.setPd 1 { s.pd 1 with phase := .defer, since := s.now }).deferring 1)).isSome = true)
    ∧ (let s := powersDown .drain none
       (s.pd 1).phase = .drain ∧ s.domainTxns 1 = []
       ∧ (s.setPd 1 { s.pd 1 with phase := .defer, since := s.now }).deferring 1 = [])
    ∧ (let s := powersDown .defer none
       (s.pd 1).phase = .defer ∧ s.deferring 1 = [])
    ∧ ([(Kind.out, 3), (.ret, 5), (.move, 3), (.prop, 9)].all fun q =>
        ((carries q.1 q.2).transfer 0).any (fun x => x.kind == q.1)) = true
    ∧ (let s := moves staged false (some (txn true false)) []
       (s.transfer 0).any (fun x => x.kind == .director) = true ∧ s.channelOf 0 = some 60 ∧ (s.domainTxns 2).length = 1) :=
  ⟨stands _ (by decide +kernel), stands _ (by decide +kernel), stands _ (by decide +kernel), by decide +kernel⟩

/-- A write of a director transfer is in flight. -/
def writing : State := moves staged false (some (txn true false)) []
/-- The isolation of a system reset is over. -/
def isolated : State := { up with rst := { up.rst with isolating := true, phase := .clear } }
theorem witness_resets : up.movers.txns = [] ∧ Runs up ∧ Runs writing
    ∧ (up.power.state = .active ∧ up.rst.isolating = false ∧ up.rst.bootSrc = 0#2 ∧ up.outstandingWrites = []
      ∧ writing.power.state = .active ∧ writing.rst.isolating = false ∧ writing.outstandingWrites ≠ [])
    ∧ (isolated.rst.isolating = true ∧ isolated.rst.writes = [] ∧ isolated.rst.bootSrc = 0#2 ∧ isolated.rst.powered = true
      ∧ isolated.power.offPosted = false ∧ isolated.dbg.test = false)
    ∧ (let s := { isolated with rst := { isolated.rst with writes := [⟨7, none, 0x1000, [1#8]⟩] } }
       s.rst.isolating = true ∧ s.rst.writes ≠ [] ∧ s.rst.bootSrc = 0#2 ∧ s.rst.powered = true) :=
  ⟨rfl, runs _ (by decide +kernel), runs _ (by decide +kernel), by decide +kernel, by decide +kernel⟩
/-- The watchdog counts, and has expired at some time or not. -/
def guarded (s : State) (at_ : Option Nat) : State := { s.setReg R.RST_WDOG 0x00050005#32 with rst := { s.rst with wdogCoreAt := at_ } }
theorem witness_coreReset : Runs up ∧ ([Port.control, .security].all fun p => writesB up p R.RST_CMD 0xA5C30001#32) = true
    ∧ writesB up .control R.RST_CMD 1#32 = true
    ∧ ((guarded up none).wdogCounts = true ∧ (guarded up none).rst.wdogCoreAt = none)
    ∧ (let s := guarded writing (some 0)
       s.wdogCounts = true ∧ s.wdogAgain = true ∧ s.rst.phase = .ready ∧ s.rst.isolating = false
       ∧ s.outstandingWrites ≠ [] ∧ writesB s .control R.RST_CMD 0xA5C30002#32 = true)
    ∧ (State.reset.wdogCounts = false ∧ State.reset.power.state ≠ .off ∧ up.rst.powered = true ∧ up.power.state ≠ .off ∧ up.outstandingWrites = []
      ∧ State.reset.rst.phase ≠ .ready ∧ State.reset.rst.powered = true ∧ isolated.rst.isolating = true
      ∧ ({ isolated with now := 5 } : State).now ≠ isolated.rst.releasedAt) :=
  ⟨runs _ (by decide +kernel), by decide +kernel⟩

/-- The boot phase under a strap, with an image of 64 bytes at 0x1000. -/
def bootImage : List Byte := leBytes 0x7E1A5C04 4 ++ leBytes 64 4 ++ leBytes 0 52
def boots (src : BitVec 2) (good : Bool) : State :=
  { ((up.setReg64 R.RST_BOOT_ADDR 0 0x1000).setReg R.RST_BOOT_BYTES 64#32) with
    rst := { up.rst with phase := .boot, bootSrc := src }
    mem := if good then bytesAt 0x1000 (bootImage ++ leBytes (crc32c bootImage) 4) else [] }
theorem witness_boot : AocRuns (boots 2#2 true) ∧ (boots 2#2 true).rst.phase = .boot ∧ (boots 2#2 true).rst.bootSrc = 2#2
    ∧ AocRuns (boots 1#2 true) ∧ AocRuns (boots 1#2 false) ∧ ([true, false].all fun g =>
        writesB (boots 1#2 g) .control R.RST_BOOT_CTRL 1#32
        && (let z := (boots 1#2 g).accessed .control R.RST_BOOT_CTRL
            bootImageGood (Memory.read (boots 1#2 g).mem (z.reg64 R.RST_BOOT_ADDR 0) (fld (z.reg R.RST_BOOT_BYTES).toNat 0 24)) == g))
      = true :=
  ⟨aocRuns _ (by decide +kernel), rfl, rfl, aocRuns _ (by decide +kernel), aocRuns _ (by decide +kernel), by decide +kernel⟩

/-! ### Recorder and debug -/

/-- A record waits to be stored, behind a ring that holds n records. -/
def stores (n : Nat) : State :=
  { up with recorder := { up.recorder with queue := [⟨n, 0x0101, 9, 0, 5, [0#32, 0#32, 0#32, 0#32]⟩], head := n } }
theorem witness_recorder : AocRuns (stores 8192) ∧ ((stores 8192).recorder.held = 8192 ∧ (stores 8192).recorder.waiting = []
      ∧ (stores 8191).recorder.held < 8192
      ∧ (stores ((stores 0).watermark - 1)).recorder.held < (stores 0).watermark)
    ∧ (writesB (stores 5) .control R.REC_TAIL 5#32 = true ∧ seqFrom (stores 5).recorder.tail 5 ≤ (stores 5).recorder.held
      ∧ writesB (stores 5) .control R.REC_TAIL 6#32 = true ∧ ¬seqFrom (stores 5).recorder.tail 6 ≤ (stores 5).recorder.held
      ∧ writesB up .control R.REC_CURSOR 0xFFFFFFFF#32 = true)
    ∧ AocRuns { up with recorder := { up.recorder with
        eraseBelow := some 5, timeLocked := true, calMsgAt := some 3 } }
    ∧ (let s := { stores 3 with recorder := { (stores 3).recorder with waiting := [⟨0x0101, 9, [0#32]⟩] } }
       (s.rst.powered && s.rst.phase != .aoc && s.power.state != .off && s.recorder.raised.isEmpty) = true
       ∧ s.recorder.waiting = [⟨0x0101, 9, [0#32]⟩] ∧ s.isReady = true ∧ s.clockRuns = true) :=
  ⟨aocRuns _ (by decide +kernel), by decide +kernel, by decide +kernel, aocRuns _ (by decide +kernel), by decide +kernel⟩
/-- The boundary register has 1,904 cells (R395), and a slot of the NV store reads back (R386). -/
theorem test_slot : Cell.index (.busOut 0) = 179 ∧ Cell.index (.peer 35) = 1903
    ∧ nvRead (NvSlot.bytes ⟨5, 6, 7⟩) = some ⟨5, 6, 7⟩ ∧ nvRead (List.replicate 16 0#8) = none := by decide +kernel
theorem witness_debug : ([w32 (up.fieldsOf R.DBG_CTRL ||| 1), w32 ((up.reg R.DBG_CTRL).toNat &&& 0xFFFFFFFE)].all fun v =>
      writesB up .debug R.DBG_CTRL v) = true
    ∧ (let y := (up.accessed .debug R.DBG_CTRL).putFields R.DBG_CTRL 0x101 (up.fieldsOf R.DBG_CTRL ||| 1)
       y.clicker.queue = [] ∧ y.dbg.halted = false)
    ∧ (let s := { up.setReg R.DBG_CTRL 1#32 with dbg := { up.dbg with halted := true } }
       writesB s .debug R.DBG_CTRL (w32 (s.fieldsOf R.DBG_CTRL ||| 2)) = true ∧ bitAt (s.fieldsOf R.DBG_CTRL ||| 2) 0 = true
       ∧ (let y := (s.accessed .debug R.DBG_CTRL).putFields R.DBG_CTRL 0x101 (s.fieldsOf R.DBG_CTRL ||| 2)
          let z := { y with dbg := { y.dbg with stepPending := true } }
          let w := { z with port := { z.port with queue := [(0xFF#8, cmd 0#32 0#8 0#64)] } }
          y.dbg.halted = true ∧ z.seqRuns = true ∧ z.decodeNext.2 = false ∧ w.seqRuns = true ∧ w.decodeNext.2 = true))
    ∧ (holding 2#4 = true ∧ holding 8#4 = false ∧ up.dbg.test = false) := by decide +kernel
theorem witness_loopback : writesB up .debug R.DBG_LB_CTRL (0#32 ||| 16#32) = true
    ∧ ((up.accessed .debug R.DBG_LB_CTRL).putFields R.DBG_LB_CTRL 0xFFF0F (0#32 ||| 16#32).toNat).lbAllowed = false
    ∧ (let s := { up with dbg := { up.dbg with wir := 9#4 } }
       ([(0#32, true), (1#32, false)].all fun q => writesB s .debug R.DBG_LB_CTRL (q.1 ||| 16#32)
        && (let y := (s.accessed .debug R.DBG_LB_CTRL).putFields R.DBG_LB_CTRL 0xFFF0F (q.1 ||| 16#32).toNat
            y.lbAllowed && (y.lbKind == 0) == q.2 && !y.dbg.lbBusy)) = true)
    ∧ (({ up with dbg := { up.dbg with lbBusy := true } } : State).dbg.lbBusy) = true := by decide +kernel

/-! ### Worked examples of the manual -/

/-- The sizes of the layer-norm output shard of R47: 4,608 blocks with pred_ratio 45. -/
theorem test_sizes : indexGr 4608 = 576 ∧ predGr 4608 45 = 419431 ∧ boundGr 4608 = 594432 := by decide
/-- The meter of R239: BF16 1.5 and 2^-133 add 9 × 2^158 and one underflow. -/
theorem test_meter : (let m := ((⟨0, 0#32, 0, 0, false⟩ : Meter).add (exactElem 1 0x3FC0 none)).add (exactElem 1 0x0001 none)
    (m.sum, m.under, m.nonfin)) = (9 * 2 ^ 158, 1, 0) := by decide +kernel
/-- The result of R239 for 25 × 2^158 over two instances: sumsq, norm64, norm32. -/
theorem test_norm : (let r := resultRecord ⟨25 * 2 ^ 158, 1, 0, false, 2⟩ false 1 7 0#64
    (r.length, leAt r 64 8, leAt r 72 8, leAt r 80 4)) = (128, 0x4019000000000000, 0x4004000000000000, 0x40200000) := by
  decide +kernel
/-- The exposure entry of R242: the maxima 3.2, 2.75 and 4.1 with margin 2.0 in FP8-E4M3 give 2^5. -/
theorem test_exposure : (formatMax 3).map (fun fm => scaleExp fm ([0x404CCCCD#32, 0x40300000#32, 0x40833333#32].foldl maxMag 0#32)
    0x40000000#32) = some 5 := by decide +kernel

end Sys2Proof.Tests
end

section
/-! SUPPORT. A served register access: it raises no event of its own, a write of a plain register sets its fields and acts on
nothing else, and what a read takes from the word, the latch and the count. -/

namespace Sys2Proof.Machine

/-! ### A served access raises no event -/

theorem State.beginWake_recorder (s : State) (trigger : Nat) : (s.beginWake trigger).recorder = s.recorder := by
  unfold State.beginWake
  split
  · rfl
  · split <;> rfl

theorem State.moveWake_recorder (s : State) : s.moveWake.recorder = s.recorder := by
  unfold State.moveWake
  split
  · rfl
  · dsimp only
    rw [apply_ite State.recorder, State.beginWake_recorder, ite_self]
    rfl

/-- Moving wake_at, or waking at once, leaves the recorder alone (R356). -/
theorem State.servedFrom_recorder (s was : State) (addr : Nat) : (s.servedFrom was addr).recorder = s.recorder := by
  unfold State.servedFrom State.movedFrom
  split
  · split
    · exact State.moveWake_recorder s
    · rfl
  · rfl

theorem State.servedFrom_ends (y s : State) (addr : Nat) (hy : y.recorder = s.recorder) (quiet : s.recorder.raised = []) :
    (y.servedFrom s addr).ends = .next (y.servedFrom s addr) :=
  State.ends_nil _ (by rw [State.servedFrom_recorder, hy, quiet])

/-! ### Rows of the register table -/

/-- Only a wide register has a high word (R406). -/
theorem regAt_narrow (a : Nat) (r : RegAt) (h : regAt a = some r) (hw : r.desc.wide = false) : r.high = false := by
  obtain ⟨d, _, e⟩ := List.exists_of_findSome?_eq_some h
  unfold RegDesc.at? at e
  split at e
  · cases e
  · dsimp only at e
    split at e
    · next k =>
      obtain ⟨_, _, hoff⟩ := k
      cases e
      simp_all
    · cases e

/-- Fields lie within the width of their register. -/
theorem rows_mask : ∀ d ∈ regTable, d.mask < 2 ^ (if d.wide then 64 else 32) := by decide +kernel

/-- The registers without RW fields whose write acts on a unit. -/
def actingOnly : List Nat :=
  [R.RST_CAUSE, R.RST_CMD, R.RST_BOOT_CTRL, R.PWR_CTRL, R.SEC_PROPOSE, R.SEC_CS_NONCE, R.SEC_CS_DIGEST, R.SEC_KEY_STAGE,
   R.TIER_HOST, R.TIER_HB, R.TIER_RGN_CTRL, R.CBK_CTRL, R.EXS_CTRL, R.CLAP_FIRE]

theorem rows_actingOnly : ∀ d ∈ regTable, d.acc = .rw → d.addr ∉ actingOnly := by decide +kernel

/-- A plain register is none of those whose write does more than set fields. -/
theorem RegAt.plain_inert (a : Nat) (r : RegAt) (h : regAt a = some r) (hp : r.plain) :
    r.desc.addr ∉ ownEffect ++ actingOnly ∧ r.desc.addr / 0x1000 ≠ 0x14 := by
  obtain ⟨hrw, hown, hspl⟩ := hp
  exact ⟨by simpa only [List.mem_append, not_or] using ⟨hown, rows_actingOnly _ (regAt_mem a r h) hrw⟩, hspl⟩

/-! ### A write of a plain register -/

/-- Each register whose value part is its own stands in one of the two lists, or on the splice pages. -/
theorem State.putValue_plain (z : State) (p : Port) (q : Put) (r : RegAt) (h : regAt q.addr = some r) (hp : r.plain) :
    z.putValue p q = z.putPlain q r := by
  obtain ⟨hbase, hspl⟩ := RegAt.plain_inert q.addr r h hp
  simp only [ownEffect, actingOnly, List.cons_append, List.nil_append, List.mem_cons, List.not_mem_nil, or_false, not_or] at hbase
  unfold State.putValue
  rw [h]
  dsimp only
  split <;> simp_all [State.putSecurity, State.putSync]

/-- Likewise each register that starts an action. -/
theorem State.putAction_plain (z : State) (p : Port) (q : Put) (r : RegAt) (test : BootTest) (h : regAt q.addr = some r)
    (hp : r.plain) : z.putAction p q test = z := by
  obtain ⟨hbase, hspl⟩ := RegAt.plain_inert q.addr r h hp
  simp only [ownEffect, actingOnly, List.cons_append, List.nil_append, List.mem_cons, List.not_mem_nil, or_false, not_or] at hbase
  unfold State.putAction
  rw [h]
  dsimp only
  split <;> simp_all

theorem State.putPlain_narrow (z : State) (a n : Nat) (r : RegAt) (hr : regAt a = some r) (hrw : r.desc.acc = .rw)
    (hw : r.desc.wide = false) :
    z.putPlain ⟨a, n, 0xFFFFFFFF⟩ r = z.setRegT a (z.copyOf (r.desc.addr / 0x1000) r.desc.scope)
      (w32 (legal r.desc.addr (mapMinus (z.regT a (z.copyOf (r.desc.addr / 0x1000) r.desc.scope)).toNat r.desc.mask
        + (n &&& r.desc.mask)))) := by
  have hm := rows_mask _ (regAt_mem a r hr)
  simp only [hw] at hm
  simp [State.putPlain, hrw, hw, Put.onto_word _ _ _ _ hm]

theorem Put.onto_double (a n mask old : Nat) (hm : mask < 2 ^ 64) :
    (Put.mk a n 0xFFFFFFFFFFFFFFFF).onto mask old = mapMinus old mask + (n &&& mask) := by
  have e : mask &&& 0xFFFFFFFFFFFFFFFF = mask := Nat.and_two_pow_sub_one_of_lt_two_pow hm
  unfold Put.onto
  dsimp only
  rw [e, Nat.and_assoc, e]

theorem State.putPlain_wide (z : State) (a n : Nat) (r : RegAt) (hr : regAt a = some r) (hrw : r.desc.acc = .rw)
    (hw : r.desc.wide = true) :
    z.putPlain ⟨a, n, 0xFFFFFFFFFFFFFFFF⟩ r = z.setReg64 a (z.copyOf (r.desc.addr / 0x1000) r.desc.scope)
      (mapMinus (z.reg64 a (z.copyOf (r.desc.addr / 0x1000) r.desc.scope)) r.desc.mask + (n &&& r.desc.mask)) := by
  have hm := rows_mask _ (regAt_mem a r hr)
  simp only [hw] at hm
  simp [State.putPlain, hrw, hw, Put.onto_double _ _ _ _ hm]

/-! ### A served write of a page body -/

theorem State.portWrite_body (s : State) (p : Port) (addr : Nat) (v : Word) (test : BootTest) (ha : addr % 4 = 0)
    (h : s.fate p addr true v = .done) (ho : 0x40 ≤ offsetOf addr) :
    s.portWrite p addr v test = ((s.accessed p addr).writeBody p addr (s.latch p).wr v test).servedFrom s addr := by
  have e : addr / 4 * 4 = addr := by omega
  unfold State.portWrite
  dsimp only
  rw [e, h]
  exact congrArg (fun z => State.servedFrom z s addr) (if_neg (by omega))

/-- A low word is held (R406). -/
theorem State.writeBody_low (z : State) (p : Port) (addr : Nat) (held : Option (Nat × Word)) (v : Word) (test : BootTest)
    (r : RegAt) (hr : regAt addr = some r) (hrw : r.desc.acc = .rw) (hw : r.desc.wide = true) (hh : r.high = false) :
    z.writeBody p addr held v test = z.setLatch p { z.latch p with wr := some (addr, v) } := by
  simp [State.writeBody, hr, hrw, hw, hh]

/-- A high word behind its low word makes one write (R406). -/
theorem State.writeBody_high (z : State) (p : Port) (b : Nat) (lo v : Word) (test : BootTest) (r : RegAt)
    (free : (z.page (pageOf (b + 4))).owner ≠ some p) (hr : regAt (b + 4) = some r) (hrw : r.desc.acc = .rw)
    (hw : r.desc.wide = true) (hh : r.high = true) (hb : regAt b = some { r with high := false }) :
    z.writeBody p (b + 4) (some (b, lo)) v test =
      (z.putValue p ⟨b, lo.toNat + v.toNat * 2 ^ 32, 0xFFFFFFFFFFFFFFFF⟩).putAction p
        ⟨b, lo.toNat + v.toNat * 2 ^ 32, 0xFFFFFFFFFFFFFFFF⟩ test := by
  simp [State.writeBody, hr, hrw, hw, hh, free, putsOf, hb, State.applyPuts]

/-! ### Writes of any register -/

theorem exec_registerWrite (p : Port) (a : BitVec 20) (v : Word) (s : State) :
    exec (.registerWrite p a v) s = (s.portWrite p a.toNat v cleanTest).ends := rfl

theorem State.exec_registerWrite_body (p : Port) (a : BitVec 20) (v : Word) (s y : State) (quiet : s.recorder.raised = [])
    (h : s.portWrite p a.toNat v cleanTest = y.servedFrom s a.toNat) (hy : y.recorder = (s.accessed p a.toNat).recorder) :
    exec (.registerWrite p a v) s = .next (y.servedFrom s a.toNat) := by
  rw [exec_registerWrite, h]
  exact State.servedFrom_ends y s a.toNat (hy.trans (State.accessed_recorder s p a.toNat)) quiet

theorem Writes.unowned {s : State} {p : Port} {addr : Nat} {v : Word} (h : Writes s p addr v) :
    ((s.accessed p addr).page (pageOf addr)).owner ≠ some p := by
  rw [State.accessed_page s p addr _ (by simp [h.free]), h.free]
  simp

theorem State.portWrite_narrow (s : State) (p : Port) (a : Nat) (v : Word) (test : BootTest) (r : RegAt) (h : Writes s p a v)
    (ha : a % 4 = 0) (ho : 0x40 ≤ offsetOf a) (hr : regAt a = some r) (hp : r.plain) (hw : r.desc.wide = false) :
    s.portWrite p a v test = ((s.accessed p a).setRegT a ((s.accessed p a).copyOf (r.desc.addr / 0x1000) r.desc.scope)
      (w32 (legal r.desc.addr (mapMinus ((s.accessed p a).regT a
        ((s.accessed p a).copyOf (r.desc.addr / 0x1000) r.desc.scope)).toNat r.desc.mask
          + (v.toNat &&& r.desc.mask))))).servedFrom s a := by
  have hrw := hp.1
  rw [State.portWrite_word s p a v test r ha h.fate h.free ho hr hw (regAt_narrow a r hr hw) (by simp [hrw]) (by simp [hrw]),
    State.putValue_plain _ p _ r hr hp, State.putAction_plain _ p _ r test hr hp, State.putPlain_narrow _ a _ r hr hrw hw]

theorem State.portWrite_wide (s : State) (p : Port) (b : Nat) (lo v : Word) (test : BootTest) (r : RegAt)
    (h : Writes s p (b + 4) v) (ha : (b + 4) % 4 = 0) (ho : 0x40 ≤ offsetOf (b + 4)) (hr : regAt (b + 4) = some r)
    (hp : r.plain) (hw : r.desc.wide = true) (hh : r.high = true) (hl : (s.latch p).wr = some (b, lo))
    (hb : regAt b = some { r with high := false }) :
    s.portWrite p (b + 4) v test = ((s.accessed p (b + 4)).setReg64 b
      ((s.accessed p (b + 4)).copyOf (r.desc.addr / 0x1000) r.desc.scope)
      (mapMinus ((s.accessed p (b + 4)).reg64 b ((s.accessed p (b + 4)).copyOf (r.desc.addr / 0x1000) r.desc.scope)) r.desc.mask
        + ((lo.toNat + v.toNat * 2 ^ 32) &&& r.desc.mask))).servedFrom s (b + 4) := by
  have hlow : RegAt.plain { r with high := false } := hp
  rw [State.portWrite_body s p _ v test ha h.fate ho, hl,
    State.writeBody_high _ p b lo v test r h.unowned hr hp.1 hw hh hb, State.putValue_plain _ p _ _ hb hlow,
    State.putAction_plain _ p _ _ test hb hlow, State.putPlain_wide _ b _ _ hb hp.1 hw]

/-! ### MTR_GN_PKG (R410) -/

theorem put_put_same {α : Type} (m : NMap α) (j : Nat) (x y : α) : put (put m j x) j y = put m j y := by
  induction m with
  | nil => simp [put]
  | cons q r ih =>
    obtain ⟨k, w⟩ := q
    rcases Nat.lt_trichotomy j k with h | h | h
    · simp [put, h]
    · simp [put, h]
    · simp [put, Nat.not_lt_of_gt h, Nat.ne_of_gt h, ih]

theorem State.setReg_setReg_same (s : State) (a : Nat) (x y : Word) : (s.setReg a x).setReg a y = s.setReg a y := by
  simp only [State.setReg, State.setKey, put_put_same]

theorem regAt_MTR_GN_PKG :
    regAt R.MTR_GN_PKG = some ⟨⟨R.MTR_GN_PKG, 1, 1, 0x4, .rw, 0x1, 0xFFFF, .inst, false⟩, 0, false⟩ := by decide +kernel

theorem State.write_MTR_GN_PKG (s : State) (p : Port) (v : Word) (t : BootTest) (h : Writes s p R.MTR_GN_PKG v) :
    s.portWrite p R.MTR_GN_PKG v t = (s.accessed p R.MTR_GN_PKG).putGnPkg ⟨R.MTR_GN_PKG, v.toNat, 0xFFFFFFFF⟩
      ⟨⟨R.MTR_GN_PKG, 1, 1, 0x4, .rw, 0x1, 0xFFFF, .inst, false⟩, 0, false⟩ := by
  rw [State.portWrite_word s p R.MTR_GN_PKG v t _ (by decide) h.fate h.free (by decide) regAt_MTR_GN_PKG rfl rfl (by decide)
    (by decide)]
  unfold State.putValue State.putAction
  dsimp only
  rw [regAt_MTR_GN_PKG]
  rfl

/-- The count of a package without an index stays 1. -/
theorem State.putGnPkg_eq (z : State) (n x : Nat)
    (hx : x = legal R.MTR_GN_PKG (mapMinus (z.reg R.MTR_GN_PKG).toNat 0xFFFF + (n &&& 0xFFFF))) :
    z.putGnPkg ⟨R.MTR_GN_PKG, n, 0xFFFFFFFF⟩ ⟨⟨R.MTR_GN_PKG, 1, 1, 0x4, .rw, 0x1, 0xFFFF, .inst, false⟩, 0, false⟩ =
      z.setReg R.MTR_GN_PKG (if z.die.package = none then w32 (refield (w32 x).toNat 0 8 (· == 1) 1) else w32 x) := by
  have hread : (z.setReg R.MTR_GN_PKG (w32 x)).reg R.MTR_GN_PKG = w32 x := State.regKey_setKey_same z _ _
  unfold State.putGnPkg
  rw [State.putPlain_inst z _ n _ _ (by decide), ← hx]
  dsimp only
  rw [hread, State.setReg_setReg_same]
  cases hpk : z.die.package <;> simp [hpk]

/-! ### Reads -/

theorem exec_readClear (p : Port) (a : BitVec 20) (s : State) : exec (.readClear p a) s = (s.portRead p a.toNat).ends := rfl

theorem exec_lowWordRead (p : Port) (a : BitVec 20) (s : State) : exec (.lowWordRead p a) s = (s.portRead p a.toNat).ends := rfl

/-- A served read answers what the latch or the register gives, and raises no event. -/
theorem State.portRead_ends (s z y : State) (p : Port) (addr : Nat) (w : Word) (hz : z = s.accessed p addr) (ha : addr % 4 = 0)
    (h : s.fate p addr false 0#32 = .done) (quiet : s.recorder.raised = []) (hy : z.readWord p addr = (y, w))
    (hrec : y.recorder = z.recorder) : (s.portRead p addr).ends = .next ((y.outRead p addr w).servedFrom s addr) := by
  subst hz
  have e : addr / 4 * 4 = addr := by omega
  have hserved : s.portRead p addr = (y.outRead p addr w).servedFrom s addr := by
    unfold State.portRead
    dsimp only
    rw [e, h]
    exact congrArg (fun r : State × Word => (r.1.outRead p addr r.2).servedFrom s addr) hy
  rw [hserved]
  exact State.servedFrom_ends _ s addr (hrec.trans (State.accessed_recorder s p addr)) quiet

theorem State.accessed_rd (s : State) (p : Port) (addr : Nat) : ((s.accessed p addr).latch p).rd = (s.latch p).rd := by
  rw [State.accessed_latch]

/-- The high word that the port holds is answered, and held no more (R406). -/
theorem State.readWord_held (z : State) (p : Port) (addr : Nat) (w : Word) (h : (z.latch p).rd = some (addr, w)) :
    z.readWord p addr = (z.setLatch p { z.latch p with rd := none }, w) := by
  simp [State.readWord, h]

theorem State.readWord_unheld (z : State) (p : Port) (addr : Nat) (h : (z.latch p).rd = none) :
    z.readWord p addr = z.readLive p addr := by
  simp [State.readWord, h]

theorem State.tally_other (z : State) (addr : Nat) (r : RegAt) (hr : regAt addr = some r)
    (hs : r.desc.addr ∉ [R.OPX_STALL, R.VLT_STALL]) : z.tally addr = z := by
  simp_all [State.tally]

/-- Where no rule of the register's own restarts it, the access type says what a read leaves (R9). -/
theorem State.readEffect_plain (z : State) (p : Port) (addr : Nat) (r : RegAt) (hr : regAt addr = some r)
    (hs : r.desc.addr ∉ [R.PWR_RES, R.VLT_HWM, R.SPB_INFLIGHT, R.PEER_OUTSTANDING, R.OPX_QUEUE]) :
    z.readEffect p addr = if r.desc.acc = .rc ∧ p ≠ .debug then z.setReg addr 0#32 else z := by
  simp only [List.mem_cons, List.not_mem_nil, or_false, not_or] at hs
  obtain ⟨hres, hhwm, hinf, hout, hq⟩ := hs
  simp only [State.readEffect, hr, hres, hhwm, hinf, hout, hq, if_false]
  cases p <;> simp

/-- An RC register is cleared by its read on the control or the security port (R9, R407). -/
theorem State.readLive_rc (z : State) (p : Port) (addr : Nat) (r : RegAt) (hr : regAt addr = some r) (hrc : r.desc.acc = .rc)
    (ho : 0x40 ≤ offsetOf addr) (hs : r.desc.addr ∉ [R.PWR_RES, R.VLT_HWM, R.OPX_STALL, R.VLT_STALL]) :
    z.readLive p addr = (if p = .debug then z else z.setReg addr 0#32, z.wordAt p addr) := by
  obtain ⟨hnarrow, hown⟩ := rows_rc _ (regAt_mem addr r hr) hrc
  have hb : ¬ offsetOf addr < 0x40 := by omega
  have hlow : isLow addr = false := by simp [isLow, hb, hr, hnarrow]
  have ht : z.tally addr = z := State.tally_other z addr r hr (by simp_all)
  have he := State.readEffect_plain z p addr r hr (by simp_all)
  simp only [State.readLive, ht, hlow, hb, if_false, Bool.false_eq_true, he, hrc, true_and]
  cases p <;> rfl

/-- A live read of a low word holds the high word of the same moment (R406). -/
theorem State.readLive_low (z : State) (p : Port) (addr : Nat) (r : RegAt) (hr : regAt addr = some r) (hw : r.desc.wide = true)
    (hh : r.high = false) (ho : 0x40 ≤ offsetOf addr) :
    z.readLive p addr =
      (z.setLatch p { z.latch p with rd := some (addr + 4, z.wordAt p (addr + 4)) }, z.wordAt p addr) := by
  obtain ⟨hrc, hown⟩ := rows_wide _ (regAt_mem addr r hr) hw
  have hb : ¬ offsetOf addr < 0x40 := by omega
  have hlow : isLow addr = true := by simp [isLow, hb, hr, hw, hh]
  have ht : z.tally addr = z := State.tally_other z addr r hr (by simp_all)
  have he := fun y : State => State.readEffect_plain y p addr r hr (by simp_all)
  simp only [State.readLive, ht, hlow, hb, he, hrc, if_true, if_false, false_and]

/-- What leaves the boundary is no part of the latch. -/
theorem State.latch_outRead_setLatch (z : State) (p : Port) (l : Latch) (addr : Nat) (w : Word) :
    ((z.setLatch p l).outRead p addr w).latch p = l :=
  (State.latch_setLatch z p p l).trans (if_pos rfl)

end Sys2Proof.Machine
end

section
/-! SETTLED. The statements on the scope of register accesses: O40 and O41. -/

namespace Sys2Proof.Machine

/-- Settles O40: a register acts at a write only if it is in ownEffect or has no RW fields, so the write of a plain one comes to
its fields or to the held low word; MTR_GN_PKG is written twice, and the second write stands. -/
theorem registerWriteSetsTheFields : Obligations.RegisterWriteSetsTheFields := by
  unfold Obligations.RegisterWriteSetsTheFields
  constructor
  · rintro p v s z x h rfl hx
    rw [exec_registerWrite]
    show (s.portWrite p R.MTR_GN_PKG v cleanTest).ends = _
    rw [State.write_MTR_GN_PKG s p v cleanTest h, State.putGnPkg_eq _ _ x hx, State.ends_nil _ (by simp [h.quiet])]
    simp
  · rintro p a v r s z k h rfl ha ho hr hp rfl
    refine ⟨fun hw => ?_, fun hw hh => ?_, fun lo b hw hh hab hl hb => ?_⟩
    · exact State.exec_registerWrite_body p a v s _ h.quiet (State.portWrite_narrow s p _ v _ r h ha ho hr hp hw) rfl
    · refine State.exec_registerWrite_body p a v s _ h.quiet ?_ rfl
      rw [State.portWrite_body s p _ v _ ha h.fate ho, State.writeBody_low _ p _ _ v _ r hr hp.1 hw hh]
    · refine State.exec_registerWrite_body p a v s _ h.quiet ?_ rfl
      rw [hab] at h ha ho hr ⊢
      exact State.portWrite_wide s p b lo v _ r h ha ho hr hp hw hh hl hb

/-- Settles O41: an RC register that restarts by no rule of its own is cleared by its access type alone, and is never wide; a wide
one is not cleared, and the port's latch carries its high word from the low word's read to the next. -/
theorem readsClearAndHold : Obligations.ReadsClearAndHold := by
  unfold Obligations.ReadsClearAndHold
  constructor
  · rintro p a r s z ⟨fate, aligned, unlatched, quiet⟩ hz hr hrc ho hs
    have hrd : (z.latch p).rd = none := by rw [hz, State.accessed_rd, unlatched]
    have hread := (State.readWord_unheld z p _ hrd).trans (State.readLive_rc z p _ r hr hrc ho hs)
    refine ⟨_, (exec_readClear p a s).trans (State.portRead_ends s z _ p _ _ hz aligned fate quiet hread (by split <;> rfl)), ?_⟩
    by_cases hp : p = .debug
    · simp only [if_pos hp]
      exact ⟨rfl, rfl, fun _ _ => rfl, rfl⟩
    · simp only [if_neg hp]
      exact ⟨rfl, State.regKey_setKey_same z _ _, fun k hk => (State.regKey_setKey z _ k _).trans (if_neg hk), rfl⟩
  · rintro p a r s z hz ho aligned hr hw quiet fate
    refine ⟨fun hh unlatched => ?_, fun w hh held => ?_⟩
    · have hrd : (z.latch p).rd = none := by rw [hz, State.accessed_rd, unlatched]
      have hread := (State.readWord_unheld z p _ hrd).trans (State.readLive_low z p _ r hr hw hh ho)
      exact ⟨_, (exec_lowWordRead p a s).trans (State.portRead_ends s z _ p _ _ hz aligned fate quiet hread rfl), rfl,
        by rw [State.latch_outRead_setLatch], rfl⟩
    · have hrd : (z.latch p).rd = some (a.toNat, w) := by rw [hz, State.accessed_rd, held]
      have hread := State.readWord_held z p _ w hrd
      exact ⟨_, (exec_lowWordRead p a s).trans (State.portRead_ends s z _ p _ _ hz aligned fate quiet hread rfl), rfl,
        by rw [State.latch_outRead_setLatch], rfl⟩

end Sys2Proof.Machine
end

section
/-! SUPPORT. Taps, stitcher lanes and engines: what a beat on offer does, what a lane's block comes to, and the reset of an
engine (R19, R132, R133, R315). -/

namespace Sys2Proof.Machine

/-! ### A beat at a tap -/

theorem exec_tapBeat (tap : Fin 48) (slate : BitVec 16) (gen : BitVec 8) (block : BitVec 22) (data : List Byte) (s : State)
    (h : Arrives s) : exec (.tapBeat tap slate gen block data) s =
      .next (s.tapBeat tap.val slate.toNat gen.toNat block.toNat data).takeRaised :=
  congrArg State.ends (State.arrive_ready s _ _ h)

theorem State.tapBeat_waits (s : State) (tap slate gen block : Nat) (data : List Byte)
    (h : s.offers tap ≠ [] ∨ s.tapBlocked tap = true) :
    s.tapBeat tap slate gen block data = s.setOffers tap (s.offers tap ++ [⟨slate, gen, block, data⟩]) := by
  refine if_neg ?_
  rintro ⟨hnone, hfree⟩
  rcases h with h | h
  · exact h (List.isEmpty_iff.mp hnone)
  · rw [hfree] at h; cases h

theorem State.tapBeat_accepts (s : State) (tap slate gen block : Nat) (data : List Byte) (hnone : s.offers tap = [])
    (hfree : s.tapBlocked tap = false) : s.tapBeat tap slate gen block data = s.acceptBeat tap slate gen block data :=
  if_pos ⟨List.isEmpty_iff.mpr hnone, hfree⟩

/-- The buffer of a tap with the beat that comes (R132). -/
def State.tapGrown (s : State) (tap slate gen block : Nat) (data : List Byte) : TapBuf :=
  { (look s.stitcher.taps tap).getD ⟨slate, gen, block, 0, []⟩ with
    beats := ((look s.stitcher.taps tap).getD ⟨slate, gen, block, 0, []⟩).beats + 1
    data := ((look s.stitcher.taps tap).getD ⟨slate, gen, block, 0, []⟩).data ++ fitTo 64 data }

theorem State.acceptBeat_part (s : State) (tap slate gen block : Nat) (data : List Byte)
    (h : (s.tapGrown tap slate gen block data).beats ≠ 64) : s.acceptBeat tap slate gen block data =
      (s.bump64 R.STI_RAW_IN 64).setTap tap (some (s.tapGrown tap slate gen block data)) := if_neg h

theorem State.acceptBeat_whole (s : State) (tap slate gen block : Nat) (data : List Byte)
    (h : (s.tapGrown tap slate gen block data).beats = 64) : s.acceptBeat tap slate gen block data =
      ((s.bump64 R.STI_RAW_IN 64).setTap tap none).tapBlock tap (s.tapGrown tap slate gen block data) := if_pos h

/-! ### A whole block leaves its tap -/

theorem State.tapBlock_twice (s : State) (tap : Nat) (b : TapBuf) (ho : (s.slate b.slate).state = .opened)
    (hg : (s.slate b.slate).gen = b.gen) (hw : s.blockWritten b.slate b.block = true) :
    s.tapBlock tap b = s.tear b.slate 2 := by
  simp [State.tapBlock, ho, hg, hw]

theorem State.tapBlock_outside (s : State) (tap : Nat) (b : TapBuf) (ho : (s.slate b.slate).state = .opened)
    (hg : (s.slate b.slate).gen = b.gen) (hw : s.blockWritten b.slate b.block = false)
    (hs : (s.slate b.slate).e.sizeBlocks ≤ b.block) : s.tapBlock tap b = s.tear b.slate 3 := by
  simp [State.tapBlock, ho, hg, hw, hs]

/-- A block of a slate that is not live, or one that the slate wants, goes to the lane of its tap. -/
theorem State.tapBlock_lane (s : State) (tap lane : Nat) (b : TapBuf)
    (h : (s.slate b.slate).state ≠ .opened ∨ (s.slate b.slate).gen ≠ b.gen
      ∨ (s.blockWritten b.slate b.block = false ∧ b.block < (s.slate b.slate).e.sizeBlocks))
    (hl : s.laneOfTap tap = some lane) :
    s.tapBlock tap b = (s.handToLane lane ⟨b.slate, b.gen, b.block, b.data, tap, none, none⟩).noteTap lane tap := by
  rcases h with h | h | ⟨hw, hs⟩
  · simp [State.tapBlock, h, hl]
  · simp [State.tapBlock, h, hl]
  · simp [State.tapBlock, hw, Nat.not_le.mpr hs, hl]

/-! ### A lane's block -/

theorem exec_blockCommit (lane : Fin 8) (verify : Option Word) (s : State) (h : Runs s) :
    exec (.blockCommit lane verify) s = .next (s.blockCommit lane.val verify).takeRaised :=
  congrArg State.ends (State.unit_runs s _ _ h)

theorem State.popLane_rest (s : State) (lane : Nat) (j : LaneJob) (rest : List LaneJob) (h : s.laneJobs lane = j :: rest) :
    s.popLane lane = s.setLaneJobs lane rest := by
  simp [State.popLane, h]

theorem State.holdLane_rest (s : State) (lane : Nat) (j : LaneJob) (rest : List LaneJob) (f : Option Word)
    (h : s.laneJobs lane = j :: rest) : s.holdLane lane j f =
      s.setLaneJobs lane ({ j with waitsSince := some (j.waitsSince.getD s.now), found := f } :: rest) := by
  simp [State.holdLane, h]

/-- A block whose slate has moved on is discarded (R68, R133). -/
theorem State.blockCommit_stale (s : State) (lane : Nat) (verify : Option Word) (j : LaneJob) (rest : List LaneJob)
    (hj : s.laneJobs lane = j :: rest) (h : (s.slate j.slate).gen ≠ j.gen
      ∨ ((s.slate j.slate).state ≠ .opened ∧ (s.slate j.slate).state ≠ .reshooting)) :
    s.blockCommit lane verify = ((s.setLaneJobs lane rest).countStall j.waitsSince).admitTaps.drain := by
  rw [← State.popLane_rest s lane j rest hj]
  unfold State.blockCommit
  rw [hj]
  dsimp only
  by_cases hg : (s.slate j.slate).gen ≠ j.gen
  · rw [if_pos hg]
  · obtain ⟨ho, hr⟩ := h.resolve_left hg
    rw [if_neg hg, if_neg ho, if_neg hr]

theorem State.blockCommit_open (s : State) (lane : Nat) (verify : Option Word) (j : LaneJob) (rest : List LaneJob)
    (hj : s.laneJobs lane = j :: rest) (hg : (s.slate j.slate).gen = j.gen) (ho : (s.slate j.slate).state = .opened) :
    s.blockCommit lane verify = (s.commitOpen lane j verify).admitTaps.drain := by
  simp [State.blockCommit, hj, hg, ho]

theorem State.blockCommit_engine (s : State) (lane : Nat) (verify : Option Word) (j : LaneJob) (rest : List LaneJob)
    (slot k b : Nat) (job : Job) (hj : s.laneJobs lane = j :: rest) (hg : (s.slate j.slate).gen = j.gen)
    (hr : (s.slate j.slate).state = .reshooting) (hjob : s.jobOfSlate j.slate = some (slot, job))
    (hout : s.engineOutput job j.block = some (k, b)) :
    s.blockCommit lane verify = (s.commitEngine lane j slot job k b verify).admitTaps.drain := by
  simp [State.blockCommit, hj, hg, hr, hjob, hout]

/-! ### A forward block is coded, verified and placed -/

/-- What a lane commits of a block: its code, or the raw block where the verify decoder disagrees (R114). -/
def State.keptCode (s : State) (j : LaneJob) (c : Coded) (f : Option Word) : Coded :=
  if f.isSome then rawBlock (s.slate j.slate).e.format ⟨j.slate, j.gen, j.block⟩ j.data else c

/-- What a placed forward block does to its slate and to the counts (R132, R135, R168, R235). -/
def State.forwardPlaced (s x : State) (j : LaneJob) (w : Coded) : State :=
  let z := ((x.modSlate j.slate (fun r => { r with
    blocksWritten := r.blocksWritten + 1, rawFallback := r.rawFallback + b2n w.fallback })).countBlock w).logCheck
      j.slate j.block (crc32c j.data)
  if (s.slate j.slate).e.streamClass = 1 then z.meterBlock j.slate j.block 1 j.data (z.bookOf (s.slate j.slate).e.bookId) else z

theorem State.commitForward_eq (s : State) (j : LaneJob) (w : Coded) :
    s.commitForward j.slate j.block j.data w = (s.placeBlock j.slate j.block w.image).map (fun x => s.forwardPlaced x j w) := rfl

/-- A committed block leaves its lane; a disagreement of the verify decoder is noted (R114). -/
def State.laneDone (z : State) (lane : Nat) (j : LaneJob) (f : Option Word) : State :=
  match f with
  | some v => ((z.popLane lane).countStall j.waitsSince).verifyMismatch lane j.slate j.block (crc32c j.data) v
  | none => (z.popLane lane).countStall j.waitsSince

section
variable (s : State) (lane : Nat) (j : LaneJob) (verify f : Option Word) (c : Coded)

/-- A forward block waits where its code finds no vault unit, and leaves the lane where it is placed (R204). -/
theorem State.commitOpen_eq (hc : c = s.codeForward j.slate j.block j.data)
    (hf : f = s.verifyFails (s.slate j.slate).tenant c (crc32c j.data) (j.verdict verify)) :
    s.commitOpen lane j verify = match s.commitForward j.slate j.block j.data (s.keptCode j c f) with
      | none => s.holdLane lane j f
      | some z => z.laneDone lane j f := by
  subst hc hf
  rfl

/-- An engine's output block whose code stands does likewise for its job (R158). -/
theorem State.commitEngine_eq (slot k b : Nat) (job : Job) (hc : c = s.codeOutput job k b j.data)
    (hf : s.verifyFails job.tenant c (crc32c j.data) (j.verdict verify) = none) :
    s.commitEngine lane j slot job k b verify = match s.commitOutput slot job k b j.data c 15 with
      | none => s.holdLane lane j none
      | some z => z.laneDone lane j none := by
  subst hc
  unfold State.commitEngine
  dsimp only
  rw [hf, if_neg (by simp)]
  rfl
end

/-! ### The reset of an engine -/

/-- What an engine's reset discards: the tap's block, the beats on offer, and all that its bank holds (R133, R315). -/
def State.engineCleared (s : State) (e : Nat) : State :=
  ((s.setTap e none).setOffers e []).modBank e (fun k => { k with reqs := [], elastic := [], offered := [] })

theorem exec_engineReset (e : Fin 48) (s : State) (h : Runs s) :
    exec (.engineReset e) s = .next (((s.liveSlates.filter (fun i => (s.slate i).state == .opened
      && bitAt (s.slate i).writerMask e.val)).foldl (fun z i => z.tear i 0) (s.engineCleared e.val)).tendJobs).takeRaised :=
  congrArg State.ends (State.notify_runs s (.engineReset e.val) h)

end Sys2Proof.Machine
end

section
/-! SUPPORT. Operand banks: how a request is taken, what its first block comes to, and the beats of a block (R29 to R34,
R136 to R138, R417). -/

namespace Sys2Proof.Machine

/-! ### A request at the port -/

theorem exec_operandRequest (b : Fin 48) (slate : BitVec 16) (gen : BitVec 8) (block : BitVec 22) (s : State) (h : Arrives s) :
    exec (.operandRequest b slate gen block) s =
      .next (s.operandRequest b.val slate.toNat gen.toNat block.toNat).takeRaised :=
  congrArg State.ends (State.arrive_ready s _ _ h)

theorem State.operandRequest_taken (s : State) (b slate gen block : Nat) (ht : (s.bank b).selftest = none)
    (hl : (s.bank b).elastic.length < 3) (hn : (s.bank b).offered = []) :
    s.operandRequest b slate gen block = s.acceptRequest b slate gen block :=
  if_pos ⟨by simp [Bank.accepts, ht, hl], hn⟩

theorem State.operandRequest_waits (s : State) (b slate gen block : Nat)
    (h : (s.bank b).selftest.isSome = true ∨ 3 ≤ (s.bank b).elastic.length ∨ (s.bank b).offered ≠ []) :
    s.operandRequest b slate gen block = s.modBank b (fun k => { k with offered := k.offered ++ [(slate, gen, block)] }) := by
  refine if_neg ?_
  rintro ⟨ha, hn⟩
  simp only [Bank.accepts, Bool.and_eq_true, Option.isNone_iff_eq_none, decide_eq_true_eq] at ha
  obtain ⟨ht, hl⟩ := ha
  rcases h with h | h | h
  · simp [ht] at h
  · omega
  · exact h hn

/-! ### The first request of a bank -/

/-- How BLOCK_EXPANDED ends: a free port is driven, and the command port runs. -/
def State.bankEnds (s : State) (b : Nat) (drive : Bool) : State := (if drive then s.driveQueue b else s).drain

theorem exec_blockExpanded (b : Fin 48) (seen : Option (List Byte)) (used : BitVec 17) (drive : Bool) (s : State) (h : Runs s)
    (ht : (s.bank b.val).selftest = none) : exec (.blockExpanded b ⟨seen, used, drive⟩) s =
      .next ((s.expandFirst b.val seen used.toNat drive).bankEnds b.val drive).takeRaised := by
  refine congrArg State.ends ((State.unit_runs s _ _ h).trans (congrArg State.drain ?_))
  exact if_neg (by simp [ht])

section
variable (s : State) (b : Nat) (seen : Option (List Byte)) (used : Nat) (drive : Bool) (q : OpReq) (rest : List OpReq)
  (hr : (s.bank b).reqs = q :: rest)
include hr

/-- A poisoned request is answered once the port is free (R417). -/
theorem State.expandFirst_poisoned (hp : q.poison = true ∨ s.answersPoisoned b q.slate q.gen q.block = true) :
    s.expandFirst b seen used drive = if drive then s.answerPoisoned b q else s := by
  have e : (q.poison || s.answersPoisoned b q.slate q.gen q.block) = true := by simpa using hp
  simp [State.expandFirst, hr, e]

variable (hp : q.poison = false) (ha : s.answersPoisoned b q.slate q.gen q.block = false)
include hp ha

theorem State.expandFirst_absent (hb : look (s.bank b).lbuf (lbufKey q.slate q.block) = none) :
    s.expandFirst b seen used drive = s.tendStall b := by
  simp [State.expandFirst, hr, hp, ha, hb]

variable (img : List Byte) (hb : look (s.bank b).lbuf (lbufKey q.slate q.block) = some (q.gen, img))
include hb

theorem State.expandFirst_full (hl : 4 ≤ (s.bank b).elastic.length) : s.expandFirst b seen used drive = s.tendStall b := by
  simp [State.expandFirst, hr, hp, ha, hb, Nat.not_lt.mpr hl]

theorem State.expandFirst_decodes (hl : (s.bank b).elastic.length < 4) :
    s.expandFirst b seen used drive = s.expandBlock b q img seen used drive := by
  simp [State.expandFirst, hr, hp, ha, hb, hl]
end

/-! ### A block is decoded -/

/-- The state in which a block is checked: one of modes 3 to 5 has used its book. -/
def State.bookUsed (s : State) (b : Nat) (im : List Byte) (book : Nat) : State :=
  if 3 ≤ (parseHeader im).mode ∧ (parseHeader im).mode ≤ 5 then s.useBook b book else s

theorem State.bookUsed_bookOf (s : State) (b : Nat) (im : List Byte) (book n : Nat) :
    (s.bookUsed b im book).bookOf n = s.bookOf n := by
  unfold State.bookUsed
  split <;> rfl

theorem State.bookUsed_elastic (s : State) (b : Nat) (im : List Byte) (book : Nat) :
    ((s.bookUsed b im book).bank b).elastic = (s.bank b).elastic := by
  unfold State.bookUsed State.useBook State.modBank
  split
  · rw [State.bank_setBank, if_pos rfl]
  · rfl

section
variable (s : State) (b : Nat) (q : OpReq) (img im : List Byte) (seen : Option (List Byte)) (used : Nat) (drive : Bool)
  (form : Nat × Nat) (him : im = seen.getD img) (hform : form = s.blockForm q.slate q.block im)
include him hform

/-- A block of modes 3 to 5 whose book the bank's cache lacks waits for it, and counts one miss (R31, R138). -/
theorem State.expandBlock_misses (lo : 3 ≤ (parseHeader im).mode) (hi : (parseHeader im).mode ≤ 5)
    (hc : (s.bank b).cache.contains form.2 = false) : s.expandBlock b q img seen used drive =
      if q.missed = some form.2 ∧ s.books.misses.any (fun m => m.1 == b && m.2.1 == form.2) = true then s
      else s.missBook b form.2 := by
  subst him hform
  exact if_pos ⟨lo, hi, by simpa using hc⟩

/-- A block whose book is at hand is queued with what its check says; after a failed one the fill or the self-test begins
(R33, R34, R137). -/
theorem State.expandBlock_checks (x : State) (hx : x = s.bookUsed b im form.2)
    (hc : 3 ≤ (parseHeader im).mode → (parseHeader im).mode ≤ 5 → (s.bank b).cache.contains form.2 = true) :
    s.expandBlock b q img seen used drive =
      match checkBlock form.1 form.2 (s.bookOf form.2) ⟨q.slate, q.gen, q.block⟩ (img.length / 32) im with
      | .good raw => x.queueBlock b q (List.replicate 8 false)
          (if x.dropsOnRead b q.slate then x.dropBlock q.slate q.block raw else raw)
      | .bad st e f => ((x.queueBlock b q ((List.range 8).map (fun k =>
          decide ((if drive && (s.bank b).elastic.isEmpty then (Config.unstated x.draws).toNat % 8 else 0) ≤ k)))
            (expand (s.bookOf form.2) im)).bankFail b q st e f).afterFail b q st used := by
  have hk : ¬ (3 ≤ (parseHeader im).mode ∧ (parseHeader im).mode ≤ 5 ∧ (!(s.bank b).cache.contains form.2) = true) := by
    rintro ⟨lo, hi, hm⟩
    rw [hc lo hi] at hm
    cases hm
  subst him hform
  refine (if_neg hk).trans ?_
  subst hx
  rw [← State.bookUsed_bookOf s b (seen.getD img) (s.blockForm q.slate q.block (seen.getD img)).2,
    ← State.bookUsed_elastic s b (seen.getD img) (s.blockForm q.slate q.block (seen.getD img)).2]
  rfl
end

/-! ### Misses, self-tests and beats -/

theorem exec_bookCacheMissService (s : State) (h : Runs s) : exec .bookCacheMissService s = .next s.serveMiss.takeRaised :=
  congrArg State.ends (State.unit_runs s _ _ h)

theorem exec_bankSelftestEnd (b : Fin 48) (failing : List (Fin 17)) (s : State) (h : Runs s) :
    exec (.bankSelftestEnd b failing) s = .next (s.endSelftest b.val failing).takeRaised :=
  congrArg State.ends (State.unit_runs s _ _ h)

/-- Entry c·j + i of the joined runs of n runs of c entries each is entry i of run j. -/
theorem flatMap_range_getElem? {α : Type} (f : Nat → List α) (c n j i : Nat) (hf : ∀ m < n, (f m).length = c) (hj : j < n)
    (hi : i < c) : ((List.range n).flatMap f)[c * j + i]? = (f j)[i]? := by
  induction n with
  | zero => omega
  | succ n ih =>
    have hlen : ((List.range n).flatMap f).length = c * n := by
      rw [List.length_flatMap, List.map_congr_left (fun m hm => hf m (by simp at hm; omega))]
      simp [Nat.mul_comm]
    rw [List.range_succ, List.flatMap_append, List.flatMap_singleton]
    rcases Nat.lt_succ_iff_lt_or_eq.mp hj with hlt | rfl
    · have hin : c * j + i < c * n := by nlinarith
      rw [List.getElem?_append_left (by omega), ih (fun m hm => hf m (by omega)) hlt]
    · rw [List.getElem?_append_right (by omega), hlen, Nat.add_sub_cancel_left]

/-- Beat k holds bytes 64k to 64k + 63 of each sub-stream (R29). -/
theorem beatOf_getElem? (raw : List Byte) (k j i : Nat) (hr : raw.length = 4096) (hk : k < 8) (hj : j < 8) (hi : i < 64) :
    (beatOf raw k)[64 * j + i]? = raw[512 * j + 64 * k + i]? := by
  have hlen : ∀ m < 8, ((raw.drop (512 * m + 64 * k)).take 64).length = 64 := by
    intro m hm
    rw [List.length_take, List.length_drop]
    omega
  rw [beatOf, flatMap_range_getElem? _ 64 8 j i hlen hj hi, List.getElem?_take_of_lt hi, List.getElem?_drop]

end Sys2Proof.Machine
end

section
/-! SUPPORT. The margins of a slate, and what was short of space (R103, R198, R208, R209, R215, R248). -/

namespace Sys2Proof.Machine

/-! ### The soft margin -/

theorem exec_slateLate (t : Fin 8) (ei : Nat) (s : State) (h : Runs s) :
    exec (.slateLate t ei) s = .next (s.slateLate t.val ei).takeRaised :=
  congrArg State.ends (State.unit_runs s _ _ h)

theorem State.noteSlate_slate (s : State) (i j : Nat) (f : Trace → Trace) : (s.noteSlate i f).slate j = s.slate j := rfl

/-- What the record and the trace note of the soft margin leaves the slate word alone. -/
theorem State.slateWordOf_noted (s : State) (i : Nat) (f : Trace → Trace) :
    ((s.draw.modSlate i (fun r => { r with softLogged := true })).noteSlate i f).slateWordOf i = s.slateWordOf i := by
  rw [State.slateWordOf, State.noteSlate_slate, State.slate_modSlate_same]
  rfl

/-- A slate that is not READY at its soft margin is logged (R198). -/
theorem State.slateLate_logs (s : State) (t ei i : Nat) (y : State) (hi : s.slateOfEntry t ei = some i)
    (hy : y = s.advanceTo (s.frameAt t (s.slate i).e.callFrame + (s.frozen t).softLate))
    (h : ¬ ((s.slate i).state = .ready ∨ (s.slate i).state = .inUse ∨ (s.slate i).state = .lost ∨ (s.slate i).softLogged = true))
    (hd : (s.slate i).decided = true) :
    s.slateLate t ei = ((y.draw.modSlate i (fun r => { r with softLogged := true })).noteSlate i (fun x =>
      { x with soft := true })).log 0x0302 0 [s.slateWordOf i, w32 (s.slate i).e.tag,
        w32 ((s.slate i).e.callFrame + 2 ^ 24 * (s.slate i).state.num), w32 (fld (s.slate i).decP 0 24)] := by
  have hw := State.slateWordOf_noted y i (fun x => { x with soft := true })
  unfold State.slateLate
  rw [hi]
  dsimp only
  rw [if_neg h, if_pos hd, ← hy, hw, hy]
  rfl

/-- Any other passes its soft margin with no event. -/
theorem State.slateLate_passes (s : State) (t ei i : Nat) (hi : s.slateOfEntry t ei = some i)
    (h : (s.slate i).state = .ready ∨ (s.slate i).state = .inUse ∨ (s.slate i).state = .lost ∨ (s.slate i).softLogged = true) :
    s.slateLate t ei = s.advanceTo (s.frameAt t (s.slate i).e.callFrame + (s.frozen t).softLate) := by
  unfold State.slateLate
  rw [hi]
  exact if_pos h

/-! ### The hard limit -/

theorem exec_hardLimit (t : Fin 8) (ei : Nat) (s : State) (h : Runs s) :
    exec (.hardLimit t ei) s = .next (s.hardLimit t.val ei).takeRaised :=
  congrArg State.ends (State.unit_runs s _ _ h)

/-- What the hard limit of an entry does to the entry's slate. -/
def State.hardSlate (y : State) (t ei : Nat) : State :=
  match y.slateOfEntry t ei with
  | none => y
  | some i =>
    if (y.slate i).pastHard then y
    else
      let x := (y.modSlate i (fun r => { r with pastHard := true })).poisonWaiting i
      ((y.transfersOf i).map (·.1)).foldl (fun (z : State) id => z.hardOne id)
        (if !((y.slate i).state == .ready || (y.slate i).state == .inUse) then x.noteSlate i (fun v => { v with hard := true })
         else x)

theorem State.hardLimit_eq (s y : State) (t ei : Nat) (e : Entry) (he : s.entryAt t ei = some e)
    (ho : (s.tenant t).stepOpen = true) (hy : y = s.advanceTo (s.frameAt t e.callFrame + (s.frozen t).hardLate)) :
    s.hardLimit t ei = if ((y.hardSlate t ei).tenant t).gathersWaiting.any (fun g => g.entry == ei) then
      ((y.hardSlate t ei).logGatherLost t ei 8).drain else (y.hardSlate t ei).drain := by
  subst hy
  unfold State.hardLimit
  rw [he]
  exact if_neg (by simp [ho])

theorem State.hardSlate_none (y : State) (t ei : Nat) (h : y.slateOfEntry t ei = none) : y.hardSlate t ei = y := by
  rw [State.hardSlate, h]

theorem State.hardSlate_past (y : State) (t ei i : Nat) (h : y.slateOfEntry t ei = some i) (hp : (y.slate i).pastHard = true) :
    y.hardSlate t ei = y := by
  rw [State.hardSlate, h]
  exact if_pos hp

/-- What waits for the slate is poisoned, one that is not READY is noted, and its transfers end (R33, R198, log entry 43). -/
theorem State.hardSlate_due (y x : State) (t ei i : Nat) (h : y.slateOfEntry t ei = some i) (hp : (y.slate i).pastHard = false)
    (hx : x = (y.modSlate i (fun r => { r with pastHard := true })).poisonWaiting i) :
    y.hardSlate t ei = ((y.transfersOf i).map (·.1)).foldl (fun (z : State) id => z.hardOne id)
      (if (y.slate i).state = .ready ∨ (y.slate i).state = .inUse then x else x.noteSlate i (fun v => { v with hard := true })) := by
  subst hx
  rw [State.hardSlate, h]
  dsimp only
  rw [if_neg (by simp [hp])]
  refine congrArg (List.foldl _ · _) ?_
  by_cases hk : (y.slate i).state = .ready ∨ (y.slate i).state = .inUse
  · rw [if_pos hk, if_neg (by rcases hk with hk | hk <;> simp [hk])]
  · rw [if_neg hk, if_pos (by simpa using hk)]

/-! ### The hard limit ends a transfer -/

section
variable (s z : State) (id i cause : Nat) (x : Transfer)

theorem State.hardOne_move (hx : s.transfer id = some x) (hk : x.kind = .move) :
    s.hardOne id = (s.bump R.SPB_CANCELS 1).cancelTransfer id := by
  rw [State.hardOne, hx]
  exact if_pos hk

/-- A transfer of another kind ends without success. -/
theorem State.hardOne_ends (hx : s.transfer id = some x) (hk : x.kind ≠ .move) : s.hardOne id =
    ((((s.bump R.SPB_CANCELS 1).cancelTransfer id).endedWithout x 1).reapJobs).tendJobs := by
  have h : (s.bump R.SPB_CANCELS 1).transfer id = some x := hx
  rw [State.hardOne, hx]
  refine (if_neg hk).trans ?_
  rw [State.hardEnd, State.endTransfer, h]

variable (hi : i = x.slate) (hg : (z.slate i).gen = x.gen)
include hi hg

theorem State.endedWithout_out (hk : x.kind = .out) (hs : (z.slate i).state = .movingOut) :
    z.endedWithout x cause = z.backToSealed i := by
  subst hi
  simp [State.endedWithout, hg, hk, hs]

theorem State.endedWithout_ret (hk : x.kind = .ret) (ho : x.operandOf = none) (hs : (z.slate i).state = .returning) :
    z.endedWithout x cause = z.recoverOrLose i cause .reshooting := by
  subst hi
  simp [State.endedWithout, hg, hk, hs, ho]

theorem State.endedWithout_fill (hk : x.kind = .fill) (hs : (z.slate i).state = .reshooting) : z.endedWithout x cause = z := by
  subst hi
  simp [State.endedWithout, hg, hk, hs]

theorem State.endedWithout_prop (hk : x.kind = .prop) (hs : (z.slate i).state ≠ .free) :
    z.endedWithout x cause = z.gatherFailed i := by
  subst hi
  simp [State.endedWithout, hg, hk, hs]
end

/-! ### Space that was short -/

theorem exec_vaultSpaceRetry (s : State) (h : Runs s) : exec .vaultSpaceRetry s = .next s.vaultRetry.takeRaised :=
  congrArg State.ends (State.unit_runs s _ _ h)

theorem exec_tierAllocRetry (s : State) (h : Runs s) : exec .tierAllocRetry s = .next s.allocRetry.takeRaised :=
  congrArg State.ends (State.unit_runs s _ _ h)

/-- One transfer that waits for its extent tries once more (R208). -/
theorem State.allocRetry_one (s : State) (id : Nat) (x : Transfer) (h : s.unallocated = [(id, x)]) :
    s.allocRetry = match s.allocTier x.slate x.tier with
      | none => s
      | some (z, a) =>
        let z := z.setTransfer id { x with dst := a, allocated := true }
        if x.kind = .out then z.modSlate x.slate (fun r => { r with extentBase := a }) else z := by
  rw [State.allocRetry, h]
  rfl

theorem exec_lastUseAck (tier : Fin 5) (base : BitVec 64) (s : State) (h : Runs s) :
    exec (.lastUseAck ⟨tier, base⟩) s = .next (s.lastUseAck tier.val base.toNat).takeRaised :=
  congrArg State.ends (State.notify_runs s (.discarded tier.val base.toNat) h)

theorem exec_gatherRetry (t : Fin 8) (s : State) (h : Runs s) :
    exec (.gatherRetry t) s = .next (s.retryGathers t.val).takeRaised :=
  congrArg State.ends (State.unit_runs s _ _ h)

theorem State.retryGathers_unhalted (s : State) (t : Nat) (h : (s.tenant t).halted = false) : s.retryGathers t =
    ((s.tenant t).gathersWaiting.foldr insertGather []).foldl (fun z g => z.tryGather t g.entry g.again) s :=
  if_neg (by simp [State.mayStart, h])

theorem exec_moveAllocTimeout (i : BitVec 16) (s : State) (h : Runs s) :
    exec (.moveAllocTimeout i) s = .next (s.moveTimeout i.toNat).takeRaised :=
  congrArg State.ends (State.unit_runs s _ _ h)

/-- The MOVE of a slate that has no extent yet ends as LOST (R215). -/
theorem State.moveTimeout_ends (s : State) (i id : Nat) (x : Transfer)
    (h : (s.transfersOf i).find? (fun p => p.2.kind == .move && !p.2.allocated) = some (id, x)) :
    s.moveTimeout i = ((s.advanceTo (x.allocAt + us 1000)).endTransfer id 2).drain := by
  rw [State.moveTimeout, h]

end Sys2Proof.Machine
end

section
/-! SUPPORT. The locks of the pages and the resets of the register ports (R318, R334, R340). -/

namespace Sys2Proof.Machine

/-! ### An idle lock -/

/-- Moving wake_at raises no event (R356). -/
theorem State.movedFrom_recorder (s was : State) : (s.movedFrom was).recorder = s.recorder := by
  unfold State.movedFrom
  split
  · exact State.moveWake_recorder s
  · rfl

theorem exec_lockBroken (n : Fin 32) (s : State) (h : AocRuns s) :
    exec (.lockBroken n) s = ((if s.clockRuns || aocPage n.val then s.lockIdle n.val else s).movedFrom s).ends := by
  show (s.lockBroken n.val).ends = _
  rw [State.lockBroken, State.aocMoved, State.aocRunning_up s _ h]

/-- A lock breaks once its owner has made no access for the limit (R334). -/
theorem State.lockIdle_breaks (s t : State) (n : Nat) (p : Port) (ho : (s.page n).owner = some p) (hl : s.lockLimit ≠ 0)
    (ht : t = s.advanceTo ((s.page n).accessAt + s.lockLimit)) : s.lockIdle n = t.breakLock n 2 := by
  subst ht
  exact if_neg (by simp [ho, hl])

/-- The broken lock is free, its staging is gone, and the event names its owner (R303, R318). -/
theorem State.breakLock_owned (t : State) (n cause : Nat) (p : Port) (ho : (t.page n).owner = some p) :
    t.breakLock n cause = ((t.setPage n { t.page n with
        owner := none, staged := [], overflow := false, lastResult := 3 }).log 0x0A02 13
      [w32 (n + 2 ^ 8 * Port.num p + 2 ^ 12 * cause), w32 (t.page n).staged.length,
       w32 (min 0xFFFFFFFF ((t.now - (t.page n).lockedAt) / 100)), 0#32]).raise 0x04 2 := by
  rw [State.breakLock, ho]
  rfl

/-! ### The reset of a port -/

theorem exec_portReset (p : Port) (detach : Bool) (s : State) (h : AocRuns s) :
    exec (.portReset p detach) s = ((s.portReset p detach).movedFrom s).ends := by
  show (s.aocMoved (fun z => z.portReset p detach)).ends = _
  rw [State.aocMoved, State.aocRunning_up s _ h]

/-- A port that holds no lock breaks none. -/
theorem State.breakLocks_none (s : State) (p : Port) (cause : Nat) (pages : List Nat) (h : ∀ n, (s.page n).owner ≠ some p) :
    pages.foldl (fun (z : State) g => if (z.page g).owner = some p then z.breakLock g cause else z) s = s := by
  induction pages with
  | nil => rfl
  | cons g r ih => rw [List.foldl_cons, if_neg (h g), ih]

/-- A proposal that is dropped ends with its result, its interrupt, its syndrome and the event (R303, R409). -/
theorem State.dropProposal_eq (s e : State) (q : Proposal) (result : Nat)
    (he : e = { s with security := { s.security with
      proposal := none, applying := none, result := result, stage := if leAt q.bytes 0 1 = 2 then [] else s.security.stage } }) :
    s.dropProposal q result = ((e.raise 0x03 1).pageError 0x03 (w32 e.csStat) 0).log 0x0A03 13
      [w32 (Port.num q.proposer + 2 ^ 8 * leAt q.bytes 0 1), q.nonce, q.digest, w32 s.security.refused] := by
  subst he
  rfl

/-- What the reset of a port does to the pending proposal (R340). -/
def State.portProposal (s : State) (p : Port) : State :=
  match s.security.proposal with
  | some q => if p = Port.debug then s else s.dropProposal q 7
  | none => s

theorem State.portReset_unlocked (s : State) (p : Port) (detach : Bool) (h : ∀ n, (s.page n).owner ≠ some p) :
    s.portReset p detach = { s.portProposal p with
      security := { (s.portProposal p).security with
        attached := if detach then setBit (s.portProposal p).security.attached (Port.num p) false
          else (s.portProposal p).security.attached
        stage := if p = Port.security ∧ !detach then [] else (s.portProposal p).security.stage }
      latches := del (s.portProposal p).latches (Port.num p) } := by
  unfold State.portReset
  dsimp only
  rw [State.breakLocks_none s p _ _ h]
  rfl

end Sys2Proof.Machine
end

section
/-! SETTLED. The statements on the architecture of the block: O23, O24, O30 and O45. -/

namespace Sys2Proof.Machine

/-- Settles O23: a whole block is judged by the slate it names, before its beat as after it; a lane's block is placed or waits, by
what its slate is doing; the reset of an engine finds the OPEN slates of before. -/
theorem tapsFeedTheLanesThatCommit : Obligations.TapsFeedTheLanesThatCommit := by
  unfold Obligations.TapsFeedTheLanesThatCommit
  refine ⟨?_, ?_, ?_⟩
  · rintro tap slate gen block data s y b h rfl hb
    rw [exec_tapBeat tap slate gen block data s h]
    refine ⟨fun hw => by rw [State.tapBeat_waits s _ _ _ _ _ hw], fun hnone hfree => ?_⟩
    rw [State.tapBeat_accepts s _ _ _ _ _ hnone hfree]
    replace hb : b = s.tapGrown tap.val slate.toNat gen.toNat block.toNat data := hb
    subst hb
    refine ⟨fun hp => ?_, fun hf ho hg hw => ?_, fun hf ho hg hw hs => ?_, fun lane hf hl ht => ?_⟩
    · rw [State.acceptBeat_part s _ _ _ _ _ hp]
    · rw [State.acceptBeat_whole s _ _ _ _ _ hf]
      exact congrArg State.ends (State.tapBlock_twice _ _ _ ho hg hw)
    · rw [State.acceptBeat_whole s _ _ _ _ _ hf]
      exact congrArg State.ends (State.tapBlock_outside _ _ _ ho hg hw hs)
    · rw [State.acceptBeat_whole s _ _ _ _ _ hf]
      exact congrArg State.ends (State.tapBlock_lane _ _ _ _ hl ht)
  · rintro lane verify found s j rest h hj hfound
    replace hfound : found = j.verdict verify := hfound
    subst hfound
    rw [exec_blockCommit lane verify s h]
    refine ⟨fun hm => by rw [State.blockCommit_stale s _ verify j rest hj hm], ?_, ?_⟩
    · rintro hg ho c w i f rfl hc hf hw
      replace hw : w = s.keptCode j c f := hw
      subst hw
      rw [State.blockCommit_open s _ verify j rest hj hg ho, State.commitOpen_eq s lane.val j verify f c hc hf,
        State.commitForward_eq]
      refine ⟨fun hp => ?_, ?_⟩
      · rw [hp, ← State.holdLane_rest s _ j rest f hj]
        rfl
      · rintro x z y hp rfl hy
        replace hy : y = s.forwardPlaced x j (s.keptCode j c f) := hy
        subst hy
        rw [hp]
        exact ⟨fun hn => by rw [hn]; rfl, fun v hv => by rw [hv]; rfl⟩
    · rintro hg hr slot k b job c hjob hout hc hf
      rw [State.blockCommit_engine s _ verify j rest slot k b job hj hg hr hjob hout,
        State.commitEngine_eq s lane.val j verify c slot k b job hc hf]
      refine ⟨fun hp => ?_, fun z hz => ?_⟩
      · rw [hp, ← State.holdLane_rest s _ j rest none hj]
      · rw [hz]
        rfl
  · rintro e s y h rfl
    exact exec_engineReset e s h

/-- Settles O24: a request is taken or waits by what the bank holds; the first one is answered, waits or is decoded, and the port
and the command queue then run on what that leaves. -/
theorem banksAnswerTheirRequests : Obligations.BanksAnswerTheirRequests := by
  unfold Obligations.BanksAnswerTheirRequests
  refine ⟨?_, ?_, ?_, ?_, beatOf_getElem?⟩
  · rintro b slate gen block s h
    rw [exec_operandRequest b slate gen block s h]
    refine ⟨fun ht hl hn => ?_, fun hw => ?_⟩
    · rw [State.operandRequest_taken s _ _ _ _ ht hl hn]
      rfl
    · rw [State.operandRequest_waits s _ _ _ _ hw]
  · rintro b seen used drive s q rest go h ht hr rfl
    rw [exec_blockExpanded b seen used drive s h ht]
    refine ⟨fun hp => ?_, fun hp ha => ⟨fun hb => ?_, ?_⟩⟩
    · rw [State.expandFirst_poisoned s _ seen _ drive q rest hr hp]
      refine ⟨fun hd => by rw [hd]; rfl, ?_⟩
      rintro y hd rfl
      rw [hd]
      rfl
    · rw [State.expandFirst_absent s _ seen _ drive q rest hr hp ha hb]
      rfl
    · rintro img im form hb him hform
      refine ⟨fun hl => ?_, fun hl lo hi hc => ?_, ?_⟩
      · rw [State.expandFirst_full s _ seen _ drive q rest hr hp ha img hb hl]
        rfl
      · rw [State.expandFirst_decodes s _ seen _ drive q rest hr hp ha img hb hl,
          State.expandBlock_misses s _ q img im seen _ drive form him hform lo hi hc]
        refine ⟨fun hm hs => ?_, fun hm => ?_⟩
        · rw [if_pos ⟨hm, hs⟩]
          rfl
        · rw [if_neg (fun k => hm k.1)]
          rfl
      · rintro x hl hc hx
        rw [State.expandFirst_decodes s _ seen _ drive q rest hr hp ha img hb hl,
          State.expandBlock_checks s _ q img im seen _ drive form him hform x hx hc]
        refine ⟨fun raw hk => ?_, fun st e f hk => ?_⟩
        · rw [hk]
          rfl
        · rw [hk]
          refine ⟨_, ?_, ?_, rfl⟩
          · split <;> omega
          · rintro (hd | he)
            · simp [hd]
            · simp [he]
  · rintro s m h hm
    rw [exec_bookCacheMissService s h, State.serveMiss, hm]
  · rintro b failing s mask h hm
    rw [exec_bankSelftestEnd b failing s h, State.endSelftest, hm]

/-- Settles O30: the hard limit acts on the slate that the entry has when the time has moved; each transfer of it ends by its
kind; of what was short of space each writer, transfer and gather tries in its order. -/
theorem marginsAndShortSpace : Obligations.MarginsAndShortSpace := by
  unfold Obligations.MarginsAndShortSpace
  refine ⟨?_, ?_, ?_⟩
  · rintro t ei s e h he
    refine ⟨fun i y hi hy => ⟨fun hr hu hl hs hd => ?_, fun hk => ?_⟩, fun ho y z hy hz => ?_⟩
    · rw [exec_slateLate t ei s h, State.slateLate_logs s _ ei i y hi hy (by simp [hr, hu, hl, hs]) hd]
    · rw [exec_slateLate t ei s h, State.slateLate_passes s _ ei i hi hk, ← hy, hy]
      exact State.ends_nil _ h.quiet
    · have hz' : z = y.hardSlate t.val ei := by
        subst hy
        rcases hz with ⟨hi, rfl⟩ | ⟨i, hi, hp, rfl⟩ | ⟨i, x, hi, hp, hx, rfl⟩
        · exact (State.hardSlate_none (s.advanceTo _) _ _ hi).symm
        · exact (State.hardSlate_past (s.advanceTo _) _ _ i hi hp).symm
        · exact (State.hardSlate_due (s.advanceTo _) x _ _ i hi hp hx).symm
      rw [exec_hardLimit t ei s h, State.hardLimit_eq s y _ ei e he ho hy, ← hz']
      exact ⟨fun hw => by rw [if_pos hw], fun hw => by rw [if_neg (by simp [hw])]⟩
  · rintro s z id i x hx hi hz hg
    refine ⟨fun hk => ?_, fun hk hs => ?_, fun hk ho hs => ?_, fun hk hs => ?_, fun hk hs => ?_⟩
    · rw [State.hardOne_move s id x hx hk, hz]
    · rw [State.hardOne_ends s id x hx (by simp [hk]), ← hz, State.endedWithout_out z i 1 x hi hg hk hs]
    · rw [State.hardOne_ends s id x hx (by simp [hk]), ← hz, State.endedWithout_ret z i 1 x hi hg hk ho hs]
    · rw [State.hardOne_ends s id x hx (by simp [hk]), ← hz, State.endedWithout_fill z i 1 x hi hg hk hs]
    · rw [State.hardOne_ends s id x hx (by simp [hk]), ← hz, State.endedWithout_prop z i 1 x hi hg hk hs]
  · rintro s h
    refine ⟨exec_vaultSpaceRetry s h, fun id x hu => ?_, ?_, fun t hh => ?_, fun i id x hf => ?_⟩
    · rw [exec_tierAllocRetry s h, State.allocRetry_one s id x hu]
      refine ⟨fun ha => ?_, fun z a ha => ⟨fun hk => ?_, fun hk => ?_⟩⟩
      · rw [ha]
        exact State.ends_nil s h.quiet
      · rw [ha]
        simp [hk]
      · rw [ha]
        simp [hk]
    · rintro tier base y rfl
      exact exec_lastUseAck tier base s h
    · rw [exec_gatherRetry t s h, State.retryGathers_unhalted s _ hh]
    · rw [exec_moveAllocTimeout i s h, State.moveTimeout_ends s _ id x hf]
      rfl

/-- Settles O45: an idle lock breaks at the end of its limit, on a page of FCLK's domain while FCLK runs; the reset of a port
without locks breaks none, and ends the proposal before it clears the port's latches. -/
theorem locksBreakAndPortsReset : Obligations.LocksBreakAndPortsReset := by
  unfold Obligations.LocksBreakAndPortsReset
  constructor
  · rintro n p s t h ho hl ht
    rw [exec_lockBroken n s h]
    refine ⟨fun hc => ?_, fun hc ha => ?_⟩
    · have hp : t.page n.val = s.page n.val := by rw [ht]; rfl
      rw [if_pos (by simpa using hc), State.lockIdle_breaks s t _ p ho hl ht,
        State.breakLock_owned t _ 2 p (by rw [hp, ho]), hp]
      rfl
    · rw [if_neg (by simp [hc, ha])]
      exact State.ends_nil _ (by rw [State.movedFrom_recorder, h.quiet])
  · rintro p detach s a h hn ha
    have hprop : a = s.portProposal p := by
      rw [ha, State.portProposal]
      cases s.security.proposal with
      | none => rfl
      | some q => exact congrArg (fun z : State => if p = Port.debug then s else z) (State.dropProposal_eq s _ q 7 rfl).symm
    rw [exec_portReset p detach s h, State.portReset_unlocked s p detach hn, ← hprop]
    rfl

end Sys2Proof.Machine
end

section
/-! SUPPORT. What the command port does with a command that arrives with nothing before it (R70, R78, R83). -/

namespace Sys2Proof.Machine

/-! ### Events are taken once -/

theorem State.offerRec_raised (s : State) (x : Rec) : (s.offerRec x).recorder.raised = s.recorder.raised := by
  unfold State.offerRec
  split <;> rfl

/-- At the end of a cycle no event is left unoffered (R381). -/
@[simp] theorem State.takeRaised_raised (s : State) : s.takeRaised.recorder.raised = [] := by
  have h : ∀ (l : List Raised) (z : State),
      (l.foldl (fun (s : State) x => s.offerRec x.record) z).recorder.raised = z.recorder.raised := by
    intro l
    induction l with
    | nil => intro z; rfl
    | cons x r ih => intro z; rw [List.foldl_cons, ih, State.offerRec_raised]
  unfold State.takeRaised
  rw [h]

theorem State.takeRaised_ends (s : State) : s.takeRaised.ends = .next s.takeRaised :=
  State.ends_nil _ s.takeRaised_raised

/-! ### One command in an empty port -/

/-- The port holds one command. -/
def State.queuedAlone (s : State) (op : BitVec 8) (c : Cmd) : State := { s with port := { s.port with queue := [(op, c)] } }

/-- The opcodes of the commands that may have to wait in the port (R83, R105, R252, R293). -/
def waitingOps : List (BitVec 8) := [0x03#8, 0x06#8, 0x10#8, 0x11#8, 0x12#8, 0x20#8, 0x32#8, 0x33#8]

section
variable (s : State) (op : BitVec 8) (c : Cmd)

/-- A command that arrives at an empty port is looked at once. -/
theorem State.command_alone (h : Arrives s) (hq : s.port.queue = []) (hs : s.port.stalled = []) (hr : s.seqHalt = false) :
    s.command op c = (s.queuedAlone op c).decodeNext.1 := by
  have ha : ({ s with port := { s.port with stalled := s.port.stalled ++ [(op, c)] } } : State).admitCmds = s.queuedAlone op c := by
    simp [State.admitCmds, State.queuedAlone, hq, hs]
  have hg : (s.queuedAlone op c).seqRuns = true := by
    simp [State.seqRuns, State.queuedAlone, State.clockRuns, State.sourceHeld, h.awake, h.settled]
  have hh : (s.queuedAlone op c).seqHalt = false := hr
  have hl : (s.queuedAlone op c).port.queue.length + (s.queuedAlone op c).port.stalled.length = 0 + 1 := by
    simp [State.queuedAlone, hs]
  rw [State.command, State.arrive_ready s _ _ h, State.acceptCmd, ha, State.drain, hl, State.drainCmds]
  simp only [hg, hh, Bool.not_true, Bool.false_eq_true, if_false]
  split <;> rfl

/-- With no Abter wait of its queue the one command is the front one (R280). -/
theorem State.frontCmd_alone (hu : s.queueHeld c.queue.val = false) :
    (s.queuedAlone op c).frontCmd (s.queuedAlone op c).port.queue = some ((op, c), []) := by
  have hu : (s.queuedAlone op c).queueHeld c.queue.val = false := hu
  exact if_neg (by rw [hu]; decide)

/-- A command that must wait once it has been prepared stays in the queue. -/
theorem State.decodeNext_waits (hu : s.queueHeld c.queue.val = false)
    (hw : ((s.queuedAlone op c).prepare (op, c)).mustWait (op, c) = true) :
    (s.queuedAlone op c).decodeNext.1 = (s.queuedAlone op c).prepare (op, c) := by
  unfold State.decodeNext
  rw [State.frontCmd_alone s op c hu]
  dsimp only
  rw [if_pos hw]

/-- A command that has nothing to hand over and need not wait is decoded. -/
theorem State.decodeNext_decodes (hq : s.port.queue = []) (hs : s.port.stalled = []) (hu : s.queueHeld c.queue.val = false)
    (hp : (s.queuedAlone op c).prepare (op, c) = s.queuedAlone op c) (hw : s.mustWait (op, c) = false) :
    (s.queuedAlone op c).decodeNext.1 = (s.decode op c).takeRaised := by
  have hw : (s.queuedAlone op c).mustWait (op, c) = false := hw
  have hz : ({ s.queuedAlone op c with port := { (s.queuedAlone op c).port with queue := [] } } : State) = s := by
    show ({ s with port := { s.port with queue := [] } } : State) = s
    rw [← hq]
  unfold State.decodeNext
  rw [State.frontCmd_alone s op c hu]
  dsimp only
  rw [hp, if_neg (by simp [hw]), hz, State.admitCmds_none s hs]

/-- Only a SEAL hands something over before it is decoded (R74). -/
theorem State.prepare_other (h : op ≠ 0x03#8) : s.prepare (op, c) = s := if_neg h

theorem Takes.arrives {s : State} {c : Cmd} (h : Takes s c) : Arrives s := ⟨h.ready, h.awake, h.clear, h.settled⟩

/-- A command that is taken at once ends with what its run leaves. -/
theorem State.command_ends (h : Takes s c) (hp : (s.queuedAlone op c).prepare (op, c) = s.queuedAlone op c)
    (hw : s.mustWait (op, c) = false) : (s.command op c).ends = .next ((s.taken op c).runCmd op c).takeRaised := by
  rw [State.command_alone s op c h.arrives h.queue h.stalled h.running,
    State.decodeNext_decodes s op c h.queue h.stalled h.unheld hp hw, State.decode_fresh s op c h.fresh h.queue h.stalled,
    State.takeRaised_ends]

section
variable (hop : op ∉ waitingOps)
include hop

theorem State.mustWait_free : s.mustWait (op, c) = false := by
  have key : ∀ k ∈ waitingOps, op ≠ k := fun k hk e => hop (e ▸ hk)
  refine State.mustWait_other s op c (key _ (by decide)) (key _ (by decide)) (key _ (by decide)) ?_ (key _ (by decide))
    (key _ (by decide))
  simp [eyeOp, key 0x10#8 (by decide), key 0x11#8 (by decide), key 0x12#8 (by decide)]

theorem State.prepare_free : s.prepare (op, c) = s :=
  State.prepare_other s op c (fun e => hop (e ▸ by decide))

/-- A command that never waits ends with what its run leaves. -/
theorem State.command_run (h : Takes s c) : (s.command op c).ends = .next ((s.taken op c).runCmd op c).takeRaised :=
  State.command_ends s op c h (State.prepare_free _ op c hop) (State.mustWait_free s op c hop)

end

end

end Sys2Proof.Machine
end

section
/-! SUPPORT. What CALL and RELEASE do to the slate that their tag names, by its state (R64, R65, R73). -/

namespace Sys2Proof.Machine

/-! ### The slate that a tag names -/

section
variable (s : State) (c : Cmd) (i : Nat)

theorem State.named_status (op : Nat) (halts : Bool) (st : Nat)
    (h : s.gate op c (halts && !(op == 0x04 && s.deadTag (s.tenantOf c) c.tag.toNat)) = some st) :
    s.named op c halts = .status st := by
  unfold State.named
  dsimp only
  rw [h]

/-- A tag that names a slate passed the gate, and its entry has that slate. -/
theorem State.named_slate (op : Nat) (halts : Bool) (h : s.named op c halts = .slate i) :
    s.gate op c (halts && !(op == 0x04 && s.deadTag (s.tenantOf c) c.tag.toNat)) = none
      ∧ ∃ e, s.entryOfTag (s.tenantOf c) c.tag.toNat = some e ∧ s.slateOfEntry (s.tenantOf c) e = some i := by
  unfold State.named at h
  dsimp only at h
  split at h
  · cases h
  · next hg =>
    refine ⟨hg, ?_⟩
    split at h
    · cases h
    · next e he =>
      split at h
      · next j hj =>
        cases h
        exact ⟨e, he, hj⟩
      · cases h

theorem State.named_names (op : Nat) (halts : Bool) (e : Nat)
    (hg : s.gate op c (halts && !(op == 0x04 && s.deadTag (s.tenantOf c) c.tag.toNat)) = none)
    (he : s.entryOfTag (s.tenantOf c) c.tag.toNat = some e) (hi : s.slateOfEntry (s.tenantOf c) e = some i) :
    s.named op c halts = .slate i := by
  unfold State.named
  dsimp only
  rw [hg]
  dsimp only
  rw [he]
  dsimp only
  rw [hi]

theorem State.slateOfEntry_tenant (t e : Nat) (h : s.slateOfEntry t e = some i) : (s.slate i).tenant = t := by
  have hm := List.mem_of_find?_eq_some h
  simpa [State.tenantSlates] using (List.mem_filter.mp hm).2

/-- A tag that names a slate is no dead one. -/
theorem State.deadTag_slate (t tag e : Nat) (he : s.entryOfTag t tag = some e) (h : s.slateOfEntry t e = some i) :
    s.deadTag t tag = false := by
  unfold State.deadTag
  rw [he]
  simp [h]

theorem State.gate_running (op : Nat) (h : s.gate op c true = none) : (s.tenant (s.tenantOf c)).halted = false := by
  unfold State.gate at h
  dsimp only at h
  split at h
  · cases h
  · split at h
    · cases h
    · split at h
      · cases h
      · next hh => simpa using hh

/-- The step of a slate that a CALL names is not halted. -/
theorem State.call_mayStart (h : s.named 0x04 c true = .slate i) : s.mayStart (s.slate i).tenant = true := by
  obtain ⟨hg, e, he, hi⟩ := State.named_slate s c i 0x04 true h
  rw [State.deadTag_slate s i _ _ e he hi] at hg
  rw [State.slateOfEntry_tenant s i _ e hi, State.mayStart, State.gate_running s c 0x04 hg]
  rfl

end

/-! ### CALL -/

theorem exec_call_taken (c : Cmd) (s : State) (h : Takes s c) :
    exec (.call c) s = .next ((s.taken 0x04#8 c).runCall c).takeRaised :=
  State.command_run s 0x04#8 c (by decide) h

section
variable (s : State) (c : Cmd) (i : Nat)

/-- A CALL of a tag that is dead for the step completes with LOST (R65, R248). -/
theorem State.named_dead (hg : s.gate 0x04 c false = none) (hd : s.deadTag (s.tenantOf c) c.tag.toNat = true) :
    s.named 0x04 c true = .status 0x0B := by
  have hd' := hd
  unfold State.deadTag at hd'
  unfold State.named
  dsimp only
  rw [hd]
  simp only [BEq.rfl, Bool.and_self, Bool.not_true, Bool.and_false, hg]
  split at hd'
  · cases hd'
  · next e he =>
    simp only [Bool.and_eq_true, Option.isNone_iff_eq_none] at hd'
    simp [hd'.2, List.contains_iff_mem.mp hd'.1]

theorem State.runCall_status (st : Nat) (h : s.named 0x04 c true = .status st) :
    s.runCall c = s.complete 0x04#8 c { status := st } := by
  unfold State.runCall
  rw [h]
  rfl

section
variable (h : s.named 0x04 c true = .slate i) (hd : s.dropBad c (s.slate i).e = false)
include h hd

theorem State.runCall_opened (hs : (s.slate i).state = .opened) : s.runCall c =
    s.complete 0x04#8 c { status := 0x02, slate := i, gen := (s.slate i).gen, result := some 1 } := by
  simp [State.runCall, h, hd, hs, SlateState.num]

theorem State.runCall_lost (hs : (s.slate i).state = .lost) : s.runCall c =
    s.complete 0x04#8 c { status := 0x0B, slate := i, gen := (s.slate i).gen, result := some SlateState.lost.num } := by
  simp [State.runCall, h, hd, hs]

theorem State.runCall_inUse (hs : (s.slate i).state = .inUse) : s.runCall c =
    (s.serveEngines i (cmdMask c) (cmdFlag0 c)).complete 0x04#8 c
      { status := 0, slate := i, gen := (s.slate i).gen, result := some SlateState.inUse.num } := by
  simp [State.runCall, h, hd, hs]

/-- A CALL of any other slate waits, and what the slate's state asks for begins. -/
theorem State.runCall_waits (ho : (s.slate i).state ≠ .opened) (hl : (s.slate i).state ≠ .lost)
    (hu : (s.slate i).state ≠ .inUse) : s.runCall c = ((s.addCall i c).actOnCall i).tendJobs := by
  unfold State.runCall
  rw [h]
  dsimp only
  rw [hd, if_neg (by decide)]
  split
  · exact absurd ‹_› ho
  · exact absurd ‹_› hl
  · exact absurd ‹_› hu
  · rfl

end

/-! ### What a waiting CALL begins -/

theorem State.addCall_slate : (s.addCall i c).slate i = { s.slate i with
    callPending := true
    calls := (s.slate i).calls ++ [c]
    callAt := if (s.slate i).callPending then (s.slate i).callAt else s.stepTime (s.slate i).tenant } :=
  State.slate_modSlate_same s i _

theorem State.addCall_state : ((s.addCall i c).slate i).state = (s.slate i).state := by rw [State.addCall_slate]

/-- A waiting CALL does not halt the step. -/
theorem State.addCall_mayStart (h : s.mayStart (s.slate i).tenant = true) :
    (s.addCall i c).mayStart ((s.addCall i c).slate i).tenant = true := by
  rw [State.addCall_slate]
  exact h

section
variable (hm : s.mayStart (s.slate i).tenant = true)
include hm

theorem State.actOnCall_ready (hs : (s.slate i).state = .ready) : s.actOnCall i = s.takePending i := by
  simp [State.actOnCall, hm, hs]

theorem State.actOnCall_kept (hs : (s.slate i).state = .kept) : s.actOnCall i = s.enterReady i := by
  simp [State.actOnCall, hm, hs]

theorem State.actOnCall_movingOut (hs : (s.slate i).state = .movingOut) : s.actOnCall i = (s.cancelSlate i).enterReady i := by
  simp [State.actOnCall, hm, hs, State.moveBack]

theorem State.actOnCall_parked (hs : (s.slate i).state = .parked) : s.actOnCall i = s.beginReturn i (s.callDeadline i) none := by
  simp [State.actOnCall, hm, hs]

theorem State.actOnCall_dropped (hs : (s.slate i).state = .dropped) :
    s.actOnCall i = (s.wantJob i (s.callDeadline i)).startNow i := by
  simp [State.actOnCall, hm, hs]

end

/-- A slate that is decided, returned or recomputed already has what a CALL waits for under way. -/
theorem State.actOnCall_underWay
    (hs : (s.slate i).state = .sealed ∨ (s.slate i).state = .returning ∨ (s.slate i).state = .reshooting) : s.actOnCall i = s := by
  unfold State.actOnCall
  rcases hs with hs | hs | hs <;> simp [hs]

end

/-! ### RELEASE -/

theorem exec_release_taken (c : Cmd) (s : State) (h : Takes s c) :
    exec (.release c) s = .next ((s.taken 0x05#8 c).runRelease c).takeRaised :=
  State.command_run s 0x05#8 c (by decide) h

section
variable (s : State) (c : Cmd) (i : Nat)

theorem State.runRelease_slate (h : s.named 0x05 c false = .slate i) : s.runRelease c = (s.releaseSlate i).complete 0x05#8 c
    { status := 0, slate := i, gen := (s.slate i).gen, result := some (s.slate i).state.num } := by
  unfold State.runRelease
  rw [h]

theorem State.releaseSlate_settled (hs : (s.slate i).state ≠ .reshooting) : s.releaseSlate i = (s.freeSlate i).tendJobs :=
  if_neg hs

section
variable (hs : (s.slate i).state = .reshooting)
include hs

/-- The reshoot of a slate that is released is stopped: a slot that it holds is freed when its job ends (R163). -/
theorem State.releaseSlate_running (hj : s.retake.jobs.any (fun p => p.2.slate == i && p.2.gen == (s.slate i).gen) = true) :
    s.releaseSlate i =
      (((s.modSlate i (fun r => { r with releasePending := true })).cancelSlate i).stopJob i).reapJobs.tendJobs := by
  unfold State.releaseSlate
  dsimp only
  rw [if_pos hs, if_pos hj]

/-- A reshoot that still waits for a slot ends with the release (R163). -/
theorem State.releaseSlate_waiting (hj : s.retake.jobs.any (fun p => p.2.slate == i && p.2.gen == (s.slate i).gen) = false) :
    s.releaseSlate i =
      ((((s.modSlate i (fun r => { r with releasePending := true })).cancelSlate i).stopJob i).freeSlate i).tendJobs := by
  unfold State.releaseSlate
  dsimp only
  rw [if_pos hs, if_neg (by rw [hj]; decide)]

end

end

end Sys2Proof.Machine
end

section
/-! SUPPORT. FRAME, STEP_BEGIN and STEP_END (R54, R58, R73, R75, R76, R227, R262). -/

namespace Sys2Proof.Machine

/-! ### FRAME -/

/-- With no decision of a SEAL outstanding, FRAME and PROP_CALL do not wait (R105). -/
theorem State.mustWait_decided (s : State) (op : BitVec 8) (c : Cmd) (hop : op = 0x06#8 ∨ op = 0x20#8)
    (h : s.sealPending (s.tenantOf c) = false) : s.mustWait (op, c) = false := by
  rcases hop with rfl | rfl <;> simp [State.mustWait, eyeOp, h]

theorem exec_frame_taken (c : Cmd) (s : State) (h : Takes s c) (hd : s.sealPending (s.tenantOf c) = false) :
    exec (.frame c) s = .next ((s.taken 0x06#8 c).runFrame c).takeRaised :=
  State.command_ends s 0x06#8 c h (State.prepare_other _ _ c (by decide)) (State.mustWait_decided s _ c (.inl rfl) hd)

theorem State.unitWrite_now (s : State) (a : Nat) (bs : List Byte) : (s.unitWrite a bs).now = s.now := by
  unfold State.unitWrite
  split <;> rfl

/-- The frame that is open closes measured, those between unmeasured (R56, R58). -/
theorem State.closeFrames_eq (s : State) (t f : Nat) : s.closeFrames t f =
    (s.measure t f (min 0xFFFFFFFF (s.now - (s.tenant t).frameOpenAt))).modTenant t (fun y => { y with
      frame := f + 1, frameOpenAt := s.now, framesClosed := y.framesClosed + (f + 1 - (s.tenant t).frame)
      frameTimes := put (((List.range (f - (s.tenant t).frame)).map (fun k => (s.tenant t).frame + 1 + k)).foldl
        (fun m g => put m g (s.tenant t).frameOpenAt) y.frameTimes) (f + 1) s.now }) := by
  have hnow : (s.measure t f (min 0xFFFFFFFF (s.now - (s.tenant t).frameOpenAt))).now = s.now := by
    simp [State.measure, State.unitWrite_now]
  unfold State.closeFrames
  dsimp only
  rw [hnow]

section
variable (s : State) (c : Cmd) (t : Nat) (ht : t = s.tenantOf c) (hg : s.gate 0x06 c false = none)
include ht hg

theorem State.runFrame_stale (h : frameIndex c < (s.tenant t).frame) :
    s.runFrame c = s.complete 0x06#8 c { status := 0x06, value := some (w32 (s.tenant t).frame) } := by
  subst ht
  unfold State.runFrame
  dsimp only
  rw [hg]
  exact if_pos h

theorem State.runFrame_outside (h : (s.tenant t).frame ≤ frameIndex c) (hc : s.frameCount t ≤ frameIndex c) :
    s.runFrame c = s.complete 0x06#8 c { status := 0x03, value := some (w32 (s.tenant t).frame) } := by
  subst ht
  unfold State.runFrame
  dsimp only
  rw [hg]
  exact (if_neg (by omega)).trans (if_pos hc)

theorem State.runFrame_closes (h : (s.tenant t).frame ≤ frameIndex c) (hc : frameIndex c < s.frameCount t) (z : State)
    (hz : z = (s.closeFrames t (frameIndex c)).reachFrame t) :
    s.runFrame c = z.complete 0x06#8 c { status := 0, value := some (w32 (z.tenant t).frame) } := by
  subst ht hz
  unfold State.runFrame
  dsimp only
  rw [hg]
  exact (if_neg (by omega)).trans (if_neg (by omega))

end

/-! ### STEP_BEGIN -/

theorem exec_stepBegin_taken (c : Cmd) (s : State) (h : Takes s c) :
    exec (.stepBegin c) s = .next ((s.taken 0x30#8 c).runBegin c).takeRaised :=
  State.command_run s 0x30#8 c (by decide) h

section
variable (s : State) (c : Cmd)

theorem State.runBegin_attached (h : s.tiers.host = .attached) : s.runBegin c = s.beginStep c := if_neg (by simp [h])

theorem State.beginStep_opens (h : s.beginRefusal c = none) : s.beginStep c =
    (s.openStep (s.tenantOf c) (stepNumber c)).complete 0x30#8 c { status := 0, value := some (stepNumber c) } := by
  unfold State.beginStep
  rw [h]

theorem State.beginStep_refused (st : Nat) (h : s.beginRefusal c = some st) :
    s.beginStep c = s.complete 0x30#8 c { status := st } := by
  unfold State.beginStep
  rw [h]
  rfl

section
variable (hh : s.tiers.host ≠ .attached)
include hh

/-- A STEP_BEGIN waits for the host in its tenant's hold slot (R227). -/
theorem State.runBegin_held (h : (s.tenant (s.tenantOf c)).held = none) : s.runBegin c =
    { (s.modTenant (s.tenantOf c) (fun x => { x with held := some c })).raise 0x06 2 with
      tiers := { s.tiers with host := .heldSteps } } := by
  unfold State.runBegin
  dsimp only
  rw [if_pos hh, if_neg (by simp [h])]
  rfl

theorem State.runBegin_second (h : (s.tenant (s.tenantOf c)).held.isSome = true) :
    s.runBegin c = s.complete 0x30#8 c { status := 0x02 } := (if_pos hh).trans (if_pos h)

end

end

/-! ### STEP_END -/

theorem exec_stepEnd_taken (c : Cmd) (s : State) (h : Takes s c) :
    exec (.stepEnd c) s = .next ((s.taken 0x31#8 c).runEnd c).takeRaised :=
  State.command_run s 0x31#8 c (by decide) h

section
variable (s : State) (c : Cmd) (t : Nat) (ht : t = s.tenantOf c) (hr : cmdReserved 0x31 c = false)
  (ho : (s.tenant t).stepOpen = true)
include ht hr ho

theorem State.runEnd_abandons (hf : cmdFlag0 c = true) : s.runEnd c =
    ((s.abandon t).closeStep t true).complete 0x31#8 c { status := 0, value := some (w32 (s.tenantSlates t).length) } := by
  subst ht
  simp [State.runEnd, hr, ho, hf]

theorem State.runEnd_refused (hf : cmdFlag0 c = false) (hl : s.tenantSlates t ≠ []) :
    s.runEnd c = s.complete 0x31#8 c { status := 0x07 } := by
  subst ht
  simp [State.runEnd, hr, ho, hf, hl, State.refuse]

theorem State.runEnd_closes (hf : cmdFlag0 c = false) (hl : s.tenantSlates t = []) :
    s.runEnd c = (s.closeStep t false).complete 0x31#8 c { status := 0, value := some 0#32 } := by
  subst ht
  simp [State.runEnd, hr, ho, hf, hl]

end

end Sys2Proof.Machine
end

section
/-! SUPPORT. Commands that end with their completion, and those that are turned away (R71, R72, R75, R77, R272). -/

namespace Sys2Proof.Machine

/-! ### A command that ends with its completion -/

section
variable (s : State) (op : BitVec 8) (c : Cmd) (a : Answer)

/-- A command whose run raises no event and ends with its completion: one completion leaves, and its ticket is answered. -/
theorem State.command_answers (z : State) (h : Takes s c) (hp : (s.queuedAlone op c).prepare (op, c) = s.queuedAlone op c)
    (hw : s.mustWait (op, c) = false) (hr : (s.taken op c).runCmd op c = z.complete op c a)
    (hq : z.recorder.raised = []) (hz : z.port = (s.taken op c).port) :
    (s.command op c).ends = .next (z.completed (s.port.entry op c) op c a) := by
  have e : z.complete op c a = z.completed (s.port.entry op c) op c a :=
    State.complete_plain z op c a _ (by rw [hz]; exact State.taken_executing s op c h.alone) rfl
  rw [State.command_ends s op c h hp hw, hr, e, State.takeRaised_nil (z.completed _ op c a) hq]

/-- A command that only completes changes the port, the completions and the free values alone (R72). -/
theorem State.command_onlyCompletes (h : Takes s c) (hp : (s.queuedAlone op c).prepare (op, c) = s.queuedAlone op c)
    (hw : s.mustWait (op, c) = false) (hr : (s.taken op c).runCmd op c = (s.taken op c).complete op c a) :
    ∃ u : State, (s.command op c).ends = .next u ∧ Completes s u op c a
      ∧ { u with port := s.port, out := s.out, draws := s.draws } = s :=
  ⟨_, State.command_answers s op c a _ h hp hw hr h.quiet rfl, rfl, rfl⟩

end

/-! ### Opcodes that the table does not define -/

section
variable (op : BitVec 8) (h : op ∉ opcodes)
include h

theorem State.runCmd_undefined (s : State) (c : Cmd) : s.runCmd op c = s.complete op c { status := 0x0C } := by
  have key : ∀ n, BitVec.ofNat 8 n ∈ opcodes → op.toNat ≠ n := by
    rintro _ hn rfl
    exact h (by simpa using hn)
  unfold State.runCmd
  split
  case h_16 => rfl
  all_goals
    next e => exact absurd e (key _ (by decide))

theorem waitingOps_undefined : op ∉ waitingOps := by
  have sub : ∀ k ∈ waitingOps, k ∈ opcodes := by decide
  exact fun hw => h (sub op hw)

end

/-! ### Commands that end before they name a slate -/

section
variable (s : State) (c : Cmd) (st : Nat)

section
variable (op : Nat) (halts : Bool) (hd : op = 0x04 → s.deadTag (s.tenantOf c) c.tag.toNat = false)
include hd

/-- Only the CALL of a dead tag passes the gate in a halted step (R247). -/
theorem State.halts_undead : (halts && !(op == 0x04 && s.deadTag (s.tenantOf c) c.tag.toNat)) = halts := by
  by_cases h4 : op = 0x04
  · simp [hd h4]
  · simp [h4]

/-- With no entry for its tag a command that names a slate answers NO_ENTRY. -/
theorem State.named_noEntry (hg : s.gate op c halts = none) (he : s.entryOfTag (s.tenantOf c) c.tag.toNat = none) :
    s.named op c halts = .status 0x01 := by
  unfold State.named
  dsimp only
  rw [State.halts_undead s c op halts hd, hg]
  dsimp only
  rw [he]

/-- The gate's status ends a command that names a slate. -/
theorem State.named_gated (hg : s.gate op c halts = some st) : s.named op c halts = .status st :=
  State.named_status s c op halts st (by rw [State.halts_undead s c op halts hd, hg])

end

theorem State.runInline_status (h : s.named 0x02 c false = .status st) :
    s.runInline c = s.complete 0x02#8 c { status := st } := by
  unfold State.runInline
  rw [h]
  rfl

theorem State.runSeal_status (h : s.named 0x03 c true = .status st) : s.runSeal c = s.complete 0x03#8 c { status := st } := by
  unfold State.runSeal
  rw [h]
  rfl

theorem State.runRelease_status (h : s.named 0x05 c false = .status st) :
    s.runRelease c = s.complete 0x05#8 c { status := st } := by
  unfold State.runRelease
  rw [h]
  rfl

theorem State.runOpen_gated (h : s.gate 0x01 c true = some st) : s.runOpen c = s.complete 0x01#8 c { status := st } := by
  unfold State.runOpen
  dsimp only
  rw [h]
  rfl

theorem State.runOpen_noEntry (hg : s.gate 0x01 c true = none) (hm : cmdFlag0 c = true → cmdMask c = 0)
    (he : s.entryOfTag (s.tenantOf c) c.tag.toNat = none) : s.runOpen c = s.complete 0x01#8 c { status := 0x01 } := by
  unfold State.runOpen
  dsimp only
  rw [hg]
  dsimp only
  rw [if_neg (fun hf => hf.2 (hm hf.1)), he]
  rfl

theorem State.runFrame_gated (h : s.gate 0x06 c false = some st) : s.runFrame c = s.complete 0x06#8 c { status := st } := by
  unfold State.runFrame
  dsimp only
  rw [h]
  rfl

theorem State.runProp_gated (h : s.gate 0x20 c true = some st) : s.runProp c = s.complete 0x20#8 c { status := st } := by
  unfold State.runProp
  dsimp only
  rw [h]
  rfl

theorem State.runProp_noEntry (hg : s.gate 0x20 c true = none) (he : s.entryOfTag (s.tenantOf c) c.tag.toNat = none) :
    s.runProp c = s.complete 0x20#8 c { status := 0x01 } := by
  unfold State.runProp
  dsimp only
  rw [hg]
  dsimp only
  rw [he]
  rfl

/-! ### A SEAL with nothing to hand over -/

theorem State.sealOf_status (h : s.named 0x03 c true = .status st) : s.sealOf c = none := by
  unfold State.sealOf
  rw [h]
  split <;> rfl

theorem State.prepare_unsealed (h : s.sealOf c = none) : s.prepare (0x03#8, c) = s := by
  simp [State.prepare, h]

theorem State.mustWait_unsealed (h : s.sealOf c = none) : s.mustWait (0x03#8, c) = false := by
  simp [State.mustWait, eyeOp, h]

/-! ### Eyelet commands -/

/-- An eyelet command waits only for its tenant's context (R293). -/
theorem State.mustWait_eye (op : BitVec 8) (hop : eyeOp op = true) (h : s.ctxHolds (s.tenantOf c) = false) :
    s.mustWait (op, c) = false := by
  simp only [eyeOp, Bool.or_eq_true, beq_iff_eq] at hop
  rcases hop with (rfl | rfl) | rfl <;> simp [State.mustWait, h]

end

end Sys2Proof.Machine
end

section
/-! SUPPORT. OPEN and WRITE_INLINE of a slate (R59, R73, R74, R77). -/

namespace Sys2Proof.Machine

/-! ### OPEN -/

/-- Record i is opened for an entry of a tenant's step (R59, R64). -/
def State.openedAs (s : State) (i t ei : Nat) (e : Entry) (inline : Bool) (mask : Nat) : State :=
  ((s.setSlate i { Slate.freed (((s.slate i).gen + 1) % 256) with
      state := .opened, tenant := t, entryIndex := ei, entry := some e, inline := inline, writerMask := mask }).setExtent i
    Extent.init).modTenant t (fun y => { y with opened := y.opened ++ [ei] })

section
variable (s : State) (i t ei : Nat) (e : Entry) (inline : Bool) (mask : Nat)

theorem State.openRecord_eq (hf : s.freeRecord = some i) (hn : ei ∉ (s.tenant t).opened) :
    s.openRecord t ei e inline mask = (s.openedAs i t ei e inline mask, i) := by
  have hc : (s.tenant t).opened.contains ei = false := by simpa using hn
  unfold State.openRecord State.openedAs State.modTenant
  rw [hf]
  simp only [Option.getD_some]
  rw [show ∀ x y, ((s.setSlate i x).setExtent i y).tenant t = s.tenant t from fun _ _ => rfl, if_neg (by rw [hc]; decide)]

theorem State.openedAs_slate (j : Nat) : (s.openedAs i t ei e inline mask).slate j = if j = i then
    { Slate.freed (((s.slate i).gen + 1) % 256) with
      state := .opened, tenant := t, entryIndex := ei, entry := some e, inline := inline, writerMask := mask }
    else s.slate j := State.slate_setSlate s i j _

theorem State.openedAs_extent (j : Nat) :
    (s.openedAs i t ei e inline mask).extent j = if j = i then Extent.init else s.extent j :=
  State.extent_setExtent s i j _

theorem State.openedAs_tenant (k : Nat) : (s.openedAs i t ei e inline mask).tenant k = if k = t then
    { s.tenant t with opened := (s.tenant t).opened ++ [ei] } else s.tenant k := State.tenant_setTenant s t k _

end

theorem State.gate_passes (s : State) (op : Nat) (c : Cmd) (halts : Bool) (hr : cmdReserved op c = false)
    (ho : (s.tenant (s.tenantOf c)).stepOpen = true) (hh : (s.tenant (s.tenantOf c)).halted = false) : s.gate op c halts = none := by
  simp [State.gate, hr, ho, hh]

theorem State.runOpen_opens (s z : State) (c : Cmd) (i ei : Nat) (e : Entry) (hg : s.gate 0x01 c true = none)
    (hm : cmdFlag0 c = true → cmdMask c = 0) (ht : s.entryOfTag (s.tenantOf c) c.tag.toNat = some ei)
    (he : s.entryAt (s.tenantOf c) ei = some e) (hn : ei ∉ (s.tenant (s.tenantOf c)).opened)
    (hs : s.hasSlot (s.tenantOf c) = true) (hf : s.freeRecord = some i)
    (hz : z = s.openedAs i (s.tenantOf c) ei e (cmdFlag0 c) (cmdMask c)) :
    s.runOpen c = z.complete 0x01#8 c
      { status := 0, slate := i, gen := ((s.slate i).gen + 1) % 256, result := some 1, value := some (w32 ei) } := by
  have hgen : (z.slate i).gen = ((s.slate i).gen + 1) % 256 := by rw [hz, State.openedAs_slate, if_pos rfl]; rfl
  unfold State.runOpen
  dsimp only
  rw [hg]
  dsimp only
  rw [if_neg (fun hk => hk.2 (hm hk.1)), ht]
  dsimp only
  rw [he]
  dsimp only
  rw [if_neg (by simpa using hn), if_neg (by simp [hs]), State.openRecord_eq s i _ ei e _ _ hf hn, ← hz]
  dsimp only
  rw [hgen]

/-! ### WRITE_INLINE -/

theorem patch_length (bs d : List Byte) (o : Nat) (h : o + d.length ≤ bs.length) : (patch bs o d).length = bs.length := by
  simp [patch]
  omega

theorem fitTo_length (n : Nat) (bs : List Byte) : (fitTo n bs).length = n := by
  simp [fitTo]
  omega

theorem fitTo_self (n : Nat) (bs : List Byte) (h : bs.length = n) : fitTo n bs = bs := by
  simp [fitTo, ← h]

theorem State.inlineBytes_setInline (s : State) (i j : Nat) (bs : List Byte) (h : bs.length = 4096) :
    (s.setInline i bs).inlineBytes j = if j = i then bs else s.inlineBytes j := by
  unfold State.inlineBytes State.setInline
  rw [look_put]
  split
  · exact fitTo_self 4096 bs h
  · rfl

theorem State.runInline_stores (s : State) (c : Cmd) (i : Nat) (hn : s.named 0x02 c false = .slate i)
    (ho : (s.slate i).state = .opened) (hi : (s.slate i).inline = true) (hb : (s.slate i).e.sizeBlocks = 1)
    (h0 : inlineBlock c = 0) (h1 : 1 ≤ inlineCount c) (h48 : inlineCount c ≤ 48) (hp : c.payload.length = 48)
    (hf : inlineOffset c + inlineCount c ≤ 4096) :
    s.runInline c = (s.setInline i (patch (s.inlineBytes i) (inlineOffset c) (c.payload.take (inlineCount c)))).complete 0x02#8 c
      { status := 0, slate := i, gen := (s.slate i).gen, value := some (w32 (inlineCount c)) } := by
  have hpad : inlineCount c - c.payload.length = 0 := by omega
  unfold State.runInline
  rw [hn]
  dsimp only
  rw [if_neg (by simp [ho, hi, hb]), if_neg (by omega), hpad, List.replicate_zero, List.append_nil]

end Sys2Proof.Machine
end

section
/-! SUPPORT. SEAL (R64, R66, R74, R83): what it waits for, what it hands over, and its application. -/

namespace Sys2Proof.Machine

/-! ### The slate of an entry after a change of its record -/

/-- The keys of the records that are not FREE, in their order. -/
def liveKeys (m : NMap Slate) : List Nat := (m.filter (fun p => p.2.state != .free)).map (·.1)

theorem liveKeys_cons (k : Nat) (v : Slate) (r : NMap Slate) :
    liveKeys ((k, v) :: r) = if v.state = .free then liveKeys r else k :: liveKeys r := by
  by_cases h : v.state = .free <;> simp [liveKeys, h]

/-- A live record that is found first is found first after it is written. -/
theorem find?_liveKeys_put (m : NMap Slate) (i : Nat) (x : Slate) (P Q : Nat → Bool) (hx : x.state ≠ .free) (hQ : Q i = true)
    (hPQ : ∀ k, k ≠ i → Q k = P k) (h : (liveKeys m).find? P = some i) : (liveKeys (put m i x)).find? Q = some i := by
  induction m with
  | nil => cases h
  | cons p r ih =>
    obtain ⟨k, v⟩ := p
    have front : ∀ l, (liveKeys ((i, x) :: l)).find? Q = some i := by
      intro l
      rw [liveKeys_cons, if_neg hx, List.find?_cons_of_pos hQ]
    unfold put
    split
    · exact front _
    · split
      · exact front _
      · next hki =>
        have hne : k ≠ i := fun e => hki e.symm
        rw [liveKeys_cons] at h ⊢
        split
        · next hv => exact ih (by rwa [if_pos hv] at h)
        · next hv =>
          rw [if_neg hv] at h
          by_cases hk : P k = true
          · rw [List.find?_cons_of_pos hk] at h
            exact absurd (Option.some.inj h) hne
          · rw [List.find?_cons_of_neg hk] at h
            rw [List.find?_cons_of_neg (by rw [hPQ k hne]; exact hk)]
            exact ih h

theorem State.slateOfEntry_liveKeys (s : State) (t e : Nat) : s.slateOfEntry t e = (liveKeys s.ledger).find? (fun i =>
    (s.slate i).tenant == t && ((s.slate i).entryIndex == e && !(s.slate i).releasePending)) := by
  rw [State.slateOfEntry, State.tenantSlates, List.find?_filter]
  simp [State.liveSlates, liveKeys]

/-- An entry keeps its slate when the record changes in none of the fields that tell it (R65). -/
theorem State.slateOfEntry_modSlate (s : State) (i t e : Nat) (f : Slate → Slate) (h : s.slateOfEntry t e = some i)
    (hs : (f (s.slate i)).state ≠ .free) (ht : (f (s.slate i)).tenant = (s.slate i).tenant)
    (he : (f (s.slate i)).entryIndex = (s.slate i).entryIndex)
    (hr : (f (s.slate i)).releasePending = (s.slate i).releasePending) : (s.modSlate i f).slateOfEntry t e = some i := by
  rw [State.slateOfEntry_liveKeys] at h ⊢
  refine find?_liveKeys_put s.ledger i _ _ _ hs ?_ (fun k hk => ?_) h
  · rw [State.slate_modSlate_same, ht, he, hr]
    have hP := List.find?_some h
    exact hP
  · rw [show (s.modSlate i f).slate k = s.slate k from (State.slate_setSlate s i k _).trans (if_neg hk)]

/-! ### The slate of a SEAL -/

section
variable (s : State) (c : Cmd) (i : Nat)

theorem State.sealOf_opened (hn : s.named 0x03 c true = .slate i) (ho : (s.slate i).state = .opened)
    (hf : ∀ k ∈ s.port.window, k.ticket ≠ c.ticket) : s.sealOf c = some i := by
  have hw : s.port.window.any (fun k => k.ticket == c.ticket) = false := by simpa using hf
  unfold State.sealOf
  rw [hw, hn]
  exact if_pos ho

theorem State.prepare_seal (h : s.sealOf c = some i) : s.prepare (0x03#8, c) = s.beginSeal i := by
  simp [State.prepare, h]

theorem State.mustWait_seal (h : s.sealOf c = some i) : s.mustWait (0x03#8, c) = s.sealBusy i := by
  simp [State.mustWait, eyeOp, h]

/-! ### The inline block is handed over -/

theorem mem_put_self {α : Type} (m : NMap α) (j : Nat) (x : α) : (j, x) ∈ put m j x := by
  induction m with
  | nil => simp [put]
  | cons p r ih =>
    obtain ⟨k, v⟩ := p
    unfold put
    split
    · exact List.mem_cons_self
    · split
      · exact List.mem_cons_self
      · exact List.mem_cons_of_mem _ ih

theorem State.handToLane_jobs (lane : Nat) (j : LaneJob) :
    (lane, s.laneJobs lane ++ [j]) ∈ (s.handToLane lane j).stitcher.jobs := by
  unfold State.handToLane State.setLaneJobs
  rw [if_neg (by simp)]
  exact mem_put_self _ _ _

/-- A block that was handed to a lane is with it (R133). -/
theorem State.handToLane_holds (lane : Nat) (j : LaneJob) (hj : j.gen = (s.slate j.slate).gen) :
    (s.handToLane lane j).laneHolds j.slate = true := by
  unfold State.laneHolds
  rw [List.any_eq_true]
  refine ⟨_, State.handToLane_jobs s lane j, ?_⟩
  rw [List.any_eq_true]
  refine ⟨j, by simp, ?_⟩
  rw [show (s.handToLane lane j).slate j.slate = s.slate j.slate from rfl, hj]
  simp

/-- The inline block of a slate goes to a lane (R74). -/
def State.inlineGiven (lane : Nat) : State :=
  (s.modSlate i (fun r => { r with inlineHanded := true })).handToLane lane
    ⟨i, (s.slate i).gen, 0, s.inlineBytes i, 0, none, none⟩ |>.bump64 R.STI_RAW_IN 4096

theorem State.beginSeal_hands (lane : Nat) (hi : (s.slate i).inline = true) (hh : (s.slate i).inlineHanded = false)
    (hl : (bitsOf s.stitcher.lanes 8)[0]? = some lane) : s.beginSeal i = s.inlineGiven i lane := by
  unfold State.beginSeal State.handInline
  dsimp only
  rw [if_pos (by simp [hi, hh]), hl]
  rfl

theorem State.beginSeal_handed (h : (s.slate i).inline = true → (s.slate i).inlineHanded = true) : s.beginSeal i = s := by
  refine if_neg ?_
  simp only [Bool.and_eq_true, Bool.not_eq_true', not_and, Bool.not_eq_false]
  exact h

theorem State.inlineGiven_slate (lane : Nat) : (s.inlineGiven i lane).slate i = { s.slate i with inlineHanded := true } :=
  State.slate_modSlate_same s i (fun r => { r with inlineHanded := true })

theorem State.inlineGiven_named (lane : Nat) (hn : s.named 0x03 c true = .slate i) (ho : (s.slate i).state = .opened) :
    (s.inlineGiven i lane).named 0x03 c true = .slate i := by
  obtain ⟨hg, e, he, hi⟩ := State.named_slate s c i 0x03 true hn
  have hi' : (s.inlineGiven i lane).slateOfEntry (s.tenantOf c) e = some i :=
    State.slateOfEntry_modSlate s i _ e (fun r => { r with inlineHanded := true }) hi (by simp [ho]) rfl rfl rfl
  have hg' : s.gate 0x03 c true = none := hg
  exact State.named_names (s.inlineGiven i lane) c i 0x03 true e hg' he hi'

/-- A SEAL whose inline block has just been handed over waits for it (R74, R133). -/
theorem State.inlineGiven_busy (lane : Nat) : (s.inlineGiven i lane).sealBusy i = true := by
  have hh : (s.inlineGiven i lane).laneHolds i = true :=
    State.handToLane_holds (s.modSlate i (fun r => { r with inlineHanded := true })) lane
      ⟨i, (s.slate i).gen, 0, s.inlineBytes i, 0, none, none⟩ (by rw [State.slate_modSlate_same])
  unfold State.sealBusy
  dsimp only
  rw [hh]
  simp

theorem State.sealBusy_free (h : (s.slate i).inline = true → (s.slate i).inlineHanded = true) (hl : s.laneHolds i = false)
    (hq : s.clicker.queue = []) : s.sealBusy i = false := by
  unfold State.sealBusy
  dsimp only
  rw [hl, hq]
  cases hi : (s.slate i).inline with
  | false => rfl
  | true => simp [h hi]

/-! ### The SEAL is applied -/

theorem State.runSeal_applies (hn : s.named 0x03 c true = .slate i) (ho : (s.slate i).state = .opened) :
    s.runSeal c = s.applySeal c i := by
  unfold State.runSeal
  rw [hn]
  exact if_pos ho

theorem State.applySeal_tears (h : sealBlocks c ≠ (s.slate i).e.sizeBlocks ∨ sealBlocks c ≠ (s.slate i).blocksWritten) :
    s.applySeal c i = (s.tear i 1).complete 0x03#8 c { status := 0x05, slate := i, gen := (s.slate i).gen } := if_pos h

theorem State.applySeal_seals (h : sealBlocks c = (s.slate i).e.sizeBlocks) (hw : sealBlocks c = (s.slate i).blocksWritten)
    (y : State) (hy : y = ((((s.closeExtent i).modSlate i (fun r => { r with state := .sealed })).fallbackRate i).reelCheck
      i).playCheck i) :
    s.applySeal c i = { y with clicker := { y.clicker with queue := y.clicker.queue ++
      [⟨i, (s.slate i).gen, some (y.tenant (s.slate i).tenant).frame, some c⟩] } } := by
  subst hy
  exact if_neg (by simp [← h, ← hw])

end

end Sys2Proof.Machine
end

section
/-! SUPPORT. The boundary of the command port, and the clicker's decision (R66, R78, R83, R107, R353, R374). -/

namespace Sys2Proof.Machine

/-! ### Commands at the boundary -/

/-- The commands of the engine command port, with their opcodes. -/
def portCommands (c : Cmd) : List (Instr × BitVec 8) :=
  [(.openSlate c, 0x01#8), (.writeInline c, 0x02#8), (.sealSlate c, 0x03#8), (.call c, 0x04#8), (.release c, 0x05#8),
   (.frame c, 0x06#8), (.reshootDone c, 0x07#8), (.eyeAdd c, 0x10#8), (.eyeWait c, 0x11#8), (.eyeSet c, 0x12#8),
   (.propCall c, 0x20#8), (.stepBegin c, 0x30#8), (.stepEnd c, 0x31#8), (.intermission c, 0x32#8), (.resume c, 0x33#8)]

theorem exec_portCommand (c : Cmd) (i : Instr) (op : BitVec 8) (h : (i, op) ∈ portCommands c) (s : State) :
    exec i s = (s.command op c).ends := by
  have key : ∀ q ∈ portCommands c, exec q.1 s = (s.command q.2 c).ends := by
    simp only [portCommands, List.forall_mem_cons]
    exact ⟨rfl, rfl, rfl, rfl, rfl, rfl, rfl, rfl, rfl, rfl, rfl, rfl, rfl, rfl, rfl, by simp⟩
  exact key _ h

section
variable (s : State) (op : BitVec 8) (c : Cmd)

/-- Before READY a command gets an error response (R374). -/
theorem State.command_unready (h : s.isReady = false) : s.command op c = s.boundaryError := by
  simp [State.command, State.arrive, h]

/-- While a wake from sleep is under way a command waits (R353). -/
theorem State.command_asleep (h : s.isReady = true) (ha : s.asleep = true) (hw : s.power.waking.isSome = true) :
    s.command op c = { s with power := { s.power with heldReqs := s.power.heldReqs ++ [.cmd op c] } } := by
  have hi : s.power.state ≠ .idle := by
    intro e
    simp [State.asleep, e] at ha
  have hm : s.mustHold (HeldReq.cmd op c).source = true := by simp [State.mustHold, ha]
  have hn : s.power.waking.isNone = false := by simpa using hw
  simp [State.command, State.arrive, h, hm, State.hold, State.rouse, State.setPower, hi, hn]

/-! ### Duplicates -/

/-- The window's entry for a copy of a command (R78, R79). -/
def State.copyTicket (k : Ticket) : Ticket :=
  { k with opcode := op, tenant := s.tenantOf c, tag := c.tag, queue := c.queue.val }

section
variable (k : Ticket) (d : Completion) (hf : s.port.window.find? (fun k => k.ticket == c.ticket) = some k)
  (hd : k.completion = some d)
include hf

/-- The SEAL of a duplicate hands nothing over. -/
theorem State.sealOf_duplicate : s.sealOf c = none := by
  have hk := List.find?_some hf
  have hw : s.port.window.any (fun k => k.ticket == c.ticket) = true :=
    List.any_eq_true.mpr ⟨k, List.mem_of_find?_eq_some hf, hk⟩
  unfold State.sealOf
  rw [if_pos hw]

theorem State.prepare_duplicate : s.prepare (op, c) = s := by
  by_cases h : op = 0x03#8
  · rw [h, State.prepare_unsealed s c (State.sealOf_duplicate s c k hf)]
  · exact State.prepare_other s op c h

include hd

/-- A copy of a completed command enters the window and is answered with its completion (R78). -/
theorem State.decode_duplicate : s.decode op c =
    (({ s with port := { s.port with decoded := (s.port.decoded + 1) % 2 ^ 32, lastOpcode := op } } : State).enterTicket
      (s.copyTicket op c k)).answerCopy (s.copyTicket op c k) d := by
  unfold State.decode
  dsimp only
  rw [hf]
  dsimp only
  split
  · next e h =>
    cases hd.symm.trans h
    rfl
  · next h => cases hd.symm.trans h

end

end

/-- What a copy that is answered leaves alone. -/
@[simp] theorem State.answerCopy_frame (s : State) (k : Ticket) (d : Completion) :
    (s.answerCopy k d).ledger = s.ledger ∧ (s.answerCopy k d).tenants = s.tenants ∧ (s.answerCopy k d).eyes = s.eyes
      ∧ (s.answerCopy k d).security = s.security := by
  simp [State.answerCopy]

theorem State.answerCopy_completions (s : State) (k : Ticket) (d : Completion) :
    (s.answerCopy k d).out.completions = s.out.completions ++ [{ d with queue := k.queue }] :=
  congrArg Outputs.completions (State.log_outputs ((s.outCompletion { d with queue := k.queue }).bump R.SHT_DUP_COUNT 1) _ _ _)

theorem State.answerCopy_counts (s : State) (k : Ticket) (d : Completion) :
    (s.answerCopy k d).reg R.SHT_DUP_COUNT = s.reg R.SHT_DUP_COUNT + 1#32 := by
  unfold State.answerCopy State.logDup State.reg
  rw [State.log_regKey _ _ _ _ _ (by decide)]
  exact State.regKey_setKey_same _ _ _

/-! ### The clicker -/

theorem exec_clickerDecision (s : State) (h : Runs s) : exec .clickerDecision s = .next s.clickerDecision.takeRaised :=
  congrArg State.ends (State.unit_runs s 1 _ h)

section
variable (s : State) (u : Undecided)

theorem State.clickerDecision_head (k : State) (rest : List Undecided) (h : s.clicker.queue = u :: rest)
    (hk : k = { s with clicker := { s.clicker with queue := rest } }) :
    s.clickerDecision = ((k.decideOne u).takeHalt).drain := by
  unfold State.clickerDecision
  rw [h, hk]

/-- A slate that was freed meanwhile is passed over (R66). -/
theorem State.decideOne_freed (h : (s.slate u.slate).gen ≠ u.gen) : s.decideOne u = s := if_pos (.inl h)

theorem State.decideOne_sealed (hg : (s.slate u.slate).gen = u.gen) (hs : (s.slate u.slate).state = .sealed) (z : State)
    (hz : z = (s.decideSlate u.slate (u.n.getD (s.tenant (s.slate u.slate).tenant).frame)).completeSeal u) :
    s.decideOne u = ((if (z.slate u.slate).callPending then z.actOnCall u.slate else z).reachSlate u.slate).tendJobs := by
  subst hz
  exact if_neg (by simp [hg, hs])

theorem State.takeHalt_halted (h : s.dbg.halted = true) : s.takeHalt = s := by simp [State.takeHalt, h]

/-- A halted sequencer with no step pending decodes nothing (R412). -/
theorem State.drain_halted (hh : s.seqHalt = true) (hp : s.dbg.stepPending = false) : s.drain = s := by
  unfold State.drain
  cases s.port.queue.length + s.port.stalled.length with
  | zero => rfl
  | succ n =>
    unfold State.drainCmds
    rw [hh, hp]
    simp

end

end Sys2Proof.Machine
end

section
/-! SUPPORT. SHT_CTRL, the end of a sheet's checks, and the selectors SLT_SEL and CUT_FC_SEL (R48, R49, R52, R61, R108). -/

namespace Sys2Proof.Machine

/-! ### Fields of a masked number -/

theorem fld_eq_and (w lo n : Nat) : fld w lo n = w >>> lo &&& 2 ^ n - 1 := (Nat.and_two_pow_sub_one_eq_mod _ n).symm

/-- A field that lies in a mask reads through it. -/
theorem fld_masked (w m lo n : Nat) (h : fld m lo n = 2 ^ n - 1) : fld (w &&& m) lo n = fld w lo n := by
  rw [fld_eq_and] at h
  rw [fld_eq_and, fld_eq_and, Nat.shiftRight_and_distrib, Nat.and_assoc, h]

/-! ### SHT_CTRL -/

theorem exec_sheetLoad (p : Port) (t : Fin 8) (s : State) :
    exec (.sheetLoad p t) s = (s.portWrite p R.SHT_CTRL (w32 (t.val + 256)) cleanTest).ends := rfl

theorem exec_sheetUnload (p : Port) (t : Fin 8) (s : State) :
    exec (.sheetUnload p t) s = (s.portWrite p R.SHT_CTRL (w32 (t.val + 512)) cleanTest).ends := rfl

/-- A served write of SHT_CTRL sets the tenant field, then acts. -/
theorem State.write_sheetControl (s : State) (p : Port) (n : Nat) (test : BootTest) (hn : n < 2 ^ 32)
    (h : Writes s p R.SHT_CTRL (w32 n)) :
    s.portWrite p R.SHT_CTRL (w32 n) test = ((s.accessed p R.SHT_CTRL).putFields R.SHT_CTRL 7 n).sheetAction n := by
  have hv : (w32 n).toNat = n := (BitVec.toNat_ofNat n 32).trans (Nat.mod_eq_of_lt hn)
  rw [State.write_SHT_CTRL s p _ test h, hv, State.putPlain_inst _ _ _ _ _ (by decide)]
  rfl

theorem State.putFields_recorder (s : State) (addr mask v : Nat) : (s.putFields addr mask v).recorder = s.recorder := rfl

theorem State.sheetAction_load (s : State) (t : Fin 8) : s.sheetAction (t.val + 256) = s.sheetLoad t.val := by
  have hb : ∀ t : Fin 8, fld (t.val + 256) 0 3 = t.val ∧ bitAt (t.val + 256) 8 = true ∧ bitAt (t.val + 256) 9 = false := by
    decide
  obtain ⟨hf, h8, h9⟩ := hb t
  simp [State.sheetAction, hf, h8, h9]

theorem State.sheetAction_unload (s : State) (t : Fin 8) : s.sheetAction (t.val + 512) = s.sheetUnload t.val := by
  have hb : ∀ t : Fin 8, fld (t.val + 512) 0 3 = t.val ∧ bitAt (t.val + 512) 8 = false ∧ bitAt (t.val + 512) 9 = true := by
    decide
  obtain ⟨hf, h8, h9⟩ := hb t
  simp [State.sheetAction, hf, h8, h9]

/-- A load takes what its checks compare with (R48, R415). -/
theorem State.sheetLoad_checks (s : State) (t : Nat) (h : (s.tenant t).check = none) :
    s.sheetLoad t = s.modTenant t (fun x => { x with check := some {
      base := s.reg64 R.SHT_BASE 0, bytes := (s.reg R.SHT_BYTES).toNat, ftbBase := s.reg64 R.SHT_FTB_BASE t,
      stepOpen := (s.tenant t).stepOpen, shelves := s.shelfCount t, quota := (s.part t).quota,
      caps := [1, 2, 3, 4].map (s.tierCap t), ens := [1, 2, 3, 4].map (s.tierEnabled t),
      books := 0 :: s.books.store.map (·.1) } }) := if_neg (by simp [h])

theorem State.sheetUnload_removes (s : State) (t : Nat) (ho : (s.tenant t).stepOpen = false) (hc : (s.tenant t).check = none) :
    s.sheetUnload t = s.setTenant t { s.tenant t with sheet := none, refused := false } := if_neg (by simp [ho, hc])

/-! ### The end of the checks -/

/-- What other masters write to memory stops no unit. -/
theorem Runs.external {s : State} (h : Runs s) (ext : List Host.Cell) : Runs (s.external ext) :=
  ⟨h.ready, h.clock, h.clear, h.settled, h.quiet⟩

theorem exec_sheetLoadDone (t : Fin 8) (ext : List Host.Cell) (s : State) (h : Runs s) :
    exec (.sheetLoadDone t ext) s = .next ((s.external ext).sheetDone t.val).takeRaised :=
  congrArg State.ends (State.unit_runs (s.external ext) 0 _ (h.external ext))

section
variable (s : State) (t : Nat) (c : SheetCheck) (hc : (s.tenant t).check = some c) (hm : s.memOpen c.base = true)
include hc hm

theorem State.sheetDone_refuses (r : SheetRefusal) (h : s.sheetFault t c = some r) : s.sheetDone t = s.refuseSheet t r := by
  unfold State.sheetDone
  rw [hc]
  dsimp only
  rw [if_neg (by simp [hm]), h]

theorem State.sheetDone_passes (h : s.sheetFault t c = none) : s.sheetDone t = s.passSheet t c := by
  unfold State.sheetDone
  rw [hc]
  dsimp only
  rw [if_neg (by simp [hm]), h]

end

/-! ### Selectors -/

theorem exec_sltSel (p : Port) (i : BitVec 16) (s : State) :
    exec (.sltSel p i) s = (s.portWrite p R.SLT_SEL (w32 i.toNat) cleanTest).ends := rfl

theorem exec_cutFcSel (p : Port) (v : Word) (s : State) :
    exec (.cutFcSel p v) s = (s.portWrite p R.CUT_FC_SEL v cleanTest).ends := rfl

theorem State.foldl_setReg_recorder (l : List (Nat × Nat)) (s : State) :
    (l.foldl (fun (s : State) q => s.setReg (R.SLT_REC + 4 * q.1) (w32 q.2)) s).recorder = s.recorder := by
  induction l generalizing s with
  | nil => rfl
  | cons q r ih => rw [List.foldl_cons, ih]; rfl

theorem State.selectSlate_recorder (s : State) (i : Nat) : (s.selectSlate i).recorder = s.recorder :=
  State.foldl_setReg_recorder _ _

/-- The slate index of SLT_SEL is the whole field. -/
theorem State.write_slateSelector (s : State) (p : Port) (i : BitVec 16) (test : BootTest)
    (h : Writes s p R.SLT_SEL (w32 i.toNat)) :
    s.portWrite p R.SLT_SEL (w32 i.toNat) test = (s.accessed p R.SLT_SEL).selectSlate i.toNat := by
  have hi : fld (w32 i.toNat).toNat 0 16 = i.toNat := by
    have := i.isLt
    simp [fld, w32]
    omega
  rw [State.write_SLT_SEL s p _ test h, hi]

/-- A forecast is selected by the fields of CUT_FC_SEL; tiers 5 to 7 select tier 0 (R108). -/
theorem State.write_forecastSelector (s z : State) (p : Port) (v : Word) (test : BootTest) (tier : Nat)
    (h : Writes s p R.CUT_FC_SEL v) (hz : z = s.accessed p R.CUT_FC_SEL)
    (ht : tier = if 4 < fld v.toNat 16 3 then 0 else fld v.toNat 16 3) :
    s.portWrite p R.CUT_FC_SEL v test = ((z.setReg R.CUT_FC_SEL (v &&& 0x70703FF#32)).setReg64 R.CUT_FC_VAL 0
      ((z.tenant (fld v.toNat 24 3)).fcAt tier (fld v.toNat 0 10) % 2 ^ 40)).setReg64 R.CUT_FC_CAP 0
        ((z.frozen (fld v.toNat 24 3)).cap.getD tier 0 % 2 ^ 40) := by
  have hput : (Put.mk R.CUT_FC_SEL v.toNat 0xFFFFFFFF).onto 0x70703FF 0 = v.toNat &&& 0x70703FF := by
    rw [Put.onto_word _ _ _ _ (by decide)]
    simp [mapMinus]
  rw [State.write_CUT_FC_SEL s p v test h, hput, ← hz]
  unfold State.selectForecast
  dsimp only
  rw [fld_masked v.toNat 0x70703FF 24 3 (by decide), fld_masked v.toNat 0x70703FF 16 3 (by decide),
    fld_masked v.toNat 0x70703FF 0 10 (by decide), ← ht, w32_and]
  rfl

end Sys2Proof.Machine
end

section
/-! SETTLED. The statements on slates, frames, steps and the call sheet: O6 to O10, O12, O14, O15, O20 and O34. -/

namespace Sys2Proof.Machine

/-- Settles O6: the run opens the lowest FREE record for the entry and completes; the record, its extent and the list of opened
entries are all that it writes. -/
theorem openAllocatesTheLowestFreeRecord : Obligations.OpenAllocatesTheLowestFreeRecord := by
  unfold Obligations.OpenAllocatesTheLowestFreeRecord
  intro c s ei i e h hr ho hh hm ht he hn hs hf
  have hrun := State.runOpen_opens (s.taken 0x01#8 c) _ c i ei e (State.gate_passes s 0x01 c true hr ho hh) hm ht he hn hs hf rfl
  refine ⟨_, State.command_completes s _ 0x01#8 c _ h (by decide) (State.mustWait_free s _ c (by decide)) hrun h.quiet rfl,
    ?_, ?_, fun j hj => ⟨?_, ?_⟩, ?_, fun k hk => ?_, rfl, rfl⟩
  · exact (State.openedAs_slate (s.taken 0x01#8 c) i _ ei e _ _ i).trans (if_pos rfl)
  · exact (State.openedAs_extent (s.taken 0x01#8 c) i _ ei e _ _ i).trans (if_pos rfl)
  · exact (State.openedAs_slate (s.taken 0x01#8 c) i _ ei e _ _ j).trans (if_neg hj)
  · exact (State.openedAs_extent (s.taken 0x01#8 c) i _ ei e _ _ j).trans (if_neg hj)
  · exact (State.openedAs_tenant (s.taken 0x01#8 c) i _ ei e _ _ _).trans (if_pos rfl)
  · exact (State.openedAs_tenant (s.taken 0x01#8 c) i _ ei e _ _ k).trans (if_neg hk)

/-- Settles O7: the run patches the slate's inline block, which keeps its 4,096 bytes, and completes. -/
theorem writeInlineStoresItsBytes : Obligations.WriteInlineStoresItsBytes := by
  unfold Obligations.WriteInlineStoresItsBytes
  intro c s i h hp hn ho hi hb h0 h1 h48 hf
  have hlen : (patch (s.inlineBytes i) (inlineOffset c) (c.payload.take (inlineCount c))).length = 4096 := by
    have hb : (s.inlineBytes i).length = 4096 := fitTo_length 4096 _
    rw [patch_length _ _ _ (by simp [hb, hp]; omega), hb]
  have hrun := State.runInline_stores (s.taken 0x02#8 c) c i hn ho hi hb h0 h1 h48 hp hf
  refine ⟨_, State.command_completes s _ 0x02#8 c _ h (by decide) (State.mustWait_free s _ c (by decide)) hrun h.quiet rfl,
    ?_, fun j hj => ?_, rfl, rfl⟩
  · exact (State.inlineBytes_setInline (s.taken 0x02#8 c) i i _ hlen).trans (if_pos rfl)
  · exact (State.inlineBytes_setInline (s.taken 0x02#8 c) i j _ hlen).trans (if_neg hj)

/-- Settles O8: an inline block handed over is with a lane, so its SEAL waits; a SEAL that waits for nothing runs, and its count
decides whether the slate is sealed or torn. -/
theorem sealGivesTheSlateToTheClicker : Obligations.SealGivesTheSlateToTheClicker := by
  unfold Obligations.SealGivesTheSlateToTheClicker
  rintro c s T i lane h rfl hn ho
  have hso : s.sealOf c = some i := State.sealOf_opened s c i hn ho h.fresh
  have hprep : (s.queuedAlone 0x03#8 c).prepare (0x03#8, c) = (s.queuedAlone 0x03#8 c).beginSeal i :=
    State.prepare_seal _ c i hso
  refine ⟨fun hi hh hl => ?_, fun hi hl hq => ?_⟩
  · have hgive : (s.queuedAlone 0x03#8 c).prepare (0x03#8, c) = (s.queuedAlone 0x03#8 c).inlineGiven i lane :=
      hprep.trans (State.beginSeal_hands _ i lane hi hh hl)
    have hso' : ((s.queuedAlone 0x03#8 c).inlineGiven i lane).sealOf c = some i :=
      State.sealOf_opened _ c i (State.inlineGiven_named (s.queuedAlone 0x03#8 c) c i lane hn ho)
        ((congrArg Slate.state (State.inlineGiven_slate (s.queuedAlone 0x03#8 c) i lane)).trans ho) h.fresh
    have hw : ((s.queuedAlone 0x03#8 c).prepare (0x03#8, c)).mustWait (0x03#8, c) = true := by
      rw [hgive, State.mustWait_seal _ c i hso', State.inlineGiven_busy]
    show (s.command 0x03#8 c).ends = _
    rw [State.command_alone s _ c h.arrives h.queue h.stalled h.running, State.decodeNext_waits s _ c h.unheld hw, hgive]
    rfl
  · have hp : (s.queuedAlone 0x03#8 c).prepare (0x03#8, c) = s.queuedAlone 0x03#8 c :=
      hprep.trans (State.beginSeal_handed _ i hi)
    have hw : s.mustWait (0x03#8, c) = false := by
      rw [State.mustWait_seal s c i hso, State.sealBusy_free s i hi hl hq]
    have hrun : exec (.sealSlate c) s = .next ((s.taken 0x03#8 c).applySeal c i).takeRaised := by
      rw [← State.runSeal_applies (s.taken 0x03#8 c) c i hn ho]
      exact State.command_ends s _ c h hp hw
    refine ⟨fun hb hc y hy => ?_, fun hb => ?_⟩
    · rw [hrun, State.applySeal_seals (s.taken 0x03#8 c) c i hb hc y hy]
      rfl
    · rw [hrun, State.applySeal_tears (s.taken 0x03#8 c) c i hb]
      rfl

/-- Settles O9: the tag names a slate of a step that is not halted, so a CALL of it does at once what the slate's state asks for; a
tag that is dead for the step answers LOST; RELEASE frees the record, or stops a running reshoot first. -/
theorem callAndReleaseActOnTheState : Obligations.CallAndReleaseActOnTheState := by
  unfold Obligations.CallAndReleaseActOnTheState
  refine ⟨?_, ?_, ?_⟩
  · rintro c s T y i r h rfl hn rfl hd hy
    have hT : (s.taken 0x04#8 c).named 0x04 c true = .slate i := hn
    have hdT : (s.taken 0x04#8 c).dropBad c ((s.taken 0x04#8 c).slate i).e = false := hd
    have hm : y.mayStart (y.slate i).tenant = true := by
      rw [hy]
      exact State.addCall_mayStart _ c i (State.call_mayStart _ c i hT)
    have hst : (y.slate i).state = (s.slate i).state := by
      rw [hy]
      exact State.addCall_state (s.taken 0x04#8 c) c i
    have hwait : ∀ st, (s.slate i).state = st → st ≠ .opened → st ≠ .lost → st ≠ .inUse →
        exec (.call c) s = .next ((y.actOnCall i).tendJobs).takeRaised := by
      rintro st rfl ho hl hu
      rw [exec_call_taken c s h, State.runCall_waits _ c i hT hdT ho hl hu, hy]
      rfl
    refine ⟨fun hs => ?_, fun hs => ?_, fun hs => ?_, fun hs => ?_, fun hs => ?_, fun hs => ?_, fun hs => ?_, fun hs => ?_,
      fun hs => ?_⟩
    · rw [exec_call_taken c s h, State.runCall_opened _ c i hT hdT hs]
      rfl
    · rw [exec_call_taken c s h, State.runCall_lost _ c i hT hdT hs]
      rfl
    · rw [exec_call_taken c s h, State.runCall_inUse _ c i hT hdT hs]
      rfl
    · rw [hwait _ hs (by decide) (by decide) (by decide), State.actOnCall_ready y i hm (hst.trans hs)]
    · rw [hwait _ hs (by decide) (by decide) (by decide), State.actOnCall_kept y i hm (hst.trans hs)]
    · rw [hwait _ hs (by decide) (by decide) (by decide), State.actOnCall_movingOut y i hm (hst.trans hs)]
    · rw [hwait _ hs (by decide) (by decide) (by decide), State.actOnCall_parked y i hm (hst.trans hs)]
    · rw [hwait _ hs (by decide) (by decide) (by decide), State.actOnCall_dropped y i hm (hst.trans hs)]
    · have hw : exec (.call c) s = .next ((y.actOnCall i).tendJobs).takeRaised := by
        rcases hs with hs | hs | hs <;> exact hwait _ hs (by decide) (by decide) (by decide)
      rw [hw, State.actOnCall_underWay y i (by rwa [hst])]
  · intro c s h hg hd
    have hn : (s.taken 0x04#8 c).named 0x04 c true = .status 0x0B := State.named_dead s c hg hd
    rw [exec_call_taken c s h, State.runCall_status _ c _ hn]
  · rintro c s T i r h rfl hn rfl
    have hT : (s.taken 0x05#8 c).named 0x05 c false = .slate i := hn
    rw [exec_release_taken c s h, State.runRelease_slate _ c i hT]
    refine ⟨fun hs => ?_, fun hs hj => ?_, fun hs hj => ?_⟩
    · rw [State.releaseSlate_settled (s.taken 0x05#8 c) i hs]
      rfl
    · rw [State.releaseSlate_running (s.taken 0x05#8 c) i hs hj, ← hs]
      rfl
    · rw [State.releaseSlate_waiting (s.taken 0x05#8 c) i hs hj, ← hs]
      rfl

/-- Settles O10: with no decision outstanding the command runs at once, and its index decides between a refusal and the close of
the frames up to it. -/
theorem frameClosesTheOpenFrame : Obligations.FrameClosesTheOpenFrame := by
  unfold Obligations.FrameClosesTheOpenFrame
  rintro c s T t x h rfl rfl rfl hg hd
  rw [exec_frame_taken c s h hd]
  refine ⟨fun hi => ?_, fun hi hc => ?_, fun hi hc y z hy hz => ?_⟩
  · rw [State.runFrame_stale (s.taken 0x06#8 c) c _ rfl hg hi]
    rfl
  · rw [State.runFrame_outside (s.taken 0x06#8 c) c _ rfl hg hi hc]
    rfl
  · have hclose : y = (s.taken 0x06#8 c).closeFrames (s.tenantOf c) (frameIndex c) :=
      hy.trans (State.closeFrames_eq (s.taken 0x06#8 c) _ _).symm
    rw [State.runFrame_closes (s.taken 0x06#8 c) c _ rfl hg hi hc z (by rw [hz, hclose]; rfl)]
    rfl

/-- Settles O12: STEP_BEGIN opens, refuses or holds a step by the host's state and the refusals of R75; STEP_END abandons the step, or
closes one that has no slate left. -/
theorem stepsBeginAndEnd : Obligations.StepsBeginAndEnd := by
  unfold Obligations.StepsBeginAndEnd
  rintro c s t h rfl
  constructor
  · rintro T rfl
    rw [exec_stepBegin_taken c s h]
    refine ⟨fun hh hr => ?_, fun st hh hr => ?_, fun hh hn => ?_, fun hh hn => ?_⟩
    · rw [State.runBegin_attached (s.taken 0x30#8 c) c hh, State.beginStep_opens (s.taken 0x30#8 c) c hr]
      rfl
    · rw [State.runBegin_attached (s.taken 0x30#8 c) c hh, State.beginStep_refused (s.taken 0x30#8 c) c st hr]
    · rw [State.runBegin_held (s.taken 0x30#8 c) c hh hn]
      rfl
    · rw [State.runBegin_second (s.taken 0x30#8 c) c hh hn]
  · rintro T rfl hr ho
    rw [exec_stepEnd_taken c s h]
    refine ⟨fun hf => ?_, fun hf hl => ?_, fun hf hl => ?_⟩
    · rw [State.runEnd_abandons (s.taken 0x31#8 c) c _ rfl hr ho hf]
      rfl
    · rw [State.runEnd_refused (s.taken 0x31#8 c) c _ rfl hr ho hf hl]
    · rw [State.runEnd_closes (s.taken 0x31#8 c) c _ rfl hr ho hf hl]
      rfl

/-- Settles O14: a command turned away does nothing but complete; each ends at its opcode, at the gate, at its tag or at a reserved
bit. -/
theorem rejectedCommandsComplete : Obligations.RejectedCommandsComplete := by
  unfold Obligations.RejectedCommandsComplete
  refine ⟨?_, ?_, ?_⟩
  · intro op c s h hop
    have hw : op ∉ waitingOps := waitingOps_undefined op hop
    exact State.command_onlyCompletes s op c _ h (State.prepare_free _ op c hw) (State.mustWait_free s op c hw)
      (State.runCmd_undefined op hop _ c)
  · intro c s i op halts st h hi hr hd hl
    have plain : op ≠ 0x03#8 → (op ∉ waitingOps ∨ op = 0x06#8 ∨ op = 0x20#8) →
        (s.taken op c).runCmd op c = (s.taken op c).complete op c { status := st } →
        ∃ u : State, (s.command op c).ends = .next u ∧ Completes s u op c { status := st }
          ∧ { u with port := s.port, out := s.out, draws := s.draws } = s := fun hop how hrun =>
      State.command_onlyCompletes s op c _ h (State.prepare_other _ op c hop)
        (how.elim (State.mustWait_free s op c) (fun hf => State.mustWait_decided s op c hf (hd hf))) hrun
    have named : s.named op.toNat c halts = .status st := by
      have hd4 : op.toNat = 0x04 → s.deadTag (s.tenantOf c) c.tag.toNat = false := fun e => hl (BitVec.eq_of_toNat_eq e)
      rcases hr with hg | ⟨hg, -, he, rfl, -⟩
      · exact State.named_gated s c st _ halts hd4 hg
      · exact State.named_noEntry s c _ halts hd4 hg he
    simp only [List.mem_cons, Prod.mk.injEq, List.not_mem_nil, or_false] at hi
    rcases hi with ⟨rfl, rfl, rfl⟩ | ⟨rfl, rfl, rfl⟩ | ⟨rfl, rfl, rfl⟩ | ⟨rfl, rfl, rfl⟩ | ⟨rfl, rfl, rfl⟩ | ⟨rfl, rfl, rfl⟩ |
      ⟨rfl, rfl, rfl⟩
    · refine plain (by decide) (.inl (by decide)) ?_
      rcases hr with hg | ⟨hg, -, he, rfl, hm⟩
      · exact State.runOpen_gated (s.taken _ c) c st hg
      · exact State.runOpen_noEntry (s.taken _ c) c hg hm he
    · exact plain (by decide) (.inl (by decide)) (State.runInline_status (s.taken _ c) c st named)
    · have hn : s.named 0x03 c true = .status st := named
      have hs : s.sealOf c = none := State.sealOf_status s c st hn
      exact State.command_onlyCompletes s _ c _ h (State.prepare_unsealed (s.queuedAlone _ c) c hs) (State.mustWait_unsealed s c hs)
        (State.runSeal_status (s.taken _ c) c st hn)
    · exact plain (by decide) (.inl (by decide)) (State.runCall_status (s.taken _ c) c st named)
    · exact plain (by decide) (.inl (by decide)) (State.runRelease_status (s.taken _ c) c st named)
    · refine plain (by decide) (.inr (.inl rfl)) ?_
      rcases hr with hg | ⟨-, hne, -⟩
      · exact State.runFrame_gated (s.taken _ c) c st hg
      · exact absurd rfl hne
    · refine plain (by decide) (.inr (.inr rfl)) ?_
      rcases hr with hg | ⟨hg, -, he, rfl, -⟩
      · exact State.runProp_gated (s.taken _ c) c st hg
      · exact State.runProp_noEntry (s.taken _ c) c hg he
  · intro c s i op h hx hi hr
    have eye : eyeOp op = true → op ≠ 0x03#8 → (s.taken op c).runCmd op c = (s.taken op c).refuseEye op c →
        ∃ u : State, (s.command op c).ends = .next u
          ∧ Completes s u op c { status := 3, value := (s.cmdEye c).map (fun e => (s.eyelet e).count - (s.eyelet e).target) }
          ∧ { u with port := s.port, out := s.out, draws := s.draws } = s := fun he hop hrun =>
      State.command_onlyCompletes s op c _ h (State.prepare_other _ op c hop) (State.mustWait_eye s c op he hx) hrun
    simp only [List.mem_cons, Prod.mk.injEq, List.not_mem_nil, or_false] at hi
    rcases hi with ⟨rfl, rfl⟩ | ⟨rfl, rfl⟩ | ⟨rfl, rfl⟩
    · exact eye rfl (by decide) (if_pos hr)
    · exact eye rfl (by decide) (if_pos hr)
    · exact eye rfl (by decide) (if_pos hr)

/-- Settles O15: a command meets an error before READY, waits for a wake under way, and as a duplicate hands nothing over and is
answered from the window. -/
theorem commandsWaitOrFailAtTheBoundary : Obligations.CommandsWaitOrFailAtTheBoundary := by
  unfold Obligations.CommandsWaitOrFailAtTheBoundary
  intro c s i op hi hr
  rw [exec_portCommand c i op hi s]
  refine ⟨fun h => ?_, fun h ha hw => ?_, fun k d h hq hs hh hu hw hf hd => ?_⟩
  · rw [State.command_unready s op c h]
    exact ⟨_, State.ends_nil s.boundaryError hr, rfl, rfl⟩
  · rw [State.command_asleep s op c h ha hw]
    exact State.ends_nil _ hr
  · have hp : (s.queuedAlone op c).prepare (op, c) = s.queuedAlone op c := State.prepare_duplicate _ op c k hf
    rw [State.command_alone s op c h hq hs hh, State.decodeNext_decodes s op c hq hs hu hp hw, State.takeRaised_ends,
      State.decode_duplicate s op c k d hf hd]
    refine ⟨_, rfl, ?_, by simp, by simp, by simp, by simp, ?_⟩
    · simp [State.answerCopy_completions, State.copyTicket]
    · unfold State.reg
      rw [State.takeRaised_regKey _ _ (by decide) (by decide)]
      exact State.answerCopy_counts _ _ d

/-- Settles O20: the slate at the head is decided, its SEAL completes and what waits on it acts; one that was freed is passed over. -/
theorem clickerDecidesTheHeadOfItsQueue : Obligations.ClickerDecidesTheHeadOfItsQueue := by
  unfold Obligations.ClickerDecidesTheHeadOfItsQueue
  intro s k u rest h hq hk
  have hslate : k.slate = s.slate := by rw [hk]; rfl
  have htenant : k.tenant = s.tenant := by rw [hk]; rfl
  rw [exec_clickerDecision s h, State.clickerDecision_head s u k rest hq hk]
  refine ⟨fun hg hs d z hd hz => ?_, fun hg hh hb hp => ?_⟩
  · have hseal : z = d.completeSeal u := by
      rw [hz]
      unfold State.completeSeal
      cases u.cmd <;> rfl
    rw [State.decideOne_sealed k u (by rwa [hslate]) (by rwa [hslate]) z (by rw [hseal, hd, hslate, htenant])]
  · have hh : k.seqHalt = true := by rw [hk]; exact hh
    have hb : k.dbg.halted = true := by rw [hk]; exact hb
    have hp : k.dbg.stepPending = false := by rw [hk]; exact hp
    have hr : k.recorder.raised = [] := by rw [hk]; exact h.quiet
    rw [State.decideOne_freed k u (by rwa [hslate]), State.takeHalt_halted k hb, State.drain_halted k hh hp,
      State.takeRaised_nil k hr]

/-- Settles O34: a served write of SHT_CTRL sets its tenant field and starts the load or the unload; the checks end in the first
fault or in the new sheet; a selector's write copies what it names. -/
theorem sheetsLoadAndSelectorsShow : Obligations.SheetsLoadAndSelectorsShow := by
  unfold Obligations.SheetsLoadAndSelectorsShow
  refine ⟨?_, ?_, ?_, ?_, ?_⟩
  · rintro p t s y h hy hc
    have hr : y.recorder.raised = [] := by rw [hy, State.putFields_recorder, State.accessed_recorder, h.quiet]
    rw [exec_sheetLoad, State.write_sheetControl s p _ _ (by omega) h, State.sheetAction_load, ← hy, State.sheetLoad_checks y _ hc]
    exact State.ends_nil _ hr
  · rintro t ext s y c h hc hm rfl
    rw [exec_sheetLoadDone t ext s h]
    refine ⟨fun r hr => ?_, fun hf => ?_⟩
    · rw [State.sheetDone_refuses (s.external ext) _ c hc hm r hr]
      rfl
    · rw [State.sheetDone_passes (s.external ext) _ c hc hm hf]
      rfl
  · rintro p t s y h hy ho hc
    have hr : y.recorder.raised = [] := by rw [hy, State.putFields_recorder, State.accessed_recorder, h.quiet]
    rw [exec_sheetUnload, State.write_sheetControl s p _ _ (by omega) h, State.sheetAction_unload, ← hy,
      State.sheetUnload_removes y _ ho hc]
    exact State.ends_nil _ hr
  · rintro p i s z h rfl
    rw [exec_sltSel, State.write_slateSelector s p i _ h]
    refine State.ends_nil _ ?_
    rw [State.selectSlate_recorder, State.accessed_recorder, h.quiet]
  · rintro p v s z tier h hz ht
    have hr : z.recorder.raised = [] := by rw [hz, State.accessed_recorder, h.quiet]
    rw [exec_cutFcSel, State.write_forecastSelector s z p v _ tier h hz ht]
    exact State.ends_nil _ hr

end Sys2Proof.Machine
end

section
/-! SUPPORT. The clicker's choice (R94, R96, R97): the first of least cost or of least need, the order in which outcomes are
evaluated, and what a decision without a forced placement, a pin or a reel commits. -/

namespace Sys2Proof.Machine

/-! ### The first of least cost, and of least need -/

/-- Of several elements of least value argmin takes the first: all before it are greater, and none after it is smaller. -/
theorem argmin_eq_some_iff_append {α : Type} (f : α → Nat) (l : List α) (o : α) :
    l.argmin f = some o ↔ ∃ a b, l = a ++ o :: b ∧ (∀ x ∈ a, f o < f x) ∧ (∀ x ∈ b, f o ≤ f x) := by
  constructor
  · intro h
    induction l with
    | nil => cases h
    | cons x l ih =>
      rw [List.argmin_cons] at h
      rcases hl : l.argmin f with - | y
      · rw [hl] at h
        obtain rfl := Option.some.inj h
        exact ⟨[], [], by rw [List.argmin_eq_none.mp hl]; rfl, by simp, by simp⟩
      · rw [hl] at h
        dsimp only at h
        split at h <;> obtain rfl := Option.some.inj h
        · obtain ⟨a, b, rfl, ha, hb⟩ := ih hl
          exact ⟨x :: a, b, rfl, by simpa using ⟨‹_›, ha⟩, hb⟩
        · exact ⟨[], l, rfl, by simp, fun z hz => (not_lt.mp ‹_›).trans (List.le_of_mem_argmin hz hl)⟩
  · rintro ⟨a, b, rfl, ha, hb⟩
    induction a with
    | nil =>
      rw [List.nil_append, List.argmin_cons]
      rcases hl : b.argmin f with - | y
      · rfl
      · exact if_neg (not_lt.mpr (hb y (List.argmin_mem hl)))
    | cons x a ih =>
      rw [List.cons_append, List.argmin_cons, ih (fun z hz => ha z (List.mem_cons_of_mem x hz))]
      exact if_pos (ha x List.mem_cons_self)

theorem cheapest_eq_argmin (l : List Choice) : cheapest l = l.argmin Choice.cost := by
  induction l with
  | nil => rfl
  | cons x l ih =>
    rw [List.argmin_cons, ← ih, cheapest]
    cases cheapest l <;> rfl

theorem leastNeed_eq_argmin (l : List Choice) : leastNeed l = l.argmin Choice.need := by
  induction l with
  | nil => rfl
  | cons x l ih =>
    rw [List.argmin_cons, ← ih, leastNeed]
    cases leastNeed l <;> rfl

theorem cheapest_nil : cheapest [] = none := rfl

theorem leastNeed_nil : leastNeed [] = none := rfl

/-! ### The order of evaluation (R94) -/

/-- The outcome and the tier of what was evaluated. -/
def Choice.place (x : Choice) : Placed × Nat := (x.o, x.t)

/-- An outcome that is listed where a test passes stands alone or not at all. -/
theorem Choice.place_of_test (c : Prop) [Decidable c] (x : Choice) :
    ((if c then [x] else []).map Choice.place).Sublist [x.place] := by
  split
  · exact List.Sublist.refl _
  · exact List.nil_sublist _

theorem State.evalKeep_place (s : State) (t g n : Nat) (e : Entry) :
    ((s.evalKeep t g n e).map Choice.place).Sublist [(.keep, 0)] := by
  unfold State.evalKeep
  dsimp only
  exact Choice.place_of_test _ _

theorem State.evalMove_place (s : State) (timed : Bool) (t g n tier : Nat) (e : Entry) :
    ((s.evalMove timed t g n tier e).map Choice.place).Sublist [(outcomeOf tier, tier)] := by
  unfold State.evalMove
  dsimp only
  split
  · exact List.nil_sublist _
  · exact Choice.place_of_test _ _

theorem State.evalReshoot_place (s : State) (timed : Bool) (t g n : Nat) (e : Entry) :
    ((s.evalReshoot timed t g n e).map Choice.place).Sublist [(.reshoot, 5)] := by
  unfold State.evalReshoot
  dsimp only
  split
  · exact List.nil_sublist _
  · exact Choice.place_of_test _ _

/-- The moves are evaluated in the order SHELVE, SHIP to tier 2, SHIP to tier 4, STORE. -/
theorem State.evalMoves_place (s : State) (timed : Bool) (t g n : Nat) (e : Entry) :
    (([1, 2, 4, 3].flatMap (fun tier => s.evalMove timed t g n tier e)).map Choice.place).Sublist
      [(.shelve, 1), (.ship, 2), (.ship, 4), (.store, 3)] := by
  simp only [List.flatMap_cons, List.flatMap_nil, List.map_append, List.map_nil]
  have move := s.evalMove_place timed t g n
  exact (move 1 e).append ((move 2 e).append ((move 4 e).append ((move 3 e).append (List.Sublist.refl []))))

theorem State.evaluate_place (s : State) (timed withKeep : Bool) (t g n : Nat) (e : Entry) :
    ((s.evaluate timed withKeep t g n e).map Choice.place).Sublist
      [(.keep, 0), (.shelve, 1), (.ship, 2), (.ship, 4), (.store, 3), (.reshoot, 5)] := by
  have keep : ((if withKeep then s.evalKeep t g n e else []).map Choice.place).Sublist [(.keep, 0)] := by
    split
    · exact s.evalKeep_place t g n e
    · exact List.nil_sublist _
  rw [State.evaluate, List.map_append, List.map_append]
  exact (keep.append (s.evalMoves_place timed t g n e)).append (s.evalReshoot_place timed t g n e)

/-! ### A decision that nothing forces (R97) -/

/-- The score of a decision that nothing forces: how much more than KEEP the cheapest other outcome costs (R95). -/
def freshScore (l : List Choice) (o : Choice) : Nat :=
  match o.o, cheapest (l.filter (fun x => x.o != .keep)) with
  | .keep, some x => min 0xFFFFFFFF (x.cost - o.cost)
  | _, _ => 0xFFFFFFFF

/-- Without a forced placement or a pin the cheapest outcome is committed, and where there is none the fallback decides. -/
theorem State.decideFresh_free (s : State) (i n : Nat) (l : List Choice) (hk : (s.slate i).e.mustKeep = false)
    (hp : (s.slate i).e.pinTier = false) (hd : (s.frozen (s.slate i).tenant).pinDefault (s.slate i).e.streamClass = 0)
    (hl : l = s.evaluate true true (s.slate i).tenant (s.slate i).coded n (s.slate i).e) :
    s.decideFresh i n = match cheapest l with
      | none => s.fallback i n false
      | some o => s.commit i o.oe ⟨o.o, o.t, o.p, n, freshScore l o, o.cost, false, false⟩ := by
  unfold State.decideFresh
  dsimp only
  rw [hk, hp, hd]
  simp only [Bool.false_eq_true, if_false, ne_eq, not_true_eq_false, decide_false]
  rw [← hl]
  cases cheapest _ with
  | none => rfl
  | some o => rfl

section
variable (s x : State) (i n : Nat) (forced : Bool)
  (hx : x = (s.bump R.CUT_FALLBACKS 1).modTenant (s.slate i).tenant (fun y => { y with fallbacks := y.fallbacks + 1 }))
include hx

/-- The fallback is counted, and commits the first outcome of least need (R96). -/
theorem State.fallback_takes (o : Choice)
    (ho : leastNeed (x.evaluate false true (s.slate i).tenant (s.slate i).coded n (s.slate i).e) = some o) :
    s.fallback i n forced = x.commit i o.oe ⟨o.o, o.t, o.p, n, 0xFFFFFFFF, o.cost, true, forced⟩ := by
  subst hx
  unfold State.fallback
  dsimp only
  rw [ho]

/-- Where no outcome passes, the fallback commits KEEP (R96). -/
theorem State.fallback_keeps_slate
    (he : x.evaluate false true (s.slate i).tenant (s.slate i).coded n (s.slate i).e = []) :
    s.fallback i n forced = x.commit i 0 ⟨.keep, 0, (s.frozen (s.slate i).tenant).backMin (s.slate i).e.callFrame
      (s.frozen (s.slate i).tenant).margin n, n, 0xFFFFFFFF, 0, true, forced⟩ := by
  subst hx
  unfold State.fallback
  dsimp only
  rw [he, leastNeed_nil]
end

end Sys2Proof.Machine
end

section
/-! SUPPORT. Reshoot jobs, the dispatcher and the retake lanes (R100, R103, R146, R149, R155, R158, R160, R161). -/

namespace Sys2Proof.Machine

/-! ### When their events run -/

theorem exec_reshootJobStart (s : State) (h : Runs s) : exec .reshootJobStart s = .next s.startWaiting.drain.takeRaised :=
  congrArg State.ends (State.unit_runs s _ _ h)

theorem exec_descriptorDispatch (s : State) (h : Runs s) : exec .descriptorDispatch s = .next s.dispatch.takeRaised :=
  congrArg State.ends (State.unit_runs s _ _ h)

theorem exec_laneSelftestEnd (failing : List (Fin 16)) (s : State) (h : Runs s) :
    exec (.laneSelftestEnd failing) s = .next (s.endLaneTest (namedBelow failing)).takeRaised :=
  congrArg State.ends (State.unit_runs s _ _ h)

theorem exec_laneOutputBlock (lane : Fin 16) (s : State) (h : Runs s) :
    exec (.laneOutputBlock lane) s = .next (s.laneOutput lane.val).drain.takeRaised :=
  congrArg State.ends (State.unit_runs s _ _ h)

/-! ### A waiting slate starts, and a descriptor is sent -/

theorem State.startWaiting_starts (s : State) (w : JobWait) (slot : Nat) (hw : firstWait s.retake.waiting = some w)
    (hs : s.freeSlot = some slot) : s.startWaiting =
      ({ s with retake := { s.retake with
        waiting := s.retake.waiting.filter (fun v => v.slate != w.slate) } } : State).startJob slot w.slate w.deadline := by
  rw [State.startWaiting, hw]
  dsimp only
  rw [State.startWait, hs]

/-- A job whose descriptor is sent (R160). -/
def Job.sent (j : Job) (d : Desc) : Job :=
  { j with
    descs := if d.resent then j.descs else j.descs ++ [d]
    unanswered := j.unanswered ++ [d]
    toResend := j.toResend.drop 1
    nextDesc := if j.toResend.isEmpty then j.nextDesc + d.count else j.nextDesc }

/-- The operands are filled, the job has the descriptor as sent, and the count takes it in. -/
def State.dispatched (s : State) (slot : Nat) (j : Job) (x : ScriptStep) (d : Desc) : State :=
  ((s.fillOperands j x d.queue).setJob slot (j.sent d)).bump R.RTK_DISPATCHED 1

theorem State.dispatch_sends (s y : State) (slot : Nat) (j : Job) (x : ScriptStep) (d : Desc)
    (hf : s.jobsInOrder.find? (fun p => s.canDispatch p.2) = some (slot, j)) (hx : s.jobStep j j.step = some x)
    (hd : s.nextDescriptor j = some d) (hy : y = s.dispatched slot j x d) : s.dispatch =
      ({ y with retake := { y.retake with lastQueue := d.queue } } : State).outDescriptor d.queue (s.descBytes slot j x d) := by
  subst hy
  rw [State.dispatch, hf]
  dsimp only
  rw [hx, hd]
  rfl

/-! ### A lane's output block -/

/-- The block that a lane works on: the one it holds, or the next one (R103, R146). -/
def State.laneWork (s : State) (lane : Nat) : Option LaneWork :=
  match look s.retake.work lane with
  | some w => some w
  | none => s.nextWork

/-- A lane that found a mismatch is tested (R149). -/
def State.laneChecked (z s : State) (lane : Nat) : State :=
  if z.reg R.CNT_MISMATCH = s.reg R.CNT_MISMATCH then z else z.testLanes (2 ^ lane) 2

theorem State.laneWork_of (s : State) (lane : Nat) (w : LaneWork)
    (h : look s.retake.work lane = some w ∨ look s.retake.work lane = none ∧ s.nextWork = some w) :
    s.laneWork lane = some w := by
  unfold State.laneWork
  rcases h with h | ⟨h, hn⟩
  · rw [h]
  · rw [h, hn]

/-- A free lane's block is committed, or stays with the lane where no vault unit is free (R103, R158). -/
theorem State.laneOutput_eq (s : State) (lane : Nat) (w : LaneWork) (j k : Job) (x : ScriptStep) (raw : List Byte)
    (hl : s.laneFree lane = true) (hw : s.laneWork lane = some w) (hj : s.job w.slot = some j) (hs : j.stopped = false)
    (hx : s.jobStep j w.step = some x) (hr : raw = w.data.getD (s.laneRaw j w.step w.block x))
    (hk : k = { j with nextOut := j.nextOut.set w.step (max (j.nextOut.getD w.step 0) (w.block + 1)) }) :
    s.laneOutput lane = match ((s.setWork lane none).setJob w.slot k).commitOutput w.slot k w.step w.block raw
        (s.codeOutput j w.step w.block raw) lane with
      | none => (s.setJob w.slot k).setWork lane (some { w with data := some raw })
      | some z => z.laneChecked s lane := by
  have hfree : ¬ (!s.laneFree lane) = true := by simp [hl]
  have hrun : ¬ j.stopped = true := by simp [hs]
  unfold State.laneOutput
  rw [if_neg hfree]
  dsimp only
  split
  case h_1 hv => cases hv.symm.trans hw
  case h_2 v hv =>
    obtain rfl := Option.some.inj (hv.symm.trans hw)
    rw [hj]
    dsimp only
    rw [if_neg hrun, hx]
    dsimp only
    rw [← hr, ← hk]
    cases State.commitOutput _ _ _ _ _ _ _ _ with
    | none => rfl
    | some z => rfl

/-! ### A self-test of lanes ends -/

theorem State.endLaneTest_maps (s : State) (failing : List Nat) (cause : Nat) (h : s.retake.testing = some cause) :
    s.endLaneTest failing = (((bitsOf s.retake.lanesTesting 16).filter (fun l =>
        failing.contains l && bitAt s.retake.lanes l)).foldl (fun z l => z.mapOutLane l cause)
      ({ s with retake := { s.retake with testing := none, lanesTesting := 0 } } : State)).tendJobs := by
  rw [State.endLaneTest, h]

end Sys2Proof.Machine
end

section
/-! SETTLED. The statements on placement and on reshoot jobs: O21, O22 and O25. -/

namespace Sys2Proof.Machine

/-- Settles O21: cheapest is the argmin of the costs; each part of the evaluation gives at most its own outcome, in the order of
R94; a decision that nothing forces commits what cheapest finds, or falls back. -/
theorem theFirstOfLeastCostIsTaken : Obligations.TheFirstOfLeastCostIsTaken := by
  unfold Obligations.TheFirstOfLeastCostIsTaken
  refine ⟨fun l o => ?_, fun s timed withKeep t g n e => s.evaluate_place timed withKeep t g n e, ?_⟩
  · rw [cheapest_eq_argmin]
    exact argmin_eq_some_iff_append Choice.cost l o
  · rintro s i n t e l rfl rfl hk hp hd hl
    rw [State.decideFresh_free s i n l hk hp hd hl]
    refine ⟨fun o ho => ⟨freshScore l o, by rw [ho]⟩, fun he => by rw [he, cheapest_nil]⟩

/-- Settles O22: leastNeed is the argmin of the needs, and the fallback commits what it finds, or KEEP. -/
theorem theFallbackTakesTheLeastNeed : Obligations.TheFallbackTakesTheLeastNeed := by
  unfold Obligations.TheFallbackTakesTheLeastNeed
  refine ⟨fun l o => ?_, ?_⟩
  · rw [leastNeed_eq_argmin]
    exact argmin_eq_some_iff_append Choice.need l o
  · rintro s x i n t e forced rfl rfl hx
    exact ⟨fun o ho => State.fallback_takes s x i n forced hx o ho, fun he => State.fallback_keeps_slate s x i n forced hx he⟩

/-- Settles O25: each event runs at once and finds its work at hand; the block of a lane is committed, and the lane tested where
the count of mismatches moved, or the block stays with the lane. -/
theorem reshootJobsRun : Obligations.ReshootJobsRun := by
  unfold Obligations.ReshootJobsRun
  refine ⟨?_, ?_, ?_, ?_⟩
  · rintro s w slot h hw hs
    rw [exec_reshootJobStart s h, State.startWaiting_starts s w slot hw hs]
  · rintro s y slot j x d h hf hx hd hy
    rw [exec_descriptorDispatch s h, State.dispatch_sends s y slot j x d hf hx hd hy]
  · rintro lane s w j k x raw h hl hw hj hs hx hr hk
    rw [exec_laneOutputBlock lane s h,
      State.laneOutput_eq s lane.val w j k x raw hl (State.laneWork_of s _ w hw) hj hs hx hr hk]
    refine ⟨fun z hz => ?_, fun hn => ?_⟩
    · rw [hz]
      rfl
    · rw [hn]
  · rintro failing s cause h hc
    rw [exec_laneSelftestEnd failing s h, State.endLaneTest_maps s _ cause hc]

end Sys2Proof.Machine
end

section
/-! SUPPORT. Code books, scripts and self-tests (R128 to R130, R137, R149, R154): what a write of CBK_CTRL, RTK_CTRL or OPX_BCTRL
starts, and how a load or an invalidate ends. -/

namespace Sys2Proof.Machine

/-! ### Written numbers and action bits -/

theorem toNat_w32 (n : Nat) (h : n < 2 ^ 32) : (w32 n).toNat = n := (BitVec.toNat_ofNat n 32).trans (Nat.mod_eq_of_lt h)

theorem State.onBits_nil (s : State) (v : Nat) : s.onBits v [] = s := rfl

theorem State.onBits_set (s : State) (v k : Nat) (f : State → State) (l : List (Nat × (State → State))) (h : bitAt v k = true) :
    s.onBits v ((k, f) :: l) = (f s).onBits v l := by
  simp [State.onBits, h]

theorem State.onBits_clear (s : State) (v k : Nat) (f : State → State) (l : List (Nat × (State → State)))
    (h : bitAt v k = false) : s.onBits v ((k, f) :: l) = s.onBits v l := by
  simp [State.onBits, h]

/-! ### CBK_CTRL -/

theorem exec_bookLoad (p : Port) (s : State) (h : Writes s p R.CBK_CTRL 1#32) :
    exec (.bookLoad p) s = .next (s.accessed p R.CBK_CTRL).bookLoad.takeRaised :=
  congrArg State.ends (State.write_CBK_CTRL s p 1#32 cleanTest h)

theorem exec_bookInvalidate (p : Port) (s : State) (h : Writes s p R.CBK_CTRL 2#32) :
    exec (.bookInvalidate p) s = .next (s.accessed p R.CBK_CTRL).bookInvalidate.takeRaised :=
  congrArg State.ends (State.write_CBK_CTRL s p 2#32 cleanTest h)

section
variable (z : State)

theorem State.bookLoad_refusesZero (h : z.bookSel = 0) : z.bookLoad = z.bookResult 3 := if_pos h

theorem State.bookLoad_busy (h : z.bookSel ≠ 0) (hn : z.bookNamed z.bookSel = true) : z.bookLoad = z.bookResult 1 :=
  (if_neg h).trans (if_pos hn)

theorem State.bookLoad_refusesInvalid (h : z.bookSel ≠ 0) (hn : z.bookNamed z.bookSel = false)
    (hw : bookValid z.bookWindow = false) : z.bookLoad = z.bookResult 2 := by
  simp [State.bookLoad, h, hn, hw]

theorem State.bookLoad_stores (h : z.bookSel ≠ 0) (hn : z.bookNamed z.bookSel = false) (hw : bookValid z.bookWindow = true) :
    z.bookLoad = (({ z with books := { z.books with
      store := put z.books.store z.bookSel z.bookWindow } } : State).dropCached z.bookSel).bookResult 0 := by
  simp [State.bookLoad, h, hn, hw]

theorem State.bookInvalidate_refusesZero (h : z.bookSel = 0) : z.bookInvalidate = z.bookResult 3 := if_pos h

theorem State.bookInvalidate_busy (h : z.bookSel ≠ 0) (hn : z.bookNamed z.bookSel = true) :
    z.bookInvalidate = z.bookResult 1 := (if_neg h).trans (if_pos hn)

theorem State.bookInvalidate_removes (h : z.bookSel ≠ 0) (hn : z.bookNamed z.bookSel = false) :
    z.bookInvalidate = (({ z with books := { z.books with
      store := del z.books.store z.bookSel } } : State).dropCached z.bookSel).bookResult 0 := by
  simp [State.bookInvalidate, h, hn]

end

/-! ### RTK_CTRL -/

/-- A served write of RTK_CTRL sets the tenant field, then acts on bits 8 to 10. -/
theorem State.write_retakeControl (s : State) (p : Port) (n : Nat) (test : BootTest) (hn : n < 2 ^ 32)
    (h : Writes s p R.RTK_CTRL (w32 n)) :
    s.portWrite p R.RTK_CTRL (w32 n) test = ((s.accessed p R.RTK_CTRL).putFields R.RTK_CTRL 7 n).onBits n
      [(8, State.scriptLoad), (9, State.scriptInvalidate), (10, fun s => s.testLanes s.retake.lanes 1)] := by
  rw [State.write_RTK_CTRL s p _ test h, toNat_w32 n hn, State.putPlain_inst _ _ _ _ _ (by decide)]
  rfl

theorem exec_scriptLoad (p : Port) (t : Fin 8) (s : State) (h : Writes s p R.RTK_CTRL (w32 (t.val + 256))) :
    exec (.scriptLoad p t) s = ((s.accessed p R.RTK_CTRL).putFields R.RTK_CTRL 7 (t.val + 256)).scriptLoad.ends := by
  have hb : ∀ t : Fin 8, bitAt (t.val + 256) 8 = true ∧ bitAt (t.val + 256) 9 = false ∧ bitAt (t.val + 256) 10 = false := by
    decide
  obtain ⟨h8, h9, h10⟩ := hb t
  have hw := State.write_retakeControl s p _ cleanTest (by omega) h
  rw [State.onBits_set _ _ _ _ _ h8, State.onBits_clear _ _ _ _ _ h9, State.onBits_clear _ _ _ _ _ h10, State.onBits_nil] at hw
  exact congrArg State.ends hw

theorem exec_scriptInvalidate (p : Port) (t : Fin 8) (s : State) (h : Writes s p R.RTK_CTRL (w32 (t.val + 512))) :
    exec (.scriptInvalidate p t) s =
      ((s.accessed p R.RTK_CTRL).putFields R.RTK_CTRL 7 (t.val + 512)).scriptInvalidate.ends := by
  have hb : ∀ t : Fin 8, bitAt (t.val + 512) 8 = false ∧ bitAt (t.val + 512) 9 = true ∧ bitAt (t.val + 512) 10 = false := by
    decide
  obtain ⟨h8, h9, h10⟩ := hb t
  have hw := State.write_retakeControl s p _ cleanTest (by omega) h
  rw [State.onBits_clear _ _ _ _ _ h8, State.onBits_set _ _ _ _ _ h9, State.onBits_clear _ _ _ _ _ h10, State.onBits_nil] at hw
  exact congrArg State.ends hw

theorem State.fieldsOf_RTK_CTRL (s : State) : s.fieldsOf R.RTK_CTRL < 8 := by
  rw [State.fieldsOf, regAt_RTK_CTRL]
  exact Nat.and_lt_two_pow _ (n := 3) (show 7 < 2 ^ 3 by decide)

theorem exec_laneSelftest (p : Port) (s : State) (n : Nat) (hn : n = s.fieldsOf R.RTK_CTRL ||| 1024)
    (h : Writes s p R.RTK_CTRL (w32 n)) : exec (.laneSelftest p) s =
      (((s.accessed p R.RTK_CTRL).putFields R.RTK_CTRL 7 n).testLanes
        ((s.accessed p R.RTK_CTRL).putFields R.RTK_CTRL 7 n).retake.lanes 1).ends := by
  have hb : ∀ f : Fin 8, f.val ||| 1024 < 2 ^ 32 ∧ bitAt (f.val ||| 1024) 8 = false ∧ bitAt (f.val ||| 1024) 9 = false
      ∧ bitAt (f.val ||| 1024) 10 = true := by
    decide
  obtain ⟨hlt, h8, h9, h10⟩ := hb ⟨_, State.fieldsOf_RTK_CTRL s⟩
  subst hn
  have hw := State.write_retakeControl s p _ cleanTest hlt h
  rw [State.onBits_clear _ _ _ _ _ h8, State.onBits_clear _ _ _ _ _ h9, State.onBits_set _ _ _ _ _ h10, State.onBits_nil] at hw
  exact congrArg State.ends hw

section
variable (y : State)

theorem State.scriptLoad_refusesZero (hl : y.retake.loading = none) (h : y.scriptSel = 0) : y.scriptLoad = y.scriptResult 3 := by
  simp [State.scriptLoad, hl, h]

theorem State.scriptLoad_busy (hl : y.retake.loading = none) (h : y.scriptSel ≠ 0) (hn : y.scriptNamed y.scriptSel = true) :
    y.scriptLoad = y.scriptResult 1 := by
  simp [State.scriptLoad, hl, h, hn]

theorem State.scriptLoad_reads (hl : y.retake.loading = none) (h : y.scriptSel ≠ 0) (hn : y.scriptNamed y.scriptSel = false) :
    y.scriptLoad = { y with retake := { y.retake with
      loading := some (y.scriptSel, fld (y.reg R.RTK_CTRL).toNat 0 3, y.reg64 R.RTK_SRC 0) } } := by
  simp [State.scriptLoad, hl, h, hn]

theorem State.scriptInvalidate_refusesZero (h : y.scriptSel = 0) : y.scriptInvalidate = y.scriptResult 3 := if_pos h

theorem State.scriptInvalidate_busy (h : y.scriptSel ≠ 0) (hn : y.scriptNamed y.scriptSel = true) :
    y.scriptInvalidate = y.scriptResult 1 := (if_neg h).trans (if_pos hn)

theorem State.scriptInvalidate_removes (h : y.scriptSel ≠ 0) (hn : y.scriptNamed y.scriptSel = false) :
    y.scriptInvalidate = ({ y with retake := { y.retake with
      scripts := del y.retake.scripts y.scriptSel } } : State).scriptResult 0 := by
  simp [State.scriptInvalidate, h, hn]

end

/-! ### A script has been read -/

theorem exec_scriptLoadDone (ext : List Host.Cell) (s : State) (h : Runs s) :
    exec (.scriptLoadDone ext) s = .next (s.external ext).scriptLoaded.takeRaised :=
  congrArg State.ends (State.unit_runs (s.external ext) 4 _ (h.external ext))

/-- A script that was read is tested against the sheets in place, the tenant's CONTROL regions and its own words (R154). -/
theorem State.scriptLoaded_tests (x y : State) (n t a : Nat) (g : Option Nat) (b : List Byte)
    (hl : x.retake.loading = some (n, t, a)) (hm : x.memOpen a = true)
    (hy : y = { x with retake := { x.retake with loading := none } }) (hg : y.controlRegion t a scriptBytes = g)
    (hb : y.unitRead a scriptBytes = b) : x.scriptLoaded =
      if y.scriptNamed n then y.scriptResult 1
      else if g.isNone || badScript b then y.scriptResult 2
      else ({ y with retake := { y.retake with
        scripts := put y.retake.scripts n (parseScript t g b) } } : State).scriptResult 0 := by
  subst hg hb hy
  rw [State.scriptLoaded, hl]
  dsimp only
  rw [if_neg (by simp [hm])]

/-! ### OPX_BCTRL -/

/-- No field of a bank's control register has a value of its own that it refuses. -/
theorem legal_bankControl (b : Fin 48) (n : Nat) : legal (opxAddr R.OPX_BCTRL b.val) n = n := by
  have hb : ∀ b : Fin 48, opxAddr R.OPX_BCTRL b.val ∉ [R.BLK_MODE, R.PWR_GUARD, R.CUT_PIN_CLASS, R.TIER_CTRL, R.TIER_BATCH,
      R.RTK_SHARE, R.RTK_CHUNK, R.CNT_SAMPLE_N, R.MTR_TAP, R.MTR_SEL, R.MTR_GN_CTRL, R.MTR_GN_PKG, R.EXS_CFG, R.EXS_MARGIN,
      R.REC_CTRL, R.DBG_LB_CTRL, R.PEER_CTRL, R.PEER_PARTNER] := by decide
  have h := hb b
  simp only [List.mem_cons, List.not_mem_nil, or_false, not_or] at h
  simp [legal, h]

/-- A served write of OPX_BCTRL sets the bank's field, then acts on bit 8. -/
theorem State.write_bankControl (s : State) (p : Port) (b : Fin 48) (n : Nat) (test : BootTest) (hn : n < 2 ^ 32)
    (h : Writes s p (opxAddr R.OPX_BCTRL b.val) (w32 n)) :
    s.portWrite p (opxAddr R.OPX_BCTRL b.val) (w32 n) test =
      ((s.accessed p (opxAddr R.OPX_BCTRL b.val)).putFields (opxAddr R.OPX_BCTRL b.val) 1 n).onBits n
        [(8, fun s => s.bankTest b.val)] := by
  rw [State.write_OPX_BCTRL s p _ test b h, toNat_w32 n hn, State.putPlain_narrow _ _ n _ (regAt_OPX_BCTRL b) rfl rfl]
  have e : ∀ m, legal R.OPX_BCTRL m = legal (opxAddr R.OPX_BCTRL b.val) m := fun m =>
    (legal_bankControl 0 m).trans (legal_bankControl b m).symm
  rw [e]
  simp only [State.copyOf, State.setRegT, State.regT, keyOf_zero]
  rfl

theorem State.fieldsOf_OPX_BCTRL (s : State) (b : Fin 48) : s.fieldsOf (opxAddr R.OPX_BCTRL b.val) < 2 := by
  rw [State.fieldsOf, regAt_OPX_BCTRL]
  exact Nat.and_lt_two_pow _ (n := 1) (show 1 < 2 ^ 1 by decide)

theorem exec_bankSelftest (p : Port) (b : Fin 48) (s : State) (n : Nat) (hn : n = s.fieldsOf (opxAddr R.OPX_BCTRL b.val) ||| 256)
    (h : Writes s p (opxAddr R.OPX_BCTRL b.val) (w32 n)) : exec (.bankSelftest p b) s =
      (((s.accessed p (opxAddr R.OPX_BCTRL b.val)).putFields (opxAddr R.OPX_BCTRL b.val) 1 n).bankTest b.val).ends := by
  have hb : ∀ f : Fin 2, f.val ||| 256 < 2 ^ 32 ∧ bitAt (f.val ||| 256) 8 = true := by decide
  obtain ⟨hlt, h8⟩ := hb ⟨_, State.fieldsOf_OPX_BCTRL s b⟩
  subst hn
  have hw := State.write_bankControl s p b _ cleanTest hlt h
  rw [State.onBits_set _ _ _ _ _ h8, State.onBits_nil] at hw
  exact congrArg State.ends hw

end Sys2Proof.Machine
end

section
/-! SETTLED. The statement on code books, scripts and self-tests: O26. -/

namespace Sys2Proof.Machine

/-- Settles O26: each served write sets its register's fields and starts what its action bit names; the selected number, the sheets
in place and the window, or the image that was read, decide how a load or an invalidate ends. -/
theorem booksScriptsAndTests : Obligations.BooksScriptsAndTests := by
  unfold Obligations.BooksScriptsAndTests
  refine ⟨?load, ?invalidate, ?scriptLoad, ?scriptDone, ?scriptInvalidate, ?banks, ?lanes⟩
  case load =>
    rintro p s z b h rfl rfl
    rw [exec_bookLoad p s h]
    refine ⟨fun h0 => ?_, fun h0 hn => ?_, fun h0 hn hw => ?_, fun h0 hn hw => ?_⟩
    · rw [State.bookLoad_refusesZero _ h0]
    · rw [State.bookLoad_busy _ h0 hn]
    · rw [State.bookLoad_refusesInvalid _ h0 hn hw]
    · rw [State.bookLoad_stores _ h0 hn hw]
      rfl
  case invalidate =>
    rintro p s z b h rfl rfl
    rw [exec_bookInvalidate p s h]
    refine ⟨fun h0 => ?_, fun h0 hn => ?_, fun h0 hn => ?_⟩
    · rw [State.bookInvalidate_refusesZero _ h0]
    · rw [State.bookInvalidate_busy _ h0 hn]
    · rw [State.bookInvalidate_removes _ h0 hn]
      rfl
  case scriptLoad =>
    rintro p t s y n h hy rfl hl
    have hr : y.recorder.raised = [] := by rw [hy, State.putFields_recorder, State.accessed_recorder, h.quiet]
    rw [exec_scriptLoad p t s h, ← hy]
    refine ⟨fun h0 => ?_, fun h0 hn => ?_, fun h0 hn => ?_⟩
    · rw [State.scriptLoad_refusesZero y hl h0, State.ends]
    · rw [State.scriptLoad_busy y hl h0 hn, State.ends]
    · rw [State.scriptLoad_reads y hl h0 hn]
      exact State.ends_nil _ hr
  case scriptDone =>
    rintro ext s x y n t a b h rfl hl hm hy rfl
    rw [exec_scriptLoadDone ext s h, State.scriptLoaded_tests _ y n t a _ _ hl hm hy rfl rfl]
    refine ⟨fun hn => ?_, fun hn hbad => ?_, fun g hn hg hb => ?_⟩
    · rw [if_pos hn]
    · rw [if_neg (by simp [hn]), if_pos (by simpa using hbad)]
    · rw [if_neg (by simp [hn]), if_neg (by simp [hg, hb]), hg]
  case scriptInvalidate =>
    rintro p t s y n h hy rfl
    rw [exec_scriptInvalidate p t s h, ← hy]
    refine ⟨fun h0 => ?_, fun h0 hn => ?_, fun h0 hn => ?_⟩
    · rw [State.scriptInvalidate_refusesZero y h0, State.ends]
    · rw [State.scriptInvalidate_busy y h0 hn, State.ends]
    · rw [State.scriptInvalidate_removes y h0 hn]
      rfl
  case banks =>
    rintro p b s a v rfl hv h
    exact exec_bankSelftest p b s v hv h
  case lanes =>
    rintro p s y v hv h hy
    have hr : y.recorder.raised = [] := by rw [hy, State.putFields_recorder, State.accessed_recorder, h.quiet]
    rw [exec_laneSelftest p s v hv h, ← hy]
    exact State.ends_nil _ hr

end Sys2Proof.Machine
end

section
/-! SUPPORT. RESHOOT_DONE (R160, R162, R163): which answers are refused, what an answer leaves of a job, and what a failed step
comes to. -/

namespace Sys2Proof.Machine

theorem exec_reshootDone_taken (c : Cmd) (s : State) (h : Takes s c) :
    exec (.reshootDone c) s = .next ((s.taken 0x07#8 c).runDone c).takeRaised :=
  State.command_run s 0x07#8 c (by decide) h

/-! ### The job takes an answer in -/

section
variable (j : Job) (q : Nat) (d : Desc) (h : (j.unanswered.find? (fun d => d.queue == q)).or j.unanswered.head? = some d)
include h

theorem Job.answer_bad : j.answer q false = { j with unanswered := j.unanswered.erase d } := by
  rw [Job.answer, h]
  rfl

theorem Job.answer_good : j.answer q true = { j with
    unanswered := j.unanswered.erase d
    descs := j.descs.map (fun x => if x.first = d.first then { x with answered := true } else x)
    toResend := j.toResend.filter (fun x => x.first != d.first) } := by
  rw [Job.answer, h]
  rfl

end

/-! ### A step fails -/

section
variable (s : State) (slot : Nat) (k : Job)

/-- A stopped job only gives its slot back once every descriptor is answered (log entry 92). -/
theorem State.stepFailed_stopped (h : k.stopped = true) : s.stepFailed slot k = (s.setJob slot k).reapJobs := if_pos h

section
variable (hr : k.stopped = false)
include hr

theorem State.stepFailed_again (h : k.failedOnce = true) :
    s.stepFailed slot k = ((s.setJob slot k).failJob slot).reapJobs := (if_neg (by simp [hr])).trans (if_pos h)

theorem State.stepFailed_first (h : k.failedOnce = false) : s.stepFailed slot k = s.setJob slot { k with
    failedOnce := true
    toResend := (k.descs.filter (fun d => !d.answered)).map (fun d =>
      { d with queue := (s.nextQueue k.tenant).getD s.retake.lastQueue, resent := true }) } :=
  (if_neg (by simp [hr])).trans (if_neg (by simp [h]))

end

end

/-! ### The command -/

section
variable (s : State) (c : Cmd) (hd : cmdReserved 0x07 c = false)
include hd

theorem State.runDone_noJob (h : s.job (doneSlot c) = none) : s.runDone c = s.complete 0x07#8 c { status := 0x03 } := by
  rw [State.runDone, if_neg (by simp [hd]), h]
  rfl

section
variable (j : Job) (hj : s.job (doneSlot c) = some j)
include hj

theorem State.runDone_wrong (h : s.answerWrong c j = true) : s.runDone c = s.complete 0x07#8 c { status := 0x03 } := by
  rw [State.runDone, if_neg (by simp [hd]), hj]
  exact if_pos h

section
variable (ha : s.answerWrong c j = false) (z : State)
  (hz : z = s.complete 0x07#8 c { status := 0, slate := j.slate, gen := j.gen })
include ha hz

theorem State.runDone_answered (h : doneStatus c = 0) :
    s.runDone c = z.stepAnswered (doneSlot c) j c.queue.val := by
  rw [State.runDone, if_neg (by simp [hd]), hj, hz]
  exact (if_neg (by simp [ha])).trans (if_pos h)

theorem State.runDone_failed (h : doneStatus c ≠ 0) :
    s.runDone c = ((z.bump R.RTK_STEP_FAIL 1).stepFailed (doneSlot c) (j.answer c.queue.val false)).tendJobs := by
  rw [State.runDone, if_neg (by simp [hd]), hj, hz]
  exact (if_neg (by simp [ha])).trans (if_neg h)

end

end

end

end Sys2Proof.Machine
end

section
/-! SETTLED. The statement on RESHOOT_DONE: O11. -/

namespace Sys2Proof.Machine

/-- Settles O11: the slot, step and tag decide whether the answer is refused; a good one marks its descriptor, and a failed one
finds the job stopped, failed once before, or failing for the first time. That all not answered well is sent again, to the last
queue used where none is enabled, is the choice of log entry 32. -/
theorem reshootDoneAnswersADescriptor : Obligations.ReshootDoneAnswersADescriptor := by
  unfold Obligations.ReshootDoneAnswersADescriptor
  rintro c s T h rfl hres
  rw [exec_reshootDone_taken c s h]
  refine ⟨fun hn => ?_, fun j hj => ⟨fun hw => ?_, ?_⟩⟩
  · rw [State.runDone_noJob (s.taken 0x07#8 c) c hres hn]
  · rw [State.runDone_wrong (s.taken 0x07#8 c) c hres j hj hw]
  · rintro ha z b d k hz rfl hd hk
    have hfail := State.runDone_failed (s.taken 0x07#8 c) c hres j hj ha z hz
    rw [Job.answer_bad j _ d hd, ← hk] at hfail
    have hstop : k.stopped = j.stopped := by rw [hk]
    have honce : k.failedOnce = j.failedOnce := by rw [hk]
    refine ⟨fun h0 => ?_, fun h0 hs => ?_, fun h0 hs hf => ?_, fun h0 hs hf => ?_⟩
    · rw [State.runDone_answered (s.taken 0x07#8 c) c hres j hj ha z hz h0, State.stepAnswered, Job.answer_good j _ d hd, hk]
    · rw [hfail h0, State.stepFailed_stopped _ _ _ (hstop.trans hs)]
    · rw [hfail h0, State.stepFailed_again _ _ _ (hstop.trans hs) (honce.trans hf)]
    · rw [hfail h0, State.stepFailed_first _ _ _ (hstop.trans hs) (honce.trans hf), hk]

end Sys2Proof.Machine
end

section
/-! SUPPORT. The read and write engines and the end of an access (R175 to R178, R182, R191, R192, R194 to R196, R199, R205, R212,
R284): which access issues, what an answer comes to, and what a reissue consists of. -/

namespace Sys2Proof.Machine

/-! ### Which access issues -/

theorem exec_transactionIssue (w : Bool) (s : State) (h : Runs s) :
    exec (.transactionIssue w) s = .next (s.issue w).takeRaised :=
  congrArg State.ends (State.unit_runs s _ _ h)

section
variable (s z p : State) (c id g n : Nat) (x : Transfer)

/-- With 4,096 transactions in flight nothing issues (R81). -/
theorem State.issue_full (w : Bool) (h : 4096 ≤ s.movers.txns.length) : s.issue w = s := if_pos h

/-- With the staging buffer in use nothing is read (R176). -/
theorem State.issue_unstaged (h : 8192 ≤ s.stagingUse) : s.issue false = s := by simp [State.issue, h]

theorem State.issue_reads (h : s.movers.txns.length < 4096) (hs : s.stagingUse < 8192) :
    s.issue false = s.issueRead (s.issueOrder false) := by
  rw [State.issue, if_neg (by omega), if_neg Bool.false_ne_true, if_neg (by omega)]

theorem State.issue_writes (h : s.movers.txns.length < 4096) : s.issue true = s.writeTurn (s.issueOrder true) := by
  rw [State.issue, if_neg (by omega), if_pos rfl]

/-- The read engine passes over a channel that has nothing to read. -/
theorem State.issueRead_passes (a b : List (Nat × Nat × Transfer)) (h : ∀ q ∈ a, s.nextRead q.1 q.2.2 = none) :
    s.issueRead (a ++ b) = s.issueRead b := by
  induction a with
  | nil => rfl
  | cons q r ih =>
    obtain ⟨hq, hr⟩ := List.forall_mem_cons.mp h
    rw [List.cons_append, State.issueRead, hq]
    exact ih hr

/-- It reads the next run of the first channel that is ready (R175, R177, R191, R212; log entries 39 and 95). -/
theorem State.issueRead_first (upTo : Nat) (y : State) (z : Transfer) (b : List (Nat × Nat × Transfer))
    (hr : s.nextRead c x = some (g, n))
    (hu : upTo = if s.reachesStack c x false g = false then 0 else if g < x.readTo then x.readTo else g + s.batchRun)
    (hz : z = { x with rdNext := g + n, readTo := upTo })
    (hy : y = (s.setTransfer id z).served c x false (decide (g + n < min upTo x.total))) :
    s.issueRead ((c, id, x) :: b) =
      (if x.kind = .director then y.modChan c (fun h => { h with used := h.used + n }) else y).issueAccess c id z false false g n 1 := by
  subst hy hz hu
  rw [State.issueRead, hr]
  simp only [Bool.not_eq_true']

/-- A channel that the write engine passes over: its flag is not due, and its next run, if it has one, waits or finds no room. -/
def State.writePasses (z : State) (q : Nat × Nat × Transfer) : Prop :=
  z.flagReady q.1 q.2.1 q.2.2 = false ∧ ∀ g n, z.nextWrite q.1 q.2.2 = some (g, n) →
    z.now < z.batchAt q.1 q.2.2 g ∨ z.placeUnit q.2.2 g = none

theorem State.issueWrite_passes (a b : List (Nat × Nat × Transfer)) (h : ∀ q ∈ a, z.writePasses q) :
    z.issueWrite (a ++ b) = z.issueWrite b := by
  induction a with
  | nil => rfl
  | cons q r ih =>
    obtain ⟨⟨hflag, hrun⟩, hr⟩ := List.forall_mem_cons.mp h
    rw [List.cons_append, State.issueWrite, if_neg (by simp [hflag])]
    cases hw : z.nextWrite q.1 q.2.2 with
    | none => exact ih hr
    | some gn =>
      obtain ⟨g, n⟩ := gn
      dsimp only
      by_cases hb : z.now < z.batchAt q.1 q.2.2 g
      · rw [if_pos hb]
        exact ih hr
      · rw [if_neg hb, (hrun g n hw).resolve_left hb]
        exact ih hr

/-- The flag goes before any run (R192). -/
theorem State.issueWrite_flag (b : List (Nat × Nat × Transfer)) (h : z.flagReady c id x = true) :
    z.issueWrite ((c, id, x) :: b) = (z.served c x true false).issueAccess c id x true true 0 0 1 := by
  rw [State.issueWrite, if_pos h]

theorem State.issueWrite_run (y : Transfer) (b : List (Nat × Nat × Transfer)) (hf : z.flagReady c id x = false)
    (hw : z.nextWrite c x = some (g, n)) (hb : z.batchAt c x g ≤ z.now) (hp : z.placeUnit x g = some p) (hy : y = z.wrote c x g n) :
    z.issueWrite ((c, id, x) :: b) =
      ((p.setTransfer id y).served c x true (decide (y.wrNext < y.runTo))).issueAccess c id y true false g n 1 := by
  subst hy
  rw [State.issueWrite, if_neg (by simp [hf]), hw]
  dsimp only
  rw [if_neg (by omega), hp]

theorem State.writeTurn_none (l : List (Nat × Nat × Transfer)) (h : (l.filterMap s.writeAt).foldl optMin none = none) :
    s.writeTurn l = s := by
  rw [State.writeTurn, h]

/-- The time moves to that of the first write that is due (R212). -/
theorem State.writeTurn_due (l : List (Nat × Nat × Transfer)) (t : Nat) (h : (l.filterMap s.writeAt).foldl optMin none = some t) :
    s.writeTurn l = (s.advanceTo t).issueWrite l := by
  rw [State.writeTurn, h]

end

/-! ### The answer to a transaction -/

/-- A flag write that completes in the doorbell window rings (R284); no other access does. -/
theorem State.ringFlag_eq (s : State) (t : Txn) :
    s.ringFlag t = if t.flag = true ∧ s.inDoorbells (t.addr.getD (s.die.dbBase + 0x8000)) = true
      then s.doorbell (t.addr.getD 0 - s.die.dbBase) 4 (w32 (leNat t.data)) else s := by
  unfold State.ringFlag
  cases t.addr with
  | none => simp [State.inDoorbells]
  | some a => simp

theorem exec_transactionResponse (n k : Nat) (fail : Option Cause) (ext : List Host.Cell) (s : State) (t : Txn) (h : Runs s)
    (hi : s.rst.isolating = false) (hl : look s.movers.txns n = some t) (hs : t.seq = none) :
    exec (.transactionResponse n ⟨fail, k⟩ ext) s =
      .next (((if fail = none then (s.external ext).ringFlag t else s.external ext).respond n fail [] k).drain).takeRaised := by
  have hanswer : (s.external ext).txnAnswer n fail k = (s.external ext).txnResponse n fail k := by
    rw [State.txnAnswer, if_neg (by simp [hi]), State.notify_runs _ _ (h.external ext)]
    rfl
  have hlook : look (s.external ext).movers.txns n = some t := hl
  refine congrArg State.ends (hanswer.trans ?_)
  rw [State.txnResponse, hlook]
  simp only [hs, Option.isSome_none, Bool.false_eq_true, if_false, Option.isNone_iff_eq_none]

theorem exec_transactionTimeout (n : Nat) (s : State) (t : Txn) (h : Runs s) (hl : look s.movers.txns n = some t)
    (hs : t.seq = none) : exec (.transactionTimeout n) s =
      .next (((s.advanceTo (t.issuedAt + 2000)).respond n (some .timeout) [] 0).drain).takeRaised := by
  refine congrArg State.ends ((State.unit_runs s _ _ h).trans ?_)
  rw [State.txnTimeout, hl]
  exact if_neg (by simp [hs])

/-- What follows for its transfer where an access has failed. -/
def State.accessFailed (y : State) (t : Txn) (cause : Cause) : State :=
  match y.transfer t.transfer with
  | none => y
  | some x => if t.aborted then y else y.failAccess t.chan t.transfer x t.write t.flag t.first t.count t.attempt cause

/-- What follows for its transfer where an access has its data or its acknowledgement. -/
def State.accessDone (w : State) (t : Txn) : State :=
  match w.transfer t.transfer with
  | none => w
  | some x =>
    if t.aborted then w
    else if t.write then w.writeDone t x
    else w.readDone t x (w.readBytes t.chan x t.first t.count)

section
variable (s y : State) (n k : Nat) (fail : Option Cause) (t : Txn) (hl : look s.movers.txns n = some t)
  (hy : y = ({ s with movers := { s.movers with txns := del s.movers.txns n } } : State).countCorrected t k)
include hl hy

/-- A failure fails its access, and so does lost data (R205, R215). -/
theorem State.respond_fails (cause : Cause)
    (hc : fail = some cause ∨ fail = none ∧ y.touchesLost t = true ∧ cause = .uncorrectable) :
    s.respond n fail [] k = y.accessFailed t cause := by
  have hcause : (if fail.isNone && y.touchesLost t then some Cause.uncorrectable else fail) = some cause := by
    rcases hc with rfl | ⟨rfl, hlost, rfl⟩
    · rfl
    · simp [hlost]
  rw [State.respond, hl]
  dsimp only
  rw [← hy, hcause]
  rfl

/-- The data of a write lands, whatever its transfer has come to (R182, R194). -/
theorem State.respond_lands (hf : fail = none) (hk : y.touchesLost t = false) :
    s.respond n fail [] k = (y.landWrite t).accessDone t := by
  subst hf
  have hcause : (if (none : Option Cause).isNone && y.touchesLost t then some Cause.uncorrectable else none) = none := by
    simp [hk]
  rw [State.respond, hl]
  dsimp only
  rw [← hy, hcause]
  simp only [ne_eq, not_true_eq_false, and_false, if_false]
  rfl

end

section
variable (y : State) (t : Txn) (cause : Cause) (v : Transfer)

/-- Nothing follows for a transfer that has ended (R182, R194). -/
theorem State.accessFailed_ended (h : y.transfer t.transfer = none ∨ t.aborted = true) : y.accessFailed t cause = y := by
  unfold State.accessFailed
  rcases h with h | h
  · rw [h]
  · simp only [h, if_true]
    split <;> rfl

theorem State.accessFailed_live (hv : y.transfer t.transfer = some v) (ha : t.aborted = false) :
    y.accessFailed t cause = y.failAccess t.chan t.transfer v t.write t.flag t.first t.count t.attempt cause := by
  rw [State.accessFailed, hv]
  exact if_neg (by simp [ha])

theorem State.accessDone_ended (h : y.transfer t.transfer = none ∨ t.aborted = true) : y.accessDone t = y := by
  unfold State.accessDone
  rcases h with h | h
  · rw [h]
  · simp only [h, if_true]
    split <;> rfl

theorem State.accessDone_write (hv : y.transfer t.transfer = some v) (ha : t.aborted = false) (hw : t.write = true) :
    y.accessDone t = y.writeDone t v := by
  rw [State.accessDone, hv]
  exact (if_neg (by simp [ha])).trans (if_pos hw)

theorem State.accessDone_read (hv : y.transfer t.transfer = some v) (ha : t.aborted = false) (hw : t.write = false) :
    y.accessDone t = y.readDone t v (y.readBytes t.chan v t.first t.count) := by
  rw [State.accessDone, hv]
  exact (if_neg (by simp [ha])).trans (if_neg (by simp [hw]))

/-- Counting what the vault corrected changes no transfer. -/
theorem State.countCorrected_transfer (s : State) (n id : Nat) : (s.countCorrected t n).transfer id = s.transfer id := by
  unfold State.countCorrected
  split <;> rfl

end

/-! ### The end of a backoff -/

theorem exec_backoffEnd (c : Fin 64) (s : State) (h : Runs s) :
    exec (.backoffEnd c) s = .next (s.reissue c.val).takeRaised :=
  congrArg State.ends (State.unit_runs s _ _ h)

section
variable (s y : State) (c id : Nat) (q : Retry) (x : Transfer) (runs : List (Nat × Nat))
  (hq : firstDue (s.chan c).retries = some q) (hid : (s.chan c).transfer = some id) (hx : s.transfer id = some x)
  (hy : y = s.advanceTo q.dueAt) (hr : runs = y.retryRuns c x q)
include hq hid hx hy hr

/-- The reissue is logged and counted, then each of its accesses issues (R196, R199). -/
theorem State.reissue_issues (hd : y.domainOpen x (y.accessDomain c x q.write q.flag q.first) = true)
    (hroom : y.retryRoom q runs.length = true) :
    s.reissue c = runs.foldl (State.reissueOne c id q)
      (((y.draw.bump R.SPB_RETRIES 1).modChan c (fun h => { h with retries := h.retries.erase q, attempts := q.attempt })).log
        0x0701 5 (y.moverParams c x q.write q.flag q.first q.attempt q.cause)) := by
  subst hr
  rw [State.reissue, hq, hid]
  dsimp only
  rw [hx]
  dsimp only
  rw [← hy]
  exact if_neg (by simp [hd, hroom])

/-- A domain that is closed, or a want of room, leaves the access waiting (R81, R176, R363). -/
theorem State.reissue_waits (h : y.domainOpen x (y.accessDomain c x q.write q.flag q.first) = false
    ∨ y.retryRoom q runs.length = false) : s.reissue c = y := by
  subst hr
  rw [State.reissue, hq, hid]
  dsimp only
  rw [hx]
  dsimp only
  rw [← hy]
  exact if_pos (by simpa using h)

end

end Sys2Proof.Machine
end

section
/-! SETTLED. The statement on the engines and the end of an access: O27. -/

namespace Sys2Proof.Machine

/-- Settles O27: an engine goes down its order to the first channel that is ready; an answer fails its access or lands it, and what
follows depends on whether the transfer is still there; a reissue takes the accesses of its unit one by one. The cut of a transfer
into transactions (log entry 39), the spool channel as the one that batches (95), lost data as an uncorrectable error and one retry
rule for errors and timeouts (41), the unit of a reissue (25) and the ring of a flag (40) are the model's choices. -/
theorem enginesIssueAndAccessesEnd : Obligations.EnginesIssueAndAccessesEnd := by
  unfold Obligations.EnginesIssueAndAccessesEnd
  refine ⟨fun s h => ⟨?full, ?unstaged, ?reads, ?writes⟩, ?response, ?timeout, ?backoff⟩
  case full =>
    intro w hf
    rw [exec_transactionIssue w s h, State.issue_full s w hf, State.takeRaised_nil s h.quiet]
  case unstaged =>
    intro hu
    rw [exec_transactionIssue false s h, State.issue_unstaged s hu, State.takeRaised_nil s h.quiet]
  case reads =>
    intro hf hu
    rw [exec_transactionIssue false s h, State.issue_reads s hf hu]
    constructor
    · intro hnone
      rw [← List.append_nil (s.issueOrder false), State.issueRead_passes s _ [] hnone]
      exact State.ends_nil s h.quiet
    · intro a b c id x z g n upTo y ho ha hr hup hz hy
      rw [ho, State.issueRead_passes s a _ ha, State.issueRead_first s c id g n x upTo y z b hr hup hz hy]
  case writes =>
    intro hf
    rw [exec_transactionIssue true s h, State.issue_writes s hf]
    constructor
    · intro hnone
      rw [State.writeTurn_none s _ hnone]
      exact State.ends_nil s h.quiet
    · rintro t z a b c id x hdue rfl ho ha
      rw [State.writeTurn_due s _ t hdue, ho, State.issueWrite_passes _ a _ ha]
      refine ⟨fun hflag => ?_, fun g n p y hflag hw hb hp hy => ?_⟩
      · rw [State.issueWrite_flag _ c id x b hflag]
      · rw [State.issueWrite_run _ p c id g n x y b hflag hw hb hp hy]
  case response =>
    intro n k fail ext s x y t h hi hl hs hx hlx hy
    have hring : (if fail = none then (s.external ext).ringFlag t else s.external ext) = x := by
      rw [hx, State.ringFlag_eq]
      by_cases hf : fail = none
      · simp only [hf, if_true, true_and]
        rfl
      · simp only [hf, if_false, false_and]
    rw [exec_transactionResponse n k fail ext s t h hi hl hs, hring]
    refine ⟨fun cause hc => ?_, fun hf hk w hw => ?_⟩
    · rw [State.respond_fails x y n k fail t hlx hy cause hc]
      refine ⟨fun v hv ha => ?_, fun hv => ?_⟩
      · rw [State.accessFailed_live y t cause v hv ha]
      · rw [State.accessFailed_ended y t cause hv]
    · rw [State.respond_lands x y n k fail t hlx hy hf hk, ← hw]
      refine ⟨fun hv => ?_, fun v hv ha => ⟨fun hwr => ?_, fun hrd => ?_⟩⟩
      · rw [State.accessDone_ended w t hv]
      · rw [State.accessDone_write w t v hv ha hwr]
      · rw [State.accessDone_read w t v hv ha hrd]
  case timeout =>
    intro n s y t x h hl hs ha hx hy
    have hv : y.transfer t.transfer = some x := by rw [hy, State.countCorrected_transfer]; exact hx
    rw [exec_transactionTimeout n s t h hl hs,
      State.respond_fails (s.advanceTo (t.issuedAt + 2000)) y n 0 _ t hl hy .timeout (.inl rfl),
      State.accessFailed_live y t .timeout x hv ha]
  case backoff =>
    intro c s y q id x runs h hq hid hx hy hr
    rw [exec_backoffEnd c s h]
    refine ⟨fun hd hroom => ?_, fun hwait => ?_⟩
    · rw [State.reissue_issues s y c.val id q x runs hq hid hx hy hr hd hroom]
      rfl
    · rw [State.reissue_waits s y c.val id q x runs hq hid hx hy hr hwait, hy]
      exact State.ends_nil _ h.quiet

end Sys2Proof.Machine
end

section
/-! SUPPORT. Channels (R180, R184, R187, R190, R191): who takes the next transfer, what a promoted set waits for, and the starts by
timer and by frame. -/

namespace Sys2Proof.Machine

theorem look_none_of_not_key {α : Type} (m : NMap α) (j : Nat) (h : j ∉ m.map (·.1)) : look m j = none := by
  induction m with
  | nil => rfl
  | cons p r ih =>
    obtain ⟨hp, hr⟩ := not_or.mp (List.mem_cons.not.mp h)
    exact (if_neg hp).trans (ih hr)

theorem State.chan_modChan (s : State) (i j : Nat) (f : Chan → Chan) :
    (s.modChan i f).chan j = if j = i then f (s.chan i) else s.chan j := State.chan_setChan s i j _

@[simp] theorem State.chan_modChan_same (s : State) (c : Nat) (f : Chan → Chan) : (s.modChan c f).chan c = f (s.chan c) := by
  simp [State.chan_modChan]

/-! ### The pool and the timers -/

theorem exec_channelTakesTransfer (s : State) (h : Runs s) : exec .channelTakesTransfer s = .next s.takeTransfer.takeRaised :=
  congrArg State.ends (State.unit_runs s _ _ h)

theorem exec_shadowPromotion (c : Fin 64) (s : State) (h : Runs s) :
    exec (.shadowPromotion c) s = .next (s.promote c.val).takeRaised :=
  congrArg State.ends (State.unit_runs s _ _ h)

theorem exec_channelTimerStart (c : Fin 64) (s : State) (h : Runs s) :
    exec (.channelTimerStart c) s = .next (s.timerStart c.val).takeRaised :=
  congrArg State.ends (State.unit_runs s _ _ h)

theorem exec_pacingPeriod (c : Fin 64) (s : State) (h : Runs s) :
    exec (.pacingPeriod c) s = .next (s.newPeriod c.val).takeRaised :=
  congrArg State.ends (State.unit_runs s _ _ h)

section
variable (s : State) (c : Nat)

/-- The lowest idle pool channel takes the head of the deadline queue (R180). -/
theorem State.takeTransfer_head (id : Nat) (x : Transfer) (rest : List Nat) (hc : s.idlePool = c :: rest)
    (hx : s.headTransfer = some (id, x)) : s.takeTransfer =
      s.modChan c (fun h => { h with transfer := some id, state := .busy, started := true, retries := [] }) := by
  rw [State.takeTransfer, hc, hx]

theorem State.timerStart_due (hw : (s.chan c).state = .wait) (hk : fld (s.chan c).active.cfg.toNat 0 2 = 1) :
    s.timerStart c = (s.advanceTo (s.chan c).startAt).modChan c Chan.start := if_pos ⟨hw, hk⟩

/-- A paced channel outside the pool begins its next period (R191). -/
theorem State.newPeriod_begins (hp : fld (s.chan c).active.pace.toNat 0 16 ≠ 0) (hi : (s.chan c).inPool = false)
    (ht : (s.chan c).transfer.isSome = true) : s.newPeriod c =
      (s.advanceTo ((s.chan c).periodAt + fld (s.chan c).active.pace.toNat 0 16)).modChan c (fun h =>
        { h with periodAt := h.periodAt + fld (s.chan c).active.pace.toNat 0 16, used := 0 }) := by
  have hn : (s.chan c).transfer.isNone = false := by simpa [Option.isNone_eq_false_iff] using ht
  exact if_neg (by simp [hp, hi, hn])

/-! ### Promotion -/

/-- The shadow set of a channel becomes its active set, and its periods begin (R184, R191). -/
def State.promoted (s : State) (c : Nat) : State :=
  (s.modChan c (fun h => { h with active := h.shadow, shadowValid := false, used := 0, periodAt := s.now })).loadActive c

theorem State.promote_idle (hi : (s.chan c).state = .idle) (hv : (s.chan c).shadowValid = true)
    (hp : (s.chan c).inPool = false) (ht : (s.chan c).transfer = none) : s.promote c = (s.promoted c).armStart c := by
  rw [State.promote]
  dsimp only
  rw [if_pos (by simp [hi, hv, hp]), ht]
  rfl

theorem State.loadActive_chan : (s.loadActive c).chan c =
    { s.chan c with transfer := some s.movers.nextTransfer, done := 0, halfSeen := false, retries := [] } :=
  State.chan_modChan_same _ c _

theorem State.promoted_chan : (s.promoted c).chan c = { s.chan c with
    active := (s.chan c).shadow, shadowValid := false, used := 0, periodAt := s.now
    transfer := some s.movers.nextTransfer, done := 0, halfSeen := false, retries := [] } := by
  rw [State.promoted, State.loadActive_chan, State.chan_modChan_same]
  rfl

/-! ### Start sources (R190) -/

theorem State.armStart_atOnce (h : fld (s.chan c).active.cfg.toNat 0 2 = 0) : s.armStart c = s.modChan c Chan.start := by
  simp only [State.armStart, h]

theorem State.armStart_timer (h : fld (s.chan c).active.cfg.toNat 0 2 = 1) : s.armStart c = s.modChan c (fun k =>
    { k with state := .wait, started := false, startAt := s.now + fld (s.chan c).active.pace.toNat 0 16 }) := by
  simp only [State.armStart, h]

theorem State.armStart_chained (h : fld (s.chan c).active.cfg.toNat 0 2 = 2) : s.armStart c = s.modChan c (fun k =>
    { k with state := .wait, started := false }) := by
  simp only [State.armStart, h]

theorem State.armStart_frame (h : fld (s.chan c).active.cfg.toNat 0 2 = 3) : s.armStart c =
    if s.frameStarted (s.chan c).active then s.modChan c Chan.start
    else s.modChan c (fun k => { k with state := .wait, started := false }) := by
  simp only [State.armStart, h]

theorem State.frameStarted_iff (r : ChanRegs) : s.frameStarted r = true ↔
    (s.tenant r.tenant).stepOpen = true ∧ fld r.startFrame.toNat 0 24 ≤ (s.tenant r.tenant).frame := by
  simp [State.frameStarted]

/-- A state with the same tenants has the same frames open. -/
theorem State.frameStarted_tenants (z : State) (r : ChanRegs) (h : z.tenants = s.tenants) : z.frameStarted r = s.frameStarted r := by
  have ht : z.tenant r.tenant = s.tenant r.tenant := by simp only [State.tenant, h]
  rw [State.frameStarted, State.frameStarted, ht]

/-! ### Frame starts -/

/-- What the start of a tenant's frames does to one channel. -/
def State.frameStart (t : Nat) (s : State) (c : Nat) : State :=
  if (s.chan c).state = .wait ∧ fld (s.chan c).active.cfg.toNat 0 2 = 3 ∧ (s.chan c).active.tenant = t
    ∧ s.frameStarted (s.chan c).active then s.modChan c Chan.start else s

theorem State.frameStarts_eq (t : Nat) : s.frameStarts t = (s.movers.chans.map (·.1)).foldl (State.frameStart t) s := by
  rw [List.foldl_map]
  rfl

theorem State.frameStart_tenants (t : Nat) : (State.frameStart t s c).tenants = s.tenants := by
  unfold State.frameStart
  split <;> rfl

theorem State.frameStart_other (t d : Nat) (h : c ≠ d) : (State.frameStart t s d).chan c = s.chan c := by
  unfold State.frameStart
  split
  · rw [State.chan_modChan, if_neg h]
  · rfl

/-- A channel that runs is not started again. -/
theorem State.frameStart_started (t d : Nat) (h : (s.chan c).state ≠ .wait) : (State.frameStart t s d).chan c = s.chan c := by
  by_cases hd : c = d
  · subst hd
    rw [State.frameStart, if_neg (fun k => h k.1)]
  · exact State.frameStart_other s c t d hd

theorem State.frameStart_started_all (t : Nat) (l : List Nat) (h : (s.chan c).state ≠ .wait) :
    (l.foldl (State.frameStart t) s).chan c = s.chan c := by
  induction l generalizing s with
  | nil => rfl
  | cons d r ih =>
    have hd := State.frameStart_started s c t d h
    rw [List.foldl_cons, ih _ (by rw [hd]; exact h), hd]

/-- A channel in WAIT_START whose frame is open, or an earlier one, starts once the list comes to it. -/
theorem State.frameStart_due_all (t : Nat) (l : List Nat) (hl : c ∈ l) (hw : (s.chan c).state = .wait)
    (hk : fld (s.chan c).active.cfg.toNat 0 2 = 3) (ht : (s.chan c).active.tenant = t)
    (hf : s.frameStarted (s.chan c).active = true) :
    (l.foldl (State.frameStart t) s).chan c = (s.chan c).start := by
  induction l generalizing s with
  | nil => cases hl
  | cons d r ih =>
    rw [List.foldl_cons]
    by_cases hd : c = d
    · subst hd
      have hgo : State.frameStart t s c = s.modChan c Chan.start := if_pos ⟨hw, hk, ht, hf⟩
      rw [hgo, State.frameStart_started_all _ c t r (by simp [Chan.start]), State.chan_modChan_same]
    · have hsame := State.frameStart_other s c t d hd
      have hten := State.frameStarted_tenants s (State.frameStart t s d) (s.chan c).active (State.frameStart_tenants s d t)
      have hr := ih (State.frameStart t s d) ((List.mem_cons.mp hl).resolve_left hd)
      rw [hsame] at hr
      exact hr hw hk ht (hten.trans hf)

/-- A channel that is not kept is IDLE, so one that waits is kept. -/
theorem State.chan_waits_kept (h : (s.chan c).state = .wait) : c ∈ s.movers.chans.map (·.1) := by
  by_contra hn
  have hnone : look s.movers.chans c = none := look_none_of_not_key _ c hn
  simp [State.chan, hnone, Chan.init] at h

end

end Sys2Proof.Machine
end

section
/-! SETTLED. The statement on taking, promoting and starting: O28. -/

namespace Sys2Proof.Machine

/-- Settles O28: each event finds its channel as the hypotheses say, so it acts; a promoted set has its four start sources, and a
frame start reaches a waiting channel once, for it is then busy. That a set whose frame has passed already starts at its promotion,
and that the timed events move the time to when they are due, are the choices of log entries 40 and 1. -/
theorem channelsTakePromoteAndStart : Obligations.ChannelsTakePromoteAndStart := by
  unfold Obligations.ChannelsTakePromoteAndStart
  refine ⟨?take, ?promote, ?timer, ?frame, ?pacing⟩
  case take =>
    intro s c id x rest h hc hx
    rw [exec_channelTakesTransfer s h, State.takeTransfer_head s c id x rest hc hx]
    exact State.ends_nil _ h.quiet
  case promote =>
    intro c s y w k h hi hv hp ht hw hk hy
    replace hy : y = s.promoted c.val := hy
    have hchan := State.promoted_chan s c.val
    rw [← hy] at hchan
    have hact : (y.chan c.val).active = w := by rw [hchan, hw]
    have hten : y.tenants = s.tenants := by rw [hy]; rfl
    have hquiet : y.recorder.raised = [] := by rw [hy]; exact h.quiet
    have hframe := State.frameStarted_tenants s y w hten
    rw [exec_shadowPromotion c s h, State.promote_idle s c.val hi hv hp ht, ← hy]
    subst hk
    refine ⟨⟨hact, by rw [hchan], by rw [hchan]⟩, fun hk => ?_, fun hk => ?_, fun hk => ?_, fun hk ho hf => ?_, fun hk hno => ?_⟩
    · rw [State.armStart_atOnce y c.val (by rw [hact]; exact hk)]
      exact State.ends_nil _ hquiet
    · rw [State.armStart_timer y c.val (by rw [hact]; exact hk), hact]
      exact State.ends_nil _ hquiet
    · rw [State.armStart_chained y c.val (by rw [hact]; exact hk)]
      exact State.ends_nil _ hquiet
    · rw [State.armStart_frame y c.val (by rw [hact]; exact hk), hact,
        if_pos (hframe.trans ((State.frameStarted_iff s w).mpr ⟨ho, hf⟩))]
      exact State.ends_nil _ hquiet
    · have hclosed : s.frameStarted w ≠ true := fun hs => by
        obtain ⟨ho, hf⟩ := (State.frameStarted_iff s w).mp hs
        rcases hno with hno | hno
        · simp [hno] at ho
        · omega
      rw [State.armStart_frame y c.val (by rw [hact]; exact hk), hact,
        if_neg (by rw [hframe]; exact hclosed)]
      exact State.ends_nil _ hquiet
  case timer =>
    intro c s h hw hk
    rw [exec_channelTimerStart c s h, State.timerStart_due s c.val hw hk]
    exact State.ends_nil _ h.quiet
  case frame =>
    rintro c t s hw hk rfl ho hf
    rw [State.frameStarts_eq]
    exact State.frameStart_due_all s c _ _ (State.chan_waits_kept s c hw) hw hk rfl
      ((State.frameStarted_iff s _).mpr ⟨ho, hf⟩)
  case pacing =>
    rintro c s p h rfl hp hi ht
    rw [exec_pacingPeriod c s h, State.newPeriod_begins s c.val hp hi ht]
    exact State.ends_nil _ h.quiet

end Sys2Proof.Machine
end

section
/-! SUPPORT. SPL_CTRL and SPB_POOL (R183, R184, R186, R194): the command that a served write gives its channel, and the groups that
a write of the pool asks for. -/

namespace Sys2Proof.Machine

/-! ### SPL_CTRL -/

/-- The command of each bit of SPL_CTRL (R194, R200). -/
def State.splCommand (z : State) (c : Nat) : Fin 4 → State
  | 0 => z.armChannel c
  | 1 => z.stopChannel c
  | 2 => z.abortChannel c
  | 3 => z.restartChannel c

/-- A served write of one bit of SPL_CTRL gives its command, and no other. -/
theorem State.write_splBit (s : State) (p : Port) (c : Fin 64) (k : Fin 4) (h : Writes s p (splCtrl c.val) (w32 (2 ^ k.val))) :
    s.wordWrite p (splCtrl c.val) (2 ^ k.val) = (s.accessed p (splCtrl c.val)).splCommand c.val k := by
  have hbit : ∀ k j : Fin 4, bitAt (w32 (2 ^ k.val)).toNat j.val = decide (j = k) := by decide
  refine (State.write_SPL_CTRL s p _ cleanTest c h).trans ?_
  have h0 := hbit k 0
  have h1 := hbit k 1
  have h2 := hbit k 2
  have h3 := hbit k 3
  simp only [State.onBits, List.foldl]
  fin_cases k <;> simp_all [State.splCommand]

theorem exec_splArm (p : Port) (c : Fin 64) (s : State) (h : Writes s p (splCtrl c.val) 1#32) :
    exec (.splArm p c) s = .next ((s.accessed p (splCtrl c.val)).armChannel c.val).takeRaised :=
  congrArg State.ends (State.write_splBit s p c 0 h)

theorem exec_splStop (p : Port) (c : Fin 64) (s : State) (h : Writes s p (splCtrl c.val) 2#32) :
    exec (.splStop p c) s = .next ((s.accessed p (splCtrl c.val)).stopChannel c.val).takeRaised :=
  congrArg State.ends (State.write_splBit s p c 1 h)

theorem exec_splAbort (p : Port) (c : Fin 64) (s : State) (h : Writes s p (splCtrl c.val) 4#32) :
    exec (.splAbort p c) s = .next ((s.accessed p (splCtrl c.val)).abortChannel c.val).takeRaised :=
  congrArg State.ends (State.write_splBit s p c 2 h)

theorem exec_splRestart (p : Port) (c : Fin 64) (s : State) (h : Writes s p (splCtrl c.val) 8#32) :
    exec (.splRestart p c) s = .next ((s.accessed p (splCtrl c.val)).restartChannel c.val).takeRaised :=
  congrArg State.ends (State.write_splBit s p c 3 h)

section
variable (z : State) (c : Nat)

/-- A pool channel, or a bad set, is marked (R184, R186). -/
theorem State.armChannel_refuses (h : ((z.chan c).inPool || (z.chan c).shadow.bad c) = true) :
    z.armChannel c = z.modChan c (fun k => { k with badCfg := true, shadowValid := false }) := if_pos h

theorem State.armChannel_arms (h : ((z.chan c).inPool || (z.chan c).shadow.bad c) = false) :
    z.armChannel c = z.modChan c (fun k => { k with shadowValid := true }) := if_neg (by simp [h])

/-- A stop ends no halt (R194). -/
theorem State.stopChannel_still (h : (z.chan c).state = .idle ∨ (z.chan c).state = .halted) : z.stopChannel c = z := if_pos h

theorem State.stopChannel_stops (hi : (z.chan c).state ≠ .idle) (hh : (z.chan c).state ≠ .halted) : z.stopChannel c =
    ((if (z.chan c).inPool then z.requeue c else z).modChan c (fun k =>
      { k with state := .idle, started := false, retries := [] })).settle c := if_neg (by simp [hi, hh])

/-- An abort ends a channel's transfer, or queues a pool channel's again, and discards the active set (R194; log entry 18). -/
theorem State.abortChannel_eq (y : State) (hy : y = if (z.chan c).inPool then z.requeue c
      else (z.chan c).transfer.elim z (fun id => (z.abortTxns id (fun _ => true)).dropTransfer id)) : z.abortChannel c =
    (y.modChan c (fun k => { k with
      state := .idle, started := false, retries := [], transfer := none
      active := if k.inPool then k.active else ChanRegs.zero })).settle c := by
  subst hy
  unfold State.abortChannel
  dsimp only
  cases (z.chan c).transfer <;> rfl

theorem State.restartChannel_still (h : (z.chan c).state ≠ .halted) : z.restartChannel c = z := if_pos h

theorem State.restartChannel_pool (h : (z.chan c).state = .halted) (hp : (z.chan c).inPool = true) : z.restartChannel c =
    (z.modChan c (fun k => { k with state := .idle, started := false, transfer := none, retries := [] })).settle c :=
  (if_neg (by simp [h])).trans (if_pos hp)

/-- A halted director channel goes on with its transfer, rewound (R194). -/
theorem State.restartChannel_rewinds (id : Nat) (h : (z.chan c).state = .halted) (hp : (z.chan c).inPool = false)
    (ht : (z.chan c).transfer = some id) : z.restartChannel c =
      (z.rewind id).modChan c (fun k => { k with state := .busy, started := true, retries := [] }) := by
  rw [State.restartChannel, if_neg (by simp [h]), if_neg (by simp [hp]), ht]

end

/-! ### SPB_POOL -/

theorem State.reg64_lt (z : State) (a t : Nat) : z.reg64 a t < 2 ^ 64 := by
  have hlow := (z.regT a t).isLt
  have hhigh := (z.regT (a + 4) t).isLt
  unfold State.reg64
  omega

theorem mapMinus_double (n : Nat) (h : n < 2 ^ 64) : mapMinus n 0xFFFFFFFFFFFFFFFF = 0 := by
  have hwhole : n &&& 0xFFFFFFFFFFFFFFFF = n := Nat.and_two_pow_sub_one_of_lt_two_pow h
  rw [mapMinus, hwhole, Nat.xor_self]

theorem State.put_SPB_POOL (z : State) (p : Port) (n : Nat) (hn : n < 2 ^ 64) :
    z.putValue p ⟨R.SPB_POOL, n, 0xFFFFFFFFFFFFFFFF⟩ = z.writePool n := by
  have hwhole : n &&& 0xFFFFFFFFFFFFFFFF = n := Nat.and_two_pow_sub_one_of_lt_two_pow hn
  have hold : mapMinus (z.reg64 R.SPB_POOL 0) 0xFFFFFFFFFFFFFFFF = 0 := mapMinus_double _ (State.reg64_lt z _ _)
  have honto : (Put.mk R.SPB_POOL n 0xFFFFFFFFFFFFFFFF).onto 0xFFFFFFFFFFFFFFFF (z.reg64 R.SPB_POOL 0) = n := by
    rw [Put.onto_double _ _ _ _ (by decide), hold, hwhole, Nat.zero_add]
  unfold State.putValue
  rw [regAt_SPB_POOL]
  exact congrArg z.writePool honto

theorem State.act_SPB_POOL (z : State) (p : Port) (n m : Nat) (t : BootTest) : z.putAction p ⟨R.SPB_POOL, n, m⟩ t = z := by
  unfold State.putAction
  rw [regAt_SPB_POOL]
  rfl

/-- A written low word is held (R406). -/
theorem State.write_SPB_POOL_low (s : State) (p : Port) (v : Word) (test : BootTest) (h : Writes s p R.SPB_POOL v) :
    s.portWrite p R.SPB_POOL v test =
      (s.accessed p R.SPB_POOL).setLatch p { (s.accessed p R.SPB_POOL).latch p with wr := some (R.SPB_POOL, v) } := by
  rw [State.portWrite_body s p _ v test (by decide) h.fate (by decide),
    State.writeBody_low _ p _ _ v test _ regAt_SPB_POOL rfl rfl rfl, State.servedFrom_unit _ _ _ (by decide)]

/-- The high word behind it writes the pool. -/
theorem State.write_SPB_POOL_high (s : State) (p : Port) (lo hi : Word) (test : BootTest) (h : Writes s p (R.SPB_POOL + 4) hi)
    (hl : (s.latch p).wr = some (R.SPB_POOL, lo)) :
    s.portWrite p (R.SPB_POOL + 4) hi test = (s.accessed p (R.SPB_POOL + 4)).writePool (lo.toNat + hi.toNat * 2 ^ 32) := by
  have hn : lo.toNat + hi.toNat * 2 ^ 32 < 2 ^ 64 := by
    have := lo.isLt
    have := hi.isLt
    omega
  rw [State.portWrite_body s p _ hi test (by decide) h.fate (by decide), hl,
    State.writeBody_high _ p R.SPB_POOL lo hi test _ h.unowned regAt_SPB_POOL_high rfl rfl rfl regAt_SPB_POOL,
    State.put_SPB_POOL _ p _ hn, State.act_SPB_POOL, State.servedFrom_unit _ _ _ (by decide)]

theorem exec_spbPoolWrite (p : Port) (v : BitVec 64) (s x y : State) (h : Writes s p R.SPB_POOL (w32 (v.toNat % 2 ^ 32)))
    (hx : x = s.accessed p R.SPB_POOL)
    (hy : y = x.setLatch p { x.latch p with wr := some (R.SPB_POOL, w32 (v.toNat % 2 ^ 32)) })
    (h' : Writes y p (R.SPB_POOL + 4) (w32 (v.toNat / 2 ^ 32))) :
    exec (.spbPoolWrite p v) s = .next ((y.accessed p (R.SPB_POOL + 4)).writePool v.toNat).takeRaised := by
  have hlow : s.wordWrite p R.SPB_POOL (v.toNat % 2 ^ 32) = y := by
    rw [hy, hx]
    exact State.write_SPB_POOL_low s p _ cleanTest h
  have hheld : (y.latch p).wr = some (R.SPB_POOL, w32 (v.toNat % 2 ^ 32)) := by
    rw [hy, State.latch_setLatch, if_pos rfl]
  have hwords : (w32 (v.toNat % 2 ^ 32)).toNat + (w32 (v.toNat / 2 ^ 32)).toNat * 2 ^ 32 = v.toNat := by
    have := v.isLt
    rw [toNat_w32 _ (by omega), toNat_w32 _ (by omega)]
    omega
  refine congrArg State.ends ?_
  rw [State.wideWrite, hlow]
  exact (State.write_SPB_POOL_high y p _ _ cleanTest h' hheld).trans (by rw [hwords])

section
variable (z : State) (v : Nat)

/-- A pool of fewer than 8 channels is refused (R183). -/
theorem State.writePool_refuses (h : popBits v 64 < 8) : z.writePool v = z := if_pos h

theorem State.writePool_moves (h : 8 ≤ popBits v 64) : z.writePool v = (List.range 64).foldl (fun (s : State) c =>
    if (s.chan c).inPool = bitAt v c ∨ (s.chan c).state ≠ .idle then s else s.joinGroup c) (z.setReg64 R.SPB_POOL 0 v) :=
  if_neg (by omega)

end

end Sys2Proof.Machine
end

section
/-! SETTLED. The statement on the registers of the channels: O29. -/

namespace Sys2Proof.Machine

/-- Settles O29: a served write of SPL_CTRL acts on its one bit, and what that does turns on the channel's state and group; the two
words of SPB_POOL make one write. That the transfer of a stopped or aborted pool channel is queued again, and that a set with
reserved wraps is refused at its arm, are the choices of log entries 18 and 40. -/
theorem channelRegistersCommandTheirChannel : Obligations.ChannelRegistersCommandTheirChannel := by
  unfold Obligations.ChannelRegistersCommandTheirChannel
  refine ⟨?arm, ?stop, ?abort, ?restart, ?pool⟩
  case arm =>
    rintro p c s z h rfl
    rw [exec_splArm p c s h]
    refine ⟨fun hb => ?_, fun hb => ?_⟩
    · rw [State.armChannel_refuses _ _ hb]
      exact State.access_ends s p _ (fun z => z.modChan c.val _) (fun z hz => by rw [← h.quiet, ← hz]; rfl)
    · rw [State.armChannel_arms _ _ hb]
      exact State.access_ends s p _ (fun z => z.modChan c.val _) (fun z hz => by rw [← h.quiet, ← hz]; rfl)
  case stop =>
    rintro p c s z h rfl
    rw [exec_splStop p c s h]
    refine ⟨fun hs => ?_, fun hi hh => ?_⟩
    · rw [State.stopChannel_still _ _ hs, State.takeRaised_nil _ (by simp [h.quiet])]
    · rw [State.stopChannel_stops _ _ hi hh]
  case abort =>
    rintro p c s z y h rfl hy
    rw [exec_splAbort p c s h, State.abortChannel_eq _ _ y hy]
  case restart =>
    rintro p c s z h rfl
    rw [exec_splRestart p c s h]
    refine ⟨fun hs => ?_, fun hs hp => ?_, fun id hs hp ht => ?_⟩
    · rw [State.restartChannel_still _ _ hs, State.takeRaised_nil _ (by simp [h.quiet])]
    · rw [State.restartChannel_pool _ _ hs hp]
    · rw [State.restartChannel_rewinds _ _ id hs hp ht]
  case pool =>
    rintro p v s x y z h hx hy h' rfl
    rw [exec_spbPoolWrite p v s x y h hx hy h']
    refine ⟨fun hf => ?_, fun hf => ?_⟩
    · rw [State.writePool_refuses _ _ hf, State.takeRaised_nil _ (by rw [State.accessed_recorder, h'.quiet])]
    · rw [State.writePool_moves _ _ hf]

end Sys2Proof.Machine
end

section
/-! SUPPORT. Retired units and shelves (R205, R214 to R216): what a notice of the die does, and what a retired shelf takes with
it. -/

namespace Sys2Proof.Machine

theorem exec_retire (ex : Bool) (a : BitVec 64) (s : State) (h : Runs s) :
    exec (if ex then .retireExclude a else .retireEvacuate a) s = .next (s.retireUnit a.toNat ex).takeRaised := by
  cases ex with
  | true => exact congrArg State.ends (State.notify_runs s (.retire a.toNat true) h)
  | false => exact congrArg State.ends (State.notify_runs s (.retire a.toNat false) h)

theorem exec_retireLost (a : BitVec 64) (s : State) (h : Runs s) :
    exec (.retireLost a) s = .next ((s.loseUnit a.toNat).drain).takeRaised :=
  congrArg State.ends (State.notify_runs s (.lost a.toNat) h)

theorem exec_softRepairDone (a : BitVec 64) (s : State) (h : Runs s) :
    exec (.softRepairDone a) s = .next (s.repairDone a.toNat) :=
  (congrArg State.ends (State.notify_runs s (.repaired a.toNat) h)).trans (State.ends_nil _ h.quiet)

theorem exec_nearChannelLost (s : State) (h : Runs s) : exec .nearChannelLost s =
    .next { s with tiers := { s.tiers with nearChans := s.tiers.nearChans - 1 } } :=
  (congrArg State.ends (State.notify_runs s .nearLost h)).trans (State.ends_nil _ h.quiet)

theorem exec_shelfRetire (sh : Fin 112) (s : State) (h : Runs s) :
    exec (.shelfRetire sh) s = .next ((s.retireShelf sh.val).drain).takeRaised :=
  congrArg State.ends (State.unit_runs s 11 (fun s => (s.retireShelf sh.val).drain) h)

/-- The KEPT slates of a shelf that is out of use are recovered or LOST, and the retirement is recorded (R205, R409). -/
def State.emptyShelf (y : State) (sh : Nat) (hit : List Nat) : State :=
  (((hit.foldl (fun z i => if (z.slate i).state = .kept then z.recoverOrLose i 2 .dropped else z) y).logRetired 3 0 sh
    hit).pageError 0x09 (w32 sh) 0).raise 0x09 1

section
variable (s y : State) (sh : Nat) (hr : bitAt s.vault.retired sh = false)
include hr

/-- A shelf that no tenant holds takes nobody's capacity. -/
theorem State.retireShelf_unheld (hh : s.shelfHolder sh = none)
    (hy : y = { s with vault := { s.vault with retired := setBit s.vault.retired sh true } }) :
    s.retireShelf sh = (y.emptyShelf sh (s.onShelfSlates sh)).tendJobs := by
  subst hy
  unfold State.retireShelf
  rw [if_neg (by simp [hr]), hh]
  rfl

/-- The tenant of a shelf loses its capacity, and recuts its open step (R106). -/
theorem State.retireShelf_held (t : Nat) (hh : s.shelfHolder sh = some t)
    (hy : y = ({ s with vault := { s.vault with retired := setBit s.vault.retired sh true } } : State).modTenant t
      (fun x => { x with capLoss := x.capLoss + 32768 })) (z : State) (hz : z = y.emptyShelf sh (s.onShelfSlates sh)) :
    s.retireShelf sh = (if (z.tenant t).stepOpen then z.recut t (z.tenant t).frame else z).tendJobs := by
  subst hy hz
  unfold State.retireShelf
  rw [if_neg (by simp [hr]), hh]
  rfl

end

end Sys2Proof.Machine
end

section
/-! SUPPORT. The host tier (R225 to R230): what a write of TIER_HOST or TIER_HB does, and what the die's events do to it. -/

namespace Sys2Proof.Machine

theorem exec_hostDetach (p : Port) (s : State) (h : Writes s p R.TIER_HOST 1#32) :
    exec (.hostDetach p) s = .next ((s.accessed p R.TIER_HOST).detachHost 0).takeRaised :=
  congrArg State.ends (State.write_TIER_HOST s p 1#32 cleanTest h)

theorem exec_hostAttach (p : Port) (s : State) (h : Writes s p R.TIER_HOST 2#32) :
    exec (.hostAttach p) s = .next (s.accessed p R.TIER_HOST).attachHost.takeRaised :=
  congrArg State.ends (State.write_TIER_HOST s p 2#32 cleanTest h)

theorem exec_hostLinkDown (s : State) (h : Runs s) : exec .hostLinkDown s = .next (s.detachHost 2).takeRaised :=
  congrArg State.ends (State.notify_runs s .linkDown h)

theorem exec_heartbeatExpiry (s : State) (h : Runs s) : exec .heartbeatExpiry s = .next s.heartbeatLost.takeRaised :=
  congrArg State.ends (State.unit_runs s 11 _ h)

theorem exec_tierHb (p : Port) (v : Word) (s z : State) (h : Writes s p R.TIER_HB v) (hz : z = s.accessed p R.TIER_HB) :
    exec (.tierHb p v) s = .next { z with tiers := { z.tiers with hbAt := z.now } } := by
  subst hz
  exact (congrArg State.ends (State.write_TIER_HB s p v cleanTest h)).trans
    (State.access_ends s p _ (fun z => { z with tiers := { z.tiers with hbAt := z.now } }) (fun z hz => hz ▸ h.quiet))

/-- A heartbeat with a limit detaches an attached host at the end of the limit (R225). -/
theorem State.heartbeatLost_detaches (s : State) (n : Nat) (hn : n = fld (s.reg R.TIER_HB_LIMIT).toNat 0 24) (h0 : n ≠ 0)
    (ha : s.tiers.host = .attached) : s.heartbeatLost = (s.advanceTo (s.tiers.hbAt + 100 * n)).detachHost 1 := by
  subst hn
  exact if_neg (by simp [h0, ha])

/-- The tenants whose STEP_BEGIN waits for the host, ascending (R227). -/
def State.heldTenants (s : State) : List Nat := (List.range 8).filter (fun t => (s.tenant t).held.isSome)

/-- An attach is recorded with the time it took and the tenants that waited; then each of them begins its step (R229). -/
theorem State.attachHost_attaches (z x y : State) (held : List Nat) (hd : z.tiers.host ≠ .attached) (hh : held = z.heldTenants)
    (hx : x = { z with tiers := { z.tiers with host := .attached } })
    (hy : y = (x.log 0x0803 11 [w32 (min 0xFFFFFFFF ((z.now - z.tiers.detachedAt) / 100)), w32 (sumNat (held.map (2 ^ ·))), 0#32,
      0#32]).raise 0x08 2) :
    z.attachHost = held.foldl (fun s t => ((s.tenant t).held.elim s (fun c =>
      (s.modTenant t (fun x => { x with held := none })).beginStep c))) y := by
  subst hh hx hy
  unfold State.attachHost
  rw [if_neg hd]
  refine congrArg (fun f => List.foldl f _ _) ?_
  funext s t
  cases (s.tenant t).held <;> rfl

/-- A detachment turns the tier off, then sends each live slate its own way, halts the channels that touch host memory, gives up
the tier's extents and leaves one record (R226). -/
theorem State.detachHost_detaches (s x y z : State) (n a b c : Nat) (ha : s.tiers.host = .attached)
    (hx : x = (List.range 8).foldl (fun (s : State) t => s.modTenant t (fun x => { x with enHost := false }))
      { s with tiers := { s.tiers with host := .detached, detachedAt := s.now } })
    (hy : x.liveSlates.foldl State.detachSlate (x, 0, 0, 0) = (y, a, b, c))
    (hz : z = ((y.movers.chans.map (·.1)).foldl (fun (s : State) c =>
      if (s.chan c).state = .busy ∧ !(s.chan c).inPool ∧ s.touchesHost c then s.linkHalt c else s) y).keepExtents
        (fun x => x.tier != 3)) :
    s.detachHost n = ((z.log 0x0802 11 [w32 n, w32 a, w32 b, w32 c]).raise 0x08 1).tendJobs.drain := by
  subst hz
  unfold State.detachHost
  dsimp only
  rw [if_neg (by simp [ha]), ← hx, hy]

end Sys2Proof.Machine
end

section
/-! SUPPORT. The region table (R220, R221, R230): what a write of TIER_RGN_SEL or TIER_RGN_CTRL does, by the checks of the staged
entry. -/

namespace Sys2Proof.Machine

theorem State.selectRegion_recorder (s : State) (e : Nat) : (s.selectRegion e).recorder = s.recorder := by
  simp [State.selectRegion]

/-- The entry of TIER_RGN_SEL is the whole field. -/
theorem exec_regionSelect (p : Port) (e : BitVec 6) (s : State) (h : Writes s p R.TIER_RGN_SEL (w32 e.toNat)) :
    exec (.regionSelect p e) s = .next ((s.accessed p R.TIER_RGN_SEL).selectRegion e.toNat) := by
  have he : fld (w32 e.toNat).toNat 0 6 = e.toNat := by
    rw [toNat_w32 _ (by omega)]
    exact Nat.mod_eq_of_lt e.isLt
  refine (congrArg State.ends (State.write_TIER_RGN_SEL s p (w32 e.toNat) cleanTest h)).trans ?_
  rw [he]
  exact State.access_ends s p _ (fun z => z.selectRegion e.toNat)
    (fun z hz => by rw [State.selectRegion_recorder, hz, h.quiet])

theorem exec_regionCommit (p : Port) (s : State) (h : Writes s p R.TIER_RGN_CTRL 1#32) :
    exec (.regionCommit p) s = .next (s.accessed p R.TIER_RGN_CTRL).commitRegion.takeRaised :=
  congrArg State.ends (State.write_TIER_RGN_CTRL s p 1#32 cleanTest h)

theorem exec_regionEmpty (p : Port) (s : State) (h : Writes s p R.TIER_RGN_CTRL 2#32) :
    exec (.regionEmpty p) s = .next (s.accessed p R.TIER_RGN_CTRL).emptyRegion.takeRaised :=
  congrArg State.ends (State.write_TIER_RGN_CTRL s p 2#32 cleanTest h)

section
variable (z : State)

theorem State.commitRegion_bad (hb : z.regionBad z.regionSel z.stagedRegion = true) :
    z.commitRegion = (z.regionResult 3).raise 0x08 8 := if_pos hb

section
variable (hb : z.regionBad z.regionSel z.stagedRegion = false)
include hb

theorem State.commitRegion_busy (hu : z.regionBusy z.regionSel = true) :
    z.commitRegion = (z.regionResult 1).raise 0x08 8 := by
  simp [State.commitRegion, hb, hu]

theorem State.commitRegion_overlaps (hu : z.regionBusy z.regionSel = false) (hk : z.stagedRegion.kind ≠ 0)
    (ho : z.regionOverlap z.regionSel z.stagedRegion = true) : z.commitRegion = (z.regionResult 2).raise 0x08 8 := by
  simp [State.commitRegion, hb, hu, hk, ho]

theorem State.commitRegion_stores (hu : z.regionBusy z.regionSel = false) (hk : z.stagedRegion.kind ≠ 0)
    (ho : z.regionOverlap z.regionSel z.stagedRegion = false) : z.commitRegion =
      { z with tiers := { z.tiers with regions := put z.tiers.regions z.regionSel z.stagedRegion, rgnResult := 0 } } := by
  simp [State.commitRegion, hb, hu, hk, ho]

/-- An entry of kind NONE empties its place, whatever it overlaps (R221). -/
theorem State.commitRegion_empties (hu : z.regionBusy z.regionSel = false) (hk : z.stagedRegion.kind = 0) : z.commitRegion =
      { z with tiers := { z.tiers with regions := del z.tiers.regions z.regionSel, rgnResult := 0 } } := by
  simp [State.commitRegion, hb, hu, hk]

end

theorem State.emptyRegion_busy (hu : z.regionBusy z.regionSel = true) : z.emptyRegion = z.regionResult 1 := if_pos hu

theorem State.emptyRegion_removes (hu : z.regionBusy z.regionSel = false) : z.emptyRegion =
    { z with tiers := { z.tiers with regions := del z.tiers.regions z.regionSel, rgnResult := 0 } } := if_neg (by simp [hu])

end

end Sys2Proof.Machine
end

section
/-! SETTLED. The statements on retirement, the host tier and the region table: O31, O32 and O33. -/

namespace Sys2Proof.Machine

/-- Settles O31: a notice of the die that need not wait acts at once; the slates that cover a unit, or rest on a shelf, are those
from before any of them moves. -/
theorem retirementNoticesAct : Obligations.RetirementNoticesAct := by
  unfold Obligations.RetirementNoticesAct
  intro s h
  refine ⟨?unit, ?lost, fun a => exec_softRepairDone a s h, ?unheld, ?held, exec_nearChannelLost s h⟩
  case unit =>
    rintro a ex u y rfl rfl
    exact exec_retire ex a s h
  case lost =>
    rintro a u y z rfl rfl rfl
    exact exec_retireLost a s h
  case unheld =>
    rintro sh y z hr hh hy rfl
    rw [exec_shelfRetire sh s h, State.retireShelf_unheld s y _ hr hh hy]
    rfl
  case held =>
    rintro sh t y z hr hh hy hz
    rw [exec_shelfRetire sh s h, State.retireShelf_held s y _ hr t hh hy z hz]

/-- Settles O32: the three causes meet in one detachment, which differs by its cause number alone; an attach takes the tenants
that wait from before it and begins their steps after its record. That a channel counts by its active addresses, and each slate as
the pass meets it, are the choices of log entry 45. -/
theorem hostTierDetachesAndAttaches : Obligations.HostTierDetachesAndAttaches := by
  unfold Obligations.HostTierDetachesAndAttaches
  refine ⟨?detach, exec_hostLinkDown, ?heartbeat, fun p v s z h hz => exec_tierHb p v s z h hz, ?detachment, ?attach⟩
  case detach =>
    rintro p s z h rfl
    exact exec_hostDetach p s h
  case heartbeat =>
    rintro s n h hn h0 ha
    rw [exec_heartbeatExpiry s h, State.heartbeatLost_detaches s n hn h0 ha]
  case detachment =>
    rintro s x y z n a b c ha hx hy hz
    exact State.detachHost_detaches s x y z n a b c ha hx hy.symm hz
  case attach =>
    rintro p s z x y held h rfl hd hh hx hy
    rw [exec_hostAttach p s h, State.attachHost_attaches _ x y held hd hh hx hy]

/-- Settles O33: a commit meets its checks in the order BAD, BUSY, OVERLAP, and raises the interrupt at each; an empty meets BUSY
alone. That a staged NONE empties the entry, and that a refused empty raises no interrupt, are the choices of log entry 46. -/
theorem regionsAreSelectedCommittedAndEmptied : Obligations.RegionsAreSelectedCommittedAndEmptied := by
  unfold Obligations.RegionsAreSelectedCommittedAndEmptied
  refine ⟨?select, ?commit, ?empty⟩
  case select =>
    rintro p e s z r h rfl rfl
    exact exec_regionSelect p e s h
  case commit =>
    rintro p s z e r h rfl rfl rfl
    have quiet : (s.accessed p R.TIER_RGN_CTRL).recorder.raised = [] := by rw [State.accessed_recorder, h.quiet]
    rw [exec_regionCommit p s h]
    refine ⟨fun hb => ?_, fun hb hu => ?_, fun hb hu hk ho => ?_, fun hb hu hk ho => ?_, fun hb hu hk => ?_⟩
    · rw [State.commitRegion_bad _ hb]
    · rw [State.commitRegion_busy _ hb hu]
    · rw [State.commitRegion_overlaps _ hb hu hk ho]
    · rw [State.commitRegion_stores _ hb hu hk ho]
      exact State.ends_nil _ quiet
    · rw [State.commitRegion_empties _ hb hu hk]
      exact State.ends_nil _ quiet
  case empty =>
    rintro p s z e h rfl rfl
    have quiet : (s.accessed p R.TIER_RGN_CTRL).recorder.raised = [] := by rw [State.accessed_recorder, h.quiet]
    rw [exec_regionEmpty p s h]
    refine ⟨fun hu => ?_, fun hu => ?_⟩
    · rw [State.emptyRegion_busy _ hu]
      exact State.ends_nil _ quiet
    · rw [State.emptyRegion_removes _ hu]
      exact State.ends_nil _ quiet

end Sys2Proof.Machine
end

section
/-! SUPPORT. Power-down of another domain (R225, R303, R317, R363 to R365, R374): how a request begins, drains, defers and is
granted, what a grant does to each kind of transfer, and what a withdrawn request lets proceed. -/

namespace Sys2Proof.Machine

/-! ### The request -/

theorem exec_pdRequest (d : Fin 4) (s : State) (h : s.isReady = true) :
    exec (.pdRequest d) s = .next ((s.pdRequest d.val).movedFrom s).takeRaised :=
  congrArg State.ends (if_pos h)

/-- Before READY the grant is taken as given (R374). -/
theorem exec_pdRequest_unready (d : Fin 4) (s : State) (quiet : s.recorder.raised = []) (h : s.isReady = false) :
    exec (.pdRequest d) s = .next (s.setPd d.val ⟨true, .none, s.now⟩) :=
  (congrArg State.ends (if_neg (by simp [h]))).trans (State.ends_nil _ quiet)

section
variable (s : State) (d : Nat) (h : (s.pd d).req = false)
include h

/-- The host domain's request is a cause of wake (R357). -/
theorem State.pdRequest_host (h0 : d = 0) :
    s.pdRequest d = ((s.raise 0x02 1).setPd d ⟨true, .drain, s.now⟩).rouse :=
  (if_neg (by simp [h])).trans (if_pos h0)

theorem State.pdRequest_drains (h0 : d ≠ 0) (ha : s.asleep = false) :
    s.pdRequest d = (s.raise 0x02 1).setPd d ⟨true, .drain, s.now⟩ :=
  (if_neg (by simp [h])).trans ((if_neg h0).trans (if_neg (show ¬ s.asleep = true by simp [ha])))

/-- In sleep there is no drain to wait for: the request is granted at once. -/
theorem State.pdRequest_grants (h0 : d ≠ 0) (ha : s.asleep = true) :
    s.pdRequest d = ((s.raise 0x02 1).setPd d ⟨true, .none, s.now⟩).grant d :=
  (if_neg (by simp [h])).trans ((if_neg h0).trans (if_pos ha))

end

/-- The interrupt and the phase of a request leave the power state alone. -/
theorem State.requested_asleep (s : State) (d : Nat) (x : Pd) : ((s.raise 0x02 1).setPd d x).asleep = s.asleep := rfl

/-! ### Drain and deferral -/

theorem exec_pdDrainEnd (d : Fin 4) (s : State) (h : s.isReady = true) :
    exec (.pdDrainEnd d) s = .next ((s.drainEnd d.val).movedFrom s).takeRaised :=
  congrArg State.ends (if_pos h)

theorem exec_pdDeferEnd (d : Fin 4) (s : State) (h : s.isReady = true) :
    exec (.pdDeferEnd d) s = .next ((s.deferEnd d.val).movedFrom s).takeRaised :=
  congrArg State.ends (if_pos h)

/-- What is in flight to a domain is a transaction or, for the I/O die, a peer operation (R363). -/
theorem State.domainBusy_iff (s : State) (d : Nat) :
    s.domainBusy d = true ↔ s.domainTxns d ≠ [] ∨ d = 3 ∧ s.peer.ops ≠ [] := by
  simp [State.domainBusy]

/-- The drain's end asks the domain's transfers, as they are then, whether one defers the grant (R364). -/
theorem State.drainEnd_eq (s t y : State) (d : Nat) (h : (s.pd d).phase = .drain)
    (ht : t = if s.domainTxns d ≠ [] ∨ d = 3 ∧ s.peer.ops ≠ [] then s.advanceTo ((s.pd d).since + s.drainLimit) else s)
    (hy : y = t.setPd d { s.pd d with phase := .defer, since := t.now }) :
    s.drainEnd d = (nearest (y.deferring d)).elim (t.grant d) (fun x => y.log 0x0203 8
      [w32 d, w32 (s.deferMax / 100), slateWord x.slate x.gen x.tenant, w32 (s.domainTransfers d).length]) := by
  have hpd : t.pd d = s.pd d := by rw [ht]; split <;> rfl
  have hmax : t.deferMax = s.deferMax := by rw [ht]; split <;> rfl
  rw [← hpd] at hy
  rw [← hmax, hy, ht]
  unfold State.drainEnd
  simp only [State.domainBusy_iff]
  rw [if_neg (by simp [h])]
  split
  · next hn => rw [hn]; rfl
  · next x hn => rw [hn]; rfl

/-- The end of a deferral grants, at its limit where a transfer still defers (R364). -/
theorem State.deferEnd_grants (s t : State) (d : Nat) (h : (s.pd d).phase = .defer)
    (ht : t = if s.deferring d = [] then s else s.advanceTo ((s.pd d).since + s.deferMax)) : s.deferEnd d = t.grant d := by
  subst ht
  exact if_neg (by simp [h])

/-! ### The grant -/

/-- The power-down of a domain is granted, and no transaction is in flight to it any more. -/
def State.txnsDropped (s : State) (d : Nat) : State :=
  { s.setPd d { s.pd d with phase := .granted } with
    movers := { s.movers with txns := s.movers.txns.filter (fun p => p.2.domain != some d) } }

/-- A grant drops what is in flight to the domain and aborts its transfers; that of the host domain detaches the host (R225, R317,
R363). -/
theorem State.grant_eq (s y w : State) (d : Nat) (ids : List Nat) (r : State × List Nat × Nat)
    (hids : ids = once (((s.domainTxns d).filter (fun t => !t.aborted)).map (·.transfer)))
    (hy : y = { s.setPd d { s.pd d with phase := .granted } with
      movers := { s.movers with txns := s.movers.txns.filter (fun p => p.2.domain != some d) }
      peer := { s.peer with ops := if d = 3 then [] else s.peer.ops } })
    (hr : r = ids.foldl (State.abortFor d) (y, [], 0))
    (hw : w = if ids = [] then r.1 else r.1.log 0x0204 8 [w32 d, w32 ids.length, w32 r.2.1.length, w32 r.2.2]) :
    s.grant d = (if d = 0 then w.detachHost 3 else w).tendJobs.drain := by
  have hpeer : y = if d = 3 then { s.txnsDropped d with peer := { s.peer with ops := [] } } else s.txnsDropped d := by
    rw [hy]
    split <;> rfl
  subst hids hr hw
  rw [hpeer]
  rfl

section
variable (s : State) (d id n : Nat) (l : List Nat) (x : Transfer) (hx : s.transfer id = some x)
include hx

/-- The slate of an outbound transfer is placed again, and not on the tier that is lost for the step. -/
theorem State.abortFor_out (hk : x.kind = .out) : State.abortFor d (s, l, n) id =
    ((s.endTransfer id 0).modTenant x.tenant (fun t =>
      { t with enOff := if t.enOff.contains x.tier then t.enOff else t.enOff ++ [x.tier] }),
    (if l.contains x.slate then l else x.slate :: l), n) := by
  simp only [State.abortFor, hx, hk]

theorem State.abortFor_ret (hk : x.kind = .ret) : State.abortFor d (s, l, n) id =
    (((s.removeTransfer id).startReturn x.slate x.deadline x.operandOf).waitForPower d, l, n) := by
  simp only [State.abortFor, hx, hk]

theorem State.abortFor_move (hk : x.kind = .move) : State.abortFor d (s, l, n) id =
    (((s.cancelTransfer id).startMove x.slate x.deadline).waitForPower d, l, n) := by
  simp only [State.abortFor, hx, hk]

theorem State.abortFor_prop (hk : x.kind = .prop) : State.abortFor d (s, l, n) id =
    (((s.removeTransfer id).queueTransfer (s.rewound x)).waitForPower d, l, n) := by
  simp only [State.abortFor, hx, hk]

theorem State.abortFor_director (c : Nat) (hk : x.kind = .director) (hc : s.channelOf id = some c) :
    State.abortFor d (s, l, n) id = (s.linkHalt c, l, n + 1) := by
  simp only [State.abortFor, hx, hk, hc]

end

/-! ### The request falls -/

theorem exec_pdRequestWithdrawn (d : Fin 4) (s : State) :
    exec (.pdRequestWithdrawn d) s = .next ((s.pdWithdraw d.val).movedFrom s).takeRaised := rfl

/-- Transfers, writes and, for the I/O die, peer operations that waited for the domain proceed (R365). -/
theorem State.pdWithdraw_eq (s y z : State) (d : Nat)
    (hy : y = { s.setPd d ⟨false, .none, s.now⟩ with movers := { s.movers with transfers := s.movers.transfers.map (fun p =>
      (p.1, if p.2.powerWait = some d then { p.2 with powerWait := none } else p.2)) } })
    (hz : z = (y.power.heldWrites.filter (fun w => y.memOpen w.1)).foldl (fun (s : State) w => s.memWrite w.1 w.2)
      { y with power := { y.power with heldWrites := y.power.heldWrites.filter (fun w => !y.memOpen w.1) } }) :
    s.pdWithdraw d = if d = 3 then (once (z.peer.waitingOps.map (·.package))).foldl State.drainPeer z else z := by
  subst hz hy
  rfl

end Sys2Proof.Machine
end

section
/-! SETTLED. The statement on the power-down of another domain: O52. -/

namespace Sys2Proof.Machine

/-- Settles O52: the request is handled by its domain and by the power state; each end of the handling meets the same grant,
which aborts what is in flight one transfer after the other, by its kind. That the peer operations in flight are dropped
at the grant of the I/O die, and that the writes of other units than movers are held until the request falls, are the choices of
log entries 68 and 97. -/
theorem powerDownDrainsDefersAndGrants : Obligations.PowerDownDrainsDefersAndGrants := by
  unfold Obligations.PowerDownDrainsDefersAndGrants
  refine ⟨?request, fun d s quiet h => exec_pdRequest_unready d s quiet h, ?drain, ?deferral, ?grant, ?abort, ?withdrawn⟩
  case request =>
    rintro d s h hq
    rw [exec_pdRequest d s h.ready]
    refine ⟨fun h0 => ?_, fun h0 ha => ?_, fun h0 ha => ?_⟩
    · rw [State.pdRequest_host s _ hq h0, State.takeRaised_nil _ (by simp [State.movedFrom_recorder, h.quiet])]
    · rw [State.pdRequest_drains s _ hq h0 ha, State.movedFrom_awake _ _ ((State.requested_asleep s _ _).trans ha),
        State.takeRaised_nil _ (by simp [h.quiet])]
    · rw [State.pdRequest_grants s _ hq h0 ha]
  case drain =>
    rintro d s t y h hp ht hy
    rw [exec_pdDrainEnd d s h.ready, State.drainEnd_eq s t y _ hp ht hy]
    refine ⟨fun x hn => ?_, fun hn => ?_⟩
    · rw [hn]
      rfl
    · rw [hn]
      rfl
  case deferral =>
    rintro d s t h hp ht
    rw [exec_pdDeferEnd d s h.ready, State.deferEnd_grants s t _ hp ht]
  case grant =>
    rintro d s y w ids r hids hy hr hw
    exact State.grant_eq s y w d ids r hids hy hr hw
  case abort =>
    rintro d id n s l x hx
    exact ⟨State.abortFor_out s d id n l x hx, State.abortFor_ret s d id n l x hx, State.abortFor_move s d id n l x hx,
      State.abortFor_prop s d id n l x hx, fun c hk hc => State.abortFor_director s d id n l x hx c hk hc⟩
  case withdrawn =>
    rintro d s y z - hy hz
    rw [exec_pdRequestWithdrawn d s, State.pdWithdraw_eq s y z _ hy hz]

end Sys2Proof.Machine
end

section
/-! SUPPORT. PROP_CALL, INTERMISSION and RESUME (R245, R249, R251 to R253, R263): when they run, what they leave for the steps that
follow, and what the end of a clearing does. -/

namespace Sys2Proof.Machine

/-! ### PROP_CALL -/

theorem exec_propCall_taken (c : Cmd) (s : State) (h : Takes s c) (hd : s.sealPending (s.tenantOf c) = false) :
    exec (.propCall c) s = .next ((s.taken 0x20#8 c).runProp c).takeRaised :=
  State.command_ends s 0x20#8 c h (State.prepare_other _ _ c (by decide)) (State.mustWait_decided s _ c (.inr rfl) hd)

/-- A prop entry that has no slate of the step yet is gathered, and the completion names its slate. -/
theorem State.runProp_gathers (s : State) (c : Cmd) (ei : Nat) (e : Entry) (d : PropDesc) (g : State × Nat)
    (hg : s.gate 0x20 c true = none) (hi : s.entryOfTag (s.tenantOf c) c.tag.toNat = some ei)
    (he : s.entryAt (s.tenantOf c) ei = some e) (hd : s.propOf (s.tenantOf c) e = some d) (hp : e.streamClass = 2)
    (hn : ei ∉ (s.tenant (s.tenantOf c)).opened) (hs : s.hasSlot (s.tenantOf c) = true)
    (hz : g = s.startGather (s.tenantOf c) ei e d) :
    s.runProp c = g.1.complete 0x20#8 c
      { status := 0, slate := g.2, gen := (g.1.slate g.2).gen, result := some (g.1.slate g.2).state.num,
        value := some (w32 e.gatherGr) } := by
  subst hz
  simp [State.runProp, hg, hi, he, hd, hp, hn, hs]

/-! ### INTERMISSION and RESUME -/

section
variable (s : State) (c : Cmd)

/-- A loan command waits only for a clearing under way (log entry 21). -/
theorem State.mustWait_loan (op : BitVec 8) (hop : op = 0x32#8 ∨ op = 0x33#8) (h : s.security.clearing = none) :
    s.mustWait (op, c) = false := by
  rcases hop with rfl | rfl <;> simp [State.mustWait, eyeOp, h]

theorem exec_intermission_taken (h : Takes s c) (hn : s.security.clearing = none) :
    exec (.intermission c) s = .next ((s.taken 0x32#8 c).runLend c).takeRaised :=
  State.command_ends s 0x32#8 c h (State.prepare_other _ _ c (by decide)) (State.mustWait_loan s c _ (.inl rfl) hn)

theorem exec_resume_taken (h : Takes s c) (hn : s.security.clearing = none) :
    exec (.resume c) s = .next ((s.taken 0x33#8 c).runResume c).takeRaised :=
  State.command_ends s 0x33#8 c h (State.prepare_other _ _ c (by decide)) (State.mustWait_loan s c _ (.inr rfl) hn)

/-- The highest shelves of the lender are to be cleared for the borrower (R252). -/
theorem State.runLend_lends (h : s.loanRefusal c = none) : s.runLend c = { s with security := { s.security with
    clearing := some ⟨s.tenantOf c, loanBorrower c, highBits (s.shelvesOf (s.tenantOf c)) (loanShelves c)⟩
    clearCmd := some c, clearReturn := false } } := by
  unfold State.runLend
  dsimp only
  rw [h]

section
variable (hr : cmdReserved 0x33 c = false)
include hr

theorem State.runResume_noLoan (h : s.security.loans.find? (fun l => l.lender == s.tenantOf c) = none) :
    s.runResume c = s.complete 0x33#8 c { status := 0x4A } := by
  simp [State.runResume, State.refuse, hr, h]

variable (l : Loan) (h : s.security.loans.find? (fun l => l.lender == s.tenantOf c) = some l)
include h

theorem State.runResume_busy (ho : (s.tenant l.borrower).stepOpen = true) :
    s.runResume c = s.complete 0x33#8 c { status := 0x4B } := by
  simp [State.runResume, State.refuse, hr, h, ho]

/-- The loan is over, and its shelves are to be cleared (R253). -/
theorem State.runResume_returns (ho : (s.tenant l.borrower).stepOpen = false) : s.runResume c = { s with security := { s.security with
    loans := s.security.loans.erase l, clearing := some l, clearCmd := some c, clearReturn := true } } := by
  simp [State.runResume, hr, h, ho]

end

end

/-! ### The end of a clearing -/

theorem exec_shelfClearDone_loan (z : State) (h : Runs z) (ha : z.security.applying = none) :
    exec .shelfClearDone z = .next z.shelvesCleared.drain.takeRaised := by
  refine congrArg State.ends ((State.running_ready z _ h).trans ?_)
  unfold State.shelfClearDone
  rw [ha]

/-- The shelves change hands, and the command completes with their number (log entry 30). -/
theorem State.endLoan_eq (z : State) (l : Loan) (c : Cmd) (h : z.security.clearing = some l) (hc : z.security.clearCmd = some c) :
    z.endLoan = ({ z with security := { z.security with
        clearing := none, clearCmd := none, clearReturn := false
        loans := if z.security.clearReturn then z.security.loans else z.security.loans ++ [l] } } : State).complete
      (if z.security.clearReturn then 0x33#8 else 0x32#8) c { status := 0, value := some (w32 (popBits
        (if z.security.clearReturn then mapMinus l.shelves z.vault.retired else l.shelves) 112)) } := by
  unfold State.endLoan
  rw [h, hc]

section
variable (z : State) (t base : Nat) (save loan : Bool) (hx : z.eyes.ctx = none)
include hx

/-- Without a region for its image no context operation begins (R293, R294). -/
theorem State.startCtx_noRegion (h : z.controlRegion t base (z.ctxBytes t) = none) :
    z.startCtx t base save loan = z.ctxRefuse 3 := by
  simp [State.startCtx, hx, h]

/-- A context operation begins; a save first ends the tenant's waits (R293). -/
theorem State.startCtx_begins (h : (z.controlRegion t base (z.ctxBytes t)).isSome = true) (y : State)
    (hy : y = if save then z.endWaits (fun w => w.tenant == t) 0x24 true else z) :
    z.startCtx t base save loan = { y with eyes := { y.eyes with ctx := some {
      tenant := t, save := save, base := base, loan := loan
      ended := (z.eyes.waits.filter (fun w => w.tenant == t)).length } } } := by
  have hr : (z.controlRegion t base (z.ctxBytes t)).isNone = false := Option.isNone_eq_false_iff.mpr h
  subst hy
  simp [State.startCtx, hx, hr]

variable (l : Loan) (hl : z.security.clearing = some l)
include hl

/-- Where no region is set up for the lender's context the loan ends its change at once (R252, R253). -/
theorem State.shelvesCleared_noRegion
    (h : z.controlRegion l.lender (z.reg64 R.SHT_INT_SAVE l.lender) (z.ctxBytes l.lender) = none) :
    z.shelvesCleared = (z.ctxRefuse 3).endLoan := by
  have hn : (z.ctxRefuse 3).eyes.ctx = none := hx
  unfold State.shelvesCleared
  rw [hl]
  simp [hx, hn, State.startCtx_noRegion z _ _ _ _ hx h]

/-- Otherwise the lender's context is saved at the start of a loan and restored at its end (R252, R253). -/
theorem State.shelvesCleared_region (y : State)
    (h : (z.controlRegion l.lender (z.reg64 R.SHT_INT_SAVE l.lender) (z.ctxBytes l.lender)).isSome = true)
    (hy : y = if z.security.clearReturn then z else z.endWaits (fun w => w.tenant == l.lender) 0x24 true) :
    z.shelvesCleared = { y with eyes := { y.eyes with ctx := some {
      tenant := l.lender, save := !z.security.clearReturn, base := z.reg64 R.SHT_INT_SAVE l.lender, loan := true
      ended := (z.eyes.waits.filter (fun w => w.tenant == l.lender)).length } } } := by
  have hs := State.startCtx_begins z _ _ (!z.security.clearReturn) true hx h y (by rw [hy]; cases z.security.clearReturn <;> rfl)
  unfold State.shelvesCleared
  rw [hl]
  simp [hx, hs]

end

end Sys2Proof.Machine
end

section
/-! SUPPORT. Meters, norm rounds and exposure entries (R235 to R237, R240, R264 to R266): what a write of their registers does, and
what the polls and the limit of a round do. -/

namespace Sys2Proof.Machine

/-! ### Bits of a written number -/

theorem bitAt_eq_testBit (w k : Nat) : bitAt w k = w.testBit k := by
  rw [bitAt, fld, Nat.testBit_eq_decide_div_mod_eq, Nat.shiftRight_eq_div_pow, pow_one]

/-! ### The meter -/

/-- A served write of MTR_SEL shows the meter that it names. -/
theorem exec_mtrSel (p : Port) (v : Word) (s : State) (h : Writes s p R.MTR_SEL v) :
    exec (.mtrSel p v) s =
      .next ((s.accessed p R.MTR_SEL).selectMeter (legal R.MTR_SEL (v.toNat &&& 0x30FFF))).takeRaised := by
  have hput : (Put.mk R.MTR_SEL v.toNat 0xFFFFFFFF).onto 0x30FFF 0 = v.toNat &&& 0x30FFF := by
    rw [Put.onto_word _ _ _ _ (by decide)]
    simp [mapMinus]
  refine (congrArg State.ends (State.write_MTR_SEL s p v cleanTest h)).trans ?_
  rw [hput]
  rfl

theorem State.fieldsOf_MTR_CTRL (s : State) : s.fieldsOf R.MTR_CTRL < 2 ^ 10 := by
  rw [State.fieldsOf, regAt_MTR_CTRL]
  exact Nat.and_lt_two_pow _ (show 0x207 < 2 ^ 10 by decide)

/-- MTR_CTRL.clear leaves the fields that the register held, and no meter (R235). -/
theorem exec_mtrClear (p : Port) (s y : State) (v : Nat) (hv : v = s.fieldsOf R.MTR_CTRL ||| 256)
    (h : Writes s p R.MTR_CTRL (w32 v)) (hy : y = (s.accessed p R.MTR_CTRL).putFields R.MTR_CTRL 0x207 v) :
    exec (.mtrClear p) s = .next y.clearMeter := by
  have hlt : v < 2 ^ 32 := hv ▸ (Nat.or_lt_two_pow (n := 10) s.fieldsOf_MTR_CTRL (by decide)).trans (by decide)
  have h8 : bitAt v 8 = true := by
    rw [hv, bitAt_eq_testBit, Nat.testBit_or, Bool.or_eq_true]
    exact .inr (by decide)
  have hw := State.write_MTR_CTRL s p (w32 v) cleanTest h
  rw [toNat_w32 v hlt, State.putPlain_inst _ _ _ _ _ (by decide), State.onBits_set _ _ _ _ _ h8, State.onBits_nil] at hw
  have quiet : y.clearMeter.recorder.raised = [] := by
    rw [← h.quiet, ← State.accessed_recorder s p R.MTR_CTRL, hy]
    rfl
  subst hv hy
  exact (congrArg State.ends hw).trans (State.ends_nil _ quiet)

/-! ### The start of a round -/

/-- MTR_GN_CTRL.start starts a round of the class that the register then holds (R236). -/
theorem exec_gnStart (p : Port) (cls : BitVec 2) (s y : State) (h : Writes s p R.MTR_GN_CTRL (w32 (1 + 2 * cls.toNat)))
    (hy : y = (s.accessed p R.MTR_GN_CTRL).putFields R.MTR_GN_CTRL 6 (1 + 2 * cls.toNat)) :
    exec (.gnStart p cls) s = .next (y.gnStart (fld (y.reg R.MTR_GN_CTRL).toNat 1 2)).takeRaised := by
  have h0 : bitAt (1 + 2 * cls.toNat) 0 = true := by
    rw [bitAt_eq_testBit]
    simp
  have hw := State.write_MTR_GN_CTRL s p _ cleanTest h
  rw [toNat_w32 _ (by omega), State.putPlain_inst _ _ _ _ _ (by decide), State.onBits_set _ _ _ _ _ h0, State.onBits_nil] at hw
  subst hy
  exact congrArg State.ends hw

section
variable (s : State) (cls : Nat)

theorem State.gnStart_rejected (h : s.gn.runs = true) : s.gnStart cls = s.setGn { s.gn with rejected := true } := if_pos h

/-- The round that a start begins (R236, R265): a member writes its partial to its slot of the area. -/
theorem State.gnStart_starts (h : s.gn.runs = false) (x : State) (hx : x = s.setGn
      { phase := .crew, startedAt := s.now, leads := s.gnLeads, written := false, own := s.gnPartial cls, totals := s.gn.totals,
        incomplete := false, overflow := false, nonfinite := false, rejected := false, packages := 0, instances := 0 }) :
    s.gnStart cls = if x.gnCrew.contains x.die.die ∧ x.gnAreaOk then x.unitWrite (x.gnArea + 64 * x.die.die) (s.gnPartial cls)
      else x := by
  subst hx
  exact if_neg (by simp [h])

end

/-! ### The polls of a round -/

theorem exec_gnLeaderPoll (ext : List Host.Cell) (s : State) (h : Runs s) :
    exec (.gnLeaderPoll ext) s = .next (s.external ext).gnLeaderPoll.takeRaised :=
  congrArg State.ends (State.running_ready (s.external ext) _ (h.external ext))

theorem exec_gnMemberPoll (ext : List Host.Cell) (s : State) (h : Runs s) :
    exec (.gnMemberPoll ext) s = .next (s.external ext).gnMemberPoll.takeRaised :=
  congrArg State.ends (State.running_ready (s.external ext) _ (h.external ext))

section
variable (s : State)

/-- Once the package total is out, the leader waits for those of the other packages. -/
theorem State.gnLeaderPoll_packages (h : s.gn.phase = .packages) : s.gnLeaderPoll = s.gnFinish :=
  if_pos (.inr (.inl (by simp [h])))

section
variable (hl : s.gnLeads = true) (hp : s.gn.phase = .crew) (hw : s.gn.written = false) (hm : s.memOpen s.gnArea = true)
include hl hp hw hm

theorem State.gnLeaderPoll_crew : s.gnLeaderPoll = if s.gnSlots.length < s.gnCrew.length then s
    else if (s.gnTake s.gnSlots).gnCount ≤ 1 then (s.gnTake s.gnSlots).gnWrite false else (s.gnTake s.gnSlots).gnFinish :=
  if_neg (by simp [hl, hp, hw, hm])

theorem State.gnLeaderPoll_waits (h : s.gnSlots.length < s.gnCrew.length) : s.gnLeaderPoll = s :=
  (State.gnLeaderPoll_crew s hl hp hw hm).trans (if_pos h)

variable (h : s.gnCrew.length ≤ s.gnSlots.length)
include h

theorem State.gnLeaderPoll_alone (hc : (s.gnTake s.gnSlots).gnCount ≤ 1) :
    s.gnLeaderPoll = (s.gnTake s.gnSlots).gnWrite false := by
  rw [State.gnLeaderPoll_crew s hl hp hw hm, if_neg (by omega), if_pos hc]

theorem State.gnLeaderPoll_exchanges (hc : 1 < (s.gnTake s.gnSlots).gnCount) :
    s.gnLeaderPoll = (s.gnTake s.gnSlots).gnFinish := by
  rw [State.gnLeaderPoll_crew s hl hp hw hm, if_neg (by omega), if_neg (by omega)]

end

section
variable (r : List Byte) (hr : r = s.unitRead (s.gnArea + 0x1000) 128)
include hr

theorem State.gnMemberPoll_waits (hv : recordValid r 128 84 s.gnRound = false) : s.gnMemberPoll = s := by
  subst hr
  exact if_pos (by simp [hv])

variable (hg : s.gn.runs = true) (ha : s.gnAreaOk = true) (hm : s.memOpen s.gnArea = true)
  (hv : recordValid r 128 84 s.gnRound = true)
include hg ha hm hv

/-- A valid result of the round ends it (R237); what differs by the poller are the instances. -/
theorem State.gnMemberPoll_ends (n : Nat) (hn : n = if s.gn.written then leAt s.gn.own 54 2
      else if leAt r 61 1 = 1 then leAt r 62 2 else s.unstatedWord.toNat % 128) :
    s.gnMemberPoll = s.draw.gnDone r (leAt r 61 1) n 0 := by
  subst hr hn
  exact if_neg (by simp [hg, ha, hm, hv])

end

/-! ### The limit of a round -/

theorem exec_gnTimeout (h : Runs s) : exec .gnTimeout s = .next s.gnTimeout.takeRaised :=
  congrArg State.ends (State.running_ready s _ h)

section
variable (hg : s.gn.runs = true) (y : State) (hy : y = s.advanceTo s.gnDue)
include hg hy

/-- A leader without a result writes an incomplete one, of the slots that are valid where it still collects them (R237). -/
theorem State.gnTimeout_leader (hl : y.gnLeads = true) (hw : y.gn.written = false) :
    s.gnTimeout = ((if y.gn.phase = .crew then y.gnTake y.gnSlots else y).gnWrite true).raise 0x12 2 := by
  subst hy
  exact (if_neg (by simp [hg])).trans (if_pos (by simp [hl, hw]))

/-- Any other member ends its round with its own partial (R237). -/
theorem State.gnTimeout_member (h : y.gnLeads = false ∨ y.gn.written = true) : s.gnTimeout =
    y.draw.gnDone (resultRecord (sumRecords [y.gn.own]) true 1 y.gnRound (Config.unstated y.draws)) 1 (leAt y.gn.own 54 2) 1 := by
  subst hy
  refine (if_neg (by simp [hg])).trans (if_neg ?_)
  rcases h with h | h <;> simp [h]

end

end

/-! ### Exposure entries -/

/-- The entry of EXS_SEL is the whole field. -/
theorem exec_exsSel (p : Port) (n : BitVec 11) (s : State) (h : Writes s p R.EXS_SEL (w32 n.toNat)) :
    exec (.exsSel p n) s = .next ((s.accessed p R.EXS_SEL).selectExposure n.toNat) := by
  have hn : fld (w32 n.toNat).toNat 0 11 = n.toNat := by
    rw [toNat_w32 _ (by omega)]
    exact Nat.mod_eq_of_lt n.isLt
  refine (congrArg State.ends (State.write_EXS_SEL s p (w32 n.toNat) cleanTest h)).trans ?_
  rw [hn]
  exact State.access_ends s p _ (fun z => z.selectExposure n.toNat) (fun z hz => by simp [State.selectExposure, hz, h.quiet])

theorem exec_exsCommit (p : Port) (s : State) (h : Writes s p R.EXS_CTRL 1#32) :
    exec (.exsCommit p) s = .next (s.accessed p R.EXS_CTRL).commitExposure :=
  (congrArg State.ends (State.write_EXS_CTRL s p 1#32 cleanTest h)).trans
    (State.access_ends s p _ State.commitExposure (fun z hz => by simp [State.commitExposure, hz, h.quiet]))

theorem exec_exsEmptyHistory (p : Port) (s : State) (h : Writes s p R.EXS_CTRL 2#32) :
    exec (.exsEmptyHistory p) s = .next (s.accessed p R.EXS_CTRL).emptyExposure :=
  (congrArg State.ends (State.write_EXS_CTRL s p 2#32 cleanTest h)).trans
    (State.access_ends s p _ State.emptyExposure (fun z hz => by simp [State.emptyExposure, hz, h.quiet]))

end Sys2Proof.Machine
end

section
/-! SETTLED. The statements on gathers and loans and on the training services: O13 and O35. -/

namespace Sys2Proof.Machine

/-- Settles O13: each command runs at once where nothing makes it wait; a loan and its end leave a clearing, whose end meets the
lender's context first and then gives the shelves over. That the clearing, the context and the completion follow one another, that
NOT_IN_INTERMISSION and BORROWER_BUSY come before anything is cleared, and that a return counts the shelves that are not retired,
are the choices of log entry 30. -/
theorem gathersAndLoansStart : Obligations.GathersAndLoansStart := by
  unfold Obligations.GathersAndLoansStart
  rintro c s t h rfl
  refine ⟨?gather, ?loan, ?resume, ?cleared, fun z l hl hc => State.endLoan_eq z l c hl hc⟩
  case gather =>
    rintro T ei e d g rfl hg hi he hd hp hn hs hw hz
    rw [exec_propCall_taken c s h hw, State.runProp_gathers (s.taken 0x20#8 c) c ei e d g hg hi he hd hp hn hs hz]
  case loan =>
    intro hn hr
    rw [exec_intermission_taken s c h hn, State.runLend_lends (s.taken 0x32#8 c) c hr]
    refine congrArg _ (State.takeRaised_nil _ ?_)
    exact h.quiet
  case resume =>
    intro hn hr
    rw [exec_resume_taken s c h hn]
    refine ⟨fun hl => ?_, fun l hl => ⟨fun ho => ?_, fun ho => ?_⟩⟩
    · rw [State.runResume_noLoan (s.taken 0x33#8 c) c hr hl]
    · rw [State.runResume_busy (s.taken 0x33#8 c) c hr l hl ho]
    · rw [State.runResume_returns (s.taken 0x33#8 c) c hr l hl ho]
      refine congrArg _ (State.takeRaised_nil _ ?_)
      exact h.quiet
  case cleared =>
    rintro z y l back hz ha hl hc rfl hx
    rw [exec_shelfClearDone_loan z hz ha]
    refine ⟨fun hr => ?_, fun hr hy => ?_⟩
    · rw [State.shelvesCleared_noRegion z hx l hl hr, State.endLoan_eq (z.ctxRefuse 3) l c hl hc]
      rfl
    · rw [State.shelvesCleared_region z hx l hl y hr hy]

/-- Settles O35: a served write of a meter or exposure register acts on the entry that it names; a poll that finds nothing to take
leaves the round as it was, and the limit, that of MTR_GN_TIMEOUT for a leader without a result and twice that for any other (R237,
R264), ends the wait. What a round counts, who writes a slot, and what a leader and a member do at their limits, are the choices of
log entry 48; that the leader's bit is that of the start is the choice of log entry 98, and that a commit and an empty clear the
history and the nonfinite flag is that of log entry 49. -/
theorem trainingServicesAct : Obligations.TrainingServicesAct := by
  unfold Obligations.TrainingServicesAct
  refine ⟨?select, ?clear, ?start, ?polls, ?limit, ?entry, ?commit, ?empty⟩
  case select =>
    rintro p v s z n m h rfl rfl rfl
    exact exec_mtrSel p v s h
  case clear =>
    intro p s y v hv h hy
    exact exec_mtrClear p s y v hv h hy
  case start =>
    rintro p cls s y k h hy rfl
    have quiet : y.recorder.raised = [] := by rw [hy, State.putFields_recorder, State.accessed_recorder, h.quiet]
    rw [exec_gnStart p cls s y h hy]
    refine ⟨fun hg => ?_, fun x hg hx => ?_⟩
    · rw [State.gnStart_rejected y _ hg, State.takeRaised_nil _ (by simp [quiet])]
    · rw [State.gnStart_starts y _ hg x hx]
  case polls =>
    rintro ext s x h rfl hm
    have quiet := (h.external ext).quiet
    rw [exec_gnLeaderPoll ext s h, exec_gnMemberPoll ext s h]
    refine ⟨fun hp => ?_, fun hl hp hw => ⟨fun hc => ?_, fun hc hn => ?_, fun hc hn => ?_⟩, fun r hr hg ha =>
      ⟨fun hv => ?_, fun hv hw => ?_, fun hv hw h1 => ?_⟩⟩
    · rw [State.gnLeaderPoll_packages _ hp]
    · rw [State.gnLeaderPoll_waits _ hl hp hw hm hc, State.takeRaised_nil _ quiet]
    · rw [State.gnLeaderPoll_alone _ hl hp hw hm hc hn]
    · rw [State.gnLeaderPoll_exchanges _ hl hp hw hm hc hn]
    · rw [State.gnMemberPoll_waits _ r hr hv, State.takeRaised_nil _ quiet]
    · rw [State.gnMemberPoll_ends _ r hr hg ha hm hv _ rfl, if_pos hw]
    · rw [State.gnMemberPoll_ends _ r hr hg ha hm hv _ rfl, if_neg (by simp [hw]), if_pos h1, h1]
  case limit =>
    rintro s y h hg hy
    rw [exec_gnTimeout s h]
    refine ⟨fun hl hw hp => ?_, fun hl hw hp => ?_, fun hm => ?_⟩
    · rw [State.gnTimeout_leader s hg y hy hl hw, if_pos hp]
    · rw [State.gnTimeout_leader s hg y hy hl hw, if_neg hp]
    · rw [State.gnTimeout_member s hg y hy hm]
  case entry =>
    rintro p n s z h rfl
    exact exec_exsSel p n s h
  case commit =>
    rintro p s z h rfl
    exact exec_exsCommit p s h
  case empty =>
    rintro p s z h rfl
    exact exec_exsEmptyHistory p s h

end Sys2Proof.Machine
end

section
/-! SUPPORT. Eyelets and their commands (R269 to R278): what an add comes to, what an examination does where nothing waits, and the
runs of EYE_ADD, EYE_SET and EYE_WAIT. -/

namespace Sys2Proof.Machine

/-! ### What an add comes to (R274) -/

section
variable (s : State) (e : Nat) (v : Word) (src : AddSource) (t : Nat)

theorem State.addEye_zero (target : Bool) : s.addEye e target 0#32 src t = (s, .ok) := by
  simp [State.addEye]

variable (hv : v ≠ 0#32) (y : Eyelet)
include hv

section
variable (hy : y = { s.eyelet e with target := (s.eyelet e).target + v })
include hy

theorem State.addEye_target (hd : 0 ≤ y.d) : s.addEye e true v src t = (s.setEyelet e y, .ok) := by
  subst hy
  exact (if_neg hv).trans (if_neg (Int.not_lt.mpr hd))

/-- A target that would pass count changes nothing, and is recorded. -/
theorem State.addEye_underflow (hd : y.d < 0) (p0 : Word) (hp : p0 = w32 (e + 2 ^ 12 * t + 2 ^ 16 * src.num)) :
    s.addEye e true v src t = (((s.bump R.EYE_UNDERFLOWS 1).report 0x0901 6 [p0, (s.eyelet e).count, (s.eyelet e).target, v]
      0x19 0).pageError 0x19 p0 0, .underflow) := by
  subst hy hp
  exact (if_neg hv).trans (if_pos hd)

end

section
variable (hy : y = { s.eyelet e with count := (s.eyelet e).count + v })
include hy

theorem State.addEye_count (hd : y.depth = 0 ∨ y.d ≤ y.depth) : s.addEye e false v src t = (s.setEyelet e y, .ok) := by
  subst hy
  refine (if_neg hv).trans ((if_neg Bool.false_ne_true).trans (if_neg ?_))
  rintro ⟨h0, hlt⟩
  exact hd.elim h0 (Int.not_le.mpr hlt)

/-- A count past its depth stands, and is recorded. -/
theorem State.addEye_overflow (h0 : y.depth ≠ 0) (hd : (y.depth : Int) < y.d) (p0 : Word)
    (hp : p0 = w32 (e + 2 ^ 12 * t + 2 ^ 16 * src.num)) :
    s.addEye e false v src t = ((((s.setEyelet e y).bump R.EYE_OVERFLOWS 1).report 0x0902 6 [p0, y.count, y.target, w32 y.depth]
      0x19 1).pageError 0x19 p0 0, .overflow) := by
  subst hy hp
  exact (if_neg hv).trans ((if_neg Bool.false_ne_true).trans (if_pos ⟨h0, hd⟩))

end

end

theorem State.eyelet_setEyelet_same (s : State) (e : Nat) (y : Eyelet) : (s.setEyelet e y).eyelet e = y :=
  (State.eyelet_setEyelet s e e y).trans (if_pos rfl)

theorem State.eyelet_of_eyes (s z : State) (h : z.eyes = s.eyes) (e : Nat) : z.eyelet e = s.eyelet e := by
  rw [State.eyelet, h]
  rfl

/-! ### A state with one other eyelet -/

/-- The state with other eyelets. -/
def State.withEyelets (s : State) (m : NMap Eyelet) : State := { s with eyes := { s.eyes with eyes := m } }

/-- A state that differs from another in one eyelet at most. -/
structure State.SetsEyelet (s z : State) (e : Nat) (y : Eyelet) : Prop where
  here : z.eyelet e = y
  others : ∀ k, k ≠ e → z.eyelet k = s.eyelet k
  rest : ∃ m, z = s.withEyelets m

theorem State.SetsEyelet.setEyelet (s : State) (e : Nat) (y : Eyelet) : s.SetsEyelet (s.setEyelet e y) e y :=
  ⟨State.eyelet_setEyelet_same s e y, fun k hk => (State.eyelet_setEyelet s e k y).trans (if_neg hk), _, rfl⟩

theorem State.SetsEyelet.refl (s : State) (e : Nat) : s.SetsEyelet s e (s.eyelet e) := ⟨rfl, fun _ _ => rfl, _, rfl⟩

/-- An add with neither overflow nor underflow changes its eyelet alone. -/
theorem State.addEye_ok (s : State) (e : Nat) (target : Bool) (v : Word) (src : AddSource) (t : Nat) (y : Eyelet)
    (hy : y = if target then { s.eyelet e with target := (s.eyelet e).target + v }
      else { s.eyelet e with count := (s.eyelet e).count + v })
    (hd : if target then 0 ≤ y.d else y.depth = 0 ∨ y.d ≤ y.depth) :
    ∃ z, s.addEye e target v src t = (z, .ok) ∧ s.SetsEyelet z e y := by
  by_cases hv : v = 0#32
  · have same : y = s.eyelet e := by
      subst hy hv
      cases target <;> simp
    subst hv
    exact ⟨s, State.addEye_zero s e src t target, same ▸ State.SetsEyelet.refl s e⟩
  · refine ⟨s.setEyelet e y, ?_, State.SetsEyelet.setEyelet s e y⟩
    cases target with
    | true => exact State.addEye_target s e v src t hv y hy hd
    | false => exact State.addEye_count s e v src t hv y hy hd

/-! ### Nothing to examine (R277, R288) -/

/-- Without a wire in HOLD none arrives. -/
theorem State.laceCheck_unheld (s : State) (h : ∀ n, (s.wire n).state ≠ .hold) : s.laceCheck = s := by
  have arrives : ∀ n, s.wireArrives n = false := fun n => by simp [State.wireArrives, h n]
  exact List.foldl_fixed' (fun n => if_neg (by simp [arrives n])) _

theorem State.examine_unawaited (s : State) (e : Nat) (hw : s.eyes.waits = []) (h : ∀ n, (s.wire n).state ≠ .hold) :
    s.examine e = s := by
  have kept : s.examineList e [] [] = s := by
    show ({ s with eyes := { s.eyes with waits := [] } } : State) = s
    rw [← hw]
  rw [State.examine, hw, kept, State.laceCheck_unheld s h]

/-! ### The runs of the commands -/

/-- The status of an add's result (R274). -/
def AddResult.status : AddResult → Nat
  | .ok => 0 | .underflow => 0x23 | .overflow => 0x25

section
variable (s : State) (c : Cmd) (e : Nat) (he : s.cmdEye c = some e)
include he

theorem State.runEyeAdd_eq (side : Bool) (z : State) (y : Eyelet) (r : AddResult) (hf : c.flags.getLsbD 0 = side)
    (hz : s.addEye e side (c.args.setWidth 32) .command (s.tenantOf c) = (z, r)) (hy : z.eyelet e = y) :
    s.runEyeAdd c = (z.complete 0x10#8 c { status := r.status, value := some (y.count - y.target) }).examine e := by
  subst hy
  unfold State.runEyeAdd
  rw [he]
  dsimp only
  rw [hf, hz]
  cases r <;> rfl

section
variable (y : Eyelet) (hy : y = { count := if c.flags.getLsbD 0 then c.args.setWidth 32 else (s.eyelet e).count
                                  target := if c.flags.getLsbD 1 then (c.args >>> 32).setWidth 32 else (s.eyelet e).target
                                  cfg := if c.flags.getLsbD 2 then w32 (leAt c.payload 0 4) else (s.eyelet e).cfg })
include hy

theorem State.runEyeSet_refuses
    (h : y.d < 0 ∨ (c.flags.getLsbD 2 = true ∧ fld (w32 (leAt c.payload 0 4)).toNat 30 2 ≠ 0)) :
    s.runEyeSet c = s.complete 0x12#8 c { status := 3, value := some ((s.eyelet e).count - (s.eyelet e).target) } := by
  subst hy
  unfold State.runEyeSet
  rw [he]
  exact if_pos h

theorem State.runEyeSet_sets (hd : 0 ≤ y.d) (hc : c.flags.getLsbD 2 = true → fld (w32 (leAt c.payload 0 4)).toNat 30 2 = 0) :
    s.runEyeSet c = ((s.setEyelet e y).complete 0x12#8 c { status := 0, value := some (y.count - y.target) }).examine e := by
  subst hy
  unfold State.runEyeSet
  rw [he]
  refine if_neg ?_
  rintro (hlt | ⟨hf, hr⟩)
  · exact absurd hd (Int.not_le.mpr hlt)
  · exact hr (hc hf)

end

section
variable (h1 : 1 ≤ waitN c) (h2 : waitN c ≤ 0x7FFFFFFF)
include h1 h2

/-- A wait that is met completes, and its consume flag moves the target (R276). -/
theorem State.runEyeWait_completes (hd : (waitN c : Int) ≤ (s.eyelet e).d) : ∃ z y,
    y = (if c.flags.getLsbD 0 then { s.eyelet e with target := (s.eyelet e).target + w32 (waitN c) } else s.eyelet e)
    ∧ s.SetsEyelet z e y ∧ s.runEyeWait c = (z.complete 0x11#8 c
      { status := 0, result := some 0, value := some (y.count - y.target) }).laceCheck := by
  have hz : ∀ x : Eyelet, s.SetsEyelet (if c.flags.getLsbD 0 then s.setEyelet e x else s) e
      (if c.flags.getLsbD 0 then x else s.eyelet e) := by
    intro x
    split
    · exact State.SetsEyelet.setEyelet s e x
    · exact State.SetsEyelet.refl s e
  refine ⟨_, _, rfl, hz _, ?_⟩
  rw [← (hz _).here]
  unfold State.runEyeWait
  rw [he]
  exact (if_neg (by omega)).trans (if_pos hd)

theorem State.runEyeWait_registers (hd : (s.eyelet e).d < (waitN c : Int)) :
    s.runEyeWait c = s.registerWait c (s.tenantOf c) e := by
  unfold State.runEyeWait
  rw [he]
  exact (if_neg (by omega)).trans (if_neg (Int.not_le.mpr hd))

end

end

/-- The wait that a command with no hint registers (R276, R281). -/
def State.waitOf (s : State) (c : Cmd) (e : Nat) : Wait :=
  { cmd := c, tenant := s.tenantOf c, eye := e, n := waitN c, consume := c.flags.getLsbD 0
    due := if waitTimeout c = 0 then none else some (s.now + us (waitTimeout c))
    abter := s.abterStyle (s.tenantOf c), lent := false }

/-- With room in the table and no lend hint the wait is put at its end (R278). -/
theorem State.registerWait_unhinted (s : State) (c : Cmd) (e : Nat) (hn : s.nativeWaits < 1024) (hh : waitHint c = 0) :
    s.registerWait c (s.tenantOf c) e = s.setWaits (s.eyes.waits ++ [s.waitOf c e]) := by
  have room : (!s.abterStyle (s.tenantOf c) && decide (1024 ≤ s.nativeWaits)) = false := by simp; omega
  simp [State.registerWait, room, hh, State.waitOf]

/-! ### The commands, taken at once -/

section
variable (c : Cmd) (s : State) (h : Takes s c) (hx : s.ctxHolds (s.tenantOf c) = false)
include h hx

theorem State.command_eye (op : BitVec 8) (hop : eyeOp op = true) :
    (s.command op c).ends = .next ((s.taken op c).runCmd op c).takeRaised :=
  State.command_ends s op c h (State.prepare_other _ op c (by rintro rfl; cases hop)) (State.mustWait_eye s c op hop hx)

theorem exec_eyeAdd_taken (hr : cmdReserved 0x10 c = false) :
    exec (.eyeAdd c) s = .next ((s.taken 0x10#8 c).runEyeAdd c).takeRaised := by
  have run : (s.taken 0x10#8 c).runCmd 0x10#8 c = (s.taken 0x10#8 c).runEyeAdd c := if_neg (Bool.eq_false_iff.mp hr)
  rw [← run]
  exact State.command_eye c s h hx 0x10#8 rfl

theorem exec_eyeWait_taken (hr : cmdReserved 0x11 c = false) :
    exec (.eyeWait c) s = .next ((s.taken 0x11#8 c).runEyeWait c).takeRaised := by
  have run : (s.taken 0x11#8 c).runCmd 0x11#8 c = (s.taken 0x11#8 c).runEyeWait c := if_neg (Bool.eq_false_iff.mp hr)
  rw [← run]
  exact State.command_eye c s h hx 0x11#8 rfl

theorem exec_eyeSet_taken (hr : cmdReserved 0x12 c = false) :
    exec (.eyeSet c) s = .next ((s.taken 0x12#8 c).runEyeSet c).takeRaised := by
  have run : (s.taken 0x12#8 c).runCmd 0x12#8 c = (s.taken 0x12#8 c).runEyeSet c := if_neg (Bool.eq_false_iff.mp hr)
  rw [← run]
  exact State.command_eye c s h hx 0x12#8 rfl

end

/-! ### A command that changes one eyelet and completes -/

section
variable (op : BitVec 8) (c : Cmd) (s z : State) (e : Nat) (y : Eyelet) (a : Answer) (h : Takes s c)
  (hz : (s.taken op c).SetsEyelet z e y)
include h hz

theorem State.SetsEyelet.complete : z.complete op c a = z.completed (s.port.entry op c) op c a := by
  obtain ⟨m, rfl⟩ := hz.rest
  exact State.complete_plain _ op c a _ (State.taken_executing s op c h.alone) rfl

/-- A command that changes one eyelet and completes changes nothing else. -/
theorem State.SetsEyelet.frame (o : Host.Outcome State Fault Refusal)
    (ho : o = .next (z.completed (s.port.entry op c) op c a).takeRaised) : ∃ u : State, o = .next u
    ∧ u.eyelet e = y ∧ (∀ k, k ≠ e → u.eyelet k = s.eyelet k) ∧ Completes s u op c a
    ∧ { u with eyes := { u.eyes with eyes := s.eyes.eyes }, port := s.port, out := s.out, draws := s.draws } = s := by
  obtain ⟨here, others, m, rfl⟩ := hz
  exact ⟨_, ho.trans (congrArg Host.Outcome.next (State.takeRaised_nil _ h.quiet)), here, others, rfl, rfl⟩

section
variable (hh : ∀ n, (s.wire n).state ≠ .hold)
include hh

theorem State.SetsEyelet.laceCheck : (z.complete op c a).laceCheck = z.completed (s.port.entry op c) op c a := by
  rw [State.SetsEyelet.complete op c s z e y a h hz]
  obtain ⟨m, rfl⟩ := hz.rest
  exact State.laceCheck_unheld _ hh

theorem State.SetsEyelet.examine (hw : s.eyes.waits = []) :
    (z.complete op c a).examine e = z.completed (s.port.entry op c) op c a := by
  rw [State.SetsEyelet.complete op c s z e y a h hz]
  obtain ⟨m, rfl⟩ := hz.rest
  exact State.examine_unawaited _ e hw hh

end

end

end Sys2Proof.Machine
end

section
/-! SETTLED. The statements on the eyelet commands: O16, O17, O18 and O19. -/

namespace Sys2Proof.Machine

/-- Settles O16: the run is an add, its completion and an examination, so side, sign and depth decide as they do for the add. -/
theorem eyeAddFollowsItsSide : Obligations.EyeAddFollowsItsSide := by
  unfold Obligations.EyeAddFollowsItsSide
  rintro c s T e x y v p0 h hx hr he hT rfl rfl hy hp
  have heT : T.cmdEye c = some e := hT ▸ he
  have hpT : p0 = w32 (e + 2 ^ 12 * T.tenantOf c + 2 ^ 16 * AddSource.num .command) := hT ▸ hp
  have same : s.eyelet e = T.eyelet e := hT ▸ rfl
  rw [same] at hy ⊢
  rw [exec_eyeAdd_taken c s h hx hr, ← hT]
  refine ⟨fun h0 => ?zero, fun hv hf hd => ?target, fun hv hf hd => ?underflow, fun hv hf hd => ?count,
    fun hv hf h0 hd => ?overflow⟩
  case zero =>
    have add := State.addEye_zero T e .command (T.tenantOf c) (c.flags.getLsbD 0)
    rw [← h0] at add
    rw [State.runEyeAdd_eq T c e heT _ T _ .ok rfl add rfl]
    rfl
  case target =>
    have add := State.addEye_target T e _ .command (T.tenantOf c) hv y (hy.trans (if_pos hf)) hd
    rw [State.runEyeAdd_eq T c e heT _ _ y .ok hf add (State.eyelet_setEyelet_same T e y)]
    rfl
  case underflow =>
    have add := State.addEye_underflow T e _ .command (T.tenantOf c) hv y (hy.trans (if_pos hf)) hd p0 hpT
    rw [State.runEyeAdd_eq T c e heT _ _ _ .underflow hf add (State.eyelet_of_eyes T _ (by simp) e)]
    rfl
  case count =>
    have add := State.addEye_count T e _ .command (T.tenantOf c) hv y (hy.trans (if_neg (Bool.eq_false_iff.mp hf))) hd
    rw [State.runEyeAdd_eq T c e heT _ _ y .ok hf add (State.eyelet_setEyelet_same T e y)]
    rfl
  case overflow =>
    have add := State.addEye_overflow T e _ .command (T.tenantOf c) hv y (hy.trans (if_neg (Bool.eq_false_iff.mp hf))) h0 hd p0 hpT
    rw [State.runEyeAdd_eq T c e heT _ _ y .overflow hf add
      ((State.eyelet_of_eyes (T.setEyelet e y) _ (by simp) e).trans (State.eyelet_setEyelet_same T e y))]
    rfl

/-- Settles O17: the run tests the eyelet that the selected parts make, and either refuses it or sets it and examines its waits. -/
theorem eyeSetWritesTheSelectedParts : Obligations.EyeSetWritesTheSelectedParts := by
  unfold Obligations.EyeSetWritesTheSelectedParts
  rintro c s T e y h hx hr he rfl hy
  rw [exec_eyeSet_taken c s h hx hr]
  refine ⟨fun hbad => ?_, fun hd hc => ?_⟩
  · rw [State.runEyeSet_refuses (s.taken 0x12#8 c) c e he y hy hbad]
    rfl
  · rw [State.runEyeSet_sets (s.taken 0x12#8 c) c e he y hy hd hc]

/-- Settles O18: with no wait registered and no wire in HOLD the examination finds nothing, so what is left is one eyelet, the
completion and the port. -/
theorem eyeletCommandsLeaveTheRest : Obligations.EyeletCommandsLeaveTheRest := by
  unfold Obligations.EyeletCommandsLeaveTheRest
  refine ⟨?add, ?set⟩
  case add =>
    intro c s e y h hx hr he hw hh hy hd
    obtain ⟨z, add, hz⟩ := State.addEye_ok (s.taken 0x10#8 c) e _ (c.args.setWidth 32) .command (s.tenantOf c) y hy hd
    refine hz.frame 0x10#8 c s z e y _ h _ ?_
    rw [exec_eyeAdd_taken c s h hx hr, State.runEyeAdd_eq (s.taken 0x10#8 c) c e he _ z y .ok rfl add hz.here,
      hz.examine 0x10#8 c s z e y _ h hh hw]
    rfl
  case set =>
    intro c s e y h hx hr he hw hh hy hd hc
    have hz := State.SetsEyelet.setEyelet (s.taken 0x12#8 c) e y
    refine hz.frame 0x12#8 c s _ e y _ h _ ?_
    rw [exec_eyeSet_taken c s h hx hr, State.runEyeSet_sets (s.taken 0x12#8 c) c e he y hy hd hc,
      hz.examine 0x12#8 c s _ e y _ h hh hw]

/-- Settles O19: the run tests d against n, and completes at once or puts the wait at the end of the table. -/
theorem eyeWaitCompletesOrWaits : Obligations.EyeWaitCompletesOrWaits := by
  unfold Obligations.EyeWaitCompletesOrWaits
  intro c s e h hx hr he h1 h2 hh
  rw [exec_eyeWait_taken c s h hx hr]
  refine ⟨fun hd => ?met, fun hd hn hl => ?waits⟩
  case met =>
    obtain ⟨z, y, hy, hz, run⟩ := State.runEyeWait_completes (s.taken 0x11#8 c) c e he h1 h2 hd
    obtain ⟨u, hu, left⟩ := hz.frame 0x11#8 c s z e y
      { status := 0, result := some 0, value := some (y.count - y.target) } h _ rfl
    refine ⟨u, y, ?_, hy, left⟩
    rw [← hu, run, hz.laceCheck 0x11#8 c s z e y _ h hh]
  case waits =>
    have run : (s.taken 0x11#8 c).runEyeWait c = (s.taken 0x11#8 c).setWaits (s.eyes.waits ++ [s.waitOf c e]) :=
      (State.runEyeWait_registers (s.taken 0x11#8 c) c e he h1 h2 hd).trans
        (State.registerWait_unhinted (s.taken 0x11#8 c) c e hn hl)
    rw [run, State.takeRaised_nil ((s.taken 0x11#8 c).setWaits _) h.quiet]
    exact ⟨_, s.waitOf c e, rfl, rfl, rfl, rfl, rfl, rfl, rfl, rfl, rfl⟩

end Sys2Proof.Machine
end

section
/-! SUPPORT. The eyelet registers and tenant contexts (R275, R277, R286, R293 to R295): what a write of page EYE comes to, and how a
context operation starts and ends. -/

namespace Sys2Proof.Machine

/-! ### The eyelet registers -/

/-- The eyelet of EYE_SEL is the whole field. -/
theorem exec_eyeSel (p : Port) (e : Fin 4096) (s : State) (h : Writes s p R.EYE_SEL (w32 e.val)) :
    exec (.eyeSel p e) s = .next ((s.accessed p R.EYE_SEL).selectEye e.val) := by
  have he : fld (w32 e.val).toNat 0 12 = e.val := by
    rw [toNat_w32 _ (by omega)]
    exact Nat.mod_eq_of_lt e.isLt
  refine (congrArg State.ends (State.write_EYE_SEL s p (w32 e.val) cleanTest h)).trans ?_
  rw [he]
  exact State.access_ends s p _ (fun z => z.selectEye e.val) (fun z hz => by simp [State.selectEye, State.showEye, hz, h.quiet])

/-- A served write of EYE_COUNT, EYE_TARGET or EYE_CFG sets that part of the live eyelet. -/
theorem exec_eyePartWrite (p : Port) (v : Word) (which : Fin 3) (s : State) (a : Nat)
    (ha : a = if which = 0 then R.EYE_COUNT else if which = 1 then R.EYE_TARGET else R.EYE_CFG) (h : Writes s p a v) :
    exec (if which = 0 then .eyeCountWrite p v else if which = 1 then .eyeTargetWrite p v else .eyeCfgWrite p v) s =
      .next ((s.accessed p a).setLiveEye (fun x => if which = 0 then { x with count := v }
        else if which = 1 then { x with target := v } else { x with cfg := v })).takeRaised := by
  have hv := w32_toNat v
  match which with
  | 0 =>
    subst ha
    exact (congrArg State.ends (State.write_EYE_COUNT s p v cleanTest h)).trans (by rw [hv]; rfl)
  | 1 =>
    subst ha
    exact (congrArg State.ends (State.write_EYE_TARGET s p v cleanTest h)).trans (by rw [hv]; rfl)
  | 2 =>
    subst ha
    exact (congrArg State.ends (State.write_EYE_CFG s p v cleanTest h)).trans (by rw [hv]; rfl)

section
variable (z : State) (f : Eyelet → Eyelet) (e : Nat) (he : e = fld (z.reg R.EYE_SEL).toNat 0 12) (y : Eyelet)
  (hy : y = f (z.eyelet e))
include he hy

theorem State.setLiveEye_sets (hd : 0 ≤ y.d) (hc : fld y.cfg.toNat 30 2 = 0) :
    z.setLiveEye f = (((z.setEyelet e y).showEye e).examine e).drain := by
  subst he hy
  refine if_neg ?_
  rintro (hlt | hr)
  · exact absurd hd (Int.not_le.mpr hlt)
  · exact hr hc

theorem State.setLiveEye_refuses (h : y.d < 0 ∨ fld y.cfg.toNat 30 2 ≠ 0) : z.setLiveEye f = z := by
  subst he hy
  exact if_pos h

end

/-! ### A context operation starts -/

/-- A served write of EYE_CTRL sets the tenant field and starts the operation of its one action bit. -/
theorem exec_contextOperation (p : Port) (t : Fin 8) (save : Bool) (s y : State) (v : Nat)
    (hv : v = t.val + (if save then 256 else 512)) (h : Writes s p R.EYE_CTRL (w32 v))
    (hy : y = (s.accessed p R.EYE_CTRL).putFields R.EYE_CTRL 7 v) :
    exec (if save then .contextSave p t else .contextRestore p t) s = .next (y.startContext t.val save).takeRaised := by
  have hlt : v < 2 ^ 32 := by
    subst hv
    cases save <;> simp <;> omega
  have hb : ∀ t : Fin 8, ∀ save : Bool, fld (t.val + if save then 256 else 512) 0 3 = t.val
      ∧ bitAt (t.val + if save then 256 else 512) 8 = save ∧ bitAt (t.val + if save then 256 else 512) 9 = !save := by decide
  obtain ⟨hf, h8, h9⟩ := hb t save
  rw [← hv] at hf h8 h9
  have hw := State.write_EYE_CTRL s p (w32 v) cleanTest h
  rw [toNat_w32 v hlt, hf, State.putPlain_inst _ _ _ _ _ (by decide)] at hw
  subst hy hv
  cases save with
  | true =>
    rw [State.onBits_set _ _ _ _ _ h8, State.onBits_clear _ _ _ _ _ h9, State.onBits_nil] at hw
    exact congrArg State.ends hw
  | false =>
    rw [State.onBits_clear _ _ _ _ _ h8, State.onBits_set _ _ _ _ _ h9, State.onBits_nil] at hw
    exact congrArg State.ends hw

/-- While one operation runs another is refused (R293). -/
theorem State.startContext_busy (z : State) (t : Nat) (save : Bool) (h : z.eyes.ctx.isSome = true) :
    z.startContext t save = (z.ctxRefuse 2).drain := congrArg State.drain (if_pos h)

/-! ### A context operation ends -/

theorem exec_contextSaveDone (s : State) (h : Runs s) : exec .contextSaveDone s = .next (s.ctxEnded true).takeRaised :=
  congrArg State.ends (State.unit_runs s 6 _ h)

theorem exec_contextRestoreDone (ext : List Host.Cell) (s : State) (h : Runs s) :
    exec (.contextRestoreDone ext) s = .next ((s.external ext).ctxEnded false).takeRaised :=
  congrArg State.ends (State.unit_runs (s.external ext) 6 _ (h.external ext))

section
variable (z : State) (x : CtxOp) (hx : z.eyes.ctx = some x)
include hx

theorem State.ctxEnded_save (hs : x.save = true) :
    z.ctxEnded true = (if x.loan then (z.finishSave x).endLoan else z.finishSave x).drain := by
  unfold State.ctxEnded
  rw [hx]
  exact if_neg (by simp [hs])

/-- A restore waits for the power-down of its image's memory to end (R363). -/
theorem State.ctxEnded_closed (hm : z.memOpen x.base = false) : z.ctxEnded false = z := by
  unfold State.ctxEnded
  rw [hx]
  exact if_pos (.inr (by simp [hm]))

theorem State.ctxEnded_restore (hs : x.save = false) (hm : z.memOpen x.base = true) :
    z.ctxEnded false = (if x.loan then (z.finishRestore x).endLoan else z.finishRestore x).drain := by
  unfold State.ctxEnded
  rw [hx]
  exact if_neg (by simp [hs, hm])

end

theorem State.finishRestore_bad (z : State) (x : CtxOp) (h : z.ctxGood x = false) : z.finishRestore x = z.endCtx 1 :=
  if_neg (by simp [h])

/-- A good image fills the tenant's eyelets, and their waits are examined (R294). -/
theorem State.finishRestore_good (z : State) (x : CtxOp) (h : z.ctxGood x = true) (b : List Byte)
    (hb : b = z.unitRead x.base (z.ctxBytes x.tenant)) (y : State)
    (hy : y = z.fillEyes (z.part x.tenant).eyeBase (z.part x.tenant).eyeCount (fun k =>
      ⟨w32 (leAt b (64 + 16 * k) 4), w32 (leAt b (68 + 16 * k) 4), w32 (leAt b (72 + 16 * k) 4)⟩)) :
    z.finishRestore x = ((List.range (z.part x.tenant).eyeCount).foldl (fun s k =>
      s.examine ((z.part x.tenant).eyeBase + k)) y).endCtx 0 := by
  subst hb hy
  exact if_pos h

end Sys2Proof.Machine
end

section
/-! SUPPORT. Doorbells, waits that end, and clapper lines (R279, R281, R282, R284, R300): what a doorbell write adds, and what a
timeout, a core queue's reset and CLAP_FIRE do. -/

namespace Sys2Proof.Machine

/-! ### Doorbells -/

theorem exec_doorbellWrite (o : BitVec 15) (n : Nat) (v : Word) (s : State) (h : Arrives s) :
    exec (.doorbellWrite o n v) s = .next (s.doorbell o.toNat n v).drain.takeRaised :=
  congrArg State.ends (State.arrive_ready s _ _ h)

section
variable (s : State)

theorem State.doorbell_malformed (o n : Nat) (v : Word) (h : n ≠ 4 ∨ o % 4 ≠ 0) :
    s.doorbell o n v = s.bump R.EYE_DB_DROPS 1 := if_pos h

theorem State.doorbell_signals (o n : Nat) (v : Word) (hn : n = 4) (ho : o % 4 = 0) :
    s.doorbell o n v = s.applySignal { target := decide (0x4000 ≤ o), eye := o % 0x4000 / 4, add := v } :=
  if_neg (by simp [hn, ho])

variable (g : HeldSignal)

theorem State.applySignal_unowned (h : s.eyeTenant g.eye = none) : s.applySignal g = s.bump R.EYE_DB_DROPS 1 := by
  unfold State.applySignal
  rw [h]

section
variable (t : Nat) (h : s.eyeTenant g.eye = some t)
include h

/-- A signal waits for its tenant's context operation (log entry 51). -/
theorem State.applySignal_held (hx : s.ctxHolds t = true) :
    s.applySignal g = { s with eyes := { s.eyes with heldSignals := s.eyes.heldSignals ++ [g] } } := by
  unfold State.applySignal
  rw [h]
  exact if_pos hx

variable (hx : s.ctxHolds t = false)
include hx

theorem State.applySignal_disabled (he : bitAt (s.eyelet g.eye).cfg.toNat 24 = false) :
    s.applySignal g = s.bump R.EYE_DB_DROPS 1 := by
  simp [State.applySignal, h, hx, he]

theorem State.applySignal_adds (he : bitAt (s.eyelet g.eye).cfg.toNat 24 = true) :
    s.applySignal g = (s.addEye g.eye g.target g.add .signal t).1.examine g.eye := by
  simp [State.applySignal, h, hx, he]

end

end

/-! ### Waits that end -/

theorem exec_eyeWaitTimeout (q : Fin 64) (k : BitVec 16) (s : State) (h : Runs s) :
    exec (.eyeWaitTimeout q k) s = .next (s.waitTimesOut q.val k).takeRaised :=
  congrArg State.ends (State.notify_runs s (.waitTimeout q.val k) h)

theorem State.waitTimesOut_ends (s : State) (q : Nat) (k : BitVec 16) (w : Wait)
    (hw : firstDueWait (s.eyes.waits.filter (fun w => w.timesOutAs q k)) = some w) (y : State)
    (hy : y = s.advanceTo (w.due.getD 0)) : s.waitTimesOut q k =
      ((((y.setWaits (s.eyes.waits.erase w)).endWait w 0x21 none true).bump R.EYE_TIMEOUTS 1).raise 0x19 8).drain := by
  subst hy
  unfold State.waitTimesOut
  rw [hw]
  rfl

theorem exec_coreQueueReset (q : Fin 64) (s : State) (h : Runs s) :
    exec (.coreQueueReset q) s = .next (s.queueReset q.val).takeRaised :=
  congrArg State.ends (State.notify_runs s (.queueReset q.val) h)

/-! ### CLAP_FIRE -/

section
variable (z : State) (p : Port) (v : Word) (test : BootTest) (r : RegAt) (hro : r.desc.acc ≠ .ro) (hrc : r.desc.acc ≠ .rc)
  (hw : r.desc.wide = true)
include hro hrc hw

/-- A low word of a register that takes writes is held, whether it has RW fields or acts only (R406). -/
theorem State.writeBody_lowWord (addr : Nat) (held : Option (Nat × Word)) (hr : regAt addr = some r) (hh : r.high = false) :
    z.writeBody p addr held v test = z.setLatch p { z.latch p with wr := some (addr, v) } := by
  simp [State.writeBody, hr, hro, hrc, hw, hh]

/-- A high word behind its low word makes one write of such a register (R406). -/
theorem State.writeBody_bothWords (b : Nat) (lo : Word) (free : (z.page (pageOf (b + 4))).owner ≠ some p)
    (hr : regAt (b + 4) = some r) (hh : r.high = true) (hb : regAt b = some { r with high := false }) :
    z.writeBody p (b + 4) (some (b, lo)) v test =
      (z.putValue p ⟨b, lo.toNat + v.toNat * 2 ^ 32, 0xFFFFFFFFFFFFFFFF⟩).putAction p
        ⟨b, lo.toNat + v.toNat * 2 ^ 32, 0xFFFFFFFFFFFFFFFF⟩ test := by
  simp [State.writeBody, hr, hro, hrc, hw, hh, free, putsOf, hb, State.applyPuts]

end

theorem State.write_CLAP_FIRE_low (s : State) (p : Port) (v : Word) (test : BootTest) (h : Writes s p R.CLAP_FIRE v) :
    s.portWrite p R.CLAP_FIRE v test =
      (s.accessed p R.CLAP_FIRE).setLatch p { (s.accessed p R.CLAP_FIRE).latch p with wr := some (R.CLAP_FIRE, v) } := by
  rw [State.portWrite_body s p _ v test (by decide) h.fate (by decide), State.servedFrom_unit _ _ _ (by decide),
    State.writeBody_lowWord _ p v test _ (by decide) (by decide) rfl _ _ regAt_CLAP_FIRE rfl]

/-- The two words of a 64-bit write make the number up again. -/
theorem toNat_words (v : BitVec 64) : (w32 (v.toNat % 2 ^ 32)).toNat + (w32 (v.toNat / 2 ^ 32)).toNat * 2 ^ 32 = v.toNat := by
  have := v.isLt
  rw [toNat_w32 _ (by omega), toNat_w32 _ (by omega)]
  omega

/-- A register without RW fields holds no value. -/
theorem State.put_CLAP_FIRE (z : State) (p : Port) (n m : Nat) : z.putValue p ⟨R.CLAP_FIRE, n, m⟩ = z := by
  unfold State.putValue
  rw [regAt_CLAP_FIRE]
  rfl

theorem State.act_CLAP_FIRE (z : State) (p : Port) (n : Nat) (test : BootTest) (hn : n < 2 ^ 64) :
    z.putAction p ⟨R.CLAP_FIRE, n, 0xFFFFFFFFFFFFFFFF⟩ test = z.fireLines n := by
  have hwhole : n &&& 0xFFFFFFFFFFFFFFFF = n := Nat.and_two_pow_sub_one_of_lt_two_pow hn
  unfold State.putAction
  rw [regAt_CLAP_FIRE]
  exact congrArg z.fireLines hwhole

/-- The high word behind it fires the lines. -/
theorem State.write_CLAP_FIRE_high (s : State) (p : Port) (lo hi : Word) (test : BootTest) (h : Writes s p (R.CLAP_FIRE + 4) hi)
    (hl : (s.latch p).wr = some (R.CLAP_FIRE, lo)) (hn : lo.toNat + hi.toNat * 2 ^ 32 < 2 ^ 64) :
    s.portWrite p (R.CLAP_FIRE + 4) hi test =
      (s.accessed p (R.CLAP_FIRE + 4)).fireLines (lo.toNat + hi.toNat * 2 ^ 32) := by
  rw [State.portWrite_body s p _ hi test (by decide) h.fate (by decide), hl, State.servedFrom_unit _ _ _ (by decide),
    State.writeBody_bothWords _ p hi test _ (by decide) (by decide) rfl R.CLAP_FIRE lo h.unowned regAt_CLAP_FIRE_high rfl
      regAt_CLAP_FIRE, State.put_CLAP_FIRE, State.act_CLAP_FIRE _ p _ test hn]

theorem exec_clapFire (p : Port) (v : BitVec 64) (s x y : State) (h : Writes s p R.CLAP_FIRE (w32 (v.toNat % 2 ^ 32)))
    (hx : x = s.accessed p R.CLAP_FIRE)
    (hy : y = x.setLatch p { x.latch p with wr := some (R.CLAP_FIRE, w32 (v.toNat % 2 ^ 32)) })
    (h' : Writes y p (R.CLAP_FIRE + 4) (w32 (v.toNat / 2 ^ 32))) :
    exec (.clapFire p v) s = .next ((y.accessed p (R.CLAP_FIRE + 4)).fireLines v.toNat).takeRaised := by
  have hlow : s.wordWrite p R.CLAP_FIRE (v.toNat % 2 ^ 32) = y := by
    rw [hy, hx]
    exact State.write_CLAP_FIRE_low s p _ cleanTest h
  have hheld : (y.latch p).wr = some (R.CLAP_FIRE, w32 (v.toNat % 2 ^ 32)) := by
    rw [hy, State.latch_setLatch, if_pos rfl]
  have hhigh := State.write_CLAP_FIRE_high y p _ _ cleanTest h' hheld (by rw [toNat_words]; exact v.isLt)
  rw [toNat_words] at hhigh
  refine congrArg State.ends ?_
  rw [State.wideWrite, hlow]
  exact hhigh

/-! ### The lines -/

/-- A pulse runs in the three cycles that follow, from the start of one that it goes on from (R279). -/
theorem State.pulse_eq (s : State) (n : Nat) : s.pulse n = { s with lace := { s.lace with
    pulses := put s.lace.pulses n (((look s.lace.pulses n).elim (s.now + 1) (fun q =>
      if s.now + 1 ≤ q.2 then min q.1 (s.now + 1) else s.now + 1)), s.now + 4) } } := by
  unfold State.pulse
  cases look s.lace.pulses n <;> rfl

/-- Where the outputs are live a line is low during its pulse. -/
theorem State.drivesLine_pulse (s : State) (n a b : Nat) (hl : look s.lace.pulses n = some (a, b)) (hp : s.rst.powered = true)
    (hc : s.clockRuns = true) (hw : holding s.dbg.wir = false) : s.drivesLine n = true ↔ a ≤ s.now ∧ s.now < b := by
  simp [State.drivesLine, hl, hp, hc, hw]

theorem exec_clapperPulseEnd (n : Fin 64) (s : State) (h : AocRuns s) :
    exec (.clapperPulseEnd n) s = .next (s.pulseEnd n.val).takeRaised :=
  congrArg State.ends (State.aocRunning_up s _ h)

theorem State.pulseEnd_eq (s : State) (n a due : Nat) (hl : look s.lace.pulses n = some (a, due)) (y : State)
    (hy : y = s.advanceTo due) : s.pulseEnd n = { y with lace := { y.lace with pulses := del y.lace.pulses n } } := by
  subst hy
  unfold State.pulseEnd
  rw [hl]

end Sys2Proof.Machine
end

section
/-! SUPPORT. Lace wires (R287 to R292, R298, R300): what a write of their registers does, and their release, their gap and the loss
of a die. -/

namespace Sys2Proof.Machine

/-! ### Enrolment and binding -/

/-- LACE_CTRL takes effect from the control port alone (log entry 53). -/
theorem exec_laceEnrol (p : Port) (v : BitVec 16) (s : State) (h : Writes s p R.LACE_CTRL (w32 v.toNat)) :
    exec (.laceEnrol p v) s = .next (if p = Port.control then (s.accessed p R.LACE_CTRL).writeEnrol v.toNat
      else s.accessed p R.LACE_CTRL).takeRaised := by
  have hw := State.write_LACE_CTRL s p (w32 v.toNat) cleanTest h
  rw [toNat_w32 _ (by omega)] at hw
  exact congrArg State.ends hw

/-- Each bit enrols or withdraws its wire (R287). -/
theorem State.writeEnrol_eq (z : State) (v : BitVec 16) : z.writeEnrol v.toNat =
    ((List.range 16).foldl (fun (s : State) n =>
      if bitAt v.toNat n ∧ (s.wire n).state = .off then (s.setWire n { s.wire n with state := .hold }).sampleDone n false
      else if !bitAt v.toNat n ∧ (s.wire n).state ≠ .off then s.setWire n { s.wire n with state := .off }
      else s) (z.setReg R.LACE_CTRL (w32 v.toNat))).laceCheck := by
  unfold State.writeEnrol
  rw [Nat.mod_eq_of_lt v.isLt]
  rfl

theorem exec_laceWireWrite (p : Port) (n : Fin 16) (arr : Bool) (v : Word) (s : State) (a : Nat)
    (ha : a = (if arr then R.LACE_ARR else R.LACE_WIRE) + 4 * n.val) (h : Writes s p a v) :
    exec (.laceWireWrite p n arr v) s = .next ((s.accessed p a).writeWire n.val arr v.toNat).takeRaised := by
  subst ha
  cases arr with
  | true => exact congrArg State.ends (State.write_LACE_ARR s p v cleanTest n h)
  | false => exact congrArg State.ends (State.write_LACE_WIRE s p v cleanTest n h)

section
variable (z : State) (n : Nat) (arr : Bool) (v : Nat)

theorem State.writeWire_enrolled (h : (z.wire n).state ≠ .off) : z.writeWire n arr v = z := if_pos h

/-- A binding is checked when it is written (R287, R292). -/
theorem State.writeWire_binds (h : (z.wire n).state = .off) (a : Nat) (ha : a = (if arr then R.LACE_ARR else R.LACE_WIRE) + 4 * n) :
    z.writeWire n arr v = (z.setReg a (w32 (v % (if arr then 2 ^ 12 else 2 ^ 28)))).bindCheck n := by
  subst ha
  refine (if_neg (not_not_intro h)).trans ?_
  cases arr <;> rfl

end

/-! ### Release and gap -/

theorem exec_laceRelease (n : Fin 16) (s : State) (h : Runs s) :
    exec (.laceRelease n) s = .next (s.laceReleased n.val).takeRaised :=
  congrArg State.ends (State.notify_runs s (.laceRelease n.val) h)

theorem State.laceReleased_arrived (s : State) (n : Nat) (h : (s.wire n).state = .arrived) (w : State)
    (hw : w = s.advanceTo ((s.wire n).arrivedAt + 1)) : s.laceReleased n = (w.releaseWire n).drain := by
  subst hw
  exact if_pos h

/-- The actions of a release (R288, R289), in the state x that both adds leave. -/
theorem State.releaseWire_eq (w x y : State) (n : Nat)
    (hx : x = ((w.addEye (w.wireArrival n) true (w32 (w.wireCount n)) .lace (w.wireTenant n)).1.addEye
      (w.wireRelease n) false (w32 (w.wireCount n)) .lace (w.wireTenant n)).1)
    (hy : y = ((if x.wireRealign n then x.realign n else x).bump R.LACE_RELEASES 1).raise 0x1A 2) :
    w.releaseWire n = (((y.setWire n { y.wire n with state := .gap, gapEnds := y.now + 9 }).sampleDone n true).examine
      (w.wireArrival n)).examine (w.wireRelease n) := by
  subst hx hy
  rfl

theorem exec_laceGapEnd (n : Fin 16) (s : State) (h : Stands s) : exec (.laceGapEnd n) s = .next (s.endGap n.val).takeRaised :=
  congrArg State.ends (if_pos h.ready)

/-- After its gap a wire holds, and may arrive at once (R288). -/
theorem State.endGap_eq (s : State) (n : Nat) (h : (s.wire n).state = .gap) (y : State)
    (hy : y = ((s.advanceTo (s.wire n).gapEnds).setWire n { s.wire n with state := .hold }).laceCheck) :
    s.endGap n = if (y.wire n).state = .hold then y.sampleDone n false else y := by
  unfold State.endGap
  dsimp only
  rw [if_pos h, ← hy]

/-! ### A die is lost -/

theorem exec_dieResetNotice (d : Fin 64) (system : Bool) (s : State) (h : Runs s) :
    exec (.dieResetNotice d system) s = .next (s.loseDie d.val system).takeRaised :=
  congrArg State.ends (State.notify_runs s (.dieReset d.val system) h)

section
variable (s : State) (d : Nat) (system : Bool) (held act : List Nat)
  (hh : held = (List.range 16).filter (fun n => bitAt (s.reg64 (R.LACE_ROLL + 8 * n) 0) d))
include hh

theorem State.loseDie_unheld (h : held.any (fun n => (s.wire n).state != .off) = false) : s.loseDie d system = s := by
  subst hh
  exact if_neg (Bool.eq_false_iff.mp h)

/-- The die leaves the rolls it is in, and the loss is recorded with the wires that wait for a release (R291). -/
theorem State.loseDie_held (h : held.any (fun n => (s.wire n).state != .off) = true)
    (ha : act = (List.range 16).filter (fun n => (s.wire n).state == .hold || (s.wire n).state == .arrived)) :
    s.loseDie d system = (((held.foldl (fun s n =>
        s.setReg64 (R.LACE_ROLL + 8 * n) 0 (setBit (s.reg64 (R.LACE_ROLL + 8 * n) 0) d false)) s).bump R.LACE_LOST 1).report
      0x0903 10 [w32 (d + 2 ^ 8 * b2n system), w32 (sumNat (held.map (2 ^ ·))), w32 (sumNat (act.map (2 ^ ·))), 0#32]
      0x1A 0).pageError 0x1A (w32 (d + 2 ^ 8 * b2n system)) 0 := by
  subst hh ha
  exact if_pos h

end

end Sys2Proof.Machine
end

section
/-! SETTLED. The statements on eyelet registers and contexts, on doorbells, waits and clapper lines, and on lace wires: O36, O37 and
O38. -/

namespace Sys2Proof.Machine

/-- Settles O36: a register write sets or refuses a part of the selected eyelet; a context operation starts where none runs and a
region holds its image, and its end writes or reads that image. That a register write which would make d negative is ignored is the
choice of log entry 51, that a save ends the waits at its start and empties the eyelets at its end is that of log entry 54, and that
the image waits while its memory's domain is in power-down is that of log entry 97. -/
theorem eyeletRegistersAndContexts : Obligations.EyeletRegistersAndContexts := by
  unfold Obligations.EyeletRegistersAndContexts
  refine ⟨?select, ?part, ?start, ?saved, ?restored⟩
  case select =>
    rintro p e s z h rfl
    exact exec_eyeSel p e s h
  case part =>
    rintro p v which s z a e y ha h rfl he hy
    rw [exec_eyePartWrite p v which s a ha h]
    refine ⟨fun hd hc => ?_, fun hbad => ?_⟩
    · rw [State.setLiveEye_sets _ _ e he y hy hd hc]
    · rw [State.setLiveEye_refuses _ _ e he y hy hbad, State.takeRaised_nil _ (by simp [h.quiet])]
  case start =>
    rintro p t save s y v base hv h hy rfl
    rw [exec_contextOperation p t save s y v hv h hy]
    refine ⟨fun hc => ?_, fun hc hr => ?_, fun z hc hr hz => ?_⟩
    · rw [State.startContext_busy y _ _ hc]
      rfl
    · rw [State.startContext, State.startCtx_noRegion y _ _ _ _ hc hr]
      rfl
    · rw [State.startContext, State.startCtx_begins y _ _ _ _ hc hr z hz]
  case saved =>
    rintro s y x h hx hs rfl
    rw [exec_contextSaveDone s h, State.ctxEnded_save s x hx hs]
    rfl
  case restored =>
    rintro ext s z x h rfl hx hs
    rw [exec_contextRestoreDone ext s h]
    refine ⟨fun hm => ?_, fun y hm hg hy => ?_, fun b y w hm hg hb hy hw => ?_⟩
    · rw [State.ctxEnded_closed _ x hx hm]
      exact congrArg _ (State.takeRaised_nil _ h.quiet)
    · rw [State.ctxEnded_restore _ x hx hs hm, State.finishRestore_bad _ x hg, hy]
    · rw [State.ctxEnded_restore _ x hx hs hm, State.finishRestore_good _ x hg b hb y hy, hw]

/-- Settles O37: a doorbell is dropped, held or added by its size, its eyelet's tenant and that eyelet's enable; a timeout ends the
wait that is due first; a queue's reset ends its waits, then its descriptors; a fired line's pulse starts in the next cycle. That
signals are held during a context operation is the choice of log entry 51. -/
theorem doorbellsWaitsAndClappers : Obligations.DoorbellsWaitsAndClappers := by
  unfold Obligations.DoorbellsWaitsAndClappers
  refine ⟨?doorbell, ?timeout, ?reset, ?fire, ?driven, ?pulseEnd⟩
  case doorbell =>
    intro o n v s h
    rw [exec_doorbellWrite o n v s h]
    refine ⟨fun hbad => ?_, ?_⟩
    · rw [State.doorbell_malformed s _ n v hbad]
    · rintro e hn ho rfl
      rw [State.doorbell_signals s _ n v hn ho]
      refine ⟨fun ht => ?_, fun t ht hx => ?_, fun t ht hx he => ?_, fun t ht hx he => ?_⟩
      · rw [State.applySignal_unowned s ⟨_, _, _⟩ ht]
      · rw [State.applySignal_held s ⟨_, _, _⟩ t ht hx]
      · rw [State.applySignal_disabled s ⟨_, _, _⟩ t ht hx he]
      · rw [State.applySignal_adds s ⟨_, _, _⟩ t ht hx he]
  case timeout =>
    intro q k s y w h hw hy
    rw [exec_eyeWaitTimeout q k s h, State.waitTimesOut_ends s q.val k w hw y hy]
  case reset =>
    rintro q s y h rfl
    exact exec_coreQueueReset q s h
  case fire =>
    rintro p v s x y z h hx hy h' rfl
    rw [exec_clapFire p v s x y h hx hy h', State.fireLines, funext₂ State.pulse_eq]
  case driven =>
    intro n s a b hl hp hc hw
    exact State.drivesLine_pulse s n.val a b hl hp hc hw
  case pulseEnd =>
    intro n s y a due h hl hy
    rw [exec_clapperPulseEnd n s h, State.pulseEnd_eq s n.val a due hl y hy]
    exact congrArg _ (State.takeRaised_nil _ (by simp [hy, h.quiet]))

/-- Settles O38: each register write acts by its port and by the wire's state; a release comes at the earliest in the cycle after
the arrival, and its gap's end makes the wire hold again; a die's loss is recorded where a roll of an enrolled wire names it. That
the gap ends 9 ticks after the release, that a release sets the sample of lace_done and a wire that holds clears it, that a refused
binding leaves the wire unbound, that the control port alone enrols, and which wires the record of a loss names, are the choices of
log entry 53. -/
theorem laceWiresFollowTheirPhases : Obligations.LaceWiresFollowTheirPhases := by
  unfold Obligations.LaceWiresFollowTheirPhases
  refine ⟨?enrol, ?bind, ?release, ?gap, ?loss⟩
  case enrol =>
    rintro p v s z h rfl
    rw [exec_laceEnrol p v s h]
    refine ⟨fun hp => ?_, fun hp => ?_⟩
    · rw [if_pos hp, State.writeEnrol_eq]
    · rw [if_neg hp, State.takeRaised_nil _ (by simp [h.quiet])]
  case bind =>
    rintro p n arr v s z a ha h rfl
    rw [exec_laceWireWrite p n arr v s a ha h]
    refine ⟨fun he => ?_, fun ho => ?_⟩
    · rw [State.writeWire_enrolled _ _ _ _ he, State.takeRaised_nil _ (by simp [h.quiet])]
    · rw [State.writeWire_binds _ _ _ _ ho a ha]
  case release =>
    intro n s w x y h ha hw hx hy
    have same : w.wireArrival n.val = s.wireArrival n.val ∧ w.wireRelease n.val = s.wireRelease n.val
        ∧ w.wireCount n.val = s.wireCount n.val ∧ w.wireTenant n.val = s.wireTenant n.val := hw ▸ ⟨rfl, rfl, rfl, rfl⟩
    obtain ⟨harr, hrel, hcount, hten⟩ := same
    rw [← harr, ← hrel, ← hcount, ← hten] at hx
    rw [exec_laceRelease n s h, State.laceReleased_arrived s n.val ha w hw, State.releaseWire_eq w x y n.val hx hy, harr, hrel]
    rfl
  case gap =>
    intro n s y h hg hy
    rw [exec_laceGapEnd n s h, State.endGap_eq s n.val hg y hy]
    rfl
  case loss =>
    intro d system s held act h hh ha
    rw [exec_dieResetNotice d system s h]
    refine ⟨fun hn => ?_, fun hs => ?_⟩
    · rw [State.loseDie_unheld s d.val system held hh hn, State.takeRaised_nil s h.quiet]
    · rw [State.loseDie_held s d.val system held act hh hs ha]

end Sys2Proof.Machine
end

section
/-! SUPPORT. Wakes (R283, R351, R352, R355 to R357, R361): how a wake begins, what the timer and the unplanned causes do, and how a
wake ends. -/

namespace Sys2Proof.Machine

/-! ### A wake begins -/

section
variable (s : State)

theorem State.not_idle_of_asleep (ha : s.asleep = true) : s.power.state ≠ .idle := fun h => by simp [State.asleep, h] at ha

/-- A wake takes the latency of the state, and reclaims budget that is lent (R351, R361). -/
theorem State.beginWake_eq (n : Nat) (ha : s.asleep = true) (hw : s.power.waking = none) :
    s.beginWake n = (if s.power.lending = true then
        { s with
          out := { s.out with power := s.out.power ++ [BitVec.ofNat 64 (2 + 2 ^ 16 * s.power.lent)] }
          power := { s.power with
            lending := false, needAck := true, busUntil := max s.now s.power.busUntil + 1, trigger := n
            waking := some (s.now + s.power.state.latency) } }
      else { s with power := { s.power with trigger := n, waking := some (s.now + s.power.state.latency) } }) := by
  unfold State.beginWake
  rw [if_neg (by simp [ha, hw])]
  cases s.power.lending <;> rfl

/-! ### Unplanned causes -/

theorem State.rouse_asleep (ha : s.asleep = true) (hw : s.power.waking = none) :
    s.rouse = (s.bump R.PWR_UNPLANNED 1).beginWake 1 :=
  (if_neg (s.not_idle_of_asleep ha)).trans (if_pos ⟨ha, by simp [hw]⟩)

theorem State.rouse_waking (ha : s.asleep = true) (hw : s.power.waking ≠ none) : s.rouse = s :=
  (if_neg (s.not_idle_of_asleep ha)).trans (if_neg (by simp [hw]))

theorem State.rouse_idle (h : s.power.state = .idle) : s.rouse = (s.bump R.PWR_UNPLANNED 1).powerTo .active := if_pos h

theorem State.sample_power (c : WakeCause) : (s.sample c).power = s.power ∧ (s.sample c).recorder = s.recorder := by
  cases c <;> exact ⟨rfl, rfl⟩

theorem exec_unplannedWake (c : WakeCause) (h : Stands s) : exec (.unplannedWake c) s =
    .next (if s.wakeCauseHolds c then (s.sample c).rouse else s.sample c) := by
  have quiet : (s.unplanned c).recorder.raised = [] := by
    unfold State.unplanned
    dsimp only
    split <;> simp [s.sample_power c, h.quiet]
  have run : s.onReady (fun s => s.unplanned c) = s.unplanned c := if_pos h.ready
  exact (congrArg State.ends run).trans (State.ends_nil _ quiet)

/-! ### The timer -/

theorem State.timerWake_recorder : s.timerWake.recorder = s.recorder := by
  unfold State.timerWake
  repeat' split
  · rfl
  · simp
  · rfl
  · exact State.beginWake_recorder _ _

theorem exec_nextEventTimer (h : Stands s) : exec .nextEventTimer s = .next s.timerWake :=
  (congrArg State.ends (if_pos h.ready)).trans (State.ends_nil _ (by rw [State.timerWake_recorder, h.quiet]))

section
variable (t : Nat) (ht : s.power.wakeAt = some t)
include ht

theorem State.timerWake_idle (h : s.power.state = .idle) : s.timerWake = (s.advanceTo t).powerTo .active := by
  simp [State.timerWake, ht, h]

theorem State.timerWake_asleep (ha : s.asleep = true) (hw : s.power.waking = none) :
    s.timerWake = (s.advanceTo t).beginWake 0 := by
  simp [State.timerWake, ht, s.not_idle_of_asleep ha, ha, hw]

theorem State.timerWake_waking (ha : s.asleep = true) (hw : s.power.waking ≠ none) : s.timerWake = s := by
  simp [State.timerWake, ht, s.not_idle_of_asleep ha, Option.isSome_iff_ne_none.mpr hw]

end

/-! ### A wait's timeout during the sleep -/

/-- A timeout that finds the instance asleep waits for FCLK, and begins the wake at its time (R283; log entry 101). -/
theorem exec_eyeWaitTimeout_asleep (q : Fin 64) (k : BitVec 16) (w : Wait) (h : Stands s) (ha : s.asleep = true)
    (hw : firstDueWait (s.eyes.waits.filter (fun w => w.timesOutAs q.val k)) = some w) :
    exec (.eyeWaitTimeout q k) s = .next ((({ s with power := { s.power with
      heldReqs := s.power.heldReqs ++ [.notice (.waitTimeout q.val k)] } } : State).advanceTo (w.due.getD 0)).beginWake 0) := by
  have held : s.mustHold (HeldReq.notice (.waitTimeout q.val k)).source = true := by simp [State.mustHold, ha]
  have run : s.notify (.waitTimeout q.val k) = ((({ s with power := { s.power with
      heldReqs := s.power.heldReqs ++ [.notice (.waitTimeout q.val k)] } } : State).advanceTo (w.due.getD 0)).beginWake 0) := by
    refine (if_pos h.ready).trans ((if_pos held).trans ?_)
    unfold State.wakeFrom
    dsimp only [State.setPower]
    rw [hw]
    exact if_pos ha
  refine (congrArg State.ends run).trans (State.ends_nil _ ?_)
  rw [State.beginWake_recorder]
  exact h.quiet

/-! ### A wake ends -/

theorem exec_wakeComplete (h : Stands s) : exec .wakeComplete s = .next s.wakeComplete.takeRaised :=
  congrArg State.ends (if_pos h.ready)

theorem State.wakeComplete_unacknowledged (h : s.power.needAck = true) : s.wakeComplete = s := if_neg (by simp [h])

theorem State.wakeComplete_proceeds (ha : s.asleep = true) (hw : s.power.waking.isSome = true) (h : s.power.needAck = false) :
    s.wakeComplete = s.wakeUp.proceedAll.drain := if_pos ⟨ha, hw, by simp [h]⟩

/-- The instance is ACTIVE from the end of the latency on; the exit from NAP or DEEP is recorded (R304, R352). -/
theorem State.wakeUp_eq (t : Nat) (ha : s.asleep = true) (hw : s.power.waking = some t) (x : State)
    (hx : x = { s with
      now := max s.now t
      power := { s.power with
        state := .active, since := max s.now t, waking := none
        resid := s.power.resid.set (Power.num s.power.state)
          (s.power.resid.getD (Power.num s.power.state) 0 + (max s.now t - s.power.since)) } }) :
    s.wakeUp = if s.power.state = .doze then x else x.log 0x0201 8
      [w32 (Power.num s.power.state), w32 s.power.gap, w32 s.power.trigger, 0#32] := by
  have change : s.wakeUp = x.logChange s.power.state .active s.power.trigger := by
    subst hx
    unfold State.wakeUp
    dsimp only
    rw [hw]
    rfl
  have gap : x.power.gap = s.power.gap := by rw [hx]
  rw [change]
  unfold State.logChange
  rw [gap]
  cases hs : s.power.state <;> simp_all [State.asleep, Power.logged, Power.num]

/-! ### Sources that change during the sleep -/

/-- wake_at moves with the sources, and one that is past wakes at once (R356). -/
theorem State.moveWake_eq (ha : s.asleep = true) (hw : s.power.waking = none) (g e w : Nat) (hg : (g, e) = s.gapOf)
    (hat : w = s.wakeFor s.power.state e) (z : State) (hz : z = { s with power := { s.power with
      gap := g, eff := e, src := (match s.nextEvent with | some ev => ev.1 | none => 0), wakeAt := some w } }) :
    s.moveWake = if (s.policy ≠ 2 ∧ e < s.power.state.latency) ∨ w ≤ s.now then z.beginWake 0 else z := by
  subst hat hz
  unfold State.moveWake
  rw [if_neg (by simp [ha, hw]), ← hg]
  exact if_congr (by simp) rfl rfl

theorem State.movedFrom_changed (was : State) (ha : s.asleep = true) (he : s.events ≠ was.events) :
    s.movedFrom was = s.moveWake := if_pos (by simp [ha, he])

end

end Sys2Proof.Machine
end

section
/-! SETTLED. The statement on wakes: O50. -/

namespace Sys2Proof.Machine

/-- Settles O50: the timer, an unplanned cause and a wait's timeout each begin the wake of an instance that sleeps and is not waking
yet; its end lets what was held proceed; a source that changes moves wake_at. That held requests run at the end of the wake is the
choice of log entry 67, that samples come as operands of the wake is that of log entry 100, and that reports wait for FCLK and only
the causes of R357 and a wait's timeout wake is that of log entry 101. -/
theorem wakesTakeTheirLatency : Obligations.WakesTakeTheirLatency := by
  unfold Obligations.WakesTakeTheirLatency
  refine ⟨?begins, ?timer, ?unplanned, ?timeout, ?completes, ?moves⟩
  case begins =>
    intro s n ha hw
    exact State.beginWake_eq s n ha hw
  case timer =>
    intro s t h ht
    rw [exec_nextEventTimer s h]
    refine ⟨fun ha hw => ?_, fun hi => ?_, fun ha hw => ?_⟩
    · rw [State.timerWake_asleep s t ht ha hw]
    · rw [State.timerWake_idle s t ht hi]
    · rw [State.timerWake_waking s t ht ha hw]
  case unplanned =>
    rintro s z c h rfl
    obtain ⟨power, -⟩ := s.sample_power c
    have asleep : (s.sample c).asleep = s.asleep := by rw [State.asleep, power]; rfl
    rw [exec_unplannedWake s c h]
    refine ⟨fun hc => by rw [if_neg (by simp [hc])], fun hc => ?_⟩
    rw [if_pos hc]
    refine ⟨fun ha hw => ?_, fun ha hw => ?_, fun hi => ?_, fun hr => ?_⟩
    · rw [State.rouse_asleep _ (asleep.trans ha) (by rw [power, hw])]
    · rw [State.rouse_waking _ (asleep.trans ha) (by rw [power]; exact hw)]
    · rw [State.rouse_idle _ (by rw [power, hi])]
    · rw [State.rouse_awake _ (by rw [power, hr])]
  case timeout =>
    intro q k s w h ha hw
    exact exec_eyeWaitTimeout_asleep s q k w h ha hw
  case completes =>
    intro s x t h ha hw
    rw [exec_wakeComplete s h]
    refine ⟨fun hk => ?_, fun hk hx => ?_⟩
    · rw [State.wakeComplete_unacknowledged s hk, State.takeRaised_nil s h.quiet]
    · rw [State.wakeComplete_proceeds s ha (by simp [hw]) hk, State.wakeUp_eq s t ha hw x hx]
  case moves =>
    rintro s was z g e w ha hw he rfl rfl hat hz
    rw [State.movedFrom_changed s was ha he]
    exact State.moveWake_eq s ha hw _ _ w rfl hat z hz

end Sys2Proof.Machine
end

section
/-! SUPPORT. Proposals (R303, R339, R341, R343): what SEC_PROPOSE comes to, by what it finds pending and by the form of the staged
bytes, and the end of the window. -/

namespace Sys2Proof.Machine

theorem exec_propose (p : Port) (s : State) (h : Writes s p R.SEC_PROPOSE (w32 1)) :
    exec (.propose p) s = ((s.accessed p R.SEC_PROPOSE).propose p).ends :=
  congrArg State.ends ((State.write_SEC_PROPOSE s p (w32 1) cleanTest h).trans (State.onBits_set _ _ _ _ _ (by decide)))

/-- A result of page SEC raises no event. -/
theorem State.csResult_recorder (s : State) (r : Nat) : (s.csResult r).recorder = s.recorder := by
  simp [State.csResult]

section
variable (z : State) (p : Port)

theorem State.propose_busy (h : z.security.proposal.isSome ∨ z.security.applying.isSome) : z.propose p = z.csResult 6 :=
  if_pos h

variable (h : ¬ (z.security.proposal.isSome ∨ z.security.applying.isSome))
include h

/-- A refused KEY_LOAD proposal clears the key staging (R343). -/
theorem State.propose_bad (hb : z.badProposal z.proposalBytes (z.reg R.SEC_NONCE) = true) :
    z.propose p = ({ z with security := { z.security with
      stage := if leAt z.proposalBytes 0 1 = 2 then [] else z.security.stage } } : State).csResult 3 := by
  refine (if_neg h).trans ((if_pos hb).trans (congrArg (fun y : State => y.csResult 3) ?_))
  split <;> rfl

/-- A proposal that nothing refuses opens its window (R339). -/
theorem State.propose_opens (hb : ¬ z.badProposal z.proposalBytes (z.reg R.SEC_NONCE) = true) :
    z.propose p = { z with security := { z.security with
      proposal := some ⟨p, z.proposalBytes, z.reg R.SEC_NONCE, w32 (crc32c z.proposalBytes), z.now + 100000⟩
      lastProposer := Port.num p, digest := w32 (crc32c z.proposalBytes), refused := 0 } } :=
  (if_neg h).trans (if_neg hb)

end

theorem exec_countersignTimeout (s : State) (h : AocRuns s) (hc : s.clockRuns = true) :
    exec .countersignTimeout s = .next s.proposalTimeout.takeRaised :=
  congrArg State.ends ((State.aocRunning_up s _ h).trans (if_pos hc))

/-- The window of a pending proposal ends at its time (R339). -/
theorem State.proposalTimeout_pending (s : State) (q : Proposal) (h : s.security.proposal = some q) :
    s.proposalTimeout = (s.advanceTo q.endsAt).dropProposal q 2 := by
  rw [State.proposalTimeout, h]

end Sys2Proof.Machine
end

section
/-! SETTLED. The statement on proposals: O46. -/

namespace Sys2Proof.Machine

/-- Settles O46: SEC_PROPOSE finds a proposal in its way, or a form that R341 refuses, or opens the window; none of the three raises
an event. That a KEY_LOAD proposal refused for its form clears the key staging, and that bit 0 of SEC rises at every result, are the
choices of log entry 64. -/
theorem proposalsOpenAndTimeOut : Obligations.ProposalsOpenAndTimeOut := by
  unfold Obligations.ProposalsOpenAndTimeOut
  refine ⟨?propose, ?timeout⟩
  case propose =>
    rintro p s z b h rfl rfl
    have quiet : (s.accessed p R.SEC_PROPOSE).recorder.raised = [] := by simp [h.quiet]
    rw [exec_propose p s h]
    split
    · next busy =>
      rw [State.propose_busy _ p busy]
      exact State.ends_nil _ (by rw [State.csResult_recorder, quiet])
    · next idle =>
      split
      · next bad =>
        rw [State.propose_bad _ p idle bad]
        exact State.ends_nil _ ((congrArg Recorder.raised (State.csResult_recorder _ 3)).trans quiet)
      · next good =>
        rw [State.propose_opens _ p idle good]
        exact State.ends_nil _ quiet
  case timeout =>
    rintro s t a q h hc hq rfl rfl
    rw [exec_countersignTimeout s h hc, s.proposalTimeout_pending q hq, State.dropProposal_eq _ _ q 2 rfl]
    rfl

end Sys2Proof.Machine
end

section
/-! SUPPORT. Operations of peers (R310 to R312, R324, R413): what the receiver makes of a SHIP, a FETCH, a PROP and a REDUCE, by the
sequence number and the lent windows, and when a signal that follows the data is applied. -/

namespace Sys2Proof.Machine

/-! ### A packet arrives -/

section
variable (h : PeerHead) (a : BitVec 64) (s : State) (hs : Arrives s)
include hs

theorem exec_peerShip (d : List Byte) (g : Option Signal) :
    exec (.peerShip h a d g) s = .next (s.recvShip h a.toNat d g).takeRaised :=
  congrArg State.ends (State.arrive_ready s _ _ hs)

theorem exec_peerReduce (v : Partial) : exec (.peerReduce h v) s = .next (s.recvReduce h v).takeRaised :=
  congrArg State.ends (State.arrive_ready s _ _ hs)

/-- A FETCH is the read of a RET, whose last use of the copy it is; a PROP says itself whether it is the last use (R211). -/
theorem exec_peerRead (n : Nat) (fetch last : Bool) :
    exec (if fetch then .peerFetch h a n else .peerProp h a ⟨n, last⟩) s =
      .next (s.recvRead h a.toNat n fetch (fetch || last)).takeRaised := by
  cases fetch with
  | true => exact congrArg State.ends (State.arrive_ready s (.fetch h a.toNat n) _ hs)
  | false => exact congrArg State.ends (State.arrive_ready s (.prop h a.toNat n last) _ hs)

end

/-! ### The answer and the lent window -/

theorem State.answerPeer_eq (s : State) (h : PeerHead) (e : Bool) (d : List Byte) :
    s.answerPeer h e d = (if d = [] then s else s.bump64 R.PEER_TX_BYTES d.length).outAnswer
      ⟨h.package.val, h.die.val, h.seq.toNat, e, d, w32 (crc32c (Config.ackBytes h.seq.toNat e d))⟩ := by
  cases d <;> rfl

/-- A window that holds the operation is found without a change of the state. -/
theorem State.checkLent_found (s : State) (h : PeerHead) (a n b : Nat) (hb : (s.checkLent h a n).2 = some b) :
    (s.checkLent h a n).1 = s := by
  unfold State.checkLent at hb ⊢
  cases hw : s.lentWindow h a n with
  | otherTenant => simp [hw] at hb
  | _ => rfl

/-! ### SHIP -/

section
variable (s : State) (h : PeerHead) (a : Nat) (d : List Byte) (g : Option Signal)

theorem State.recvShip_stale (hs : s.seen h = .stale) : s.recvShip h a d g = s.bump R.PEER_STALE 1 := by
  simp [State.recvShip, hs, State.stale]

theorem State.recvShip_again (e : Bool) (hs : s.seen h = .again e) :
    s.recvShip h a d g = (s.bump R.PEER_DUPS 1).answerPeer h e [] := by
  simp [State.recvShip, hs]

variable (hs : s.seen h = .fresh)
include hs

/-- Outside the windows the answer is an error, and signals of the transfer fail with it. -/
theorem State.recvShip_outside (hb : (s.checkLent h a d.length).2 = none) :
    s.recvShip h a d g = ((((s.checkLent h a d.length).1.noteRx h true).packetDone h h.seq.toNat true).answerPeer h true
      []).drain := by
  simp [State.recvShip, hs, hb]

variable (b : Nat) (hb : (s.checkLent h a d.length).2 = some b)
include hb

/-- Memory in a power-down takes nothing, and the sender sends again (R363; log entry 97). -/
theorem State.recvShip_closed (hm : s.memOpen b = false) : s.recvShip h a d g = s := by
  simp [State.recvShip, hs, hb, hm]

theorem State.recvShip_applies (hm : s.memOpen b = true) (y : State)
    (hy : y = (((((s.checkLent h a d.length).1.memWrite b d).outAccess ⟨true, b, d.length, s.lentHint .stream b⟩).bump64
      R.PEER_RX_BYTES d.length).bump R.PEER_LENT_OPS 1).noteRx h false) :
    s.recvShip h a d g =
      (((g.elim y (y.noteSignal h)).packetDone h h.seq.toNat false).answerPeer h false []).drain := by
  subst hy
  cases g <;> simp [State.recvShip, hs, hb, hm]

end

/-! ### FETCH and PROP -/

section
variable (s : State) (h : PeerHead) (a n : Nat) (fetch last : Bool)

theorem State.recvRead_stale (hs : s.seen h = .stale) : s.recvRead h a n fetch last = s.bump R.PEER_STALE 1 := by
  simp [State.recvRead, hs, State.stale]

/-- A repeat is served again (R312). -/
theorem State.recvRead_again (e : Bool) (hs : s.seen h = .again e) : s.recvRead h a n fetch last =
    (s.bump R.PEER_DUPS 1).serveRead h a n false fetch (if fetch || last then .lastUse else .keep) := by
  simp [State.recvRead, hs]

theorem State.recvRead_fresh (hs : s.seen h = .fresh) : s.recvRead h a n fetch last =
    s.serveRead h a n true fetch (if fetch || last then .lastUse else .keep) := by
  simp [State.recvRead, hs]

variable (k : Hint)

theorem State.serveRead_outside (hb : (s.checkLent h a n).2 = none) :
    s.serveRead h a n true fetch k = ((s.checkLent h a n).1.noteRx h true).answerPeer h true [] := by
  simp [State.serveRead, hb]

variable (b : Nat) (hb : (s.checkLent h a n).2 = some b)
include hb

theorem State.serveRead_closed (hm : s.memOpen b = false) : s.serveRead h a n true fetch k = s := by
  simp [State.serveRead, hb, hm]

/-- The hint does not depend on what the receiver notes of the sender. -/
theorem State.serveRead_answers (hm : s.memOpen b = true) (y : State)
    (hy : y = ((s.checkLent h a n).1.noteRx h false).outAccess ⟨false, b, n,
      ((s.checkLent h a n).1.noteRx h false).lentHint k b⟩) :
    s.serveRead h a n true fetch k =
      (if fetch then y.bump R.PEER_LENT_OPS 1 else y).answerPeer h false (Memory.read y.mem b n) := by
  have hint : ((s.checkLent h a n).1.noteRx h false).lentHint k b = s.lentHint k b := by
    rw [s.checkLent_found h a n b hb]
    rfl
  rw [hint] at hy
  subst hy
  unfold State.serveRead
  simp only [hb, hm, Bool.not_true, Bool.false_eq_true, if_false, if_true, Option.isNone_some]

end

/-! ### REDUCE -/

section
variable (s : State) (h : PeerHead) (v : Partial)

theorem State.recvReduce_stale (hs : s.seen h = .stale) : s.recvReduce h v = s.bump R.PEER_STALE 1 := by
  simp [State.recvReduce, hs, State.stale]

theorem State.recvReduce_again (e : Bool) (hs : s.seen h = .again e) :
    s.recvReduce h v = (s.bump R.PEER_DUPS 1).answerPeer h e [] := by
  simp [State.recvReduce, hs]

variable (hs : s.seen h = .fresh)
include hs

theorem State.recvReduce_otherTenant (ho : s.areaOther h.tenant.val = true) :
    s.recvReduce h v = (s.rejectTenant.noteRx h true).answerPeer h true [] := by
  simp [State.recvReduce, hs, ho]

/-- A total with its CRC is held for the round; one without is answered all the same (R237). -/
theorem State.recvReduce_holds (ho : s.areaOther h.tenant.val = false) (y : State)
    (hy : y = (s.bump64 R.PEER_RX_BYTES v.length).noteRx h false) :
    s.recvReduce h v = ((if v.length = 64 ∧ leAt v 60 4 = crc32c (v.take 60)
      then y.setGn { y.gn with totals := y.gn.totals ++ [(h.package.val, v)] } else y).answerPeer h false []).gnFinish := by
  subst hy
  simp [State.recvReduce, hs, ho]

end

/-! ### Signals (R285) -/

section
variable (s : State) (h : PeerHead) (g : Signal)

/-- A signal is not applied when an earlier packet of its transfer has failed. -/
theorem State.noteSignal_failed (hf : ∃ q ∈ g.earlier, s.rxStatus h q.toNat = some true) : s.noteSignal h g = s := by
  obtain ⟨q, hq, hs⟩ := hf
  exact if_pos (List.any_eq_true.mpr ⟨q.toNat, List.mem_map_of_mem hq, by simp [hs]⟩)

variable (hn : s.peer.signals = []) (hw : ∀ q ∈ g.earlier, s.rxStatus h q.toNat = some false)
include hn hw

/-- A signal whose earlier packets are all written waits for none. -/
theorem State.noteSignal_ready : s.noteSignal h g =
    { s with peer := { s.peer with signals := [⟨h.package.val, h.die.val, [], g.eyelet.val, g.add⟩] } } := by
  have none_failed : (g.earlier.map BitVec.toNat).any (fun q => s.rxStatus h q == some true) = false := by
    simpa using fun q hq => by simp [hw q hq]
  have none_missing : (g.earlier.map BitVec.toNat).filter (fun q => (s.rxStatus h q).isNone) = [] := by
    simpa using fun q hq => by simp [hw q hq]
  unfold State.noteSignal
  simp only [none_failed, none_missing, hn, Bool.false_eq_true, if_false, List.nil_append]

theorem State.packetDone_signals : (s.noteSignal h g).packetDone h h.seq.toNat false =
    s.applySignal { target := false, eye := g.eyelet.val, add := g.add } := by
  have empty : ({ s with peer := { s.peer with signals := [] } } : State) = s := by rw [← hn]
  rw [s.noteSignal_ready h g hn hw]
  simp [State.packetDone, empty]

end

end Sys2Proof.Machine
end

section
/-! SUPPORT. Acknowledgements, resends, the loss of a package and page PEER (R310, R311, R313, R413, R414). -/

namespace Sys2Proof.Machine

/-! ### Acknowledgements -/

theorem exec_peerAck (k : Fin 64) (n : BitVec 32) (crc err : Bool) (d : List Byte) (s : State) (h : Runs s)
    (hi : s.rst.isolating = false) :
    exec (.peerAck k n crc err d) s = .next (s.peerAck k.val n.toNat crc err d).takeRaised := by
  have go : s.ackAnswer k.val n.toNat crc err d = s.peerAck k.val n.toNat crc err d :=
    (if_neg (by simp [hi])).trans (State.notify_runs s (.peerAck k.val n.toNat crc err d) h)
  exact congrArg State.ends go

section
variable (s : State) (k n : Nat) (err : Bool) (d : List Byte) (o : PeerOp) (ho : s.peerOp n = some o) (hk : o.package = k)
  (hl : s.lostPackage k = false)
include ho hk hl

/-- Without its CRC an acknowledgement is none, and the operation is marked (R310). -/
theorem State.peerAck_corrupt : s.peerAck k n false err d =
    s.setOps (s.peer.ops.map (fun v => if v.seq == n then { v with badCrc := true } else v)) := by
  simp [State.peerAck, ho, hk, hl]

variable (y : State) (hy : y = (s.setOps (s.peer.ops.filter (fun v => v.seq != n))).drainPeer k)
include hy

theorem State.peerAck_unit (ht : o.txn = none) : s.peerAck k n true err d = y := by
  simp [State.peerAck, ho, hk, hl, ht, hy]

/-- The acknowledgement of a transaction's operation is the response to the transaction. -/
theorem State.peerAck_transaction (m : Nat) (ht : o.txn = some m) : s.peerAck k n true err d =
    ((if err then y else y.bump64 R.PEER_RX_BYTES d.length).respond m (if err then some .errorResponse else none) d 0).drain := by
  simp [State.peerAck, ho, hk, hl, ht, hy]

end

/-! ### Resends -/

theorem exec_ackResend (n : BitVec 32) (s : State) (h : Runs s) :
    exec (.ackResend n) s = .next (s.ackResend n.toNat).drain.takeRaised :=
  congrArg State.ends (State.unit_runs s 12 _ h)

section
variable (s y : State) (n : Nat) (o : PeerOp) (ho : s.peerOp n = some o) (hy : y = s.advanceTo (o.lastSend + 800))
include ho hy

/-- The first four resends send the operation again (R311). -/
theorem State.ackResend_again (hr : o.resends < 4) (x : PeerOp)
    (hx : x = { o with resends := o.resends + 1, lastSend := y.now, badCrc := false }) :
    s.ackResend n = ((((y.setOps (y.peer.ops.map (fun v => if v.seq == n then x else v))).outPeerOp x).bump64 R.PEER_TX_BYTES
      o.data.length).bump R.PEER_RESENDS 1).report 0x0C01 12
        [w32 (o.who + 2 ^ 20 * (o.resends + 1) + 2 ^ 23 * b2n o.badCrc), w32 n, o.slateWord, 0#32] 0x1F 1 := by
  subst hy hx
  unfold State.ackResend
  rw [ho]
  exact if_pos hr

theorem State.ackResend_loses (hr : 4 ≤ o.resends) : s.ackResend n = y.losePeer o := by
  subst hy
  unfold State.ackResend
  rw [ho]
  exact if_neg (by omega)

end

/-! ### Page PEER -/

theorem exec_peerLinks (up : Bool) (s : State) :
    exec (if up then .peerLinksUp else .peerLinksDown) s =
      .next ({ s with peer := { s.peer with portUp := up } } : State).takeRaised := by
  cases up <;> rfl

/-- A served write of PEER_CTRL sets its package field, then acts on bits 0 and 1. -/
theorem State.write_peerControl (s : State) (p : Port) (n : Nat) (hn : n < 2 ^ 32) (h : Writes s p R.PEER_CTRL (w32 n))
    (y : State) (hy : y = (s.accessed p R.PEER_CTRL).putFields R.PEER_CTRL 0xFF00 n) :
    s.wordWrite p R.PEER_CTRL n = y.onBits n
      [(0, fun s => s.clearLost (fld (s.reg R.PEER_CTRL).toNat 8 8)), (1, State.clearAllLost)] := by
  have hw := State.write_PEER_CTRL s p (w32 n) cleanTest h
  rw [toNat_w32 n hn, State.putPlain_inst _ _ _ _ _ (by decide)] at hw
  subst hy
  exact hw

/-- Bits 8 to 15 of what a write of PEER_CTRL leaves of the old word. -/
theorem fld_mapMinus_packageBits (w : Nat) : fld (mapMinus w 0xFF00) 8 8 = 0 := by
  have low : w >>> 8 &&& 0xFF00 >>> 8 = w >>> 8 % 2 ^ 8 := Nat.and_two_pow_sub_one_eq_mod _ 8
  rw [fld, mapMinus, Nat.shiftRight_xor_distrib, Nat.shiftRight_and_distrib, low, Nat.xor_mod_two_pow, Nat.mod_mod, Nat.xor_self]

/-- The package that a write of clear_lost names stands in PEER_CTRL when the bit acts. -/
theorem State.putFields_package (z : State) (k : Fin 64) :
    fld (((z.putFields R.PEER_CTRL 0xFF00 (1 + 2 ^ 8 * k.val)).reg R.PEER_CTRL).toNat) 8 8 = k.val := by
  have bits : ∀ k : Fin 64, (1 + 2 ^ 8 * k.val) &&& 0xFF00 = 256 * k.val := by decide
  have old := fld_mapMinus_packageBits (z.reg R.PEER_CTRL).toNat
  have named : fld (mapMinus (z.reg R.PEER_CTRL).toNat 0xFF00 + 256 * k.val) 8 8 = k.val := by
    rw [fld, Nat.shiftRight_eq_div_pow] at old ⊢
    omega
  have kept : legal R.PEER_CTRL (mapMinus (z.reg R.PEER_CTRL).toNat 0xFF00 + 256 * k.val) =
      mapMinus (z.reg R.PEER_CTRL).toNat 0xFF00 + 256 * k.val := by
    refine (show legal R.PEER_CTRL _ = refield _ 8 8 (fun x => decide (x ≤ 63)) 0 from rfl).trans (if_pos ?_)
    rw [named]
    exact decide_eq_true (by omega)
  have held : (z.putFields R.PEER_CTRL 0xFF00 (1 + 2 ^ 8 * k.val)).reg R.PEER_CTRL =
      w32 (mapMinus (z.reg R.PEER_CTRL).toNat 0xFF00 + 256 * k.val) := by
    rw [State.putFields, bits, kept]
    exact State.regKey_setKey_same z _ _
  rw [held, w32, BitVec.toNat_ofNat]
  rw [fld, Nat.shiftRight_eq_div_pow] at named ⊢
  omega

theorem exec_peerClearLost (p : Port) (k : Fin 64) (s y : State) (h : Writes s p R.PEER_CTRL (w32 (1 + 2 ^ 8 * k.val)))
    (hy : y = (s.accessed p R.PEER_CTRL).putFields R.PEER_CTRL 0xFF00 (1 + 2 ^ 8 * k.val)) :
    exec (.peerClearLost p k) s = .next { y with peer := { y.peer with lost := setBit y.peer.lost k.val false } } := by
  have hb : ∀ k : Fin 64, bitAt (1 + 2 ^ 8 * k.val) 0 = true ∧ bitAt (1 + 2 ^ 8 * k.val) 1 = false := by decide
  obtain ⟨h0, h1⟩ := hb k
  have hw := s.write_peerControl p _ (by omega) h y hy
  have package : fld (y.reg R.PEER_CTRL).toNat 8 8 = k.val := hy ▸ State.putFields_package _ k
  rw [State.onBits_set _ _ _ _ _ h0, State.onBits_clear _ _ _ _ _ h1, State.onBits_nil, package, State.clearLost,
    if_pos k.isLt] at hw
  refine (congrArg State.ends hw).trans (State.ends_nil _ ?_)
  rw [← h.quiet, ← State.accessed_recorder s p R.PEER_CTRL, hy]
  rfl

/-- The fields of PEER_CTRL hold none of its action bits. -/
theorem State.fieldsOf_PEER_CTRL (s : State) :
    s.fieldsOf R.PEER_CTRL < 2 ^ 16 ∧ (s.fieldsOf R.PEER_CTRL).testBit 0 = false := by
  rw [State.fieldsOf, regAt_PEER_CTRL]
  exact ⟨Nat.and_lt_two_pow _ (show 0xFF00 < 2 ^ 16 by decide), by simp⟩

theorem exec_peerClearAll (p : Port) (s y : State) (v : Nat) (hv : v = s.fieldsOf R.PEER_CTRL ||| 2)
    (h : Writes s p R.PEER_CTRL (w32 v)) (hy : y = (s.accessed p R.PEER_CTRL).putFields R.PEER_CTRL 0xFF00 v) :
    exec (.peerClearAll p) s = .next { y with peer := { y.peer with lost := 0 } } := by
  obtain ⟨hlt, hbit⟩ := s.fieldsOf_PEER_CTRL
  have h32 : v < 2 ^ 32 := hv ▸ (Nat.or_lt_two_pow (n := 16) hlt (by decide)).trans (by decide)
  have h0 : bitAt v 0 = false := by rw [hv, bitAt_eq_testBit, Nat.testBit_or, hbit]; decide
  have h1 : bitAt v 1 = true := by
    rw [hv, bitAt_eq_testBit, Nat.testBit_or, Bool.or_eq_true]
    exact .inr (by decide)
  have hw := s.write_peerControl p v h32 h y hy
  rw [State.onBits_clear _ _ _ _ _ h0, State.onBits_set _ _ _ _ _ h1, State.onBits_nil, hv] at hw
  refine (congrArg State.ends hw).trans (State.ends_nil _ ?_)
  rw [← h.quiet, ← State.accessed_recorder s p R.PEER_CTRL, hy]
  rfl

theorem exec_peerPartnerWrite (p : Port) (v : Word) (s : State) (h : Writes s p R.PEER_PARTNER v) :
    exec (.peerPartnerWrite p v) s =
      .next ((s.accessed p R.PEER_PARTNER).writePartner (legal R.PEER_PARTNER (v.toNat &&& 0x1FF))) := by
  have field : (Put.mk R.PEER_PARTNER v.toNat 0xFFFFFFFF).onto 0x1FF 0 = v.toNat &&& 0x1FF := by
    rw [Put.onto_word _ _ _ _ (by decide)]
    simp [mapMinus]
  refine (congrArg State.ends (State.write_PEER_PARTNER s p v cleanTest h)).trans ?_
  rw [field]
  refine State.ends_nil _ ?_
  rw [← h.quiet, ← State.accessed_recorder s p R.PEER_PARTNER, State.writePartner]
  split <;> rfl

/-- The partner changes only while no extent is with it and no operation to it is under way (R414). -/
theorem State.writePartner_free (z : State) (v : Nat) (h : z.partnerFree = true) : z.writePartner v =
    (z.setReg R.PEER_PARTNER (w32 (v % 2 ^ 9))).setPeer (fun q => { q with partnerReject := false }) := if_pos h

theorem State.writePartner_held (z : State) (v : Nat) (h : z.partnerFree = false) :
    z.writePartner v = z.setPeer (fun q => { q with partnerReject := true }) := if_neg (Bool.eq_false_iff.mp h)

end Sys2Proof.Machine
end

section
/-! SETTLED. The statement on peer operations: O39. -/

namespace Sys2Proof.Machine

/-- Settles O39: the sequence number and the lent windows decide what becomes of a packet, the CRC and the transaction what becomes
of an acknowledgement, and the count of resends what follows one that does not come. That an operation into memory in a power-down is
not answered is the choice of log entry 97, that a SHIP names the earlier packets of its transfer is that of log entry 99, and that an
unknown sender's sequence is fresh, that a REDUCE is refused for another tenant's region alone and that only applied data count are
those of log entry 55. -/
theorem peerOperationsApplyOnce : Obligations.PeerOperationsApplyOnce := by
  unfold Obligations.PeerOperationsApplyOnce
  refine ⟨?ship, ?signal, ?answer, ?read, ?reduce, ?acknowledged, ?resent, ?links, ?clearOne, ?clearAll, ?partner⟩
  case ship =>
    intro h a d g s hs
    rw [exec_peerShip h a s hs d g]
    refine ⟨fun hseen => ?_, fun e hseen => ?_, fun hseen hb => ?_, fun b hseen hb hm => ?_, fun b y hseen hb hm hy => ?_⟩
    · rw [s.recvShip_stale h _ d g hseen]
    · rw [s.recvShip_again h _ d g e hseen]
    · rw [s.recvShip_outside h _ d g hseen hb]
    · rw [s.recvShip_closed h _ d g hseen b hb hm]
    · rw [s.recvShip_applies h _ d g hseen b hb hm y hy]
  case signal =>
    exact fun h g s => ⟨s.noteSignal_failed h g, s.packetDone_signals h g⟩
  case answer =>
    exact fun h e d s => s.answerPeer_eq h e d
  case read =>
    rintro h a n fetch last s c k hs rfl rfl
    rw [exec_peerRead h a s hs n fetch last]
    refine ⟨fun hseen => ?_, fun e hseen => ?_, fun hseen hb => ?_, fun b hseen hb hm => ?_, fun b y hseen hb hm hy => ?_⟩
    · rw [s.recvRead_stale h _ n _ _ hseen]
    · rw [s.recvRead_again h _ n _ _ e hseen]
      simp
    · rw [s.recvRead_fresh h _ n _ _ hseen, s.serveRead_outside h _ n _ _ hb]
    · rw [s.recvRead_fresh h _ n _ _ hseen, s.serveRead_closed h _ n _ _ b hb hm]
    · rw [s.recvRead_fresh h _ n _ _ hseen, s.serveRead_answers h _ n _ _ b hb hm y (by rw [hy]; simp)]
  case reduce =>
    intro h v s hs
    rw [exec_peerReduce h s hs v]
    refine ⟨fun hseen => ?_, fun e hseen => ?_, fun hseen ho => ?_, fun y hseen ho hy => ?_⟩
    · rw [s.recvReduce_stale h v hseen]
    · rw [s.recvReduce_again h v e hseen]
    · rw [s.recvReduce_otherTenant h v hseen ho]
    · rw [s.recvReduce_holds h v hseen ho y hy]
  case acknowledged =>
    intro k n crc err d s o h hi ho hk hl
    rw [exec_peerAck k n crc err d s h hi]
    refine ⟨?_, ?_⟩
    · rintro rfl
      rw [s.peerAck_corrupt _ _ err d o ho hk hl]
      exact State.ends_nil _ h.quiet
    · rintro y rfl hy
      refine ⟨fun ht => ?_, fun m ht => ?_⟩
      · rw [s.peerAck_unit _ _ err d o ho hk hl y hy ht]
      · rw [s.peerAck_transaction _ _ err d o ho hk hl y hy m ht]
  case resent =>
    intro n s y o x h ho hy hx
    rw [exec_ackResend n s h]
    refine ⟨fun hr => ?_, fun hr => ?_⟩
    · rw [s.ackResend_again y _ o ho hy hr x hx]
    · rw [s.ackResend_loses y _ o ho hy hr]
  case links =>
    exact exec_peerLinks
  case clearOne =>
    exact exec_peerClearLost
  case clearAll =>
    exact exec_peerClearAll
  case partner =>
    rintro p v s z h rfl
    rw [exec_peerPartnerWrite p v s h]
    refine ⟨fun hf => ?_, fun hh => ?_⟩
    · rw [State.writePartner_free _ _ hf]
    · rw [State.writePartner_held _ _ hh]

end Sys2Proof.Machine
end

section
/-! SUPPORT. Isolation (R296, R316): what its start leaves alone, and the writes that are dropped at its end. -/

namespace Sys2Proof.Machine

/-! ### What an isolation leaves alone -/

/-- The part of the state that the start of an isolation does not touch. -/
structure State.Outlasts (a b : State) : Prop where
  now : b.now = a.now
  dbg : b.dbg = a.dbg
  bootSrc : b.rst.bootSrc = a.rst.bootSrc
  clkMode : b.rst.clkMode = a.rst.clkMode
  cause : b.rst.cause = a.rst.cause
  mem : b.mem = a.mem
  die : b.die = a.die
  pending : b.pending = a.pending
  ring : b.recorder.ring = a.recorder.ring
  head : b.recorder.head = a.recorder.head

theorem State.Outlasts.refl (s : State) : s.Outlasts s := by constructor <;> rfl

theorem State.Outlasts.trans {a b c : State} (h : a.Outlasts b) (k : b.Outlasts c) : a.Outlasts c :=
  ⟨k.now.trans h.now, k.dbg.trans h.dbg, k.bootSrc.trans h.bootSrc, k.clkMode.trans h.clkMode, k.cause.trans h.cause,
    k.mem.trans h.mem, k.die.trans h.die, k.pending.trans h.pending, k.ring.trans h.ring, k.head.trans h.head⟩

theorem State.Outlasts.foldl {α : Type} (f : State → α → State) (h : ∀ (s : State) x, s.Outlasts (f s x)) (l : List α) :
    ∀ s : State, s.Outlasts (l.foldl f s) := by
  induction l with
  | nil => exact State.Outlasts.refl
  | cons x l ih => exact fun s => (h s x).trans (ih (f s x))

/-- Logging raises an event, and stores no record (R381). -/
theorem State.log_recorder (s : State) (code source : Nat) (ps : List Word) : (s.log code source ps).recorder =
    { s.recorder with raised := s.recorder.raised ++ [⟨s.now, s.recordOf ⟨code, source, ps⟩⟩] } := by
  unfold State.log
  dsimp only
  split <;> rfl

theorem State.log_outlasts (s : State) (code source : Nat) (ps : List Word) : s.Outlasts (s.log code source ps) :=
  ⟨by simp, by simp, by simp, by simp, by simp, by simp, by simp, by simp, by rw [State.log_recorder],
    by rw [State.log_recorder]⟩

theorem State.answerCopy_outlasts (s : State) (k : Ticket) (d : Completion) : s.Outlasts (s.answerCopy k d) :=
  .trans (by constructor <;> rfl) (State.log_outlasts ((s.outCompletion { d with queue := k.queue }).bump R.SHT_DUP_COUNT 1) _ _ _)

theorem State.complete_outlasts (s : State) (op : BitVec 8) (c : Cmd) (a : Answer) : s.Outlasts (s.complete op c a) := by
  unfold State.complete
  dsimp only
  split
  · constructor <;> rfl
  · refine .trans ?_ (.foldl _ (fun s k => s.answerCopy_outlasts k _) _ _)
    constructor <;> rfl

theorem State.pulseQueue_outlasts (s : State) (q : Nat) : s.Outlasts (s.pulseQueue q) := by
  unfold State.pulseQueue
  split <;> constructor <;> rfl

theorem State.endWait_outlasts (s : State) (w : Wait) (status : Nat) (result : Option Nat) (clap : Bool) :
    s.Outlasts (s.endWait w status result clap) := by
  have lent : ∀ z : State, z.Outlasts (if w.lent then z.outPower (4 + 2 ^ 8 * w.cmd.queue.val) else z) := by
    intro z
    split <;> constructor <;> rfl
  have clapped : ∀ z : State, z.Outlasts (if clap && !w.abter then z.pulseQueue w.cmd.queue.val else z) := by
    intro z
    split
    · exact z.pulseQueue_outlasts _
    · exact .refl z
  exact (s.complete_outlasts _ _ _).trans ((lent _).trans (clapped _))

theorem State.endWaits_outlasts (s : State) (f : Wait → Bool) (status : Nat) (clap : Bool) :
    s.Outlasts (s.endWaits f status clap) := by
  unfold State.endWaits
  refine .trans ?_ (.foldl _ (fun s w => s.endWait_outlasts w status none clap) _ _)
  constructor <;> rfl

theorem State.poisonInFlight_outlasts (s : State) : s.Outlasts s.poisonInFlight := by
  unfold State.poisonInFlight
  refine .trans ?_ (.foldl _ (fun s x => ?_) _ _) <;> constructor <;> rfl

theorem State.refuseHeld_outlasts (s : State) : s.Outlasts s.refuseHeld := by constructor <;> rfl

theorem State.noteIsolation_outlasts (s : State) (iso : Nat × Nat × Nat) :
    s.Outlasts (s.setRst (fun r => { r with iso := iso })) := by constructor <;> rfl

/-- An isolation answers what is in flight, and notes how much that was. -/
theorem State.beginIsolation_outlasts (s : State) : s.Outlasts s.beginIsolation := by
  have waits := s.endWaits_outlasts (fun _ => true) 0x26 true
  have pulses := State.Outlasts.foldl State.pulseQueue State.pulseQueue_outlasts (List.range 64)
    (s.endWaits (fun _ => true) 0x26 true)
  exact waits.trans (pulses.trans ((State.poisonInFlight_outlasts _).trans ((State.refuseHeld_outlasts _).trans
    (State.noteIsolation_outlasts _ _))))

/-! ### Writes that are dropped -/

/-- Dropped lines change memory and use free values, and nothing else (R316). -/
theorem State.dropLines_frame (f : Nat) : ∀ (s : State) (a : Nat) (bytes : List Byte),
    ∃ m d, s.dropLines a bytes f = { s with mem := m, draws := d }
      ∧ ∀ x, x < a ∨ a + bytes.length ≤ x → Memory.get m x = Memory.get s.mem x := by
  induction f with
  | zero => exact fun s a bytes => ⟨s.mem, s.draws, rfl, fun _ _ => rfl⟩
  | succ f ih =>
    intro s a bytes
    cases bytes with
    | nil => exact ⟨s.mem, s.draws, rfl, fun _ _ => rfl⟩
    | cons b r =>
      have rest : ∀ z : State, ∃ m d,
          z.dropLines (a + (64 - a % 64)) ((b :: r).drop (64 - a % 64)) f = { z with mem := m, draws := d }
            ∧ ∀ x, x < a ∨ a + (b :: r).length ≤ x → Memory.get m x = Memory.get z.mem x := by
        intro z
        obtain ⟨m, d, dropped, same⟩ := ih z (a + (64 - a % 64)) ((b :: r).drop (64 - a % 64))
        exact ⟨m, d, dropped, fun x hx => same x (by rw [List.length_drop]; omega)⟩
      show ∃ m d, State.dropLines (if bitAt (Config.unstated s.draws).toNat 0 then
        s.draw.memWrite a ((b :: r).take (64 - a % 64)) else s.draw) _ _ f = _ ∧ _
      split
      · obtain ⟨m, d, dropped, same⟩ := rest (s.draw.memWrite a ((b :: r).take (64 - a % 64)))
        refine ⟨m, d, dropped, fun x hx => (same x hx).trans (Memory.get_write_other _ _ _ _ ?_)⟩
        rw [List.length_take]
        omega
      · exact rest s.draw

theorem State.dropWrites_frame (s : State) (ws : List OutWrite) : ∃ m d,
    s.dropWrites ws = { s with mem := m, draws := d, rst := { s.rst with
      iso := (s.rst.iso.1 + ws.length, s.rst.iso.2.1, s.rst.iso.2.2), writes := [], isolating := false } }
      ∧ (ws = [] → m = s.mem)
      ∧ ∀ x, (∀ w ∈ ws, x < w.addr ∨ w.addr + w.data.length ≤ x) → Memory.get m x = Memory.get s.mem x := by
  have drops : ∀ (ws : List OutWrite) (s : State), ∃ m d,
      ws.foldl (fun (s : State) w => s.dropLines w.addr w.data 16) s = { s with mem := m, draws := d }
        ∧ (ws = [] → m = s.mem)
        ∧ ∀ x, (∀ w ∈ ws, x < w.addr ∨ w.addr + w.data.length ≤ x) → Memory.get m x = Memory.get s.mem x := by
    intro ws
    induction ws with
    | nil => exact fun s => ⟨s.mem, s.draws, rfl, fun _ => rfl, fun _ _ => rfl⟩
    | cons w ws ih =>
      intro s
      obtain ⟨m, d, dropped, same⟩ := State.dropLines_frame 16 s w.addr w.data
      obtain ⟨m', d', rest, -, same'⟩ := ih (s.dropLines w.addr w.data 16)
      rw [dropped] at rest same'
      refine ⟨m', d', ?_, by simp, fun x hx => ?_⟩
      · rw [List.foldl_cons, dropped, rest]
      · rw [same' x (fun v hv => hx v (List.mem_cons_of_mem _ hv)), same x (hx w List.mem_cons_self)]
  obtain ⟨m, d, dropped, kept, same⟩ := drops ws s
  refine ⟨m, d, ?_, kept, same⟩
  rw [State.dropWrites, dropped]
  rfl

end Sys2Proof.Machine
end

section
/-! SUPPORT. The boot from ROM (R303, R365, R371, R372, R375, R381, R412): its records, and what READY leaves of
the state before it. -/

namespace Sys2Proof.Machine

/-! ### Records and interrupts -/

/-- A state that differs from an earlier one in the recorder but for its ring, the registers, the page headers and the outputs. -/
def State.Notes (a b : State) : Prop :=
  ∃ r g p o, b = { a with recorder := r, regs := g, pages := p, out := o }
    ∧ r.ring = a.recorder.ring ∧ r.head = a.recorder.head

theorem State.Notes.trans {a b c : State} (h : a.Notes b) (k : b.Notes c) : a.Notes c := by
  obtain ⟨r, g, p, o, rfl, ring, head⟩ := h
  obtain ⟨r', g', p', o', rfl, ring', head'⟩ := k
  exact ⟨r', g', p', o', rfl, ring'.trans ring, head'.trans head⟩

theorem State.Notes.refl (s : State) : s.Notes s := ⟨s.recorder, s.regs, s.pages, s.out, rfl, rfl, rfl⟩

theorem State.Notes.of_frame {a b : State}
    (h : ({ b with recorder := a.recorder, regs := a.regs, pages := a.pages, out := a.out } : State) = a)
    (ring : b.recorder.ring = a.recorder.ring) (head : b.recorder.head = a.recorder.head) : a.Notes b :=
  ⟨b.recorder, b.regs, b.pages, b.out,
    congrArg (fun z : State => { z with recorder := b.recorder, regs := b.regs, pages := b.pages, out := b.out }) h, ring, head⟩

theorem State.noteIrq_notes (s : State) (was0 was1 : Bool) : s.Notes (s.noteIrq was0 was1) :=
  ⟨_, _, _, _, rfl, rfl, rfl⟩

theorem State.raise_notes (s : State) (page bits : Nat) : s.Notes (s.raise page bits) := ⟨_, _, _, _, rfl, rfl, rfl⟩

theorem State.log_notes (s : State) (code source : Nat) (ps : List Word) : s.Notes (s.log code source ps) :=
  .of_frame (s.log_core code source ps) (by rw [State.log_recorder]) (by rw [State.log_recorder])

/-- A record that is offered waits in the queue; the ring takes it later (R381). -/
theorem State.offerRec_notes (s : State) (x : Rec) : s.Notes (s.offerRec x) := by
  unfold State.offerRec
  split <;> exact ⟨_, _, _, _, rfl, rfl, rfl⟩

theorem State.takeRaised_notes (s : State) : s.Notes s.takeRaised := by
  have offers : ∀ (l : List Raised) (z : State), s.Notes z →
      s.Notes (l.foldl (fun (s : State) x => s.offerRec x.record) z) := by
    intro l
    induction l with
    | nil => exact fun z h => h
    | cons x l ih => exact fun z h => ih _ (h.trans (z.offerRec_notes x.record))
  exact offers _ _ ⟨_, _, _, _, rfl, rfl, rfl⟩

/-! ### READY -/

theorem State.recordReset_notes (s : State) : s.Notes s.recordReset := by
  unfold State.recordReset
  dsimp only
  split
  case h_6 => exact .refl s
  all_goals exact s.log_notes _ _ _

theorem State.recordFlush_notes (s : State) :
    ({ s with rst := { s.rst with iso := (0, 0, 0) } } : State).Notes s.recordFlush := by
  unfold State.recordFlush
  dsimp only
  split
  · exact .refl _
  · exact State.log_notes _ _ _ _

theorem State.takeHalt_notes (s : State) :
    ∃ halted : Bool, ({ s with dbg := { s.dbg with halted := halted } } : State).Notes s.takeHalt := by
  unfold State.takeHalt
  split
  · exact ⟨true, State.raise_notes _ _ _⟩
  · exact ⟨s.dbg.halted, .refl s⟩

theorem State.Notes.flushed {a b : State} (h : a.Notes b) : ({ a with rst := { a.rst with iso := (0, 0, 0) } } : State).Notes
    { b with rst := { b.rst with iso := (0, 0, 0) } } := by
  obtain ⟨r, g, p, o, rfl, ring, head⟩ := h
  exact ⟨r, g, p, o, rfl, ring, head⟩

theorem State.Notes.halted {a b : State} (h : a.Notes b) (x : Bool) : ({ a with dbg := { a.dbg with halted := x } } : State).Notes
    { b with dbg := { b.dbg with halted := x } } := by
  obtain ⟨r, g, p, o, rfl, ring, head⟩ := h
  exact ⟨r, g, p, o, rfl, ring, head⟩

/-- At READY the record of the reset is left, pending power-downs begin, and a sequencer that DBG_CTRL halts stops (R365, R375,
R412). -/
theorem State.reachReady_notes (s : State) : ∃ (pds : NMap Pd) (halted : Bool), ({ s with
    rst := { s.rst with phase := .ready, readyUs := (s.now - s.rst.releasedAt) / 100, iso := (0, 0, 0) }
    power := { s.power with since := s.now, pds := pds }
    dbg := { s.dbg with halted := halted } } : State).Notes s.reachReady := by
  unfold State.reachReady
  dsimp only
  obtain ⟨halted, stopped⟩ := State.takeHalt_notes (State.recordFlush _)
  refine ⟨_, halted, .trans (.halted (.trans (.flushed (.trans (.trans (State.noteIrq_notes _ _ _) (State.raise_notes _ _ _))
    (State.recordReset_notes _))) (State.recordFlush_notes _)) halted) stopped⟩

/-! ### The boot from ROM -/

theorem namedBelow_nil (n : Nat) : namedBelow ([] : List (Fin n)) = [] := List.filter_eq_nil_iff.mpr (by simp)

theorem State.testDecoders_nil (s : State) : s.testDecoders [] = s := by
  simp [State.testDecoders, namedBelow_nil]

theorem State.afterCycles_eq (s : State) (n : Nat) :
    s.afterCycles n = { s with now := s.now + ceilDiv n (clkRate s.rst.clkMode) } := by
  rw [State.afterCycles, State.advanceTo, Nat.max_eq_right (Nat.le_add_right _ _)]

theorem State.openPorts_eq (s : State) (n : Nat) : s.openPorts n =
    ({ s with now := s.now + ceilDiv (n + 2000) (clkRate s.rst.clkMode) + 2 } : State).reachReady := by
  rw [State.openPorts, State.afterCycles_eq, State.advanceTo, Nat.max_eq_right (Nat.le_add_right _ _)]

/-- The end of a boot from ROM: the steps of clearing and of verifying, the image and the opening of the ports, and 20 ns (R375). -/
def State.romReady (s : State) : Nat :=
  s.now + ceilDiv 229376 (clkRate s.rst.clkMode) + ceilDiv 229376 (clkRate s.rst.clkMode)
    + ceilDiv (80000 + 2000) (clkRate s.rst.clkMode) + 2

theorem State.now_le_romReady (s : State) : s.now ≤ s.romReady := by
  unfold State.romReady
  omega

/-- A boot from ROM whose self-tests find nothing changes nothing before READY but the time and the phase (R372, R375). -/
theorem State.clearAndBoot_rom (s : State) (h : s.rst.bootSrc = 0#2) : s.clearAndBoot cleanTest =
    ({ s with now := s.romReady, rst := { s.rst with phase := .boot, bootResult := 0 } } : State).reachReady := by
  have result : (if s.rst.bootSrc = 3#2 then 3 else 0) = 0 := by rw [h]; rfl
  unfold State.clearAndBoot
  simp only [cleanTest, namedBelow_nil, State.testDecoders_nil, List.foldl_nil]
  refine (if_pos h).trans ?_
  simp only [State.openPorts_eq, State.afterCycles_eq, State.setRst, result]
  rfl

/-- What a clean boot from ROM leaves of the state that it starts from. -/
theorem State.clearAndBoot_notes (s : State) (h : s.rst.bootSrc = 0#2) : ∃ (us : Nat) (pds : NMap Pd) (halted : Bool), ({ s with
      now := s.romReady
      rst := { s.rst with phase := .ready, bootResult := 0, readyUs := us, iso := (0, 0, 0) }
      power := { s.power with since := s.romReady, pds := pds }
      dbg := { s.dbg with halted := halted } } : State).Notes (s.clearAndBoot cleanTest).takeRaised := by
  obtain ⟨pds, halted, ready⟩ := State.reachReady_notes
    { s with now := s.romReady, rst := { s.rst with phase := .boot, bootResult := 0 } }
  rw [s.clearAndBoot_rom h]
  exact ⟨_, pds, halted, ready.trans (State.takeRaised_notes _)⟩

/-- What the end of an isolation leaves, with a clean boot from ROM, of the state that it finds (R376). -/
theorem State.finishSystem_notes (s : State) (h : s.rst.bootSrc = 0#2) :
    ∃ (n us : Nat) (pds : NMap Pd) (halted : Bool), s.now ≤ n ∧ ({ s with
      now := n
      rst := { s.rst with phase := .ready, bootResult := 0, readyUs := us, iso := (0, 0, 0) }
      power := { s.power with since := n, pds := pds }
      dbg := { s.dbg with halted := halted } } : State).Notes (s.finishSystem cleanTest).takeRaised := by
  obtain ⟨us, pds, halted, boots⟩ := State.clearAndBoot_notes (s.advanceTo (s.now + s.rst.restart)) h
  exact ⟨_, us, pds, halted, (Nat.le_max_left s.now (s.now + s.rst.restart)).trans
    (s.advanceTo (s.now + s.rst.restart)).now_le_romReady, boots⟩

end Sys2Proof.Machine
end

section
/-! SUPPORT. sys_rst_n and the end of an isolation (R316, R366 to R369, R376): the causes of a cycle, and what each comes to. -/

namespace Sys2Proof.Machine

/-! ### The sources of a reset -/

/-- Each source sets its bit (R366). -/
theorem State.addCauses_eq (bits : List (Nat × Bool)) : ∀ s : State, bits.foldl (fun (s : State) b => s.addCause b.1) s =
    { s with rst := { s.rst with cause := bits.foldl (fun c b => c ||| w32 (2 ^ b.1)) s.rst.cause } } := by
  induction bits with
  | nil => exact fun s => rfl
  | cons b bits ih => exact fun s => ih (s.addCause b.1)

/-- What the sources of a cycle leave in the cause register (R366, R368). -/
def State.causesOf (s : State) (xs : List ResetSource) : Word :=
  ((xs.filter s.sourceActs).map s.sourceBit).foldl (fun c b => c ||| w32 (2 ^ b.1)) s.rst.cause
    ||| (if ResetSource.watchdog ∈ xs ∧ s.wdogCounts = true ∧ s.wdogAgain = true then 0x100#32 else 0#32)

/-- The sources of a cycle that act set their bits, and a second expiry of the watchdog sets bit 8 too (R366, R368). -/
theorem State.causes_set (s : State) (xs : List ResetSource) :
    (if (xs.filter s.sourceActs).contains .watchdog && s.wdogAgain
      then (((xs.filter s.sourceActs).map s.sourceBit).foldl (fun (s : State) b => s.addCause b.1) s).addCause 8
      else ((xs.filter s.sourceActs).map s.sourceBit).foldl (fun (s : State) b => s.addCause b.1) s) =
    { s with rst := { s.rst with cause := s.causesOf xs } } := by
  have again : ((xs.filter s.sourceActs).contains .watchdog && s.wdogAgain) = true ↔
      ResetSource.watchdog ∈ xs ∧ s.wdogCounts = true ∧ s.wdogAgain = true := by
    simp [State.sourceActs, and_assoc]
  rw [State.addCauses_eq, State.causesOf, if_congr again rfl rfl]
  split
  · rfl
  · simp

/-- With sys_rst_n among the sources of a cycle, the system level acts for those that reach it (R367). -/
theorem State.resetBy_system (s : State) (also : List ResetSource) (t : BootTest) (hp : s.rst.powered = true)
    (ho : s.power.state ≠ .off) : ∃ deep, s.resetBy (.system :: also) t =
      ({ s with rst := { s.rst with cause := s.causesOf (.system :: also) } } : State).systemLevel deep t := by
  have acts : (ResetSource.system :: also).filter s.sourceActs = .system :: also.filter s.sourceActs := rfl
  refine ⟨((((ResetSource.system :: also).filter s.sourceActs).map s.sourceBit).filter (·.2)).map (·.1), ?_⟩
  rw [← s.causes_set (.system :: also), State.resetBy, if_neg (by simp [hp, ho])]
  dsimp only
  rw [if_neg (by simp [acts]), if_pos (by simp [acts, State.sourceBit])]

/-- The system level begins with the isolation, and boots at once where no write is in flight (R316, R376). -/
theorem State.systemLevel_begins (s : State) (bits : List Nat) (t : BootTest) (h : s.inReset = false) :
    s.systemLevel bits t = if s.outstandingWrites.isEmpty
      then (s.beginIsolation.systemClear bits s.decoding s.outstandingWrites).finishSystem t
      else s.beginIsolation.systemClear bits s.decoding s.outstandingWrites :=
  if_neg (by simp [h])

/-! ### sys_rst_n -/

theorem Runs.powered {s : State} (h : Runs s) : s.rst.powered = true := by
  have ready := h.ready
  simp only [State.isReady, Bool.and_eq_true] at ready
  exact ready.1.2

theorem Runs.untested {s : State} (h : Runs s) : s.dbg.test = false := by
  have ready := h.ready
  simp only [State.isReady, Bool.and_eq_true, Bool.not_eq_true'] at ready
  exact ready.1.1.2

theorem Runs.on {s : State} (h : Runs s) : s.power.state ≠ .off := by
  intro off
  have clock := h.clock
  simp [State.clockRuns, off] at clock

theorem Runs.notInReset {s : State} (h : Runs s) (hi : s.rst.isolating = false) : s.inReset = false := by
  have ready := h.ready
  simp only [State.isReady, Bool.and_eq_true, beq_iff_eq] at ready
  simp [State.inReset, hi, ready.1.1.1]

section
variable (s : State) (also : List ResetSource) (h : Runs s) (hi : s.rst.isolating = false)
include h hi

/-- sys_rst_n isolates the instance, with the causes of its cycle noted. -/
theorem State.resetBy_isolates (t : BootTest) : ∃ (deep : List Nat) (opcode : Nat) (b : State),
    ({ s with rst := { s.rst with cause := s.causesOf (.system :: also) } } : State).Outlasts b
      ∧ s.resetBy (.system :: also) t = if s.outstandingWrites.isEmpty
        then (b.systemClear deep opcode s.outstandingWrites).finishSystem t
        else b.systemClear deep opcode s.outstandingWrites := by
  obtain ⟨deep, reset⟩ := s.resetBy_system also t h.powered h.on
  exact ⟨deep, _, _, State.beginIsolation_outlasts _,
    reset.trans (State.systemLevel_begins _ deep t (h.notInReset hi))⟩

/-- Where writes are in flight, the reset waits for them: the instance is cleared, and not READY (R316, R376). -/
theorem exec_systemReset_waits (hw : s.outstandingWrites ≠ []) :
    ∃ u : State, exec (.systemReset { cleanTest with also := also }) s = .next u ∧ u.isReady = false
      ∧ u.rst.isolating = true ∧ u.rst.cause = s.causesOf (.system :: also) ∧ u.rst.writes = s.outstandingWrites
      ∧ u.rst.releasedAt = s.now ∧ u.mem = s.mem ∧ u.ledger = [] ∧ u.tenants = [] := by
  obtain ⟨deep, opcode, b, same, reset⟩ := s.resetBy_isolates also h hi { cleanTest with also := also }
  rw [if_neg (by simpa using hw)] at reset
  obtain ⟨r, g, p, o, noted, -⟩ := (b.systemClear deep opcode s.outstandingWrites).takeRaised_notes
  refine ⟨_, congrArg State.ends reset, ?_⟩
  rw [noted]
  exact ⟨rfl, by simpa [State.systemClear] using hw, same.cause, rfl, same.now, same.mem, rfl, rfl⟩

/-- With no write in flight, the instance is cleared and boots (R316, R367, R369, R376). -/
theorem exec_systemReset_boots (hb : s.rst.bootSrc = 0#2) (hw : s.outstandingWrites = []) :
    ∃ u : State, exec (.systemReset { cleanTest with also := also }) s = .next u
      ∧ u.isReady = true ∧ u.power.state = .active ∧ u.rst.cause = s.causesOf (.system :: also)
      ∧ u.rst.bootSrc = s.rst.bootSrc ∧ u.rst.clkMode = s.rst.clkMode
      ∧ u.recorder.ring = s.recorder.ring ∧ u.recorder.head = s.recorder.head
      ∧ { u.dbg with halted := s.dbg.halted } = s.dbg ∧ u.mem = s.mem ∧ u.die = s.die ∧ u.pending = s.pending
      ∧ { u with now := 0, recorder := Recorder.init, regs := [], pages := [], out := Outputs.init
                 power := PowerUnit.init, rst := ResetUnit.init, dbg := Debug.init, mem := [], die := Die.init
                 draws := 0, pending := [], port := CmdPort.init, lace := { u.lace with pulses := [] } } = State.reset := by
  obtain ⟨deep, opcode, b, same, reset⟩ := s.resetBy_isolates also h hi { cleanTest with also := also }
  rw [hw, if_pos List.isEmpty_nil] at reset
  obtain ⟨n, us, pds, halted, -, r, g, p, o, boots, ring, head⟩ := State.finishSystem_notes (b.systemClear deep opcode [])
    (same.bootSrc.trans hb)
  refine ⟨_, (congrArg State.ends reset).trans (congrArg Host.Outcome.next boots), ?_⟩
  have test : (b.dbg.test && holding b.dbg.wir) = s.dbg.test := by rw [same.dbg]; simp [h.untested]
  refine ⟨?ready, rfl, same.cause, same.bootSrc, same.clkMode, ring.trans same.ring, head.trans same.head, ?dbg, same.mem,
    same.die, same.pending, rfl⟩
  case ready =>
    show (_ && !(b.dbg.test && holding b.dbg.wir) && _ && _) = true
    rw [test, h.untested]
    rfl
  case dbg =>
    show ({ b.dbg with test := b.dbg.test && holding b.dbg.wir, halted := s.dbg.halted } : Debug) = s.dbg
    rw [test, same.dbg]

end

/-- The wait for responses ends with the drop of the writes still unanswered, and the instance boots (R316, R376). -/
theorem exec_isolationDrainEnd (s : State) (hi : s.rst.isolating = true) (hb : s.rst.bootSrc = 0#2)
    (hp : s.rst.powered = true) (ho : s.power.offPosted = false) (ht : s.dbg.test = false) :
    ∃ u : State, exec (.isolationDrainEnd cleanTest) s = .next u ∧ u.isReady = true ∧ u.rst.isolating = false
      ∧ u.rst.writes = [] ∧ (s.rst.writes = [] → u.mem = s.mem)
      ∧ (s.rst.writes ≠ [] → s.rst.releasedAt + 200 ≤ u.now)
      ∧ (∀ x, (∀ w ∈ s.rst.writes, x < w.addr ∨ w.addr + w.data.length ≤ x) → Memory.get u.mem x = Memory.get s.mem x)
      ∧ { u with now := s.now, recorder := s.recorder, regs := s.regs, pages := s.pages, out := s.out, mem := s.mem
                 power := s.power, rst := s.rst, dbg := s.dbg, draws := s.draws } = s := by
  have waited : ∃ n, (if s.rst.writes.isEmpty then s else s.advanceTo (s.rst.releasedAt + us 2)) = { s with now := n }
      ∧ (s.rst.writes ≠ [] → s.rst.releasedAt + 200 ≤ n) := by
    split
    · next answered => exact ⟨s.now, rfl, fun hw => absurd (by simpa using answered) hw⟩
    · exact ⟨_, rfl, fun _ => Nat.le_max_right _ _⟩
  obtain ⟨n, waited, late⟩ := waited
  obtain ⟨m, d, dropped, kept, same⟩ := ({ s with now := n } : State).dropWrites_frame s.rst.writes
  have drains : s.drainDone cleanTest = (({ s with now := n } : State).dropWrites s.rst.writes).finishSystem cleanTest := by
    rw [← waited]
    exact if_neg (by simp [hi])
  rw [dropped] at drains
  obtain ⟨k, us, pds, halted, later, r, g, p, o, boots, -⟩ := State.finishSystem_notes { s with
    now := n, mem := m, draws := d, rst := { s.rst with
      iso := (s.rst.iso.1 + s.rst.writes.length, s.rst.iso.2.1, s.rst.iso.2.2), writes := [], isolating := false } } hb
  exact ⟨_, (congrArg State.ends drains).trans (congrArg Host.Outcome.next boots), by simp [State.isReady, hp, ho, ht], rfl, rfl,
    kept, fun hw => (late hw).trans later, same, rfl⟩

end Sys2Proof.Machine
end

section
/-! SETTLED. The statement on the system reset: O54. -/

namespace Sys2Proof.Machine

/-- Settles O54: the isolation touches nothing that a system reset keeps, the level clears the rest, and a clean boot from ROM changes
nothing but time, phase and records; a dropped write reaches its own bytes alone, and the statement leaves those free. Which small
state the level clears, with the time of the isolation's start as that of its release, is the choice of log entry 70, and that the
sources of one cycle come as an operand is that of log entry 109. -/
theorem systemResetWaitsClearsAndBoots : Obligations.SystemResetWaitsClearsAndBoots := by
  unfold Obligations.SystemResetWaitsClearsAndBoots
  refine ⟨fun s also c h hi hc => ?reset, exec_isolationDrainEnd⟩
  have causes : c = s.causesOf (.system :: also) := by
    rw [hc, State.causesOf]
    simp
  rw [causes]
  exact ⟨exec_systemReset_boots s also h hi, exec_systemReset_waits s also h hi⟩

end Sys2Proof.Machine
end

section
/-! SUPPORT. What every command keeps: each is one operation of the model, whose end takes what it raised. -/

namespace Sys2Proof.Machine

/-- Every command is an operation that keeps, and its end. -/
theorem exec_ends_keeps (i : Instr) (s : State) : ∃ z : State, exec i s = z.ends ∧ Keeps s z := by
  have own := Keeps.refl s
  match i with
  -- the engine command port
  | .openSlate _ | .writeInline _ | .sealSlate _ | .call _ | .release _ | .frame _ | .reshootDone _ | .stepBegin _ | .stepEnd _
  | .eyeAdd _ | .eyeWait _ | .eyeSet _ | .propCall _ | .intermission _ | .resume _ | .badOpcode _ _ =>
    exact ⟨_, rfl, State.command_keeps s _ _ own⟩
  -- register accesses
  | .tierHb _ _ | .cutFcSel _ _ | .mtrSel _ _ | .eyeCountWrite _ _ | .eyeTargetWrite _ _ | .eyeCfgWrite _ _ | .laceWireWrite _ _ _ _
  | .peerPartnerWrite _ _ | .blkModeWrite _ _ | .countersign _ _ | .keyStageWrite _ _ _ | .pwrHintWrite _ _ | .resetCommand _ _ _
  | .loopbackGo _ _ | .recTailWrite _ _ | .recCursorWrite _ _ | .irqStatWrite _ _ _ | .irqForce _ _ _ | .registerWrite _ _ _ =>
    exact ⟨_, rfl, State.portWrite_keeps s _ _ _ _ own⟩
  | .hostDetach _ | .hostAttach _ | .regionSelect _ _ | .regionCommit _ | .regionEmpty _ | .sheetLoad _ _ | .sheetUnload _ _
  | .sltSel _ _ | .bookLoad _ | .bookInvalidate _ | .scriptLoad _ _ | .scriptInvalidate _ _ | .splArm _ _ | .splStop _ _
  | .splAbort _ _ | .splRestart _ _ | .gnStart _ _ | .exsSel _ _ | .exsCommit _ | .exsEmptyHistory _ | .eyeSel _ _
  | .contextSave _ _ | .contextRestore _ _ | .laceEnrol _ _ | .peerClearLost _ _ | .lockAcquire _ _ | .lockRelease _ _
  | .shadowDiscard _ _ | .propose _ | .pwrOff _ | .pwrWake _ | .seqResume _ | .errClr _ _ =>
    exact ⟨_, rfl, State.wordWrite_keeps s _ _ _ own⟩
  | .bootGo _ ext => exact ⟨_, rfl, State.wordWrite_keeps _ _ _ _ (State.external_keeps s ext own)⟩
  | .bankSelftest _ _ | .laneSelftest _ | .mtrClear _ | .peerClearAll _ | .seqHalt _ | .seqStep _ =>
    exact ⟨_, rfl, State.actWrite_keeps s _ _ _ own⟩
  | .spbPoolWrite _ _ | .clapFire _ _ => exact ⟨_, rfl, State.wideWrite_keeps s _ _ _ own⟩
  | .readClear _ _ | .lowWordRead _ _ => exact ⟨_, rfl, State.portRead_keeps s _ _ own⟩
  -- requests of other units and of peers
  | .tapBeat .. => exact ⟨_, rfl, State.arrive_keeps s _ _ (fun s h => State.tapBeat_keeps s _ _ _ _ _ h) own⟩
  | .operandRequest .. => exact ⟨_, rfl, State.arrive_keeps s _ _ (fun s h => State.operandRequest_keeps s _ _ _ _ h) own⟩
  | .doorbellWrite .. =>
    exact ⟨_, rfl, State.arrive_keeps s _ _ (fun s h => State.drain_keeps _ (State.doorbell_keeps s _ _ _ h)) own⟩
  | .peerShip .. => exact ⟨_, rfl, State.arrive_keeps s _ _ (fun s h => State.recvShip_keeps s _ _ _ _ h) own⟩
  | .peerFetch .. | .peerProp .. => exact ⟨_, rfl, State.arrive_keeps s _ _ (fun s h => State.recvRead_keeps s _ _ _ _ _ h) own⟩
  | .peerReduce .. => exact ⟨_, rfl, State.arrive_keeps s _ _ (fun s h => State.recvReduce_keeps s _ _ h) own⟩
  -- reports from the die
  | .engineReset _ | .lastUseAck _ | .retireEvacuate _ | .retireLost _ | .retireExclude _ | .softRepairDone _ | .nearChannelLost
  | .hostLinkDown | .eyeWaitTimeout _ _ | .coreQueueReset _ | .laceRelease _ | .dieResetNotice _ _ =>
    exact ⟨_, rfl, State.notify_keeps s _ own⟩
  | .transactionResponse _ _ ext => exact ⟨_, rfl, State.txnAnswer_keeps _ _ _ _ (State.external_keeps s ext own)⟩
  | .peerAck .. => exact ⟨_, rfl, State.ackAnswer_keeps s _ _ _ _ _ own⟩
  -- the units' own events
  | .clickerDecision => exact ⟨_, rfl, State.unit_keeps s _ _ State.clickerDecision_keeps own⟩
  | .blockCommit .. => exact ⟨_, rfl, State.unit_keeps s _ _ (fun s h => State.blockCommit_keeps s _ _ h) own⟩
  | .bookCacheMissService => exact ⟨_, rfl, State.unit_keeps s _ _ State.serveMiss_keeps own⟩
  | .blockExpanded .. =>
    exact ⟨_, rfl, State.unit_keeps s _ _ (fun s h => State.drain_keeps _ (State.blockExpanded_keeps s _ _ _ _ h)) own⟩
  | .bankSelftestEnd .. => exact ⟨_, rfl, State.unit_keeps s _ _ (fun s h => State.endSelftest_keeps s _ _ h) own⟩
  | .reshootJobStart => exact ⟨_, rfl, State.unit_keeps s _ _ (fun s h => State.drain_keeps _ (State.startWaiting_keeps s h)) own⟩
  | .descriptorDispatch => exact ⟨_, rfl, State.unit_keeps s _ _ State.dispatch_keeps own⟩
  | .laneSelftestEnd _ => exact ⟨_, rfl, State.unit_keeps s _ _ (fun s h => State.endLaneTest_keeps s _ h) own⟩
  | .laneOutputBlock _ =>
    exact ⟨_, rfl, State.unit_keeps s _ _ (fun s h => State.drain_keeps _ (State.laneOutput_keeps s _ h)) own⟩
  | .transactionIssue _ => exact ⟨_, rfl, State.unit_keeps s _ _ (fun s h => State.issue_keeps s _ h) own⟩
  | .transactionTimeout _ => exact ⟨_, rfl, State.unit_keeps s _ _ (fun s h => State.txnTimeout_keeps s _ h) own⟩
  | .backoffEnd _ => exact ⟨_, rfl, State.unit_keeps s _ _ (fun s h => State.reissue_keeps s _ h) own⟩
  | .channelTakesTransfer => exact ⟨_, rfl, State.unit_keeps s _ _ State.takeTransfer_keeps own⟩
  | .shadowPromotion _ => exact ⟨_, rfl, State.unit_keeps s _ _ (fun s h => State.promote_keeps s _ h) own⟩
  | .channelTimerStart _ => exact ⟨_, rfl, State.unit_keeps s _ _ (fun s h => State.timerStart_keeps s _ h) own⟩
  | .pacingPeriod _ => exact ⟨_, rfl, State.unit_keeps s _ _ (fun s h => State.newPeriod_keeps s _ h) own⟩
  | .hardLimit _ _ => exact ⟨_, rfl, State.unit_keeps s _ _ (fun s h => State.hardLimit_keeps s _ _ h) own⟩
  | .slateLate _ _ => exact ⟨_, rfl, State.unit_keeps s _ _ (fun s h => State.slateLate_keeps s _ _ h) own⟩
  | .vaultSpaceRetry => exact ⟨_, rfl, State.unit_keeps s _ _ State.vaultRetry_keeps own⟩
  | .tierAllocRetry => exact ⟨_, rfl, State.unit_keeps s _ _ State.allocRetry_keeps own⟩
  | .gatherRetry _ => exact ⟨_, rfl, State.unit_keeps s _ _ (fun s h => State.retryGathers_keeps s _ h) own⟩
  | .moveAllocTimeout _ => exact ⟨_, rfl, State.unit_keeps s _ _ (fun s h => State.moveTimeout_keeps s _ h) own⟩
  | .shelfRetire _ => exact ⟨_, rfl, State.unit_keeps s _ _ (fun s h => State.drain_keeps _ (State.retireShelf_keeps s _ h)) own⟩
  | .heartbeatExpiry => exact ⟨_, rfl, State.unit_keeps s _ _ State.heartbeatLost_keeps own⟩
  | .shelfClearDone => exact ⟨_, rfl, State.running_keeps s _ State.shelfClearDone_keeps own⟩
  | .sheetLoadDone _ ext =>
    exact ⟨_, rfl, State.unit_keeps _ _ _ (fun s h => State.sheetDone_keeps s _ h) (State.external_keeps s ext own)⟩
  | .scriptLoadDone ext => exact ⟨_, rfl, State.unit_keeps _ _ _ State.scriptLoaded_keeps (State.external_keeps s ext own)⟩
  | .gnLeaderPoll ext => exact ⟨_, rfl, State.running_keeps _ _ State.gnLeaderPoll_keeps (State.external_keeps s ext own)⟩
  | .gnMemberPoll ext => exact ⟨_, rfl, State.running_keeps _ _ State.gnMemberPoll_keeps (State.external_keeps s ext own)⟩
  | .gnTimeout => exact ⟨_, rfl, State.running_keeps s _ State.gnTimeout_keeps own⟩
  | .contextSaveDone => exact ⟨_, rfl, State.unit_keeps s _ _ (fun s h => State.ctxEnded_keeps s _ h) own⟩
  | .contextRestoreDone ext =>
    exact ⟨_, rfl, State.unit_keeps _ _ _ (fun s h => State.ctxEnded_keeps s _ h) (State.external_keeps s ext own)⟩
  | .ackResend _ => exact ⟨_, rfl, State.unit_keeps s _ _ (fun s h => State.drain_keeps _ (State.ackResend_keeps s _ h)) own⟩
  | .clapperPulseEnd _ => exact ⟨_, rfl, State.aocRunning_keeps s _ (fun s h => State.pulseEnd_keeps s _ h) own⟩
  | .laceGapEnd _ => exact ⟨_, rfl, State.onReady_keeps s _ (fun s h => State.endGap_keeps s _ h) own⟩
  | .peerLinksDown | .peerLinksUp => exact ⟨_, rfl, State.setLinks_keeps s _ own⟩
  -- ports, proposals and power
  | .lockBroken _ => exact ⟨_, rfl, State.lockBroken_keeps s _ own⟩
  | .portReset _ _ => exact ⟨_, rfl, State.aocMoved_keeps s _ (fun s h => State.portReset_keeps s _ _ h) own⟩
  | .countersignTimeout =>
    refine ⟨_, rfl, State.aocRunning_keeps s _ (fun s h => ?_) own⟩
    split
    · exact State.proposalTimeout_keeps s h
    · exact h
  | .powerStateChoice => exact ⟨_, rfl, State.onReady_keeps s _ State.choosePower_keeps own⟩
  | .nextEventTimer => exact ⟨_, rfl, State.onReady_keeps s _ State.timerWake_keeps own⟩
  | .unplannedWake _ => exact ⟨_, rfl, State.onReady_keeps s _ (fun s h => State.unplanned_keeps s _ h) own⟩
  | .wakeComplete => exact ⟨_, rfl, State.onReady_keeps s _ State.wakeComplete_keeps own⟩
  | .reclaimAck => exact ⟨_, rfl, State.aocRunning_keeps s _ State.reclaimAck_keeps own⟩
  | .budgetSet _ => exact ⟨_, rfl, State.aocRunning_keeps s _ (fun s h => State.setBudget_keeps s _ h) own⟩
  | .pdRequest _ => exact ⟨_, rfl, State.pdRise_keeps s _ own⟩
  | .pdDrainEnd _ =>
    exact ⟨_, rfl, State.onReady_keeps s _ (fun s h => State.movedFrom_keeps _ s (State.drainEnd_keeps s _ h)) own⟩
  | .pdDeferEnd _ =>
    exact ⟨_, rfl, State.onReady_keeps s _ (fun s h => State.movedFrom_keeps _ s (State.deferEnd_keeps s _ h)) own⟩
  | .pdRequestWithdrawn _ => exact ⟨_, rfl, State.movedFrom_keeps _ s (State.pdWithdraw_keeps s _ own)⟩
  | .powerRemoved => exact ⟨_, rfl, State.powerRemoved_keeps s own⟩
  -- resets, boot and test access
  | .powerOnReset .. => exact ⟨_, rfl, State.powerOn_keeps s _ _ _ own⟩
  | .isolationDrainEnd _ => exact ⟨_, rfl, State.drainDone_keeps s _ own⟩
  | .systemReset _ | .coreReset => exact ⟨_, rfl, State.resetBy_keeps s _ _ own⟩
  | .watchdogExpiry _ => exact ⟨_, rfl, State.watchdog_keeps s _ own⟩
  | .siblingBootTimeout => exact ⟨_, rfl, State.siblingTimeout_keeps s own⟩
  | .siblingImageReceived => exact ⟨_, rfl, State.siblingImage_keeps s own⟩
  | .wirUpdate _ => exact ⟨_, rfl, State.wirUpdate_keeps s _ _ own⟩
  | .wrapperReset => exact ⟨_, rfl, State.wrapperReset_keeps s own⟩
  | .wraUpdate .. => exact ⟨_, rfl, State.wraAccess_keeps s _ _ _ own⟩
  | .loopbackDone _ => exact ⟨_, rfl, State.loopbackDone_keeps s _ own⟩
  -- the recorder
  | .recordStore => exact ⟨_, rfl, State.aocRunning_keeps s _ State.storeRecord_keeps own⟩
  | .recEraseEnd => exact ⟨_, rfl, State.aocRunning_keeps s _ State.recEraseEnd_keeps own⟩
  | .timeMessage _ => exact ⟨_, rfl, State.aocRunning_keeps s _ (fun s h => State.timeMessage_keeps s _ h) own⟩
  | .timeLockLost => exact ⟨_, rfl, State.aocRunning_keeps s _ State.timeLockLost_keeps own⟩
  | .persistence => exact ⟨_, rfl, State.aocMoved_keeps s _ State.persistence_keeps own⟩
  | .nvWriteAck => exact ⟨_, rfl, State.aocRunning_keeps s _ (fun s h => State.finishOff_keeps _ (State.nvWriteAck_keeps s h)) own⟩
  | .nvWriteTimeout =>
    exact ⟨_, rfl, State.aocRunning_keeps s _ (fun s h => State.finishOff_keeps _ (State.nvWriteTimeout_keeps s h)) own⟩

/-- What a command leaves keeps, and nothing it raised is left untaken. -/
theorem exec_keeps {i : Instr} {s t : State} (h : exec i s = .next t) : Keeps s t ∧ t.recorder.raised = [] := by
  obtain ⟨z, ran, kept⟩ := exec_ends_keeps i s
  obtain rfl : z.takeRaised = t := Host.Outcome.next.inj (ran.symm.trans h)
  exact ⟨State.takeRaised_keeps z kept, State.takeRaised_raised z⟩

theorem State.sound_iff (s : State) : s.sound = true ↔ Memory.wf s.mem = true ∧ s.recorder.raised = [] := by
  simp [State.sound]

end Sys2Proof.Machine
end

section
/-! SETTLED. The statements on the machine as a whole: O1 to O5. -/

namespace Sys2Proof.Machine

/-- Settles O1: `step` takes the command at the front. -/
theorem stepRunsTheFrontCommand : Obligations.StepRunsTheFrontCommand := by
  unfold Obligations.StepRunsTheFrontCommand
  intro c s
  rfl

/-- Settles O2: on an empty queue `step` lets one tick pass, which is the choice of log entry 1. -/
theorem idleStepIsOneTick : Obligations.IdleStepIsOneTick := by
  unfold Obligations.IdleStepIsOneTick
  intro s idle
  rw [step, idle]

/-- Settles O3: memory is empty at reset and nothing is raised. -/
theorem resetIsSound : Obligations.ResetIsSound := by
  unfold Obligations.ResetIsSound
  rw [State.sound_iff]
  exact ⟨rfl, rfl⟩

/-- Settles O5: each command is one operation that keeps, and its end. -/
theorem everyCommandKeeps : Obligations.EveryCommandKeeps := by
  unfold Obligations.EveryCommandKeeps
  intro c s t h
  exact (exec_keeps h).1

/-- Settles O4: a command keeps memory canonical and its end takes what it raised; a tick touches neither. -/
theorem everyStepKeepsSound : Obligations.EveryStepKeepsSound := by
  unfold Obligations.EveryStepKeepsSound
  intro s t sound h
  rw [State.sound_iff] at sound ⊢
  obtain ⟨canonical, untaken⟩ := sound
  unfold step at h
  split at h
  · cases h
    exact ⟨canonical, untaken⟩
  · next c rest _ =>
    obtain ⟨keeps, taken⟩ := exec_keeps h
    exact ⟨keeps.mem canonical, taken⟩

end Sys2Proof.Machine
end

section
/-! SUPPORT. Writes of a page header (R331 to R333, R403 to R405): the page and register that its address names, and what each
header register's write comes to. -/

namespace Sys2Proof.Machine

theorem pageOf_headerAt (n off : Nat) (h : off < 0x1000) : pageOf (headerAt n off) = n := by
  unfold pageOf headerAt
  omega

theorem offsetOf_headerAt (n off : Nat) (h : off < 0x1000) (ha : off % 4 = 0) : offsetOf (headerAt n off) = off := by
  unfold offsetOf headerAt
  omega

/-- A served write of a header register whose effect raises no event. -/
theorem State.portWrite_header_ends (s : State) (p : Port) (n off : Nat) (v : Word) (test : BootTest) (h : Serves s p (headerAt n off) v)
    (ho : off < 0x40) (ha : off % 4 = 0) (y : State)
    (hy : (s.accessed p (headerAt n off)).writeHeader p n off v test = y) :
    (s.portWrite p (headerAt n off) v test).ends = (y.servedFrom s (headerAt n off)).ends := by
  have page := pageOf_headerAt n off (by omega)
  have offset := offsetOf_headerAt n off (by omega) ha
  have aligned : headerAt n off % 4 = 0 := by
    unfold headerAt
    omega
  rw [State.portWrite_header s p _ v test aligned h.fate (by omega), page, offset, hy]

/-! ### IRQ_STAT, IRQ_FORCE, ERR_CLR -/

/-- No message is sent while no line rises (R404). -/
theorem State.noteIrq_unrisen (s : State) (was0 was1 : Bool) (h0 : s.irqLine 0 = true → was0 = true)
    (h1 : s.irqLine 1 = true → was1 = true) : s.noteIrq was0 was1 = s := by
  have line0 : (s.irqLine 0 && !was0) = false := by
    cases h : s.irqLine 0 <;> simp_all
  have line1 : (s.irqLine 1 && !was1) = false := by
    cases h : s.irqLine 1 <;> simp_all
  simp [State.noteIrq, line0, line1]

/-- The raw bits of a page that a written word's ones clear (R403). -/
def Page.clearRaw (v : Word) (g : Page) : Page := { g with raw := g.raw &&& ~~~v }

/-- A page with fewer raw bits asserts no line that it did not assert. -/
theorem State.irqLine_clearRaw (s : State) (n k : Nat) (v : Word) (h : (s.modPage n (Page.clearRaw v)).irqLine k = true) :
    s.irqLine k = true := by
  have drives : ∀ m, (s.modPage n (Page.clearRaw v)).pageDrives k m = true → s.pageDrives k m = true := by
    intro m hm
    unfold State.pageDrives at hm ⊢
    rw [State.modPage, State.page_setPage] at hm
    split at hm
    · next same =>
      subst same
      simp only [Page.irqStat, Page.clearRaw, Bool.and_eq_true, bne_iff_ne, ne_eq] at hm ⊢
      refine ⟨fun none => hm.1 ?_, hm.2⟩
      rw [BitVec.and_assoc, BitVec.and_comm (~~~v), ← BitVec.and_assoc, none, BitVec.zero_and]
    · exact hm
  simp only [State.irqLine, Bool.and_eq_true, List.any_eq_true] at h ⊢
  obtain ⟨live, m, hm, drive⟩ := h
  exact ⟨live, m, hm, drives m drive⟩

theorem State.irqPage_clearRaw (s : State) (n : Nat) (v : Word) : s.irqPage n (Page.clearRaw v) = s.modPage n (Page.clearRaw v) :=
  State.noteIrq_unrisen _ _ _ (State.irqLine_clearRaw s n 0 v) (State.irqLine_clearRaw s n 1 v)

theorem exec_irqStatWrite (p : Port) (n : Fin 32) (v : Word) (s : State) (h : Serves s p (headerAt n.val R.IRQ_STAT) v) :
    exec (.irqStatWrite p n v) s = .next (((s.accessed p (headerAt n.val R.IRQ_STAT)).modPage n.val (Page.clearRaw v)).servedFrom s
      (headerAt n.val R.IRQ_STAT)) :=
  (State.portWrite_header_ends s p n.val R.IRQ_STAT v cleanTest h (by decide) (by decide) _
    (State.irqPage_clearRaw _ n.val v)).trans (State.servedFrom_ends _ s _ (State.accessed_recorder s p _) h.quiet)

theorem exec_irqForce (p : Port) (n : Fin 32) (v : Word) (s : State) (h : Serves s p (headerAt n.val R.IRQ_FORCE) v) :
    exec (.irqForce p n v) s = .next (((s.accessed p (headerAt n.val R.IRQ_FORCE)).raise n.val
      (v.toNat &&& irqBits n.val)).servedFrom s (headerAt n.val R.IRQ_FORCE)) :=
  (State.portWrite_header_ends s p n.val R.IRQ_FORCE v cleanTest h (by decide) (by decide) _ rfl).trans
    (State.servedFrom_ends _ s _ (State.accessed_recorder s p _) h.quiet)

/-- The error that a page records is cleared (R405). -/
def Page.clearError (g : Page) : Page := { g with synd := 0#32, addr := 0#64, errValid := false }

theorem State.writeHeader_errClr (z : State) (p : Port) (n : Nat) (test : BootTest) :
    z.writeHeader p n R.ERR_CLR (w32 1) test = z.modPage n Page.clearError := by
  have set : bitAt (w32 1).toNat 0 = true := by decide
  simp only [State.writeHeader, set, if_true]
  rfl

theorem exec_errClr (p : Port) (n : Fin 32) (s : State) (h : Serves s p (headerAt n.val R.ERR_CLR) (w32 1)) :
    exec (.errClr p n) s = .next (((s.accessed p (headerAt n.val R.ERR_CLR)).modPage n.val Page.clearError).servedFrom s
      (headerAt n.val R.ERR_CLR)) :=
  (State.portWrite_header_ends s p n.val R.ERR_CLR (w32 1) cleanTest h (by decide) (by decide) _ (State.writeHeader_errClr _ p n.val cleanTest)).trans
    (State.servedFrom_ends _ s _ (State.accessed_recorder s p _) h.quiet)

/-- Another page than the one changed. -/
theorem State.page_modPage_other (s : State) (n m : Nat) (f : Page → Page) (h : m ≠ n) : (s.modPage n f).page m = s.page m := by
  rw [State.modPage, State.page_setPage, if_neg h]

theorem State.page_modPage_same (s : State) (n : Nat) (f : Page → Page) : (s.modPage n f).page n = f (s.page n) := by
  rw [State.modPage, State.page_setPage, if_pos rfl]

/-! ### LOCK and SHADOW_CTRL -/

section
variable (s : State) (p : Port) (n : Fin 32)

/-- The page of a served header access by the owner of its lock. -/
theorem State.accessed_header_owned (off : Nat) (ho : off < 0x1000) (own : (s.page n.val).owner = some p) :
    (s.accessed p (headerAt n.val off)).page n.val = { s.page n.val with accessAt := s.now } := by
  have page := pageOf_headerAt n.val off ho
  have noted := State.accessed_owned s p (headerAt n.val off) (by rw [page]; exact own)
  rwa [page] at noted

theorem exec_lockAcquire (h : Serves s p (headerAt n.val R.LOCK) (w32 (2 ^ 8))) :
    exec (.lockAcquire p n) s = (((s.accessed p (headerAt n.val R.LOCK)).takeLock p n.val).servedFrom s (headerAt n.val R.LOCK)).ends :=
  State.portWrite_header_ends s p n.val R.LOCK _ cleanTest h (by decide) (by decide) _
    ((State.onBits_set _ _ 8 _ _ (by decide)).trans (State.onBits_clear _ _ 9 _ _ (by decide)))

theorem exec_lockRelease (h : Serves s p (headerAt n.val R.LOCK) (w32 (2 ^ 9))) :
    exec (.lockRelease p n) s =
      (((s.accessed p (headerAt n.val R.LOCK)).releaseLock n.val cleanTest).servedFrom s (headerAt n.val R.LOCK)).ends :=
  State.portWrite_header_ends s p n.val R.LOCK _ cleanTest h (by decide) (by decide) _
    ((State.onBits_clear _ _ 8 _ _ (by decide)).trans (State.onBits_set _ _ 9 _ _ (by decide)))

theorem exec_shadowDiscard (h : Serves s p (headerAt n.val R.SHADOW_CTRL) (w32 (2 ^ 8))) :
    exec (.shadowDiscard p n) s = .next (((s.accessed p (headerAt n.val R.SHADOW_CTRL)).discardStaged n.val).servedFrom s
      (headerAt n.val R.SHADOW_CTRL)) :=
  (State.portWrite_header_ends s p n.val R.SHADOW_CTRL _ cleanTest h (by decide) (by decide) _
    (State.onBits_set _ _ 8 _ _ (by decide))).trans (State.servedFrom_ends _ s _ (State.accessed_recorder s p _) h.quiet)

/-- A page that no port holds is taken by the port that asks (R331). -/
theorem State.takeLock_free (z : State) (free : (z.page n.val).owner = none) :
    z.takeLock p n.val = z.setPage n.val { z.page n.val with
      owner := some p, staged := [], overflow := false, accessAt := z.now, lockedAt := z.now } := by
  simp [State.takeLock, State.modPage, free]

variable {s p} (z : State) (own : (z.page n.val).owner = some p)
include own

/-- A release drops a staging that overflowed (R332). -/
theorem State.releaseLock_overflowed (lost : (z.page n.val).overflow = true) (test : BootTest) :
    z.releaseLock n.val test = z.freeLock n.val 2 := by
  simp only [State.releaseLock, own]
  exact if_pos lost

/-- A release applies what is staged (R333). -/
theorem State.releaseLock_commits (fits : (z.page n.val).overflow = false) (test : BootTest) :
    z.releaseLock n.val test = (z.freeLock n.val 1).applyPuts p (putsOf (z.page n.val).staged) test := by
  simp only [State.releaseLock, own]
  exact if_neg (by simp [fits])

/-- The lock owner's write of a 32-bit register is staged (R332). -/
theorem State.writeBody_staged (a : Nat) (held : Option (Nat × Word)) (v : Word) (test : BootTest) (r : RegAt) (hp : pageOf a = n.val)
    (hr : regAt a = some r) (hw : r.desc.wide = false) (hh : r.high = false) (hro : r.desc.acc ≠ .ro) (hrc : r.desc.acc ≠ .rc) :
    z.writeBody p a held v test = z.setPage n.val ((z.page n.val).stage a v) := by
  cases held with
  | none => simp [State.writeBody, hr, hp, own, hw, hro, hrc, State.modPage]
  | some low => simp [State.writeBody, hr, hp, own, hw, hh, hro, hrc, State.modPage]

end

end Sys2Proof.Machine
end

section
/-! SETTLED. The statements on page headers and page locks: O42 to O44. -/

namespace Sys2Proof.Machine

/-- Settles O42: each of the three writes changes its page alone; fewer raw bits assert no line, and a force sends the messages of the
lines that rise. -/
theorem headerWritesActOnTheirPage : Obligations.HeaderWritesActOnTheirPage := by
  unfold Obligations.HeaderWritesActOnTheirPage
  intro p n v s z
  refine ⟨?stat, ?force, ?clear⟩
  case stat =>
    intro h hz
    have run := exec_irqStatWrite p n v s h
    rw [← hz] at run
    refine ⟨_, run, ?_, fun m hm => ?_, rfl⟩
    · rw [State.page_modPage_same, Page.clearRaw]
    · rw [State.page_modPage_other _ _ m _ hm]
  case force =>
    intro h hz
    have run := exec_irqForce p n v s h
    rw [← hz] at run
    refine ⟨_, run, ?_, fun m hm => ?_, rfl, rfl⟩
    · rw [State.raise_page, if_pos rfl, w32_and]
    · rw [State.raise_page, if_neg hm]
  case clear =>
    intro h hz
    have run := exec_errClr p n s h
    rw [← hz] at run
    refine ⟨_, run, ?_, fun m hm => ?_, rfl⟩
    · rw [State.page_modPage_same, Page.clearError]
    · rw [State.page_modPage_other _ _ m _ hm]

/-- Settles O43: acquire, stage, discard and release by the page that the access finds, with the owner's access noted. That a discard
clears the overflow mark with the staging is the model's choice (log entry 62). -/
theorem locksStageAndCommit : Obligations.LocksStageAndCommit := by
  unfold Obligations.LocksStageAndCommit
  intro p n s z
  refine ⟨?acquire, ?stage, ?discard, ?overflowed, ?commits⟩
  case acquire =>
    rintro h rfl free
    have page : (s.accessed p (headerAt n.val R.LOCK)).page n.val = s.page n.val := by
      refine State.accessed_page s p _ n.val ?_
      rw [pageOf_headerAt _ _ (by decide), free]
      simp
    rw [exec_lockAcquire s p n h, State.takeLock_free p n _ (page ▸ free), page, (s.accessed_frame p _).1]
    exact State.servedFrom_ends _ s _ (State.accessed_recorder s p _) h.quiet
  case stage =>
    rintro a v r h rfl aligned body hp own hr hw hh hro hrc
    have held : ((s.accessed p a.toNat).page n.val).owner = some p := by
      rw [← hp, State.accessed_owned s p a.toNat (by rw [hp]; exact own), hp]
      exact own
    refine State.exec_registerWrite_body p a v s _ h.quiet ?_ rfl
    rw [State.portWrite_body s p a.toNat v _ aligned h.fate body,
      State.writeBody_staged n _ held a.toNat _ v _ r hp hr hw hh hro hrc]
  case discard =>
    rintro h rfl
    exact exec_shadowDiscard s p n h
  case overflowed =>
    rintro h rfl own lost
    have page := State.accessed_header_owned s p n R.LOCK (by decide) own
    rw [exec_lockRelease s p n h, State.releaseLock_overflowed n _ (p := p) (by rw [page]; exact own) (by rw [page]; exact lost)]
    exact State.servedFrom_ends _ s _ (State.accessed_recorder s p _) h.quiet
  case commits =>
    rintro h rfl own fits
    have page := State.accessed_header_owned s p n R.LOCK (by decide) own
    have staged : ((s.accessed p (headerAt n.val R.LOCK)).page n.val).staged = (s.page n.val).staged := by rw [page]
    rw [exec_lockRelease s p n h, State.releaseLock_commits n _ (p := p) (by rw [page]; exact own) (by rw [page]; exact fits), staged]
    rfl

end Sys2Proof.Machine
end

section
/-! SUPPORT. BLK_MODE (R333, R335, R344): only the owner of its page's lock reaches it, and the release of the lock applies it. -/

namespace Sys2Proof.Machine

/-- A write that is served was turned away by no lock. -/
theorem State.done_unlocked (s : State) (p : Port) (addr : Nat) (v : Word) (h : s.fate p addr true v = .done) :
    s.lockedOut p addr v = false := by
  by_contra locked
  unfold State.fate at h
  dsimp only at h
  repeat' split at h
  all_goals simp_all

/-- BLK_MODE takes writes only from the owner of its page's lock (R335). -/
theorem State.mode_owned (s : State) (p : Port) (v : Word) (h : s.fate p R.BLK_MODE true v = .done) :
    (s.page 0).owner = some p := by
  have unlocked : (match (s.page 0).owner with | some q => q != p | none => true) = false := s.done_unlocked p R.BLK_MODE v h
  cases own : (s.page 0).owner with
  | none => simp [own] at unlocked
  | some q => simpa [own] using unlocked

theorem exec_blkModeWrite_staged (p : Port) (v : Word) (s : State) (h : Serves s p R.BLK_MODE v) :
    exec (.blkModeWrite p v) s =
      .next ((s.accessed p R.BLK_MODE).setPage 0 (((s.accessed p R.BLK_MODE).page 0).stage R.BLK_MODE v)) := by
  have own := s.mode_owned p v h.fate
  have held : ((s.accessed p R.BLK_MODE).page 0).owner = some p :=
    (congrArg Page.owner (s.accessed_owned p R.BLK_MODE own)).trans own
  have run : s.portWrite p R.BLK_MODE v cleanTest =
      (s.accessed p R.BLK_MODE).setPage 0 (((s.accessed p R.BLK_MODE).page 0).stage R.BLK_MODE v) := by
    rw [State.portWrite_body s p _ v _ (by decide) h.fate (by decide), State.servedFrom_unit _ _ _ (by decide)]
    exact State.writeBody_staged 0 _ held _ _ v _ _ (by decide) regAt_BLK_MODE rfl rfl (by decide) (by decide)
  exact (congrArg State.ends run).trans (State.ends_nil _ ((congrArg Recorder.raised (s.accessed_recorder p _)).trans h.quiet))

theorem exec_blkModeWrite_rejected (p : Port) (v : Word) (s : State) (h : s.fate p R.BLK_MODE true v = .rejected 0) :
    exec (.blkModeWrite p v) s = .next ((s.accessed p R.BLK_MODE).turnAway p R.BLK_MODE 0 true v).takeRaised := by
  refine congrArg State.ends ?_
  unfold State.portWrite
  simp only [show R.BLK_MODE / 4 * 4 = R.BLK_MODE by decide, h]
  rfl

/-- With the instance ACTIVE no policy forbids the state that it is in (R344, R358). -/
theorem State.putMode_active (z : State) (q : Put) (r : RegAt) (h : z.power.state = .active)
    (kept : (z.putPlain q r).power = z.power) : z.putMode q r = z.putPlain q r := by
  have awake : (z.putPlain q r).power.state = .active := by rw [kept, h]
  simp [State.putMode, State.asleep, awake]

/-- A commit of BLK_MODE alone sets its fields (R333). -/
theorem State.applyPuts_mode (z : State) (p : Port) (v : Word) (test : BootTest) (h : z.power.state = .active) :
    z.applyPuts p (putsOf [(R.BLK_MODE, v)]) test = z.setReg R.BLK_MODE
      (w32 (legal R.BLK_MODE (mapMinus (z.reg R.BLK_MODE).toNat 0x1FFF + (v.toNat &&& 0x1FFF)))) := by
  have plain := z.putPlain_inst R.BLK_MODE v.toNat 0x1 0x1FFF (by decide)
  have puts : putsOf [(R.BLK_MODE, v)] = [⟨R.BLK_MODE, v.toNat, 0xFFFFFFFF⟩] := by simp [putsOf, regAt_BLK_MODE]
  have value : z.putValue p ⟨R.BLK_MODE, v.toNat, 0xFFFFFFFF⟩ =
      z.putMode ⟨R.BLK_MODE, v.toNat, 0xFFFFFFFF⟩ ⟨⟨R.BLK_MODE, 1, 1, 4, .rw, 1, 0x1FFF, .inst, false⟩, 0, false⟩ := by
    unfold State.putValue
    rw [regAt_BLK_MODE]
    rfl
  have action : ∀ y : State, y.putAction p ⟨R.BLK_MODE, v.toNat, 0xFFFFFFFF⟩ test = y := by
    intro y
    unfold State.putAction
    rw [regAt_BLK_MODE]
    rfl
  rw [puts]
  show State.putAction (z.putValue p _) p _ test = _
  rw [action, value, State.putMode_active _ _ _ h (by rw [plain]; rfl), plain]

/-- An access leaves an ACTIVE instance ACTIVE. -/
theorem State.accessed_active (s : State) (p : Port) (addr : Nat) (h : s.power.state = .active) :
    (s.accessed p addr).power.state = .active := by
  unfold State.accessed State.touch
  rw [State.rouse_awake s h]
  split <;> exact h

end Sys2Proof.Machine
end

section
/-! SETTLED. The statement on BLK_MODE: O44. -/

namespace Sys2Proof.Machine

/-- Settles O44: a served write is the lock owner's and is staged, and the release sets the fields of the one staged value. -/
theorem modeChangesUnderItsLock : Obligations.ModeChangesUnderItsLock := by
  unfold Obligations.ModeChangesUnderItsLock
  intro p v s z
  refine ⟨?staged, ?rejected, ?released⟩
  case staged =>
    rintro h rfl
    exact ⟨s.mode_owned p v h.fate, exec_blkModeWrite_staged p v s h⟩
  case rejected =>
    rintro h rfl
    exact exec_blkModeWrite_rejected p v s h
  case released =>
    rintro h own fits staged active rfl
    have page : (s.accessed p (headerAt 0 R.LOCK)).page 0 = { s.page 0 with accessAt := s.now } :=
      State.accessed_header_owned s p 0 R.LOCK (by decide) own
    have awake := s.accessed_active p (headerAt 0 R.LOCK) active
    have recorder := s.accessed_recorder p (headerAt 0 R.LOCK)
    have run : exec (.lockRelease p 0) s =
        (((s.accessed p (headerAt 0 R.LOCK)).releaseLock (0 : Fin 32).val cleanTest).servedFrom s (headerAt 0 R.LOCK)).ends :=
      exec_lockRelease s p 0 h
    generalize s.accessed p (headerAt 0 R.LOCK) = z at *
    have commit : (z.page (0 : Fin 32).val).staged = [(R.BLK_MODE, v)] := (congrArg Page.staged page).trans staged
    rw [State.releaseLock_commits 0 z (p := p) ((congrArg Page.owner page).trans own) ((congrArg Page.overflow page).trans fits),
      commit, State.applyPuts_mode (z.freeLock _ 1) p v cleanTest awake, State.servedFrom_unit _ _ _ (by decide)] at run
    exact run.trans (State.ends_nil _ ((congrArg Recorder.raised recorder).trans h.quiet))

end Sys2Proof.Machine
end

section
/-! SUPPORT. A countersign (R339 to R342): what SEC_CS_DIGEST comes to, by what it finds. -/

namespace Sys2Proof.Machine

theorem exec_countersign (p : Port) (d : Word) (s : State) (h : Writes s p R.SEC_CS_DIGEST d) :
    exec (.countersign p d) s = ((s.accessed p R.SEC_CS_DIGEST).countersign p d).ends := by
  have run := State.write_SEC_CS_DIGEST s p d cleanTest h
  rw [w32_toNat] at run
  exact congrArg State.ends run

section
variable (z : State) (p : Port) (d : Word) (q : Proposal) (pending : z.security.proposal = some q)
include pending

theorem State.countersign_late (late : q.endsAt ≤ z.now) : z.countersign p d = z.dropProposal q 2 := by
  rw [State.countersign, pending]
  exact if_pos late

variable (open_ : z.now < q.endsAt)
include open_

theorem State.countersign_counted (other : p = q.proposer ∨ z.security.csNonce ≠ q.nonce ∨ d ≠ q.digest) :
    z.countersign p d = z.setSecurity (fun c => { c with refused := min 0xFFFF (c.refused + 1) }) := by
  rw [State.countersign, pending]
  exact (if_neg (by omega)).trans (if_pos other)

variable (peer : p ≠ q.proposer) (nonce : z.security.csNonce = q.nonce) (digest : d = q.digest)
include peer nonce digest

/-- A countersign that fits goes on to what the change meets. -/
theorem State.countersign_fits : z.countersign p d =
    if z.proposalInUse q.bytes then (z.endProposal q).csResult 4
    else if z.proposalLoan q.bytes then (z.endProposal q).csResult 5
    else if leAt q.bytes 0 1 = 1 ∧ z.removedShelves q.bytes ≠ 0 then
      z.setSecurity (fun c => { c with proposal := none, applying := some q })
    else z.applyProposal q := by
  rw [State.countersign, pending]
  exact (if_neg (by omega)).trans (if_neg (by simp [peer, nonce, digest]))

end

end Sys2Proof.Machine
end

section
/-! SETTLED. The statement on the countersign: O47. -/

namespace Sys2Proof.Machine

/-- Settles O47: the cases of SEC_CS_DIGEST in the order of R339, of which only a late one raises an event. That IN_USE goes before
LOAN, and TIMEOUT for a countersign that comes late, are the choices of log entry 64. -/
theorem countersignAppliesTheProposal : Obligations.CountersignAppliesTheProposal := by
  unfold Obligations.CountersignAppliesTheProposal
  rintro p d s z q h rfl pending
  have quiet : ∀ y : State, y.recorder = (s.accessed p R.SEC_CS_DIGEST).recorder → y.ends = .next y := fun y hy =>
    State.ends_nil y (by rw [hy, State.accessed_recorder, h.quiet])
  rw [exec_countersign p d s h]
  generalize s.accessed p R.SEC_CS_DIGEST = z at *
  refine ⟨fun late => ?_, fun open_ other => ?_, fun open_ peer nonce digest => ?_⟩
  · rw [z.countersign_late p d q pending late]
    rfl
  · rw [z.countersign_counted p d q pending open_ other]
    exact quiet _ rfl
  · rw [z.countersign_fits p d q pending open_ peer nonce digest]
    refine ⟨fun inUse => ?_, fun unused loan => ?_, fun unused unlent => ?_⟩
    · rw [if_pos inUse]
      exact quiet _ (State.csResult_recorder _ 4)
    · rw [if_neg (by simp [unused]), if_pos loan]
      exact quiet _ (State.csResult_recorder _ 5)
    · rw [if_neg (by simp [unused]), if_neg (by simp [unlent])]
      split
      · exact quiet _ rfl
      · rfl

end Sys2Proof.Machine
end

section
/-! SUPPORT. Byte strings (R7): the bound of the number that bytes hold. -/

namespace Sys2Proof.Machine

theorem leNat_lt (l : List Byte) : leNat l < 256 ^ l.length := by
  induction l with
  | nil => simp [leNat]
  | cons b r ih =>
    have := b.isLt
    rw [leNat, List.length_cons, Nat.pow_succ]
    omega

theorem leAt_lt (b : List Byte) (o n : Nat) : leAt b o n < 256 ^ n :=
  (leNat_lt _).trans_le (Nat.pow_le_pow_right (by decide) (List.length_take_le _ _))

theorem leAt_eight_toNat (b : List Byte) (o : Nat) : (BitVec.ofNat 64 (leAt b o 8)).toNat = leAt b o 8 := by
  have := leAt_lt b o 8
  rw [BitVec.toNat_ofNat, Nat.mod_eq_of_lt (by omega)]

end Sys2Proof.Machine
end

section
/-! SUPPORT. The change of an applied proposal (R341 to R343), by its kind, and the key staging. -/

namespace Sys2Proof.Machine

/-! ### Eyelets that change tenant -/

/-- Eyelets set to zero. -/
def State.zeroEyes (s : State) (l : List Nat) : State := l.foldl (fun (s : State) e => s.setEyelet e ⟨0#32, 0#32, 0#32⟩) s

/-- They are all that changes. -/
theorem State.zeroEyes_frame (s : State) (l : List Nat) :
    (s.zeroEyes l).security = s.security ∧ (s.zeroEyes l).recorder = s.recorder ∧ (s.zeroEyes l).port = s.port := by
  induction l generalizing s with
  | nil => exact ⟨rfl, rfl, rfl⟩
  | cons e r ih => exact ih (s.setEyelet e _)

theorem State.zeroEyes_eyelet (s : State) (l : List Nat) (e : Nat) :
    (s.zeroEyes l).eyelet e = if e ∈ l then ⟨0#32, 0#32, 0#32⟩ else s.eyelet e := by
  induction l generalizing s with
  | nil => rfl
  | cons a r ih =>
    refine (ih (s.setEyelet a ⟨0#32, 0#32, 0#32⟩)).trans ?_
    rw [State.eyelet_setEyelet]
    by_cases here : e = a <;> by_cases later : e ∈ r <;> simp [here, later]

/-! ### The change, by the proposal's kind -/

section
variable (z : State) (b : List Byte)

theorem State.makeChange_tenant (h : leAt b 0 1 = 1) :
    z.makeChange b = (z.setPart (tenantOfProposal b) (partOfProposal b)).zeroEyes (z.movedEyes b) := by
  rw [State.makeChange, h]
  rfl

theorem State.makeChange_keyLoad (h : leAt b 0 1 = 2) :
    z.makeChange b = z.setSecurity (fun c => { c with keys := put c.keys (leAt b 1 1) ⟨z.stagedKey, w32 (leAt b 4 4)⟩ }) := by
  rw [State.makeChange, h]
  rfl

theorem State.makeChange_keyErase (h : leAt b 0 1 = 3) :
    z.makeChange b = z.setSecurity (fun c => { c with keys := del c.keys (leAt b 1 1) }) := by
  rw [State.makeChange, h]
  rfl

theorem State.makeChange_privilege (h : leAt b 0 1 = 4) : z.makeChange b = z.setSecurity (fun c => { c with
    privCtl := BitVec.ofNat 64 (leAt b 8 8), privSec := BitVec.ofNat 64 (leAt b 16 8), privDbg := BitVec.ofNat 64 (leAt b 24 8)
    dbgPriv := BitVec.ofNat 3 (leAt b 4 1), viewCtl := fld (leAt b 5 2) 0 3, viewSec := fld (leAt b 5 2) 4 3
    viewDbg := fld (leAt b 5 2) 8 3 }) := by
  rw [State.makeChange, h]
  rfl

theorem State.makeChange_erase (h : leAt b 0 1 = 5) : z.makeChange b = { z with
    recorder := { z.recorder with tail := z.recorder.head, eraseBelow := some z.recorder.head, wrapped := false } } := by
  rw [State.makeChange, h]
  rfl

/-- No change touches the command port or raises an event. -/
theorem State.makeChange_quiet :
    (z.makeChange b).port = z.port ∧ (z.makeChange b).recorder.raised = z.recorder.raised := by
  unfold State.makeChange
  split
  · obtain ⟨-, recorder, port⟩ := (z.setPart (tenantOfProposal b) (partOfProposal b)).zeroEyes_frame (z.movedEyes b)
    exact ⟨port, congrArg Recorder.raised recorder⟩
  all_goals exact ⟨rfl, rfl⟩

end

/-! ### The end of a proposal -/

/-- The state that an applied proposal leaves before its result is posted. -/
def State.changed (z : State) (q : Proposal) : State :=
  (z.makeChange q.bytes).setSecurity (fun c => { c with proposal := none, applying := none, lastNonce := some q.nonce, stage := [] })

section
variable (z : State) (q : Proposal)

/-- With an empty command port nothing follows the result. -/
theorem State.applyProposal_idle (queue : z.port.queue = []) (stalled : z.port.stalled = []) :
    z.applyProposal q = (z.changed q).csResult 1 := by
  have port : ((z.changed q).csResult 1).port = z.port := by
    simp [State.csResult, State.changed, z.makeChange_quiet]
  show ((z.changed q).csResult 1).drain = _
  rw [State.drain, port, queue, stalled]
  rfl

theorem State.changed_raised : (z.changed q).recorder.raised = z.recorder.raised := (z.makeChange_quiet q.bytes).2

theorem State.applied_security : ((z.changed q).csResult 1).security = { (z.makeChange q.bytes).security with
    proposal := none, applying := none, lastNonce := some q.nonce, stage := [], result := 1 } := by
  simp [State.csResult, State.changed, State.setSecurity]

theorem State.applied_eyes : ((z.changed q).csResult 1).eyes = (z.makeChange q.bytes).eyes := by
  simp [State.csResult, State.changed]

theorem State.applied_recorder : ((z.changed q).csResult 1).recorder = (z.makeChange q.bytes).recorder := by
  simp [State.csResult, State.changed]

/-- A result raises bit 0 of page SEC (R409). -/
theorem State.csResult_raw (r : Nat) : bitAt ((z.csResult r).page 3).raw.toNat 0 = true := by
  unfold State.csResult
  dsimp only
  rw [State.pageError_raw, State.raise_page, if_pos rfl, bitAt_eq_testBit]
  simp [w32]

end

/-- The clearing of shelves of a countersign ends with the change (R342). -/
theorem exec_shelfClearDone_applying (s : State) (q : Proposal) (h : Runs s) (applying : s.security.applying = some q) :
    exec .shelfClearDone s = (s.applyProposal q).ends := by
  refine congrArg State.ends ((State.running_ready s _ h).trans ?_)
  rw [State.shelfClearDone, applying]

theorem exec_keyStageWrite (n : Fin 16) (v : Word) (p : Port) (s : State) (h : Writes s p (R.SEC_KEY_STAGE + 4 * n.val) v) :
    exec (.keyStageWrite p n v) s = .next ((s.accessed p (R.SEC_KEY_STAGE + 4 * n.val)).stageKey n.val v) := by
  have run := State.write_SEC_KEY_STAGE s p v cleanTest n h
  rw [w32_toNat] at run
  refine (congrArg State.ends run).trans (State.ends_nil _ ?_)
  have quiet : (s.accessed p (R.SEC_KEY_STAGE + 4 * n.val)).recorder.raised = [] := by rw [State.accessed_recorder, h.quiet]
  unfold State.stageKey
  dsimp only
  split
  · simpa using quiet
  · exact quiet

end Sys2Proof.Machine
end


section
/-! SETTLED. The statement on applied proposals and the key staging: O48. -/

namespace Sys2Proof.Machine

/-- Settles O48: both commands come to the same change, which each kind of proposal makes in its own part of the state. That a result
raises bit 0 of page SEC also where it was APPLIED before, and that every apply clears the staging, are the choices of log entry
64. -/
theorem appliedProposalsAndKeyWords : Obligations.AppliedProposalsAndKeyWords := by
  unfold Obligations.AppliedProposalsAndKeyWords
  refine ⟨?applied, ?keyWord⟩
  case applied =>
    intro i s z q cause queue stalled
    have run : exec i s = .next ((z.changed q).csResult 1) := by
      rw [← z.applyProposal_idle q queue stalled]
      have ends : z.recorder.raised = [] → (z.applyProposal q).ends = .next (z.applyProposal q) := fun quiet => by
        rw [z.applyProposal_idle q queue stalled]
        exact State.ends_nil _ (by rw [State.csResult_recorder, State.changed_raised, quiet])
      obtain ⟨p, d, rfl, h, rfl, pending, open_, peer, nonce, digest, unused, unlent, kept⟩ | ⟨rfl, h, rfl, applying, -⟩ := cause
      · rw [exec_countersign p d s h, State.countersign_fits _ p d q pending open_ peer nonce digest, if_neg (by simp [unused]),
          if_neg (by simp [unlent]), if_neg (by tauto)]
        exact ends (by rw [State.accessed_recorder, h.quiet])
      · rw [exec_shelfClearDone_applying z q h applying]
        exact ends h.quiet
    have security := z.applied_security q
    have eyes := z.applied_eyes q
    have recorder := z.applied_recorder q
    have raw := (z.changed q).csResult_raw 1
    generalize (z.changed q).csResult 1 = u at *
    refine ⟨u, run, by rw [security], by rw [security], by rw [security], by rw [security], by rw [security], raw, ?_⟩
    rw [security]
    refine ⟨fun k => ?tenant, fun k => ?keyLoad, fun k => ?keyErase, fun k => ?privilege, fun k => ?erase, fun k => ?others⟩
    case tenant =>
      rw [z.makeChange_tenant q.bytes k] at eyes ⊢
      rw [((z.setPart (tenantOfProposal q.bytes) (partOfProposal q.bytes)).zeroEyes_frame (z.movedEyes q.bytes)).1]
      refine ⟨rfl, fun e => ?_, rfl, rfl⟩
      rw [State.eyelet, eyes]
      exact State.zeroEyes_eyelet _ _ e
    case keyLoad =>
      rw [z.makeChange_keyLoad q.bytes k] at eyes ⊢
      exact ⟨rfl, rfl, eyes⟩
    case keyErase =>
      rw [z.makeChange_keyErase q.bytes k] at eyes ⊢
      exact ⟨rfl, rfl, eyes⟩
    case privilege =>
      rw [z.makeChange_privilege q.bytes k] at eyes ⊢
      exact ⟨leAt_eight_toNat _ 8, leAt_eight_toNat _ 16, leAt_eight_toNat _ 24, rfl, rfl, rfl, rfl, rfl, rfl, eyes⟩
    case erase =>
      rw [z.makeChange_erase q.bytes k] at recorder ⊢
      rw [recorder]
      exact ⟨rfl, rfl, rfl, rfl, rfl⟩
    case others =>
      rw [recorder]
      simp only [List.mem_cons, List.not_mem_nil, or_false] at k
      rcases k with k | k | k | k
      · rw [z.makeChange_tenant q.bytes k]
        exact (State.zeroEyes_frame _ _).2.1
      · rw [z.makeChange_keyLoad q.bytes k]
        rfl
      · rw [z.makeChange_keyErase q.bytes k]
        rfl
      · rw [z.makeChange_privilege q.bytes k]
        rfl
  case keyWord =>
    rintro n v p s z a h rfl rfl
    exact exec_keyStageWrite n v p s h

end Sys2Proof.Machine
end

section
/-! SUPPORT. The choice of a power state (R354, R356, R358, R361): the two procedures, and what entering a state leaves. -/

namespace Sys2Proof.Machine

theorem exec_powerStateChoice (s : State) (h : Stands s) : exec .powerStateChoice s = .next s.choosePower.takeRaised :=
  congrArg State.ends (if_pos h.ready)

/-- With FCLK running the instance neither sleeps nor is in OFF. -/
theorem State.clockRuns_iff (s : State) : s.clockRuns = true ↔ s.power.state = .active ∨ s.power.state = .idle := by
  simp [State.clockRuns]

/-- The gap, its bound and the state are noted (R356, R378). -/
def State.chose (s : State) (g e : Nat) (st : Power) : State := s.setPower (fun p => { p with
  gap := g, eff := e, src := (match s.nextEvent with | some ev => ev.1 | none => 0), chosen := st })

section
variable (s : State) (ready : s.isReady = true) (clock : s.clockRuns = true)
include ready clock

theorem State.choosePower_awake : s.choosePower = if s.policy = 1 ∨ !s.quiescent then s.idleOrActive
    else (s.chose s.gapOf.1 s.gapOf.2 (if s.policy = 2 then s.fixedState else stateFor s.gapOf.2)).enterState
      (if s.policy = 2 then s.fixedState else stateFor s.gapOf.2)
      (s.wakeFor (if s.policy = 2 then s.fixedState else stateFor s.gapOf.2) s.gapOf.2) := by
  have awake : ¬(s.asleep = true ∨ s.power.state = .off ∨ !s.isReady) := by
    rcases s.clockRuns_iff.mp clock with k | k <;> simp [State.asleep, k, ready]
  exact if_neg awake

theorem State.choosePower_working (unsettled : s.policy = 1 ∨ s.quiescent = false) : s.choosePower = s.idleOrActive := by
  rw [s.choosePower_awake ready clock, if_pos (by simpa using unsettled)]

theorem State.choosePower_quiescent (policy : s.policy ≠ 1) (quiescent : s.quiescent = true) (g e w : Nat) (st : Power)
    (gap : s.gapOf = (g, e)) (choice : (if s.policy = 2 then s.fixedState else stateFor e) = st) (wake : s.wakeFor st e = w) :
    s.choosePower = (s.chose g e st).enterState st w := by
  rw [s.choosePower_awake ready clock, if_neg (by simp [policy, quiescent]), gap, choice, wake]

end

/-- No choice is OFF. -/
theorem State.chosen_on (s : State) (e : Nat) : (if s.policy = 2 then s.fixedState else stateFor e) ≠ .off := by
  unfold State.fixedState Power.ofNum stateFor
  split
  · split <;> decide
  · split_ifs <;> decide

/-- A state other than NAP and DEEP is entered without a record. -/
theorem State.enterState_light (s : State) (st : Power) (w : Nat) (clock : s.clockRuns = true) (on : st ≠ .off) (nap : st ≠ .nap)
    (deep : st ≠ .deep) : s.enterState st w = (s.powerTo st).setPower (fun p => { p with wakeAt := some w }) := by
  have old : s.power.state.logged = false := by
    rcases s.clockRuns_iff.mp clock with k | k <;> rw [k] <;> rfl
  have new : st.logged = false := by cases st <;> simp_all [Power.logged]
  simp [State.enterState, State.logChange, old, new, nap, deep]

/-- NAP and DEEP lend the budget that they leave, and record it with the change of the state (R303, R361). -/
theorem State.enterState_deep (s z : State) (st : Power) (w mw d : Nat) (deep : st = .nap ∨ st = .deep)
    (hz : z = (s.powerTo st).setPower (fun p => { p with wakeAt := some w }))
    (hmw : mw = s.power.budget - (if st = .nap then 900 else 600)) (hd : d = min 0xFFFFFFFF ((w - s.now) / 100)) :
    s.enterState st w = (({ z with
      out := { z.out with power := z.out.power ++ [BitVec.ofNat 64 (1 + 2 ^ 16 * mw + 2 ^ 32 * d)] }
      power := { z.power with lending := true, lent := mw, busUntil := max s.now s.power.busUntil + 1 } } : State).log
        0x0202 8 [w32 mw, w32 d, 0#32, 0#32]).log 0x0201 8
        [w32 (Power.num s.power.state + 2 ^ 3 * Power.num st), w32 s.power.gap, 0#32, 0#32] := by
  have new : st.logged = true := by rcases deep with k | k <;> rw [k] <;> rfl
  subst hz hmw hd
  unfold State.enterState
  dsimp only
  rw [if_pos deep, State.logChange, new, Bool.or_true, if_pos rfl]
  simp [State.powerTo, State.setPower, State.outPower, State.lendable]
  rfl

end Sys2Proof.Machine
end

section
/-! SETTLED. The statement on the choice of a power state: O49. -/

namespace Sys2Proof.Machine

/-- Settles O49: the procedure of R356 for a quiescent instance, and the units' work for any other. A state that is entered is
recorded with trigger 0, and a gap without a source lasts 0xFFFFFFFF ticks, which are the choices of log entry 65; that the
performance policy leaves the gap as it was is that of log entry 66. -/
theorem powerStateFollowsTheGap : Obligations.PowerStateFollowsTheGap := by
  unfold Obligations.PowerStateFollowsTheGap
  intro s h clock
  rw [exec_powerStateChoice s h]
  refine ⟨fun g e w st z policy quiescent hg he hst hw hz => ?gap, fun unsettled => ?work⟩
  case gap =>
    have gap : s.gapOf = (g, e) := by
      subst hg he
      rfl
    have choice : (if s.policy = 2 then s.fixedState else stateFor e) = st := hst.symm
    have on : st ≠ .off := choice ▸ s.chosen_on e
    have entered : z = ((s.chose g e st).powerTo st).setPower (fun p => { p with wakeAt := some w }) := hz
    rw [s.choosePower_quiescent h.ready clock policy quiescent g e w st gap choice hw.symm]
    refine ⟨fun nap deep => ?_, fun mw d deep hmw hd => ?_⟩
    · rw [State.enterState_light (s.chose g e st) st w clock on nap deep, entered]
      exact congrArg _ (State.takeRaised_nil _ h.quiet)
    · rw [State.enterState_deep (s.chose g e st) z st w mw d deep entered hmw hd, entered]
      rfl
  case work =>
    rw [s.choosePower_working h.ready clock unsettled]
    unfold State.idleOrActive
    refine ⟨fun idle free => ?_, fun work => ?_⟩
    · rw [if_pos (by simpa [idle] using not_and_or.mp free)]
      split
      · rw [State.takeRaised_nil s h.quiet]
      · have active : s.power.state = .active := (s.clockRuns_iff.mp clock).resolve_right ‹_›
        rw [State.takeRaised_nil _ (by exact h.quiet)]
        simp [State.powerTo, State.setPower, active, Power.num]
    · rw [if_neg (by rcases work with k | ⟨k, k'⟩ <;> simp [*])]
      split
      · next idle =>
        rw [State.takeRaised_nil _ (by exact h.quiet)]
        simp [State.powerTo, State.setPower, idle, Power.num]
      · rw [State.takeRaised_nil s h.quiet]

end Sys2Proof.Machine
end

section
/-! SUPPORT. What noting, logging and taking events leave alone (R301, R381, R404): all but the registers, the page headers, the
interrupt messages and the recorder's queues. -/

namespace Sys2Proof.Machine

/-- A state that differs from an earlier one in the registers, the page headers, the interrupt messages and the queues of the recorder
alone. -/
def State.Records (a b : State) : Prop :=
  ∃ g p m q r w, b = { a with
    regs := g, pages := p, out := { a.out with irqMessages := m }
    recorder := { a.recorder with queue := q, raised := r, waiting := w } }

theorem State.Records.refl (s : State) : s.Records s := ⟨_, _, _, _, _, _, rfl⟩

theorem State.Records.trans {a b c : State} (h : a.Records b) (k : b.Records c) : a.Records c := by
  obtain ⟨g, p, m, q, r, w, rfl⟩ := h
  obtain ⟨g', p', m', q', r', w', rfl⟩ := k
  exact ⟨g', p', m', q', r', w', rfl⟩

theorem State.raise_records (s : State) (page bits : Nat) : s.Records (s.raise page bits) := ⟨_, _, _, _, _, _, rfl⟩

theorem State.pageError_records (s : State) (page addr : Nat) (v : Word) : s.Records (s.pageError page v addr) := ⟨_, _, _, _, _, _, rfl⟩

theorem State.raiseEvent_records (s : State) (e : Event) : s.Records (s.raiseEvent e) := ⟨_, _, _, _, _, _, rfl⟩

theorem State.bumpSat_records (s : State) (a n : Nat) : s.Records (s.bumpSat a n) := ⟨_, _, _, _, _, _, rfl⟩

theorem State.log_records (s : State) (code source : Nat) (ps : List Word) : s.Records (s.log code source ps) := by
  unfold State.log
  dsimp only
  refine .trans ?_ (State.raise_records _ _ _)
  split
  · exact ((s.raiseEvent_records _).trans (State.bumpSat_records _ _ _)).trans (State.pageError_records _ _ _ _)
  · exact (s.raiseEvent_records _).trans (State.bumpSat_records _ _ _)

theorem State.offerRec_records (s : State) (x : Rec) : s.Records (s.offerRec x) := by
  unfold State.offerRec
  split <;> exact ⟨_, _, _, _, _, _, rfl⟩

theorem State.takeRaised_records (s : State) : s.Records s.takeRaised := by
  have offers : ∀ (l : List Raised) (z : State), s.Records z →
      s.Records (l.foldl (fun (s : State) x => s.offerRec x.record) z) := by
    intro l
    induction l with
    | nil => exact fun z h => h
    | cons x l ih => exact fun z h => ih _ (h.trans (z.offerRec_records x.record))
  exact offers _ _ ⟨_, _, _, _, _, _, rfl⟩

end Sys2Proof.Machine
end

section
/-! SUPPORT. PWR_CTRL and the way into OFF (R359, R378, R386 to R388). -/

namespace Sys2Proof.Machine

/-! ### PWR_CTRL -/

theorem exec_pwrOff (p : Port) (s : State) (h : Writes s p R.PWR_CTRL (w32 1)) :
    exec (.pwrOff p) s = ((s.accessed p R.PWR_CTRL).goOff.movedFrom s).ends := by
  have run := State.write_PWR_CTRL s p (w32 1) cleanTest h
  rw [State.onBits_set _ _ 0 _ _ (by decide), State.onBits_clear _ _ 1 _ _ (by decide), State.onBits_nil] at run
  exact congrArg State.ends run

theorem exec_pwrWake (p : Port) (s : State) (h : Writes s p R.PWR_CTRL (w32 2)) :
    exec (.pwrWake p) s = ((s.accessed p R.PWR_CTRL).wakeCommand.movedFrom s).ends := by
  have run := State.write_PWR_CTRL s p (w32 2) cleanTest h
  rw [State.onBits_clear _ _ 0 _ _ (by decide), State.onBits_set _ _ 1 _ _ (by decide), State.onBits_nil] at run
  exact congrArg State.ends run

theorem exec_pwrHintWrite (p : Port) (v : Word) (s : State) (h : Writes s p R.PWR_HINT v) :
    exec (.pwrHintWrite p v) s = (((s.accessed p R.PWR_HINT).writeHint v.toNat).movedFrom s).ends :=
  congrArg State.ends (State.write_PWR_HINT s p v cleanTest h)

/-- Moving wake_at raises no event. -/
theorem State.movedFrom_ends (y s : State) (quiet : y.recorder.raised = []) : (y.movedFrom s).ends = .next (y.movedFrom s) :=
  State.ends_nil _ (by rw [State.movedFrom_recorder, quiet])

section
variable (z : State) (pending : z.power.offPending = false)
include pending

theorem State.goOff_refused (may : z.mayGoOff = false) :
    z.goOff = (z.setPower (fun q => { q with offRefused := true })).raise 0x02 2 := by
  simp [State.goOff, pending, may]

theorem State.goOff_persists (may : z.mayGoOff = true) :
    z.goOff = z.persist.setPower (fun q => { q with offPending := true, offRefused := false }) := by
  simp [State.goOff, pending, may]

theorem State.wakeCommand_asleep (asleep : z.asleep = true) : z.wakeCommand = if z.power.waking = none
    then (z.bump R.PWR_UNPLANNED 1).beginWake 1 else z := by
  have on : z.power.state ≠ .off := by
    intro off
    simp [State.asleep, off] at asleep
  refine ((if_neg (by simp [pending, on])).trans (if_pos asleep)).trans ?_
  split
  · next waking => exact z.rouse_asleep asleep waking
  · next waking => exact z.rouse_waking asleep waking

theorem State.wakeCommand_awake (on : z.power.state ≠ .off) (awake : z.asleep = false) :
    z.wakeCommand = (z.powerTo .active).choosePower :=
  (if_neg (by simp [pending, on])).trans (if_neg (by simp [awake]))

end

/-! ### The end of the persistence -/

theorem exec_nvWriteAck (s : State) (h : AocRuns s) : exec .nvWriteAck s = s.nvWriteAck.finishOff.ends :=
  congrArg State.ends (s.aocRunning_up _ h)

theorem exec_nvWriteTimeout (s : State) (h : AocRuns s) : exec .nvWriteTimeout s = s.nvWriteTimeout.finishOff.ends :=
  congrArg State.ends (s.aocRunning_up _ h)

section
variable (s : State) (i t : Nat) (x : List Byte) (h : s.recorder.nvPending = some (i, t, x))
include h

theorem State.nvWriteAck_pending : s.nvWriteAck = { s with recorder := { s.recorder with
    nv := s.recorder.nv.set i x, nvSlot := i, nvFail := false, nvPending := none } } := by
  rw [State.nvWriteAck, h]
  rfl

/-- The bytes that a write without an acknowledgement leaves (R388). -/
def State.tornBytes (s : State) (i : Nat) (x : List Byte) : List Byte :=
  (List.range 16).map (fun k => (if bitAt s.unstatedWord.toNat k then x else s.recorder.nv.getD i []).getD k 0#8)

theorem State.nvWriteTimeout_pending : s.nvWriteTimeout = { s with
    now := max s.now (t + 1000000), draws := s.draws + 1
    recorder := { s.recorder with nv := s.recorder.nv.set i (s.tornBytes i x), nvFail := true, nvPending := none } } := by
  rw [State.nvWriteTimeout, h]
  rfl

end

theorem State.tornBytes_length (s : State) (i : Nat) (x : List Byte) : (s.tornBytes i x).length = 16 := by
  simp [State.tornBytes]

/-- Each byte is the old or the new one. -/
theorem State.tornBytes_mixed (s : State) (i : Nat) (x : List Byte) (k : Nat) (hk : k < 16) :
    (s.tornBytes i x)[k]? = some (x.getD k 0#8) ∨ (s.tornBytes i x)[k]? = some ((s.recorder.nv.getD i []).getD k 0#8) := by
  have byte : (s.tornBytes i x)[k]? =
      some ((if bitAt s.unstatedWord.toNat k then x else s.recorder.nv.getD i []).getD k 0#8) := by
    simp [State.tornBytes, List.getElem?_range hk]
  rw [byte]
  split
  · exact .inl rfl
  · exact .inr rfl

/-- A persistence that no OFF waits for has no other end. -/
theorem State.finishOff_none (s : State) (h : s.power.offPending = false) : s.finishOff = s := if_pos (by simp [h])

/-- OFF: every output takes its inactive level, and OFF_READY is posted (R359, R373). -/
def State.inOff (s : State) : State := { s with
  draws := s.draws + 1
  lace := { State.reset.lace with others := s.lace.others }
  out := { s.out with power := s.out.power ++ [5#64] }
  power := { (s.powerTo .off).power with
    offPending := false, offPosted := true, pds := s.keepRequests, busUntil := max s.now s.power.busUntil + 1 } }

theorem State.logChange_records (s : State) (old new : Power) (n : Nat) : s.Records (s.logChange old new n) := by
  unfold State.logChange
  split
  · exact s.log_records _ _ _
  · exact .refl s

theorem State.finishOff_inOff (s : State) (h : s.power.offPending = true) : s.inOff.Records s.finishOff := by
  obtain ⟨g, p, m, q, r, w, noted⟩ :=
    (s.draw.powerTo .off).logChange_records s.power.state .off ((Config.unstated s.draws).toNat % 4)
  rw [State.finishOff, if_neg (by simp [h])]
  dsimp only
  rw [noted]
  exact ⟨g, p, m, q, r, w, rfl⟩

theorem State.finishOff_off (s : State) (h : s.power.offPending = true) : ∃ u : State, s.finishOff.ends = .next u
    ∧ u.power.state = .off ∧ u.isReady = false ∧ u.outputsLive = false ∧ u.power.offPending = false
    ∧ u.out.power = s.out.power ++ [5#64] ∧ u.recorder.nv = s.recorder.nv ∧ u.lace.wires = [] ∧ u.lace.pulses = []
    ∧ u.now = s.now
    ∧ { u with power := s.power, out := s.out, regs := s.regs, pages := s.pages, recorder := s.recorder
               draws := s.draws, lace := s.lace } = s := by
  obtain ⟨g, p, m, q, r, w, noted⟩ := (s.finishOff_inOff h).trans s.finishOff.takeRaised_records
  refine ⟨_, congrArg Host.Outcome.next noted, rfl, ?_, ?_, rfl, rfl, rfl, rfl, rfl, rfl, rfl⟩
  · show (_ && !true) = false
    simp
  · show (_ && _ && _ && false && _) = false
    simp

/-! ### Loss of power -/

theorem State.powerRemoved_ends (s : State) : exec .powerRemoved s = .next s.powerRemoved := State.ends_nil _ rfl

theorem State.tearNv_none (s : State) (h : s.recorder.nvPending = none) : s.tearNv = s := by
  rw [State.tearNv, State.nvWriteTimeout, h]

theorem State.tearNv_some (s : State) (i t : Nat) (x : List Byte) (h : s.recorder.nvPending = some (i, t, x)) :
    s.tearNv = { s with
      draws := s.draws + 1
      recorder := { s.recorder with nv := s.recorder.nv.set i (s.tornBytes i x), nvFail := true, nvPending := none } } := by
  rw [State.tearNv, s.nvWriteTimeout_pending i t x h]

/-- It is the recorder and the free values alone that change. -/
theorem State.tearNv_frame (s : State) : ∃ (r : Recorder) (d : Nat), s.tearNv = { s with recorder := r, draws := d } := by
  cases h : s.recorder.nvPending with
  | none => exact ⟨_, _, s.tearNv_none h⟩
  | some q => exact ⟨_, _, s.tearNv_some q.1 q.2.1 q.2.2 h⟩

end Sys2Proof.Machine
end

section
/-! SETTLED. The statement on OFF, the loss of power, the budget and the hint: O51. -/

namespace Sys2Proof.Machine

/-- Settles O51: PWR_CTRL by what it finds, OFF at the end of the persistence, and the three small registers. That a write in flight
leaves old and new bytes is the choice of log entry 22, that a wake is an unplanned cause is that of log entry 67, and that OFF waits
for the write to end is that of log entry 103. -/
theorem offBudgetAndHint : Obligations.OffBudgetAndHint := by
  unfold Obligations.OffBudgetAndHint
  refine ⟨?off, ?ends, ?wake, ?removed, ?reclaim, ?budget, ?hint⟩
  case off =>
    rintro p s z h rfl pending
    have quiet : (s.accessed p R.PWR_CTRL).recorder.raised = [] := by rw [State.accessed_recorder, h.quiet]
    rw [exec_pwrOff p s h]
    generalize s.accessed p R.PWR_CTRL = z at *
    refine ⟨fun refused => ?_, fun i g may target gen => ?_⟩
    · rw [z.goOff_refused pending refused]
      exact State.movedFrom_ends _ s quiet
    · subst target gen
      rw [z.goOff_persists pending may]
      exact State.movedFrom_ends _ s quiet
  case ends =>
    intro s i t x h pending written
    refine ⟨?_, ?_⟩
    · obtain ⟨u, run, off, unready, dark, ended, posted, nv, wires, pulses, -, frame⟩ := s.nvWriteAck.finishOff_off
        (by rw [s.nvWriteAck_pending i t x written]; exact pending)
      rw [s.nvWriteAck_pending i t x written] at posted nv frame
      exact ⟨u, (exec_nvWriteAck s h).trans run, off, unready, dark, ended, posted, nv, wires, pulses,
        congrArg (fun z : State => { z with recorder := s.recorder }) frame⟩
    · obtain ⟨u, run, off, unready, dark, ended, posted, -, wires, pulses, now, frame⟩ := s.nvWriteTimeout.finishOff_off
        (by rw [s.nvWriteTimeout_pending i t x written]; exact pending)
      rw [s.nvWriteTimeout_pending i t x written] at posted now frame
      exact ⟨u, (exec_nvWriteTimeout s h).trans run, off, unready, dark, ended, posted, now, wires, pulses,
        congrArg (fun z : State => { z with now := s.now, draws := s.draws, recorder := s.recorder }) frame⟩
  case wake =>
    rintro p s z h rfl pending on
    have quiet : (s.accessed p R.PWR_CTRL).recorder.raised = [] := by rw [State.accessed_recorder, h.quiet]
    rw [exec_pwrWake p s h]
    generalize s.accessed p R.PWR_CTRL = z at *
    refine ⟨fun asleep => ?_, fun awake => ?_⟩
    · rw [z.wakeCommand_asleep pending asleep]
      refine State.movedFrom_ends _ s ?_
      split
      · rw [State.beginWake_recorder]
        exact quiet
      · exact quiet
    · rw [z.wakeCommand_awake pending on awake]
      rfl
  case removed =>
    intro s
    obtain ⟨r, d, torn⟩ := s.tearNv_frame
    refine ⟨_, s.powerRemoved_ends, rfl, rfl, ?_, ?_, ?_, ?_, rfl, rfl, rfl, rfl, fun still => ?_, fun i t x written => ?_⟩
    · show s.tearNv.mem = _
      rw [torn]
    · show s.tearNv.die = _
      rw [torn]
    · show s.tearNv.out = _
      rw [torn]
    · show s.tearNv.pending = _
      rw [torn]
    · exact congrArg (·.recorder.nv) (s.tearNv_none still)
    · exact ⟨_, congrArg (·.recorder.nv) (s.tearNv_some i t x written), s.tornBytes_length i x, fun k => s.tornBytes_mixed i x k⟩
  case reclaim =>
    intro s h
    exact (congrArg State.ends (s.aocRunning_up _ h)).trans (State.ends_nil _ h.quiet)
  case budget =>
    intro mw s h
    exact (congrArg State.ends (s.aocRunning_up _ h)).trans (State.ends_nil _ h.quiet)
  case hint =>
    rintro p v s z h rfl
    have quiet : (s.accessed p R.PWR_HINT).recorder.raised = [] := by rw [State.accessed_recorder, h.quiet]
    rw [exec_pwrHintWrite p v s h]
    generalize s.accessed p R.PWR_HINT = z at *
    have hint : z.writeHint v.toNat = { z.setReg R.PWR_HINT v with power := { z.power with
        hintAt := if v = 0#32 then none else some (z.now + 100 * v.toNat) } } := by
      have zero : v.toNat = 0 ↔ v = 0#32 := by simp [← BitVec.toNat_inj]
      rw [State.writeHint, w32_toNat, if_congr zero rfl rfl]
      simp [State.setPower, us, Nat.mul_comm]
    rw [hint]
    exact State.movedFrom_ends _ s quiet

end Sys2Proof.Machine
end

section
/-! SUPPORT. The recorder (R381 to R391): storing a record, the registers of page REC, and the slots of the NV store. -/

namespace Sys2Proof.Machine

/-! ### Storing a record -/

/-- What waits at the boundary does not move when waiting events are taken. -/
theorem State.takeWaiting_records (n : Nat) : ∀ s : State, s.Records (s.takeWaiting n) := by
  induction n with
  | zero => exact State.Records.refl
  | succ n ih =>
    intro s
    unfold State.takeWaiting
    split
    · exact .refl s
    · split
      · exact .trans ⟨_, _, _, _, _, _, rfl⟩ (ih _)
      · exact .refl s

theorem State.takeWaiting_none (s : State) (n : Nat) (h : s.recorder.waiting = []) : s.takeWaiting n = s := by
  cases n with
  | zero => rfl
  | succ n => rw [State.takeWaiting, h]

theorem State.takeWaiting_first (s : State) (e : Event) (l : List Event) (n : Nat) (h : s.recorder.waiting = e :: l) :
    s.takeWaiting (n + 1) = if s.recorder.queue.length < 16
      then (({ s with recorder := { s.recorder with waiting := l } } : State).takeRec (s.recordOf e)).takeWaiting n else s := by
  rw [State.takeWaiting, h]
  rfl

/-- The count of overwritten records is not the register of the watermark. -/
theorem State.watermark_overwritten (s : State) (v : Word) : (s.setReg R.REC_OVERWRITTEN v).watermark = s.watermark := by
  have apart : (s.setReg R.REC_OVERWRITTEN v).reg R.REC_CTRL = s.reg R.REC_CTRL := by
    simp only [State.reg, State.setReg, State.regKey_setKey]
    exact if_neg (by decide)
  rw [State.watermark, apart]
  rfl

/-- The oldest record of the write queue goes to the ring (R381 to R383, R392). -/
theorem State.recordStore_stores (s a b : State) (x : Rec) (q : List Rec) (hq : s.recorder.queue = x :: q)
    (ha : a = { s with recorder := { s.recorder with
          queue := q, ring := put s.recorder.ring (x.seq % 8192) x, head := (s.recorder.head + 1) % 2 ^ 32
          tail := if s.recorder.held = 8192 then (s.recorder.tail + 1) % 2 ^ 32 else s.recorder.tail
          wrapped := s.recorder.wrapped || s.recorder.held == 8192 } })
    (hb : b = if s.recorder.held = 8192 then (a.setReg R.REC_OVERWRITTEN (s.reg R.REC_OVERWRITTEN + 1#32)).raise 0x1B 2 else a) :
    s.recordStore = (if s.recorder.held < s.watermark ∧ s.watermark ≤ a.recorder.held then b.raise 0x1B 1 else b).takeWaiting 16 := by
  have stored : s.setRecorder (fun r => r.store x q) = a := by
    subst ha
    simp [State.setRecorder, Recorder.store]
  have lost : (if s.recorder.held = 8192 then (a.bump R.REC_OVERWRITTEN 1).raise 0x1B 2 else a) = b := by
    subst hb ha
    rfl
  have mark : b.watermark = s.watermark := by
    subst hb ha
    split
    · exact State.watermark_overwritten _ _
    · rfl
  have held : b.recorder.held = a.recorder.held := by
    subst hb
    split <;> rfl
  unfold State.recordStore
  rw [hq]
  dsimp only
  rw [stored, lost, mark, held]

theorem exec_recordStore (s : State) (h : AocRuns s) : exec .recordStore s = s.storeRecord.ends :=
  congrArg State.ends (s.aocRunning_up _ h)

/-! ### The registers of page REC -/

theorem exec_recTailWrite (p : Port) (v : Word) (s : State) (h : Writes s p R.REC_TAIL v) :
    exec (.recTailWrite p v) s = (((s.accessed p R.REC_TAIL).putTail p v.toNat).movedFrom s).ends :=
  congrArg State.ends (State.write_REC_TAIL s p v cleanTest h)

/-- Only the control port moves the tail, and only within the stored records (R390). -/
theorem State.putTail_eq (z : State) (p : Port) (v : Nat) : z.putTail p v = { z with recorder := (
    if p = Port.control ∧ seqFrom z.recorder.tail v ≤ z.recorder.held then { z.recorder with tail := v, tailReject := false }
    else { z.recorder with tailReject := true }) } := by
  unfold State.putTail State.writeTail State.setRecorder
  by_cases control : p = Port.control <;> by_cases within : seqFrom z.recorder.tail v ≤ z.recorder.held <;> simp [control, within]

theorem exec_recCursorWrite (p : Port) (v : Word) (s : State) (h : Writes s p R.REC_CURSOR v) :
    exec (.recCursorWrite p v) s = .next (((s.accessed p R.REC_CURSOR).setReg R.REC_CURSOR v).movedFrom s) := by
  have whole : ∀ w : Word, w32 (legal R.REC_CURSOR (mapMinus w.toNat 0xFFFFFFFF + (v.toNat &&& 0xFFFFFFFF))) = v := by
    intro w
    rw [mapMinus_word, and_word, Nat.zero_add]
    exact w32_toNat v
  have run := State.write_REC_CURSOR s p v cleanTest h
  rw [State.putPlain_inst _ _ _ _ _ (by decide), whole] at run
  exact (congrArg State.ends run).trans (State.movedFrom_ends _ s (by simpa using h.quiet))

/-! ### Slots of the NV store -/

theorem length_leBytes (v n : Nat) : (leBytes v n).length = n := by
  induction n generalizing v with
  | zero => rfl
  | succ n ih => rw [leBytes, List.length_cons, ih]

theorem leNat_leBytes (v k : Nat) : leNat (leBytes v k) = v % 256 ^ k := by
  induction k generalizing v with
  | zero => rw [Nat.pow_zero, Nat.mod_one]; rfl
  | succ k ih =>
    rw [leBytes, leNat, ih, BitVec.toNat_ofNat, Nat.pow_succ' (n := k), Nat.mod_mul]

/-- A field of a byte string reads what was written there. -/
theorem leAt_field (a c : List Byte) (v n : Nat) (hv : v < 256 ^ n) (o : Nat) (ho : a.length = o) :
    leAt (a ++ (leBytes v n ++ c)) o n = v := by
  rw [leAt, ← ho, List.drop_left, List.take_left' (length_leBytes v n), leNat_leBytes, Nat.mod_eq_of_lt hv]

theorem crcBit_lt (c : Nat) (h : c < 2 ^ 32) : crcBit c < 2 ^ 32 := by
  have half : c >>> 1 < 2 ^ 32 := (Nat.shiftRight_le c 1).trans_lt h
  unfold crcBit
  split
  · exact Nat.xor_lt_two_pow half (by decide)
  · exact half

theorem crcByte_lt (c : Nat) (b : Byte) (h : c < 2 ^ 32) : crcByte c b < 2 ^ 32 := by
  have start : c ^^^ b.toNat < 2 ^ 32 := Nat.xor_lt_two_pow h (b.isLt.trans (by decide))
  unfold crcByte
  repeat apply crcBit_lt
  exact start

theorem crc32c_lt (l : List Byte) : crc32c l < 256 ^ 4 := by
  have fold : ∀ c < 2 ^ 32, l.foldl crcByte c < 2 ^ 32 := by
    induction l with
    | nil => exact fun c h => h
    | cons b l ih => exact fun c h => ih _ (crcByte_lt c b h)
  exact Nat.xor_lt_two_pow (n := 32) (fold _ (by decide)) (by decide)

theorem NvSlot.head_length (x : NvSlot) : x.head.length = 12 := by simp [NvSlot.head, length_leBytes]

theorem NvSlot.bytes_length (x : NvSlot) : x.bytes.length = 16 := by simp [NvSlot.bytes, x.head_length, length_leBytes]

/-- A slot reads what was written to it (R386). -/
theorem nvRead_bytes (x : NvSlot) (time : x.optime < 2 ^ 48) (count : x.count < 2 ^ 16) (gen : x.gen < 2 ^ 32) :
    nvRead x.bytes = some x := by
  have crc : leAt x.bytes 12 4 = crc32c x.head := by
    simpa [NvSlot.bytes] using leAt_field x.head [] (crc32c x.head) 4 (crc32c_lt _) 12 x.head_length
  have head : x.bytes.take 12 = x.head := List.take_left' x.head_length
  have fields : x.bytes = leBytes x.optime 6 ++ (leBytes x.count 2 ++ (leBytes x.gen 4 ++ leBytes (crc32c x.head) 4)) := by
    simp [NvSlot.bytes, NvSlot.head]
  have optime : leAt x.bytes 0 6 = x.optime := by
    rw [fields]
    exact leAt_field [] _ x.optime 6 (by omega) 0 rfl
  have counted : leAt x.bytes 6 2 = x.count := by
    rw [fields]
    exact leAt_field _ _ x.count 2 (by omega) 6 (length_leBytes _ _)
  have generation : leAt x.bytes 8 4 = x.gen := by
    rw [fields, ← List.append_assoc]
    exact leAt_field _ _ x.gen 4 (by omega) 8 (by simp [length_leBytes])
  rw [nvRead, crc, head, if_pos rfl, optime, counted, generation]

end Sys2Proof.Machine
end

section
/-! SETTLED. The statements on the recorder: O57 to O59. -/

namespace Sys2Proof.Machine

/-- Settles O57: the oldest record is stored, and events that waited follow; taking them leaves what the boundary's requests wait for
as it was. -/
theorem recordStoreFillsItsSlot : Obligations.RecordStoreFillsItsSlot := by
  unfold Obligations.RecordStoreFillsItsSlot
  intro s a b c x q h hq ha hb hc
  have stores : s.recordStore = c.takeWaiting 16 := hc ▸ s.recordStore_stores a b x q hq ha hb
  have kept : c.recorder = a.recorder ∧ c.rst = a.rst ∧ c.dbg = a.dbg ∧ c.power = a.power := by
    subst hc hb
    split <;> split <;> simp
  obtain ⟨recorder, rst, dbg, power⟩ := kept
  have waiting : c.recorder.waiting = s.recorder.waiting := by rw [recorder, ha]
  have raised : c.recorder.raised = s.recorder.raised := by rw [recorder, ha]
  have ready : c.isReady = s.isReady := by rw [State.isReady, rst, dbg, power, ha]; rfl
  have clock : c.clockRuns = s.clockRuns := by rw [State.clockRuns, power, ha]; rfl
  rw [exec_recordStore s h, State.storeRecord, stores]
  refine ⟨fun settled => ?_, fun waits => ?_, fun e l n => c.takeWaiting_first e l n⟩
  · rw [c.takeWaiting_none 16 (waiting.trans settled)]
    exact (congrArg State.ends (if_neg (by simp [settled]))).trans (State.ends_nil _ (raised.trans h.quiet))
  · obtain ⟨g, p, m, q, r, w, taken⟩ := c.takeWaiting_records 16
    have served : (c.takeWaiting 16).isReady = s.isReady ∧ (c.takeWaiting 16).clockRuns = s.clockRuns := by
      rw [taken]
      exact ⟨ready, clock⟩
    obtain ⟨ready, clock⟩ := served
    refine congrArg State.ends (if_congr ?_ rfl rfl)
    rw [ready, clock]
    simp [waits]

/-- Settles O58: the two registers by their writes, and each event as it changes the recorder alone. -/
theorem recorderRegistersEraseAndTime : Obligations.RecorderRegistersEraseAndTime := by
  unfold Obligations.RecorderRegistersEraseAndTime
  refine ⟨?tail, exec_recCursorWrite, ?erase, ?message, ?lost⟩
  case tail =>
    rintro p v s z h rfl
    rw [exec_recTailWrite p v s h, State.putTail_eq, State.accessed_recorder]
    refine State.movedFrom_ends _ s ?_
    dsimp only
    split <;> exact h.quiet
  case erase =>
    intro s n h erase
    refine (congrArg State.ends (s.aocRunning_up _ h)).trans ?_
    rw [State.recEraseEnd, erase]
    exact State.ends_nil _ h.quiet
  case message =>
    intro ns s h
    exact (congrArg State.ends (s.aocRunning_up _ h)).trans (State.ends_nil _ h.quiet)
  case lost =>
    intro s t h locked last
    refine (congrArg State.ends (s.aocRunning_up _ h)).trans ?_
    rw [State.timeLockLost, locked, last]
    exact State.ends_nil _ h.quiet

/-- Settles O59: a slot reads back what it was written, and the write's three steps. That slot 0 is the first one written and 1 the
first generation, and that each byte of an unacknowledged write is an old or a new one, are the choices of log entry 22. -/
theorem persistenceWritesTheOtherSlot : Obligations.PersistenceWritesTheOtherSlot := by
  unfold Obligations.PersistenceWritesTheOtherSlot
  refine ⟨fun x => ⟨x.bytes_length, nvRead_bytes x⟩, ?persist, ?acknowledged, ?late⟩
  case persist =>
    rintro s z i g h target rfl rfl
    have slot : i = s.recorder.nvTarget := by
      rw [target, Recorder.nvTarget]
      simp
    subst slot
    exact (congrArg State.ends (s.aocRunning_up _ h)).trans (State.movedFrom_ends _ s h.quiet)
  case acknowledged =>
    intro s i t x h plain written
    rw [exec_nvWriteAck s h, s.nvWriteAck_pending i t x written, State.finishOff_none _ (by exact plain)]
    exact State.ends_nil _ h.quiet
  case late =>
    intro s i t x h plain written
    refine ⟨_, s.tornBytes_length i x, fun k => s.tornBytes_mixed i x k, ?_⟩
    rw [exec_nvWriteTimeout s h, s.nvWriteTimeout_pending i t x written, State.finishOff_none _ (by exact plain)]
    exact State.ends_nil _ h.quiet

end Sys2Proof.Machine
end

section
/-! SUPPORT. A power-on reset (R366, R369, R371, R375, R387): the recorder over the isolation that it begins with, and the boot that
no halt of the sequencer ends. -/

namespace Sys2Proof.Machine

/-! ### The recorder over an isolation -/

/-- A state whose recorder differs from an earlier one's in the events that it has yet to take alone. -/
def State.OnlyRaises (a b : State) : Prop := ∃ l, b.recorder = { a.recorder with raised := l }

theorem State.OnlyRaises.of_recorder {a b : State} (h : b.recorder = a.recorder) : a.OnlyRaises b := ⟨a.recorder.raised, h⟩

theorem State.OnlyRaises.trans {a b c : State} (h : a.OnlyRaises b) (k : b.OnlyRaises c) : a.OnlyRaises c := by
  obtain ⟨l, hl⟩ := h
  obtain ⟨l', hl'⟩ := k
  exact ⟨l', by rw [hl', hl]⟩

theorem State.OnlyRaises.foldl {α : Type} (f : State → α → State) (h : ∀ (s : State) x, s.OnlyRaises (f s x)) (l : List α) :
    ∀ s : State, s.OnlyRaises (l.foldl f s) := by
  induction l with
  | nil => exact fun s => .of_recorder rfl
  | cons x l ih => exact fun s => (h s x).trans (ih (f s x))

theorem State.complete_onlyRaises (s : State) (op : BitVec 8) (c : Cmd) (a : Answer) : s.OnlyRaises (s.complete op c a) := by
  have answers : ∀ (d : Completion) (z : State) (k : Ticket), z.OnlyRaises (z.answerCopy k d) := fun d z k =>
    ⟨_, State.log_recorder ((z.outCompletion { d with queue := k.queue }).bump R.SHT_DUP_COUNT 1) _ _ _⟩
  unfold State.complete
  dsimp only
  split
  · exact .of_recorder rfl
  · exact .trans (.of_recorder rfl) (.foldl _ (answers _) _ _)

theorem State.pulseQueue_recorder (s : State) (q : Nat) : (s.pulseQueue q).recorder = s.recorder := by
  unfold State.pulseQueue
  split <;> rfl

theorem State.endWait_onlyRaises (s : State) (w : Wait) (status : Nat) (result : Option Nat) (clap : Bool) :
    s.OnlyRaises (s.endWait w status result clap) := by
  have lent : ∀ z : State, z.OnlyRaises (if w.lent then z.outPower (4 + 2 ^ 8 * w.cmd.queue.val) else z) := by
    intro z
    split <;> exact .of_recorder rfl
  have clapped : ∀ z : State, z.OnlyRaises (if clap && !w.abter then z.pulseQueue w.cmd.queue.val else z) := by
    intro z
    split
    · exact .of_recorder (z.pulseQueue_recorder _)
    · exact .of_recorder rfl
  exact (s.complete_onlyRaises _ _ _).trans ((lent _).trans (clapped _))

theorem State.poisonInFlight_recorder (s : State) : s.poisonInFlight.recorder = s.recorder := by
  have beats : ∀ (l : List Beats) (z : State), (l.foldl State.outBeats z).recorder = z.recorder := by
    intro l
    induction l with
    | nil => exact fun z => rfl
    | cons b l ih => exact fun z => ih (z.outBeats b)
  exact beats _ _

/-- An isolation takes no event: what it raises waits for the end of its cycle (R28). -/
theorem State.beginIsolation_onlyRaises (s : State) : s.OnlyRaises s.beginIsolation := by
  have waits : s.OnlyRaises (s.endWaits (fun _ => true) 0x26 true) :=
    .trans (.of_recorder rfl) (.foldl _ (fun z w => z.endWait_onlyRaises w 0x26 none true) _ _)
  have pulses := State.OnlyRaises.foldl State.pulseQueue (fun z q => .of_recorder (z.pulseQueue_recorder q)) (List.range 64)
    (s.endWaits (fun _ => true) 0x26 true)
  have answered : ∀ z : State, z.OnlyRaises z.poisonInFlight.refuseHeld := fun z => .of_recorder z.poisonInFlight_recorder
  have noted : ∀ (z : State) (iso : Nat × Nat × Nat), z.OnlyRaises (z.setRst (fun r => { r with iso := iso })) :=
    fun z iso => .of_recorder rfl
  exact waits.trans (pulses.trans ((answered _).trans (noted _ _)))

/-! ### A boot that no halt ends -/

/-- Logging leaves DBG_CTRL as it was. -/
theorem State.log_seqHalt (s : State) (code source : Nat) (ps : List Word) (h : R.DBG_CTRL ≠ R.FLT_CNT + 4 * (code / 256 - 1)) :
    (s.log code source ps).seqHalt = s.seqHalt := by
  rw [State.seqHalt, State.reg, State.log_regKey _ _ _ _ _ h]
  rfl

theorem State.recordReset_seqHalt (s : State) : s.recordReset.seqHalt = s.seqHalt := by
  unfold State.recordReset
  dsimp only
  split
  case h_6 => rfl
  all_goals exact s.log_seqHalt _ _ _ (by decide)

theorem State.recordFlush_seqHalt (s : State) : s.recordFlush.seqHalt = s.seqHalt := by
  unfold State.recordFlush
  dsimp only
  split
  · rfl
  · exact State.log_seqHalt _ _ _ _ (by decide)

theorem State.takeHalt_unhalted (s : State) (run : s.seqHalt = false) : s.takeHalt = s := if_neg (by simp [run])

theorem State.recordReset_records (s : State) : s.Records s.recordReset := by
  unfold State.recordReset
  dsimp only
  split
  case h_6 => exact .refl s
  all_goals exact s.log_records _ _ _

theorem State.recordFlush_records (s : State) :
    ({ s with rst := { s.rst with iso := (0, 0, 0) } } : State).Records s.recordFlush := by
  unfold State.recordFlush
  dsimp only
  split
  · exact .refl _
  · exact State.log_records _ _ _ _

theorem State.Records.flushed {a b : State} (h : a.Records b) : ({ a with rst := { a.rst with iso := (0, 0, 0) } } : State).Records
    { b with rst := { b.rst with iso := (0, 0, 0) } } := by
  obtain ⟨g, p, m, q, r, w, rfl⟩ := h
  exact ⟨g, p, m, q, r, w, rfl⟩

/-- READY of an instance whose sequencer DBG_CTRL does not halt (R375, R412). -/
theorem State.reachReady_unhalted (s : State) (run : s.seqHalt = false) : ∃ pds : NMap Pd, ({ s with
    rst := { s.rst with phase := .ready, readyUs := (s.now - s.rst.releasedAt) / 100, iso := (0, 0, 0) }
    power := { s.power with since := s.now, pds := pds } } : State).Records s.reachReady := by
  have noted : ∀ (z : State) (was0 was1 : Bool), z.Records (z.noteIrq was0 was1) := fun z _ _ => ⟨_, _, _, _, _, _, rfl⟩
  unfold State.reachReady
  dsimp only
  rw [State.takeHalt_unhalted _ (by rw [State.recordFlush_seqHalt, State.recordReset_seqHalt]; exact run)]
  exact ⟨_, .trans (.flushed (.trans (.trans (noted _ _ _) (State.raise_records _ _ _)) (State.recordReset_records _)))
    (State.recordFlush_records _)⟩

/-- What a clean boot from ROM leaves, where no halt ends it. -/
theorem State.clearAndBoot_unhalted (s : State) (h : s.rst.bootSrc = 0#2) (run : s.seqHalt = false) : ∃ (us : Nat) (pds : NMap Pd),
    ({ s with
      now := s.romReady
      rst := { s.rst with phase := .ready, bootResult := 0, readyUs := us, iso := (0, 0, 0) }
      power := { s.power with since := s.romReady, pds := pds } } : State).Records (s.clearAndBoot cleanTest).takeRaised := by
  obtain ⟨pds, ready⟩ := State.reachReady_unhalted
    { s with now := s.romReady, rst := { s.rst with phase := .boot, bootResult := 0 } } run
  rw [s.clearAndBoot_rom h]
  exact ⟨_, pds, ready.trans (State.takeRaised_records _)⟩

/-! ### por_n -/

/-- What a power-on reset leaves of the instance before its boot (R369, R371, R387). -/
def State.powered (s : State) (bootSrc clkMode : BitVec 2) : State :=
  ({ s.blank with
    now := 1
    recorder := Recorder.powerOn s.recorder.nv
    power := { PowerUnit.init with pds := s.keepRequests }
    rst := { ResetUnit.init with phase := .lock, bootSrc := bootSrc, clkMode := clkMode, iso := s.rst.iso } } : State).persist

/-- The instance, with what the isolation of a powered one leaves. -/
def State.isolated (s : State) : State := if s.rst.powered then s.beginIsolation.dropWrites s.outstandingWrites else s

theorem State.powerOn_eq (s : State) (bootSrc clkMode : BitVec 2) (test : BootTest) : s.powerOn bootSrc clkMode test =
    ((s.isolated.tearNv.powered bootSrc clkMode).advanceTo
      ((s.isolated.tearNv.powered bootSrc clkMode).now + us 20)).clearAndBoot test := rfl

/-- With no write in flight an isolation leaves memory, the die, the commands that wait and the NV store (R316). -/
theorem State.isolated_outlasts (s : State) (h : s.outstandingWrites = []) :
    s.isolated.mem = s.mem ∧ s.isolated.die = s.die ∧ s.isolated.pending = s.pending ∧ s.OnlyRaises s.isolated := by
  unfold State.isolated
  split
  · obtain ⟨m, d, dropped, kept, -⟩ := s.beginIsolation.dropWrites_frame s.outstandingWrites
    have same := s.beginIsolation_outlasts
    rw [dropped]
    exact ⟨(kept h).trans same.mem, same.die, same.pending, s.beginIsolation_onlyRaises⟩
  · exact ⟨rfl, rfl, rfl, .of_recorder rfl⟩

/-- The power-cycle count goes up by one, or starts at one (R387). -/
theorem Recorder.powerOn_pcycles (nv : List (List Byte)) :
    (Recorder.powerOn nv).pcycles = ((nvTaken nv).map (fun x => min 0xFFFF (x.2.count + 1))).getD 1 := by
  unfold Recorder.powerOn
  split
  · next h => rw [h]; rfl
  · next h => rw [h]; rfl

/-- At the reset values of the registers no halt is asked for. -/
theorem seqHalt_reset : State.reset.seqHalt = false := by decide +kernel

end Sys2Proof.Machine
end

section
/-! SETTLED. The statement on the power-on reset: O53. -/

namespace Sys2Proof.Machine

/-- Settles O53: the isolation and the NV store leave what is outside the instance, the clearing all else at its reset value, and a
clean boot from ROM changes time, phase and records alone. The statement leaves the registers and page headers free. -/
theorem powerOnResetBootsFromRom : Obligations.PowerOnResetBootsFromRom := by
  unfold Obligations.PowerOnResetBootsFromRom
  intro m s idle
  have unwritten : s.outstandingWrites = [] := by simp [State.outstandingWrites, idle]
  obtain ⟨mem, die, pending, l, raises⟩ := s.isolated_outlasts unwritten
  obtain ⟨r, d, torn⟩ := s.isolated.tearNv_frame
  have nv : s.recorder.nvPending = none → s.isolated.tearNv.recorder.nv = s.recorder.nv := fun still => by
    rw [State.tearNv_none _ (by rw [raises]; exact still), raises]
  obtain ⟨us, pds, g, p, i, q, e, w, boots⟩ := State.clearAndBoot_unhalted
    ((s.isolated.tearNv.powered 0#2 m).advanceTo ((s.isolated.tearNv.powered 0#2 m).now + us 20)) rfl seqHalt_reset
  refine ⟨_, (congrArg State.ends (s.powerOn_eq 0#2 m cleanTest)).trans (congrArg Host.Outcome.next boots), rfl, rfl, rfl, rfl, rfl, rfl,
    rfl, fun still => ?_, ?_, ?_, ?_, rfl⟩
  · exact (Recorder.powerOn_pcycles _).trans (by rw [nv still])
  · exact (congrArg State.mem torn).trans mem
  · exact (congrArg State.die torn).trans die
  · exact (congrArg State.pending torn).trans pending

end Sys2Proof.Machine
end

section
/-! SUPPORT. Boot by strap (R372, R375): the sibling's image and its absence, and the vendor's go. -/

namespace Sys2Proof.Machine

/-- The instance is READY, with the result of the boot, memory and the slates as they were. -/
structure State.Booted (s u : State) : Prop where
  ready : u.rst.phase = .ready
  result : u.rst.bootResult = s.rst.bootResult
  mem : u.mem = s.mem
  ledger : u.ledger = s.ledger

/-- It is so in any state with the same reset unit, memory and slates. -/
theorem State.Booted.of_same {s u v : State} (h : s.Booted u) (rst : v.rst = u.rst) (mem : v.mem = u.mem)
    (ledger : v.ledger = u.ledger) : s.Booted v :=
  ⟨by rw [rst, h.ready], by rw [rst, h.result], mem.trans h.mem, ledger.trans h.ledger⟩

theorem State.openPorts_booted (s : State) (n : Nat) : s.Booted (s.openPorts n) := by
  obtain ⟨pds, halted, r, g, p, o, ready, -⟩ :=
    State.reachReady_notes { s with now := s.now + ceilDiv (n + 2000) (clkRate s.rst.clkMode) + 2 }
  rw [s.openPorts_eq, ready]
  exact ⟨rfl, rfl, rfl, rfl⟩

theorem State.Booted.takeRaised {s u : State} (h : s.Booted u) : s.Booted u.takeRaised := by
  obtain ⟨g, p, m, q, r, w, taken⟩ := u.takeRaised_records
  rw [taken]
  exact h.of_same rfl rfl rfl

/-- A state that differs from an earlier one in the power unit and the outputs alone. -/
def State.Wakes (a b : State) : Prop := ∃ p o, b = { a with power := p, out := o }

theorem State.Wakes.trans {a b c : State} (h : a.Wakes b) (k : b.Wakes c) : a.Wakes c := by
  obtain ⟨p, o, rfl⟩ := h
  obtain ⟨p', o', rfl⟩ := k
  exact ⟨p', o', rfl⟩

theorem State.beginWake_wakes (s : State) (n : Nat) : s.Wakes (s.beginWake n) := by
  unfold State.beginWake
  split
  · exact ⟨_, _, rfl⟩
  · dsimp only
    split <;> exact ⟨_, _, rfl⟩

/-- Moving wake_at changes the power unit and what leaves on its bus (R356, R361). -/
theorem State.movedFrom_wakes (s was : State) : s.Wakes (s.movedFrom was) := by
  have begun : ∀ (z : State) (c : Prop) [Decidable c], z.Wakes (if c then z.beginWake 0 else z) := by
    intro z c _
    split
    · exact z.beginWake_wakes 0
    · exact ⟨_, _, rfl⟩
  unfold State.movedFrom
  split
  · unfold State.moveWake
    split
    · exact ⟨_, _, rfl⟩
    · exact .trans ⟨_, _, rfl⟩ (begun _ _)
  · exact ⟨_, _, rfl⟩

theorem State.Booted.movedFrom {s u : State} (h : s.Booted u) (was : State) : s.Booted (u.movedFrom was) := by
  obtain ⟨p, o, moved⟩ := u.movedFrom_wakes was
  rw [moved]
  exact h.of_same rfl rfl rfl

/-! ### The three sources -/

theorem State.bootWaits_phase (s : State) (src : BitVec 2) (hp : s.rst.powered = true) (hb : s.rst.phase = .boot)
    (hs : s.rst.bootSrc = src) : s.bootWaits src = true := by
  simp [State.bootWaits, hp, hb, hs]

section
variable (s : State) (waits : s.bootWaits 2#2 = true)
include waits

theorem exec_siblingImageReceived : exec .siblingImageReceived s = .next (s.openPorts 120000).takeRaised :=
  congrArg State.ends (if_pos waits)

theorem exec_siblingBootTimeout : exec .siblingBootTimeout s =
    .next ((s.setRst (fun r => { r with bootResult := 1 })).openPorts 200000).takeRaised :=
  congrArg State.ends (if_pos waits)

end

theorem exec_bootGo (p : Port) (ext : List Host.Cell) (s : State) (h : Writes (s.external ext) p R.RST_BOOT_CTRL 1#32) :
    exec (.bootGo p ext) s = (((s.external ext).accessed p R.RST_BOOT_CTRL).bootGo.movedFrom (s.external ext)).ends := by
  have run := State.write_RST_BOOT_CTRL _ p 1#32 cleanTest h
  rw [State.onBits_set _ _ 0 _ _ (by decide), State.onBits_nil] at run
  exact congrArg State.ends run

/-- The vendor's go checks the image in memory (R372). -/
theorem State.bootGo_waits (z : State) (waits : z.bootWaits 1#2 = true) : z.bootGo =
    if bootImageGood (Memory.read z.mem (z.reg64 R.RST_BOOT_ADDR 0) (fld (z.reg R.RST_BOOT_BYTES).toNat 0 24))
    then (z.setRst (fun r => { r with bootResult := 0 })).openPorts 80000 else z.setRst (fun r => { r with bootResult := 2 }) :=
  if_neg (by simp [waits])

end Sys2Proof.Machine
end

section
/-! SETTLED. The statement on the boot sources: O56. -/

namespace Sys2Proof.Machine

/-- Settles O56: an image of the sibling or its absence, and a good image of the vendor, open the ports, which leaves the result, memory
and the slates; a bad image is reported. How long each boot takes is the choice of log entry 23. -/
theorem bootFollowsTheStrap : Obligations.BootFollowsTheStrap := by
  unfold Obligations.BootFollowsTheStrap
  refine fun s h boot => ⟨fun sibling => ⟨?image, ?absent⟩, ?vendor⟩
  case image =>
    have boots := (s.openPorts_booted 120000).takeRaised
    exact ⟨_, exec_siblingImageReceived s (s.bootWaits_phase 2#2 h.powered boot sibling),
      boots.ready, boots.result, boots.mem, boots.ledger⟩
  case absent =>
    have boots := ((s.setRst (fun r => { r with bootResult := 1 })).openPorts_booted 200000).takeRaised
    exact ⟨_, exec_siblingBootTimeout s (s.bootWaits_phase 2#2 h.powered boot sibling),
      boots.ready, boots.result, boots.mem, boots.ledger⟩
  case vendor =>
    rintro p ext x z img source rfl hw hz himg
    have frame : z.rst = s.rst ∧ z.mem = (s.external ext).mem ∧ z.ledger = s.ledger ∧ z.recorder = s.recorder := by
      rw [hz]
      simp
    obtain ⟨rst, mem, ledger, recorder⟩ := frame
    have go := z.bootGo_waits (z.bootWaits_phase 1#2 (rst ▸ h.powered) (rst ▸ boot) (rst ▸ source))
    rw [mem, ← himg] at go
    rw [exec_bootGo p ext s hw, ← hz, go]
    refine ⟨fun good => ?_, fun bad => ?_⟩
    · rw [if_pos good]
      have boots := (((z.setRst (fun r => { r with bootResult := 0 })).openPorts_booted 80000).movedFrom (s.external ext)).takeRaised
      exact ⟨_, rfl, boots.ready, boots.result, boots.mem.trans mem, boots.ledger.trans ledger⟩
    · rw [if_neg (by simp [bad]), ← rst]
      refine State.movedFrom_ends _ _ ?_
      rw [← h.quiet, ← recorder]
      rfl

end Sys2Proof.Machine
end

section
/-! SUPPORT. Core resets, RST_CMD and the watchdog (R366 to R370): the sources of one cycle, and the level that they reach. -/

namespace Sys2Proof.Machine

/-! ### RST_CMD -/

theorem exec_resetCommand (p : Port) (v : Word) (t : BootTest) (s : State) (h : Writes s p R.RST_CMD v) :
    exec (.resetCommand p v t) s = (((s.accessed p R.RST_CMD).resetCommand p v.toNat t).movedFrom s).ends :=
  congrArg State.ends (State.write_RST_CMD s p v t h)

section
variable (z : State) (p : Port) (v : Nat) (t : BootTest)

/-- Without its key, or with a reserved value, RST_CMD does nothing (R368). -/
theorem State.resetCommand_nothing (h : fld v 16 16 ≠ 0xA5C3 ∨ fld v 0 2 = 0 ∨ fld v 0 2 = 3) : z.resetCommand p v t = z := by
  unfold State.resetCommand
  by_cases key : fld v 16 16 = 0xA5C3
  · rcases h with k | k | k
    · exact absurd key k
    · simp [key, k]
    · simp [key, k]
  · exact if_pos key

theorem State.resetCommand_acts (key : fld v 16 16 = 0xA5C3) (h : fld v 0 2 = 1 ∨ fld v 0 2 = 2) :
    z.resetCommand p v t = z.resetBy (.command p (fld v 0 2 == 2) :: t.also) t := by
  rcases h with k | k <;> simp [State.resetCommand, key, k]

end

/-! ### The sources of a cycle -/

section
variable (s : State) (xs : List ResetSource)

/-- The causes are those of the sources that act (R366). -/
theorem State.causesOf_eq : s.causesOf xs =
    ((xs.filter s.sourceActs).map (fun r => (s.sourceBit r).1)).foldl (fun c b => c ||| w32 (2 ^ b)) s.rst.cause
      ||| (if ResetSource.watchdog ∈ xs.filter s.sourceActs ∧ s.wdogAgain = true then 0x100#32 else 0#32) := by
  have acts : ResetSource.watchdog ∈ xs.filter s.sourceActs ∧ s.wdogAgain = true ↔
      ResetSource.watchdog ∈ xs ∧ s.wdogCounts = true ∧ s.wdogAgain = true := by
    simp [State.sourceActs, and_assoc]
  rw [State.causesOf, if_congr acts rfl rfl, List.foldl_map, List.foldl_map]

/-- The bits of the sources that reach the system level (R367). -/
def State.deepBits (ys : List ResetSource) : List Nat :=
  (ys.filter (fun r => (s.sourceBit r).2)).map (fun r => (s.sourceBit r).1)

variable (t : BootTest) (powered : s.rst.powered = true) (on : s.power.state ≠ .off)
include powered on

/-- What the sources of a cycle come to, with their causes set (R366 to R368). -/
theorem State.resetBy_acts (x : State) (hx : x = { s with rst := { s.rst with cause := s.causesOf xs } }) :
    s.resetBy xs t = if xs.filter s.sourceActs = [] then s
      else if s.deepBits (xs.filter s.sourceActs) ≠ [] then x.systemLevel (s.deepBits (xs.filter s.sourceActs)) t
      else if (xs.filter s.sourceActs).contains .watchdog
        then (x.coreLevel ((xs.filter s.sourceActs).map (fun r => (s.sourceBit r).1))).setRst
          (fun r => { r with wdogCoreAt := some s.now })
        else x.coreLevel ((xs.filter s.sourceActs).map (fun r => (s.sourceBit r).1)) := by
  have deep : ((((xs.filter s.sourceActs).map s.sourceBit).filter (·.2)).map (·.1)) = s.deepBits (xs.filter s.sourceActs) := by
    rw [List.filter_map, List.map_map]
    rfl
  have bits : ((xs.filter s.sourceActs).map s.sourceBit).map (·.1) =
      (xs.filter s.sourceActs).map (fun r => (s.sourceBit r).1) := List.map_map
  have causes := (s.causes_set xs).trans hx.symm
  rw [State.resetBy, if_neg (by simp [powered, on])]
  dsimp only
  rw [causes, deep, bits]

end

/-! ### The system level -/

/-- During another reset the sources set their bits alone (R367). -/
theorem State.systemLevel_inReset (s : State) (bits : List Nat) (t : BootTest) (h : s.inReset = true)
    (later : s.rst.isolating = false ∨ s.now ≠ s.rst.releasedAt) : s.systemLevel bits t = s :=
  (if_pos h).trans (if_neg (by rcases later with k | k <;> simp [k]))

/-- The opcode being decoded does not depend on the causes. -/
theorem State.decoding_rst (s : State) (u : ResetUnit) : ({ s with rst := u } : State).decoding = s.decoding := by
  have front : ∀ l, ({ s with rst := u } : State).frontCmd l = s.frontCmd l := by
    intro l
    induction l with
    | nil => rfl
    | cons c l ih =>
      rw [State.frontCmd, State.frontCmd, ih]
      rfl
  rw [State.decoding, front]
  rfl

/-! ### The core level -/

/-- An unplanned cause changes the power unit, its count and what leaves on the power bus (R357, R361). -/
theorem State.rouse_frame_power (s : State) : ∃ p g o, s.rouse = { s with power := p, regs := g, out := o } := by
  unfold State.rouse
  split
  · exact ⟨_, _, _, rfl⟩
  · split
    · obtain ⟨p, o, woken⟩ := (s.bump R.PWR_UNPLANNED 1).beginWake_wakes 1
      exact ⟨p, _, o, woken⟩
    · exact ⟨_, _, _, rfl⟩

/-- The event that a core reset records, by its lowest cause bit (R303, R367). -/
def coreEvent (bit : Nat) (cause : Word) (op queued : Nat) : Nat × List Word :=
  match bit with
  | 2 => (0x0103, [cause, w32 op, w32 queued, 0#32])
  | 3 => (0x0104, [cause, 0#32, w32 op, 0#32])
  | 4 => (0x0105, [cause, 1#32, 0#32, 0#32])
  | _ => (0x0105, [cause, 2#32, 0#32, 0#32])

/-- A core reset of a READY instance: the clicker starts again, the reset is counted and recorded, and the sequencer goes on (R370). -/
theorem State.coreLevel_acts (x w : State) (bits : List Nat) (q : List Undecided) (idle : x.inReset = false) (untested : x.dbg.test = false)
    (hw : w = x.rouse) (hq : q = (x.liveSlates.filter (fun i => (x.slate i).state == .sealed)).map (fun i =>
      ⟨i, (x.slate i).gen, none, (x.clicker.queue.find? (fun u => u.slate == i)).bind (·.cmd)⟩)) :
    x.coreLevel bits = ((({ w.setReg R.RST_CORE_RESETS (w.reg R.RST_CORE_RESETS + 1#32) with
      clicker := { x.clicker with queue := q } } : State).log
        (coreEvent (bits.foldl min 8) x.rst.cause x.decoding x.clicker.queue.length).1 9
        (coreEvent (bits.foldl min 8) x.rst.cause x.decoding x.clicker.queue.length).2).takeHalt).drain := by
  obtain ⟨p, g, o, woken⟩ := x.rouse_frame_power
  have restarted : x.rouse.restartClicker.bump R.RST_CORE_RESETS 1 =
      { w.setReg R.RST_CORE_RESETS (w.reg R.RST_CORE_RESETS + 1#32) with clicker := { x.clicker with queue := q } } := by
    subst hw hq
    rw [woken]
    rfl
  have cause : (x.rouse.restartClicker.bump R.RST_CORE_RESETS 1).rst.cause = x.rst.cause := by
    rw [woken]
    rfl
  rw [State.coreLevel, if_neg (by simp [idle, untested])]
  dsimp only
  rw [cause, restarted]
  congr 2
  generalize bits.foldl min 8 = k
  rcases k with _ | _ | _ | _ | _ | k <;> rfl

end Sys2Proof.Machine
end

section
/-! SETTLED. The statement on core resets and the watchdog: O55. -/

namespace Sys2Proof.Machine

/-- Settles O55: RST_CMD by its value, and the sources of one cycle by the level that they reach, with their causes set. That a
decision after a core reset takes the frame counter of its moment, and that a write of RST_CMD from the debug port names no source, are
the choices of log entry 71, the opcode in the record that of log entry 26, and that the sources of a cycle are operands of one command
that of log entry 109. -/
theorem coreResetsAndWatchdog : Obligations.CoreResetsAndWatchdog := by
  unfold Obligations.CoreResetsAndWatchdog
  refine ⟨fun s t => ⟨rfl, rfl, rfl⟩, ?command, ?cycle⟩
  case command =>
    rintro p v t s z h rfl
    rw [exec_resetCommand p v t s h]
    refine ⟨fun unnamed => ?_, fun key value => ?_⟩
    · rw [State.resetCommand_nothing _ p _ t unnamed]
      exact State.movedFrom_ends _ s (by rw [State.accessed_recorder, h.quiet])
    · rw [State.resetCommand_acts _ p _ t key value]
      rfl
  case cycle =>
    intro s x xs ys bits deep t powered on hys hbits hdeep hx
    have acting : ys = xs.filter s.sourceActs := hys
    have bitsOf : bits = ys.map (fun r => (s.sourceBit r).1) := by
      rw [hbits]
      congr
      funext r
      cases r <;> rfl
    have deepOf : deep = s.deepBits ys := by
      rw [hdeep, State.deepBits]
      congr
      funext r
      cases r <;> rfl
    have caused : x = { s with rst := { s.rst with cause := s.causesOf xs } } := by
      rw [hx, s.causesOf_eq xs, ← acting, ← bitsOf]
    have acts := s.resetBy_acts xs t powered on x caused
    rw [← acting, ← bitsOf, ← deepOf] at acts
    have opcode : x.decoding = s.decoding := by rw [hx, State.decoding_rst]
    have sources : deep ≠ [] → ys ≠ [] := by
      rintro some rfl
      exact some deepOf
    refine ⟨fun unnamed => ?_, fun ready still reached => ?_, fun resets reached later => ?_,
      fun w y q ready still named shallow hw hq hy => ?_⟩
    · rw [acts, if_pos unnamed]
    · have begins := x.systemLevel_begins deep t (by rw [hx]; simp [State.inReset, ready, still])
      rw [acts, if_neg (sources reached), if_pos reached, begins]
      have writes : x.outstandingWrites = s.outstandingWrites := by rw [hx]; rfl
      rw [writes, opcode]
      by_cases none : s.outstandingWrites = []
      · rw [none]
        rfl
      · rw [if_neg (by simpa using none), if_neg none]
    · rw [acts, if_neg (sources reached), if_pos reached]
      refine x.systemLevel_inReset deep t ?_ ?_
      · rw [hx]
        rcases resets with k | k <;> simp [State.inReset, k]
      · rw [hx]
        exact later
    · simp only [State.isReady, Bool.and_eq_true, beq_iff_eq, Bool.not_eq_true'] at ready
      obtain ⟨⟨⟨phase, untested⟩, -⟩, -⟩ := ready
      have core := x.coreLevel_acts w bits q (by rw [hx]; simp [State.inReset, phase, still]) (by rw [hx]; exact untested) hw
        (by rw [hx]; exact hq)
      have event : y = x.coreLevel bits := by
        rw [core, hy, opcode, hx]
        generalize bits.foldl min 8 = k
        rcases k with _ | _ | _ | _ | _ | k <;> rfl
      rw [acts, if_neg named, if_neg (by simp [shallow]), ← event]
      exact if_congr List.contains_iff_mem rfl rfl

end Sys2Proof.Machine
end

section
/-! SUPPORT. The debug unit (R394 to R397, R399, R411, R412): DBG_CTRL, the wrapper's instructions and register access, and the
loopbacks. -/

namespace Sys2Proof.Machine

/-! ### DBG_CTRL -/

/-- A served write of DBG_CTRL sets its fields, then acts. -/
theorem State.write_debugControl (s : State) (p : Port) (n : Nat) (hn : n < 2 ^ 32) (h : Writes s p R.DBG_CTRL (w32 n)) :
    s.wordWrite p R.DBG_CTRL n = ((s.accessed p R.DBG_CTRL).putFields R.DBG_CTRL 0x101 n).debugAction n := by
  have run := State.write_DBG_CTRL s p (w32 n) cleanTest h
  rw [toNat_w32 n hn, State.putPlain_inst _ _ _ _ _ (by decide)] at run
  exact run

/-- Nothing of the number above a mask's lowest bit decides that bit of what a masked write leaves. -/
theorem bitAt_masked_word (old n : Nat) : bitAt (w32 (mapMinus old 0x101 + (n &&& 0x101))).toNat 0 = bitAt n 0 := by
  have bit : (0x101).testBit 0 = true := by decide
  have kept : mapMinus old 0x101 % 2 = 0 := by
    rw [Nat.mod_two_eq_zero_iff_testBit_zero, mapMinus, Nat.testBit_xor, Nat.testBit_and, bit, Bool.and_true, Bool.xor_self]
  have set : (n &&& 0x101) % 2 = n % 2 := by
    rw [← Nat.and_one_is_mod, Nat.and_assoc, ← Nat.and_one_is_mod n]
    rfl
  rw [bitAt_eq_testBit, bitAt_eq_testBit, w32, BitVec.toNat_ofNat, Nat.testBit_zero, Nat.testBit_zero,
    show (mapMinus old 0x101 + (n &&& 0x101)) % 2 ^ 32 % 2 = n % 2 by omega]

/-- After a write of DBG_CTRL the halt is asked for as its bit 0 says. -/
theorem State.putFields_seqHalt (z : State) (n : Nat) : (z.putFields R.DBG_CTRL 0x101 n).seqHalt = bitAt n 0 := by
  have held : (z.putFields R.DBG_CTRL 0x101 n).reg R.DBG_CTRL = w32 (mapMinus (z.reg R.DBG_CTRL).toNat 0x101 + (n &&& 0x101)) :=
    State.regKey_setKey_same z _ _
  rw [State.seqHalt, held, bitAt_masked_word]

/-- The fields of DBG_CTRL hold no step. -/
theorem State.fieldsOf_DBG_CTRL (s : State) : s.fieldsOf R.DBG_CTRL < 2 ^ 9 ∧ (s.fieldsOf R.DBG_CTRL).testBit 1 = false := by
  rw [State.fieldsOf, regAt_DBG_CTRL]
  exact ⟨Nat.and_lt_two_pow _ (show 0x101 < 2 ^ 9 by decide), (Nat.testBit_and _ 0x101 1).trans (Bool.and_false _)⟩

section
variable (y : State) (v : Nat)

theorem State.debugAction_halt (set : bitAt v 0 = true) (unstepped : bitAt v 1 = false) : y.debugAction v = y.takeHalt := by
  simp [State.debugAction, State.haltSequencer, set, unstepped]

theorem State.debugAction_step (set : bitAt v 0 = true) (stepped : bitAt v 1 = true) (halted : y.dbg.halted = true) :
    y.debugAction v = ({ y with dbg := { y.dbg with stepPending := true } } : State).drainCmds 1 := by
  have still : y.haltSequencer true = y := y.takeHalt_halted halted
  simp [State.debugAction, set, stepped, halted, still, State.stepSequencer, State.setDebug]

theorem State.debugAction_resume (clear : bitAt v 0 = false) :
    y.debugAction v = ({ y with dbg := { y.dbg with halted := false, stepPending := false } } : State).drain := by
  simp [State.debugAction, State.haltSequencer, clear, State.setDebug]

/-- A halt is taken once no slate waits for the clicker (R412). -/
theorem State.takeHalt_idle (asked : y.seqHalt = true) (idle : y.clicker.queue = []) (running : y.dbg.halted = false) :
    y.takeHalt = ({ y with dbg := { y.dbg with halted := true } } : State).raise 0x1E 2 :=
  if_pos (by simp [asked, idle, running])

theorem State.takeHalt_waits (h : y.clicker.queue ≠ [] ∨ y.dbg.halted = true) : y.takeHalt = y :=
  if_neg (by rcases h with k | k <;> simp [k])

/-- A step decodes one command; with none to decode it stands (R412). -/
theorem State.drainCmds_step (runs : y.seqRuns = true) (asked : y.seqHalt = true) (pending : y.dbg.stepPending = true) :
    y.drainCmds 1 = if y.decodeNext.2 then { y.decodeNext.1 with dbg := { y.decodeNext.1.dbg with stepPending := false } }
      else y.decodeNext.1 := by
  rw [State.drainCmds, if_neg (by simp [runs]), if_pos asked, if_pos pending]

end

section
variable (p : Port) (s y : State) (v : Nat) (h : Writes s p R.DBG_CTRL (w32 v))
    (hy : y = (s.accessed p R.DBG_CTRL).putFields R.DBG_CTRL 0x101 v)
include h hy

theorem exec_seqHalt (hv : v = s.fieldsOf R.DBG_CTRL ||| 1) : exec (.seqHalt p) s = y.takeHalt.ends ∧ y.seqHalt = true := by
  obtain ⟨bound, unstepped⟩ := s.fieldsOf_DBG_CTRL
  have lt : v < 2 ^ 32 := hv ▸ (Nat.or_lt_two_pow (n := 9) bound (by decide)).trans (by decide)
  have set : bitAt v 0 = true := by
    rw [hv, bitAt_eq_testBit, Nat.testBit_or, Bool.or_eq_true]
    exact .inr (by decide)
  have clear : bitAt v 1 = false := by
    rw [hv, bitAt_eq_testBit, Nat.testBit_or, unstepped]
    decide
  have run := s.write_debugControl p v lt h
  rw [← hy, y.debugAction_halt v set clear] at run
  subst hv
  exact ⟨congrArg State.ends run, by rw [hy, State.putFields_seqHalt, set]⟩

theorem exec_seqStep (hv : v = s.fieldsOf R.DBG_CTRL ||| 2) (set : bitAt v 0 = true) (halted : y.dbg.halted = true) :
    exec (.seqStep p) s = (({ y with dbg := { y.dbg with stepPending := true } } : State).drainCmds 1).ends ∧ y.seqHalt = true := by
  have lt : v < 2 ^ 32 := hv ▸ (Nat.or_lt_two_pow (n := 9) s.fieldsOf_DBG_CTRL.1 (by decide)).trans (by decide)
  have stepped : bitAt v 1 = true := by
    rw [hv, bitAt_eq_testBit, Nat.testBit_or, Bool.or_eq_true]
    exact .inr (by decide)
  have run := s.write_debugControl p v lt h
  rw [← hy, y.debugAction_step v set stepped halted] at run
  subst hv
  exact ⟨congrArg State.ends run, by rw [hy, State.putFields_seqHalt, set]⟩

theorem exec_seqResume (hv : v = (s.reg R.DBG_CTRL).toNat &&& 0xFFFFFFFE) : exec (.seqResume p) s =
    (({ y with dbg := { y.dbg with halted := false, stepPending := false } } : State).drain).ends := by
  have lt : v < 2 ^ 32 := hv ▸ Nat.and_lt_two_pow _ (show 0xFFFFFFFE < 2 ^ 32 by decide)
  have clear : bitAt v 0 = false := by
    rw [hv, bitAt_eq_testBit, Nat.testBit_and]
    simp
  have run := s.write_debugControl p v lt h
  rw [← hy, y.debugAction_resume v clear] at run
  subst hv
  exact congrArg State.ends run

end

/-! ### The wrapper -/

/-- The boundary register, the bypass bit or neither takes what was scanned (R394, R395). -/
def Debug.scanned (d : Debug) (k : BitVec 4) (scan : Option (BitVec 1904)) : Debug :=
  match scan with
  | none => d
  | some w => if k = 1#4 ∨ k = 2#4 ∨ k = 3#4 then { d with wbr := w }
    else if k = 8#4 then d else { d with wby := w.getLsbD 0 }

theorem State.scanIn_eq (s : State) (k : BitVec 4) (scan : Option (BitVec 1904)) :
    s.scanIn k scan = { s with dbg := s.dbg.scanned k scan } := by
  have selects : [1, 2, 3].contains k.toNat = true ↔ k = 1#4 ∨ k = 2#4 ∨ k = 3#4 := by
    revert k
    decide
  cases scan with
  | none => rfl
  | some w =>
    unfold State.scanIn Debug.scanned
    dsimp only
    rw [if_congr selects rfl rfl]
    split
    · rfl
    · split <;> rfl

theorem Debug.scanned_test (d : Debug) (k : BitVec 4) (scan : Option (BitVec 1904)) : (d.scanned k scan).test = d.test := by
  unfold Debug.scanned
  split
  · rfl
  · split
    · rfl
    · split <;> rfl

/-- A wrapper instruction that takes effect, with what was scanned under it. -/
theorem State.wirUpdate_eq (s z : State) (v k : BitVec 4) (scan : Option (BitVec 1904))
    (hk : k = if v = 6#4 ∨ v = 7#4 ∨ 10#4 ≤ v then 0#4 else v) (hz : z = (s.setWir k).scanIn k scan) :
    s.wirUpdate v scan = if holding k = true ∧ s.dbg.test = false
      then (({ z with dbg := { z.dbg with test := true } } : State).poisonInFlight).refuseHeld else z := by
  have test : z.dbg.test = s.dbg.test := by
    rw [hz, State.scanIn_eq]
    exact Debug.scanned_test _ k scan
  unfold State.wirUpdate
  dsimp only
  rw [← hk, ← hz, test]
  simp only [Bool.not_eq_true']
  rfl

/-- WRSTN puts WS_BYPASS in force, which ends a loopback (R394). -/
theorem State.wrapperReset_eq (s : State) : s.wrapperReset =
    ({ s with dbg := { s.dbg with wir := 0#4, lbBusy := false } } : State).noteIrq (s.irqLine 0) (s.irqLine 1) :=
  congrArg (fun b => ({ s with dbg := { s.dbg with wir := 0#4, lbBusy := b } } : State).noteIrq (s.irqLine 0) (s.irqLine 1))
    (Bool.and_false s.dbg.lbBusy)

theorem State.wraAccess_eq (s : State) (a : BitVec 20) (w : Bool) (d : Word) : s.wraAccess a.toNat w d = if s.dbg.wir = 8#4
    then ({ s with dbg := { s.dbg with wraAddr := a, wraWrite := w } } : State).wraRun (a.toNat / 4 * 4) w d else s := by
  rw [State.wraAccess, BitVec.ofNat_toNat, BitVec.setWidth_eq]
  rfl

/-! ### Loopbacks -/

/-- A served write of DBG_LB_CTRL with go set. -/
theorem exec_loopbackGo (p : Port) (v : Word) (s y : State) (h : Writes s p R.DBG_LB_CTRL (v ||| 16#32))
    (hy : y = (s.accessed p R.DBG_LB_CTRL).putFields R.DBG_LB_CTRL 0xFFF0F (v ||| 16#32).toNat) :
    exec (.loopbackGo p v) s = .next y.loopbackGo := by
  have go : bitAt (v ||| 16#32).toNat 4 = true := by
    rw [bitAt_eq_testBit, BitVec.toNat_or, Nat.testBit_or, Bool.or_eq_true]
    exact .inr (by decide)
  have run := State.write_DBG_LB_CTRL s p _ cleanTest h
  rw [State.putPlain_inst _ _ _ _ _ (by decide), State.onBits_set _ _ _ _ _ go, State.onBits_nil] at run
  have quiet : y.recorder.raised = [] := by rw [hy, State.putFields_recorder, State.accessed_recorder, h.quiet]
  have unraised : y.loopbackGo.recorder = y.recorder := by
    unfold State.loopbackGo
    split
    · rfl
    · split <;> rfl
  have acts : s.portWrite p R.DBG_LB_CTRL (v ||| 16#32) cleanTest = y.loopbackGo := by
    rw [run, hy]
    rfl
  exact (congrArg State.ends acts).trans (State.ends_nil _ (by rw [unraised, quiet]))

section
variable (y : State)

theorem State.loopbackGo_forbidden (h : y.lbAllowed = false) :
    y.loopbackGo = { y with dbg := { y.dbg with lbNotAllowed := true } } := if_pos (by simp [h])

theorem State.loopbackGo_nothing (allowed : y.lbAllowed = true) (h : y.lbKind = 0 ∨ y.dbg.lbBusy = true) : y.loopbackGo = y :=
  (if_neg (by simp [allowed])).trans (if_pos h)

theorem State.loopbackGo_starts (allowed : y.lbAllowed = true) (kind : y.lbKind ≠ 0) (idle : y.dbg.lbBusy = false) :
    y.loopbackGo = { y with dbg :=
      { y.dbg with lbBusy := true, lbDone := false, lbPass := false, lbNotAllowed := false, lbFail := 0 } } :=
  (if_neg (by simp [allowed])).trans (if_neg (by simp [kind, idle]))

end

/-- The banks whose CRC differs, picked with their CRCs. -/
theorem filter_found (banks : List Nat) (got : Nat → Word) (want : Word) :
    ((banks.map (fun b => (b, got b))).filter (fun q => q.2 != want)).map (·.1) = banks.filter (fun b => got b != want) := by
  rw [List.filter_map, List.map_map]
  exact List.map_id _

/-- The CRC that a run shows (R397): that of the first bank that differs, else of the first bank, else the expected one. -/
def shownCrc (got : Nat → Word) (want : Word) (bad banks : List Nat) : Word :=
  match bad, banks with
  | b :: _, _ => got b
  | [], b :: _ => got b
  | [], [] => want

theorem shown_found (banks : List Nat) (got : Nat → Word) (want : Word) :
    ((((banks.map (fun b => (b, got b))).find? (fun q => q.2 != want)).orElse
      (fun _ => (banks.map (fun b => (b, got b))).head?)).map (·.2)).getD want =
    shownCrc got want (banks.filter (fun b => got b != want)) banks := by
  rw [← List.head?_filter, List.filter_map, List.head?_map]
  show (((banks.filter (fun b => got b != want)).head?.map _).orElse _ |>.map _).getD want = _
  cases banks.filter (fun b => got b != want) with
  | cons b bad => rfl
  | nil => cases banks <;> rfl

theorem State.loopbackDone_busy (s : State) (r : LoopResult) (busy : s.dbg.lbBusy = true) (want : Word) (got : Nat → Word)
    (banks bad : List Nat) (hwant : want = w32 (patternCrc s.lbPattern (s.reg R.DBG_LB_SEED).toNat s.lbBlocks))
    (hgot : got = s.loopFound r) (hbanks : banks = if s.lbKind = 1 then bitsOf (s.reg64 R.DBG_LB_BANKS 0) 48 else [0])
    (hbad : bad = banks.filter (fun b => got b != want)) :
    s.loopbackDone r = ({ s with dbg :=
      { s.dbg with lbBusy := false, lbDone := true, lbPass := bad.isEmpty && !(s.lbKind == 3 && r.ackFault), lbExp := want,
                   lbFound := shownCrc got want bad banks,
                   lbFail := if s.lbKind = 1 then sumNat (bad.map (2 ^ ·)) else 0, lbCycles := r.cycles } } : State).raise 0x1E 1 := by
  have shown := shown_found banks got want
  have differ := filter_found banks got want
  rw [← hbad] at shown differ
  rw [State.loopbackDone, if_neg (by simp [busy])]
  dsimp only
  rw [← hwant, ← hbanks, ← hgot, differ, shown]
  rfl

end Sys2Proof.Machine
end

section
/-! SETTLED. The statement on the debug unit: O60. -/

namespace Sys2Proof.Machine

/-- Settles O60: DBG_CTRL by the bits written, the wrapper by its instruction, and the loopbacks by whether one may run. Choices of
the model: reserved instructions act as WS_BYPASS and a loopback's parameters are read at its end (log entry 73), a step that finds no
command to decode stands (104), an instruction that changes ends a loopback (105), what a scan carries is an operand (106), and so are
the faults on a loopback's path (108). -/
theorem debugUnitHaltsTestsAndLoops : Obligations.DebugUnitHaltsTestsAndLoops := by
  unfold Obligations.DebugUnitHaltsTestsAndLoops
  refine ⟨?halt, ?step, ?resume, ?instruction, ?wrapper, ?access, ?go, ?done⟩
  case halt =>
    intro p s y v hv h hy
    obtain ⟨run, asked⟩ := exec_seqHalt p s y v h hy hv
    refine ⟨fun idle running => ?_, fun waits => ?_⟩
    · rw [run, y.takeHalt_idle asked idle running]
      rfl
    · rw [run, y.takeHalt_waits waits]
      exact State.ends_nil _ (by rw [hy, State.putFields_recorder, State.accessed_recorder, h.quiet])
  case step =>
    rintro p s y z v hv h set hy halted rfl runs
    obtain ⟨run, asked⟩ := exec_seqStep p s y v h hy hv set halted
    rw [State.drainCmds_step _ runs asked rfl] at run
    refine ⟨fun decoded => ?_, fun none => ?_⟩
    · rw [run, if_pos decoded]
      rfl
    · rw [run, if_neg (by simp [none])]
      rfl
  case resume =>
    intro p s y v hv h hy
    exact exec_seqResume p s y v h hy hv
  case instruction =>
    intro v k scan s y z hk hy hz
    have scanned : z = (s.setWir k).scanIn k scan := by
      rw [hz, hy, State.scanIn_eq]
      rfl
    have run : exec (.wirUpdate ⟨v, scan⟩) s = _ := congrArg State.ends (s.wirUpdate_eq z v k scan hk scanned)
    refine ⟨fun holds untested => ?_, fun stays => ?_⟩
    · rw [run, if_pos ⟨holds, untested⟩]
      rfl
    · rw [run, if_neg (by rcases stays with h | h <;> simp [h])]
      rfl
  case wrapper =>
    rintro s y rfl
    exact congrArg State.ends s.wrapperReset_eq
  case access =>
    intro a w d s
    have run : exec (.wraUpdate a w d) s = _ := congrArg State.ends (s.wraAccess_eq a w d)
    refine ⟨fun access => ?_, fun other => ?_⟩
    · rw [run, if_pos access]
      rfl
    · rw [run, if_neg other]
      rfl
  case go =>
    intro p v s y h hy
    rw [exec_loopbackGo p v s y h hy]
    refine ⟨fun forbidden => ?_, fun allowed nothing => ?_, fun allowed kind idle => ?_⟩
    · rw [y.loopbackGo_forbidden forbidden]
    · rw [y.loopbackGo_nothing allowed nothing]
    · rw [y.loopbackGo_starts allowed kind idle]
  case done =>
    intro r s want got banks bad busy hwant hgot hbanks hbad
    exact congrArg State.ends (s.loopbackDone_busy r busy want got banks bad hwant hgot hbanks hbad)

end Sys2Proof.Machine
end
